-- ==== Sys2Proof/Word.lean ====
section
/-! DEFINITION. The words of the module: bytes, little-endian fields of byte lists, and the sorted
association lists that hold its tables. -/

namespace Sys2Proof

/-- One byte. -/
abbrev Byte := BitVec 8

/-- A byte string: a record, a parameter block, a response. -/
abbrev Bytes := List Byte

/-- A 32-bit register or counter. -/
abbrev Word := BitVec 32

/-- Byte `i` of a byte string, 0 beyond its end. -/
def byteAt (b : Bytes) (i : Nat) : Nat := (b.getD i 0).toNat

/-- Little-endian 16-bit field at byte `i` (R2). -/
def le16 (b : Bytes) (i : Nat) : Nat := byteAt b i + 256 * byteAt b (i + 1)

/-- Little-endian 32-bit field at byte `i` (R2). -/
def le32 (b : Bytes) (i : Nat) : Nat := le16 b i + 65536 * le16 b (i + 2)

/-- Little-endian 48-bit field at byte `i` (R2). -/
def le48 (b : Bytes) (i : Nat) : Nat := le32 b i + 4294967296 * le16 b (i + 4)

/-- Little-endian 64-bit field at byte `i` (R2). -/
def le64 (b : Bytes) (i : Nat) : Nat := le32 b i + 4294967296 * le32 b (i + 4)

/-- A number read as a signed 16-bit integer. -/
def int16 (n : Nat) : Int := if n % 65536 < 32768 then (n % 65536 : Nat) else (n % 65536 : Nat) - 65536

/-- A number read as a signed 32-bit integer. -/
def int32 (n : Nat) : Int :=
  if n % 4294967296 < 2147483648 then (n % 4294967296 : Nat) else (n % 4294967296 : Nat) - 4294967296

/-- An integer saturated to INT32. -/
def satI32 (x : Int) : Int := max (-2147483648) (min 2147483647 x)

/-- Bit `i` of a number. -/
def bitOf (n i : Nat) : Bool := n.testBit i

/-- A Bool as 0 or 1. -/
def b2n (b : Bool) : Nat := if b then 1 else 0

/-- The `n` low bytes of a number, least significant first (R2). -/
def leBytes : Nat → Nat → Bytes
  | 0, _ => []
  | n + 1, v => BitVec.ofNat 8 v :: leBytes n (v / 256)

/-- An integer as `n` little-endian bytes, two's complement. -/
def leInt (n : Nat) (v : Int) : Bytes := leBytes n (v % (256 ^ n : Nat)).toNat

/-- `n` zero bytes. -/
def zeros (n : Nat) : Bytes := List.replicate n 0

/-- The `n` bytes from byte `i`, padded with zeros. -/
def slice (b : Bytes) (i n : Nat) : Bytes :=
  let x := (b.drop i).take n
  x ++ zeros (n - x.length)

/-- All of the `n` bytes from byte `i` are 0 (a reserved field). -/
def zeroAt (b : Bytes) (i n : Nat) : Bool := ((b.drop i).take n).all (· == 0)

/-- Pads or cuts a byte string to `n` bytes. -/
def padTo (n : Nat) (b : Bytes) : Bytes := slice b 0 n

/-- A 48-bit address in wire order, first octet at the lowest byte (R150). -/
def macAt (b : Bytes) (i : Nat) : Nat :=
  ((b.drop i).take 6).foldl (fun a x => a * 256 + x.toNat) 0

/-- A 48-bit address as six octets in wire order. -/
def macBytes (m : Nat) : Bytes := (leBytes 6 m).reverse

/-- The pieces of `n` bytes each that a byte string is made of, `k` of them. -/
def chunks (n : Nat) : Nat → Bytes → List Bytes
  | 0, _ => []
  | k + 1, b => slice b 0 n :: chunks n k (b.drop n)

/-- Rounds a quotient to the nearest integer, halves upwards (R167). -/
def divRoundUp (a : Int) (b : Nat) : Int := (2 * a + b) / (2 * b : Nat)

/-- Rounds a quotient to the nearest integer, halves away from zero (R175). -/
def divRoundAway (a : Int) (b : Nat) : Int :=
  if 0 ≤ a then (2 * a + b) / (2 * b : Nat) else -((2 * (-a) + b) / (2 * b : Nat))

/-- The quotient rounded up. -/
def ceilDiv (a b : Nat) : Nat := (a + b - 1) / b

/-! ## Check sequences -/

/-- One bit of a reflected CRC with polynomial `p`. -/
def crcBit (p c : Nat) : Nat := if c % 2 = 1 then (c / 2) ^^^ p else c / 2

/-- One byte of it. -/
def crcByte (p c : Nat) (b : Byte) : Nat :=
  crcBit p (crcBit p (crcBit p (crcBit p (crcBit p (crcBit p (crcBit p (crcBit p (c ^^^ b.toNat))))))))

/-- CRC-32C of a byte string. -/
def crc32c (b : Bytes) : Nat := (b.foldl (crcByte 0x82F63B78) 0xFFFFFFFF) ^^^ 0xFFFFFFFF

/-! ## Sorted association lists -/

/-- A table: key and entry pairs with strictly rising keys. An absent key stands for the entry a
table's own definition names. -/
abbrev Tbl (α : Type) := List (Nat × α)

namespace Tbl

variable {α : Type}

/-- The entry at a key. -/
def get? : Tbl α → Nat → Option α
  | [], _ => none
  | (j, v) :: t, k => if j = k then some v else get? t k

/-- The entry at a key, or the default. -/
def getD (t : Tbl α) (k : Nat) (d : α) : α := (get? t k).getD d

/-- Writes an entry, keeping the keys strictly rising. -/
def set : Tbl α → Nat → α → Tbl α
  | [], k, v => [(k, v)]
  | (j, w) :: t, k, v =>
    if k < j then (k, v) :: (j, w) :: t
    else if j = k then (k, v) :: t
    else (j, w) :: set t k v

/-- Removes an entry. -/
def del (t : Tbl α) (k : Nat) : Tbl α := t.filter (fun p => p.1 ≠ k)

/-- Removes every entry whose key the test accepts. -/
def delIf (t : Tbl α) (f : Nat → Bool) : Tbl α := t.filter (fun p => !f p.1)

/-- Changes the entry at a key, starting from the default where it is absent. -/
def upd (t : Tbl α) (k : Nat) (d : α) (f : α → α) : Tbl α := set t k (f (getD t k d))

/-- Changes every entry present. -/
def mapV {β : Type} (t : Tbl α) (f : Nat → α → β) : Tbl β := t.map (fun p => (p.1, f p.1 p.2))

/-- The keys are strictly rising: the canonical form of a table. -/
def wf (t : Tbl α) : Bool := decide ((t.map Prod.fst).Pairwise (· < ·))

end Tbl

end Sys2Proof
end

