-- ==== Sys2Proof/Syntax.lean ====
section
/-! DEFINITION. The commands of the block: one constructor of `Instr` per row of
spec/opcode_table.json, with the operands the row's rule names, and the types of those operands. -/

namespace Sys2Proof

/-- Where a mailbox command comes from (R92, R128, R103): a PF channel, a VF channel, or a P7 session. -/
inductive Path where
  | mb (n : Nat)
  | vf (n : Nat)
  | p7 (n : Nat)
  deriving DecidableEq, Repr

/-- A command entry (R96) with the region it names. `block` is the 64-byte authorisation block when
AUTH and XP are set (R100), `region` the bytes of the region after that block, or the whole region. -/
structure Req where
  opcode : Nat
  tag : Nat
  auth : Bool
  xp : Bool
  /-- The reserved bits of byte 4 and bytes 5 to 7. -/
  reserved : Nat
  xpOffset : Nat
  xpLen : Nat
  params : Bytes
  block : Bytes
  region : Bytes
  deriving DecidableEq, Repr

/-- How a fetch over PCI Express ends (R93). -/
inductive Fetch (α : Type) where
  | ok (x : α)
  | unsupported
  | abort
  | timeout
  | poisoned
  deriving DecidableEq, Repr

/-- A function's receive or transmit descriptor ring, or both (R108). -/
inductive Ring where
  | rx
  | tx
  deriving DecidableEq, Repr

/-- The PRP redundancy control trailer of a frame (R152 step 2): its sequence number, the LAN it
names (`false` A, `true` B) and whether its LSDUsize matches the frame. -/
structure Prp where
  seq : Nat
  lanB : Bool
  sizeOk : Bool
  deriving DecidableEq, Repr

/-- An IEC 62351-6 tag or a PTP authentication TLV: the key identifier and the tag octets. -/
structure AuthTag where
  keyId : Nat
  mac : Bytes
  deriving DecidableEq, Repr

/-- One ASDU of a sampled-value frame, parsed (R148, R152). -/
structure Asdu where
  smpCnt : Nat
  confRev : Nat
  smpSynch : Nat
  smpRate : Option Nat
  /-- Dataset length in bytes. -/
  dataLen : Nat
  values : List Int
  quality : List Nat
  deriving DecidableEq, Repr

/-- A sampled-value frame as ingest receives it (R152). `raw` are the octets the tag covers. -/
structure SvFrame where
  port : Nat
  parses : Bool
  svid : Bytes
  sim : Bool
  prp : Option Prp
  tag : Option AuthTag
  raw : Bytes
  asdus : List Asdu
  deriving DecidableEq, Repr

/-- A member value of a received GOOSE frame (R222). -/
inductive GooseVal where
  | boolean (v : Bool)
  | dbpos (v : Nat)
  | quality (validity : Nat)
  | timestamp
  | other
  deriving DecidableEq, Repr

/-- A GOOSE frame as the subscriber receives it (R223). -/
structure GooseFrame where
  port : Nat
  parses : Bool
  gocbRef : Bytes
  test : Bool
  prp : Option Prp
  tag : Option AuthTag
  raw : Bytes
  confRev : Nat
  ndsCom : Bool
  stNum : Nat
  sqNum : Nat
  /-- timeAllowedtoLive, ms. -/
  tal : Nat
  vals : List GooseVal
  deriving DecidableEq, Repr

/-- A Harness PDU as received (R403): the frame's source address and the 20 bytes. -/
structure HarnessPdu where
  port : Nat
  src : Nat
  bytes : Bytes
  deriving DecidableEq, Repr

/-- A heartbeat as received (R464): the path it arrived on and its payload octets. -/
structure HbFrame where
  /-- 1 H1, 2 H2. -/
  path : Nat
  bytes : Bytes
  deriving DecidableEq, Repr

/-- What a received Ethernet frame carries, as far as the module tells frames apart (R296). -/
inductive Content where
  | sv (appid : Nat) (f : SvFrame)
  | goose (appid : Nat) (f : GooseFrame)
  /-- A PTP message: its messageType, sequenceId, correctionField in ns, and, where a transparent clock
  forwards it, its ingress time (R324). -/
  | ptp (kind seq : Nat) (corr : Int) (ingress : Option Nat)
  | harness (bytes : Bytes)
  | heartbeat (bytes : Bytes)
  | brio
  | hsr
  | other
  deriving DecidableEq, Repr

/-- A frame on a port, or waiting in the switch core. Lengths follow R279. -/
structure Frame where
  dst : Nat
  src : Nat
  /-- Outer tag with TPID 0x8100: VID and PCP. -/
  tag : Option (Nat × Nat)
  len : Nat
  /-- FCS good, PCS without symbol error (R283). -/
  fcsOk : Bool
  pcsOk : Bool
  /-- ECN codepoint of an IPv4 or IPv6 frame: `some 1` ECT(1), `some 2` ECT(0), `some 3` CE (R304). -/
  ecn : Option Nat
  content : Content
  deriving DecidableEq, Repr

/-- A received PTP message's common part (R326, R329). -/
structure PtpMsg where
  port : Nat
  /-- sourcePortIdentity.clockIdentity. -/
  clockId : Nat
  seq : Nat
  tag : Option AuthTag
  raw : Bytes
  deriving DecidableEq, Repr

/-- The fields of an Announce that the BMCA and R506 read. -/
structure AnnounceData where
  gmId : Nat
  gmClass : Nat
  gmAccuracy : Nat
  gmVariance : Nat
  priority1 : Nat
  priority2 : Nat
  stepsRemoved : Nat
  utcOffset : Int
  utcValid : Bool
  leap61 : Bool
  leap59 : Bool
  deriving DecidableEq, Repr

/-- Power domains (R49). -/
inductive Domain where
  | ao | safe | mgmt | mem | host | sw | neta | netb | dsp | logic | acq
  deriving DecidableEq, Repr

/-- Why a module is reset: the causes of R71 and UNKNOWN. -/
inductive ResetCause where
  | powerOn | powerFail | pwrSeq | thermal | pllUnlock | oscFault | watchdog | eccFw | eccSafe
  | cmdWarm | cmdCold | tamperClear | unknown
  deriving DecidableEq, Repr

/-- What the boot timeline of R64 meets: the images, DRAM training and the readings it takes. -/
structure BootInput where
  /-- The images' keys and signatures verify (R66, R433). -/
  imageAOk : Bool
  imageBOk : Bool
  /-- DRAM training attempts that fail (R67). -/
  dramFails : Nat
  /-- Cell voltage under load, mV (R56). -/
  cellMv : Nat
  /-- The retention RAM reads back without an uncorrectable error (R74). -/
  retRamOk : Bool
  /-- The tamper loop reads open during boot (R75). -/
  loopOpen : Bool
  /-- A tamper source other than LOOP fires during boot (R429). -/
  otherTamper : Option Nat
  /-- Banks whose generation meets a third health-test failure, and is abandoned (R415). -/
  rootGenFails : Nat
  /-- Bank check failures (R414). -/
  bankAOk : Bool
  bankBOk : Bool
  deriving DecidableEq, Repr

/-- The samples the two channels of the safety island take at a slot start (R386): 16 terminals
(A then B of each input), the test samples, SRST, and the readbacks of R389 and R396. -/
structure SlotInput where
  /-- SIN0A, SIN0B, SIN1A, … : 16 values. -/
  terms : List Bool
  /-- Test samples of the 16 terminals at a test pulse (R389). -/
  tests : List Bool
  srst : Bool
  /-- TP0 and TP1 read back correctly (R389). -/
  tp0Ok : Bool
  tp1Ok : Bool
  /-- Per output: readback while energised as R396 demands. -/
  onOk : List Bool
  /-- Per output: SOUTn+ above 5 V. -/
  fed : List Bool
  /-- The two channels' data agree (R387). -/
  agree : Bool
  /-- The processor test of this slot passes (R387). -/
  selfOk : Bool
  deriving DecidableEq, Repr

/-- What a mirror image holds of a timer (R473). -/
structure MirrorTimer where
  idx : Nat
  el : Nat
  tLast : Nat
  preset : Nat
  p : Bool
  run : Bool
  out : Bool
  deriving DecidableEq, Repr

/-- What a mirror image holds of a counter (R473): no previous input before its first execution. -/
structure MirrorCounter where
  idx : Nat
  count : Int
  preset : Int
  prev : Option Bool
  out : Bool
  deriving DecidableEq, Repr

/-- What a mirror image holds of a guard element (R473): its state as of grid instant s:n. -/
structure MirrorEl where
  idx : Nat
  cntPu : Nat
  cntDo : Nat
  acc : Int
  out : Bool
  valid : Bool
  sec : Nat
  n : Nat
  deriving DecidableEq, Repr

/-- What a mirror image holds of a publication (R473): its numbers, curve step, last state change in the
sender's extended local time, and its trip inputs. -/
structure MirrorPub where
  idx : Nat
  stNum : Nat
  sqNum : Nat
  sent : Nat
  changed : Nat
  holdover : Bool
  lock : Bool
  elems : List Nat
  logic : Bool
  slots : List Nat
  deriving DecidableEq, Repr

/-- A mirror image by its sections (R473). The places of the fields inside a section are not given, so the
image is held as its contents (log 23); `crcOk` says whether its CRC-32C matches. -/
structure MirrorImage where
  sec : Nat
  scan : Nat
  /-- Start stamp of the scan, extended local time of the sender, and tb then. -/
  start : Nat
  tb : Nat
  progId : Nat
  digests : List Nat
  m : Nat
  q : Nat
  y : Nat
  f : List (Nat × Bool)
  t : List MirrorTimer
  c : List MirrorCounter
  e : List MirrorEl
  pubs : List MirrorPub
  /-- State and record number of each recorder instance. -/
  recs : List (Nat × Nat)
  /-- S 0 to 4,095. -/
  health : Nat
  crcOk : Bool
  deriving DecidableEq, Repr

/-- The phasor of a channel in a channel group (R478). -/
structure GroupVal where
  chan : Nat
  re : Int
  im : Int
  aflags : Nat
  pflags : Nat
  deriving DecidableEq, Repr

/-- A channel group's phasors of one grid instant s:n, as the holder sends them (R478). -/
structure PhasorGroup where
  group : Nat
  sec : Nat
  n : Nat
  vals : List GroupVal
  deriving DecidableEq, Repr

/-- The commands: one constructor per row of spec/opcode_table.json, in the table's order. A mailbox
command's parameters travel in the entry its path holds (R96), so its operand is the path. -/
inductive Instr where
  /-- R77: Moves the module between CONFIGURE, OPERATE and MAINTAIN as R63 allows, and completes when the new state is reached. -/
  | modStateSet (p : Path)
  /-- R77: Posts its completion, then resets the module warm or cold 10 ms later. -/
  | modReset (p : Path)
  /-- R77: Returns the 32-byte reset-cause record. -/
  | modResetCause (p : Path)
  /-- R105: Stores the refclk mode and the link speed and width limits in flash, to apply at the next module reset. -/
  | hostLinkCfg (p : Path)
  /-- R105: Returns the link speed, the width, the refclk in use and the link-down count. -/
  | hostLinkStatus (p : Path)
  /-- R105: Stores the P7 service settings and closes the open sessions 100 ms after its completion. -/
  | mgmtTlsCfg (p : Path)
  /-- R336: Stores the PTP profile, role, ports, PPS and UTC settings, and restarts the PTP ports. -/
  | timeCfg (p : Path)
  /-- R336: Returns the 48-byte time configuration. -/
  | timeCfgRead (p : Path)
  /-- R336: Returns the servo state, the UTC offset, the offset, the path delay and the grandmaster data. -/
  | timeStatus (p : Path)
  /-- R336: Returns entries of the wrap-to-TAI map. -/
  | timeMapRead (p : Path)
  /-- R336: Returns one PTP port's state and counters, cleared atomically on request. -/
  | timePortStatus (p : Path)
  /-- R336: Sets the TAI second, renumbering the grid at the next written mark, or sets utc_default. -/
  | timeManualSet (p : Path)
  /-- R293: Stages port records for the next table commit. -/
  | portStage (p : Path)
  /-- R293: Returns a committed or staged port record. -/
  | portRead (p : Path)
  /-- R293: Stages perfect-match filter records for a port. -/
  | portFilterStage (p : Path)
  /-- R293: Returns a port's 16 filter records. -/
  | portFilterRead (p : Path)
  /-- R293: Returns a port's link, transceiver and pre-emption status. -/
  | portStatus (p : Path)
  /-- R293: Returns a port's 64 counters and its half mask from one instant, clearing them on request. -/
  | portStats (p : Path)
  /-- R293: Reads transceiver identification or diagnostics bytes over I2C. -/
  | portSfpRead (p : Path)
  /-- R293: Stores the P7 IPv4 settings, closing the open sessions before the new address applies. -/
  | portIpCfg (p : Path)
  /-- R313: Stages the age time and the learn and cut-through masks. -/
  | swCfg (p : Path)
  /-- R313: Stages the eight class records. -/
  | swClassStage (p : Path)
  /-- R313: Stages a port's PCP-to-class map. -/
  | swPcpStage (p : Path)
  /-- R313: Stages VLAN records. -/
  | swVlanStage (p : Path)
  /-- R313: Stages the addition or removal of static FDB entries. -/
  | swFdbStage (p : Path)
  /-- R313: Returns FDB entries from one instant. -/
  | swFdbRead (p : Path)
  /-- R310: Removes dynamic FDB entries at once: all of them, or those of one port or VID. -/
  | swFdbFlush (p : Path)
  /-- R313: Returns committed or staged switch settings, class records, a PCP map or the VLAN table. -/
  | swCfgRead (p : Path)
  /-- R313: Returns the buffer occupancy, the FDB counts and the switch counters. -/
  | swStatus (p : Path)
  /-- R164: Stages SV stream-table entries. -/
  | svStage (p : Path)
  /-- R164: Marks staged SV entries free. -/
  | svUnstage (p : Path)
  /-- R154: Checks every staged table as a whole and applies all of them at one commit point. -/
  | tblCommit (p : Path)
  /-- R164: Resets every staging copy to its committed contents. -/
  | tblDiscard (p : Path)
  /-- R164: Returns a committed or staged SV entry. -/
  | svRead (p : Path)
  /-- R164: Returns per-stream state records from one grid instant. -/
  | svStatus (p : Path)
  /-- R164: Returns a stream's 16 counters, clearing them atomically on request. -/
  | svStats (p : Path)
  /-- R156: Sets SIM_MODE, to take effect at a grid second mark. -/
  | svSimMode (p : Path)
  /-- R164: Returns the committed stream and sample totals. -/
  | svLoad (p : Path)
  /-- R188: Sets the grid rate, the snowline bounds, D and the measurement mode, to apply at a grid second mark. -/
  | alnCfg (p : Path)
  /-- R188: Sets a stream's fine kind, flags, offsets and step threshold, to apply at a mark. -/
  | alnStreamCfg (p : Path)
  /-- R186: Binds or unbinds aligned content to a slab queue. -/
  | alnSlabBind (p : Path)
  /-- R188: Returns the grid and snowline status. -/
  | alnStatus (p : Path)
  /-- R188: Returns a stream's alignment status and counters. -/
  | alnStreamStatus (p : Path)
  /-- R166: Sets the phasor output decimation P, to apply at a mark. -/
  | phCfg (p : Path)
  /-- R213: Sets a phasor profile. -/
  | phProfileSet (p : Path)
  /-- R213: Sets channel map entries. -/
  | phMapSet (p : Path)
  /-- R195: Sets a frequency bus. -/
  | phBusSet (p : Path)
  /-- R213: Sets sequence triples. -/
  | phTripleSet (p : Path)
  /-- R200: Binds or unbinds phasor items to a slab queue. -/
  | phSlabBind (p : Path)
  /-- R210: Sets guard-element records, all to apply at the same mark. -/
  | grdSet (p : Path)
  /-- R213: Returns a guard-element record, in force or pending. -/
  | grdRead (p : Path)
  /-- R213: Returns the outputs and VALID bits of all elements. -/
  | grdStatus (p : Path)
  /-- R211: Returns guard-log entries without removing them. -/
  | grdLogRead (p : Path)
  /-- R213: Returns the bus frequencies and ROCOF values. -/
  | phStatus (p : Path)
  /-- R214: Stages publication records. -/
  | goosePubStage (p : Path)
  /-- R232: Returns a publication record. -/
  | goosePubRead (p : Path)
  /-- R222: Stages GOOSE subscription entries. -/
  | gooseSubStage (p : Path)
  /-- R232: Returns a subscription entry. -/
  | gooseSubRead (p : Path)
  /-- R218: Binds or unbinds a VF trip slot to a trip publication, to apply at the commit. -/
  | tripBind (p : Path)
  /-- R232: Returns subscription states. -/
  | gooseSubStatus (p : Path)
  /-- R232: Returns publication states. -/
  | goosePubStatus (p : Path)
  /-- R232: Returns subscription counters, clearing them atomically on request. -/
  | gooseStats (p : Path)
  /-- R226: Returns trip-log entries. -/
  | tripLogRead (p : Path)
  /-- R232: Returns the per-port guarantee excursion counts. -/
  | guarStatus (p : Path)
  /-- R253: Writes a segment of a program image to the staging bank and checks the whole image on the LAST segment. -/
  | logLoad (p : Path)
  /-- R252: Makes the staging program active at the next scan start, or at once when not in RUN. -/
  | logExchange (p : Path)
  /-- R248: Requests RUN, STOP or HOLD, to apply after the running scan. -/
  | logMode (p : Path)
  /-- R249: Runs single scans in HOLD. -/
  | logStep (p : Path)
  /-- R250: Sets, clears or clears all force entries, to apply at a scan start. -/
  | logForce (p : Path)
  /-- R258: Stores the scan period, start, stop and restart modes. -/
  | logCfg (p : Path)
  /-- R255: Restarts the logic engine warm or cold. -/
  | logRestart (p : Path)
  /-- R258: Returns the logic-engine status. -/
  | logStatus (p : Path)
  /-- R258: Returns operand-area values from the latest scan end. -/
  | logRead (p : Path)
  /-- R258: Returns the force table. -/
  | logForceRead (p : Path)
  /-- R272: Stores the segment mode, out_wd and segment_id, to apply at the next commit. -/
  | brioSegCfg (p : Path)
  /-- R271: Stages station records. -/
  | brioStage (p : Path)
  /-- R272: Returns a station record. -/
  | brioRead (p : Path)
  /-- R272: Returns the station states from one cycle end. -/
  | brioStatus (p : Path)
  /-- R272: Returns a station's counters. -/
  | brioStats (p : Path)
  /-- R272: Returns the segment status and counters. -/
  | brioSegStatus (p : Path)
  /-- R354: Configures or turns off a recorder instance and frees its slots. -/
  | recCfg (p : Path)
  /-- R358: Arms or disarms instances at a grid second mark. -/
  | recArm (p : Path)
  /-- R360: Triggers instances at the command's rx_stamp. -/
  | recTrigger (p : Path)
  /-- R373: Returns the instance states. -/
  | recStatus (p : Path)
  /-- R373: Returns an instance's slot states. -/
  | recSlots (p : Path)
  /-- R362: Frees a CLOSED slot. -/
  | recRelease (p : Path)
  /-- R372: Returns recorder event-log entries. -/
  | recLogRead (p : Path)
  /-- R367: Defines Longe stream records. -/
  | longeCfg (p : Path)
  /-- R368: Starts every Longe stream at a named grid second mark. -/
  | longeStart (p : Path)
  /-- R371: Stops every Longe stream at the next sample. -/
  | longeStop (p : Path)
  /-- R373: Returns the Longe stream states. -/
  | longeStatus (p : Path)
  /-- R384: Returns the Firn usage and state. -/
  | firnStatus (p : Path)
  /-- R384: Returns committed Firn records. -/
  | firnRead (p : Path)
  /-- R381: Stops or resumes Firn programming. -/
  | firnFreeze (p : Path)
  /-- R382: Erases the Firn flash and writes the clear record. -/
  | firnClear (p : Path)
  /-- R411: Returns the safety island status from one slot end. -/
  | safeStatus (p : Path)
  /-- R409: Stages a safety configuration blob once both channels accept it. -/
  | safeCfgLoad (p : Path)
  /-- R409: Puts the staged blob in force and enters HALTER with cause CFG_CHANGE. -/
  | safeCfgCommit (p : Path)
  /-- R411: Returns the blob in force or the staged blob. -/
  | safeCfgRead (p : Path)
  /-- R411: Adds Halter cause CMD. -/
  | safeHalter (p : Path)
  /-- R399: Leaves HALTER when no hard cause and no soft condition remains. -/
  | safeReset (p : Path)
  /-- R411: Returns Harness connection records and counters. -/
  | safeHarnessStatus (p : Path)
  /-- R101: Issues a nonce for one privileged command. -/
  | authNonce (p : Path)
  /-- R439: Returns the key-store and tamper status. -/
  | secStatus (p : Path)
  /-- R428: Returns a signed attestation statement. -/
  | secAttest (p : Path)
  /-- R421: Opens an import session with an ephemeral key pair. -/
  | secImportSession (p : Path)
  /-- R423: Imports a wrapped key as a new current generation. -/
  | secKeyImport (p : Path)
  /-- R439: Removes both generations of a slot, or its previous generation only. -/
  | secKeyRemove (p : Path)
  /-- R439: Returns slot metadata. -/
  | secKeyInfo (p : Path)
  /-- R422: Imports the first operator key. -/
  | secOperatorEnrol (p : Path)
  /-- R427: Returns a key-store backup blob. -/
  | secBackup (p : Path)
  /-- R427: Restores the slots named in a backup blob. -/
  | secRestore (p : Path)
  /-- R439: Stores tamper_en. -/
  | secCfg (p : Path)
  /-- R436: Blows the debug fuse. -/
  | secDebugDisable (p : Path)
  /-- R435: Raises the anti-rollback counter to the running image's svn. -/
  | secRollbackCommit (p : Path)
  /-- R434: Revokes image key 1. -/
  | secKeyrev (p : Path)
  /-- R439: Empties every imported slot and keeps the derived keys. -/
  | secZeroise (p : Path)
  /-- R432: Resets the module out of FAILSAFE once the tamper loop is closed. -/
  | secTamperClear (p : Path)
  /-- R416: Returns the device certificate chain. -/
  | secCertRead (p : Path)
  /-- R483: Stores the pair settings, to apply at the next entry into OPERATE. -/
  | redCfg (p : Path)
  /-- R483: Returns the pair settings. -/
  | redCfgRead (p : Path)
  /-- R483: Returns the redundancy status. -/
  | redStatus (p : Path)
  /-- R483: Returns the Farrier health data. -/
  | redHealth (p : Path)
  /-- R480: Starts a handover on demand. -/
  | redSwitch (p : Path)
  /-- R483: Isolates the unit, releasing the Bridle with reason 5, or rejoins it. -/
  | redIsolate (p : Path)
  /-- R479: Starts or stops the standby's deep self-tests. -/
  | redDeepTest (p : Path)
  /-- R129: Returns the issuing function's configuration. -/
  | vfInfo (p : Path)
  /-- R129: Configures a queue pair. -/
  | vfQCfg (p : Path)
  /-- R129: Enables or disables a queue's rings. -/
  | vfQCtrl (p : Path)
  /-- R129: Returns the function's drop counters. -/
  | vfStats (p : Path)
  /-- R110: Sets a function's queue-pair count, MAC, VLAN and staging limit. -/
  | vfCfg (p : Path)
  /-- R121: Sets a function's scheduler weight from the next round. -/
  | vfShareSet (p : Path)
  /-- R123: Freezes a VF for migration. -/
  | vfFreeze (p : Path)
  /-- R124: Writes a frozen VF's state blob. -/
  | vfSave (p : Path)
  /-- R125: Restores a state blob into a frozen VF. -/
  | vfRestore (p : Path)
  /-- R130: Resumes a frozen VF. -/
  | vfUnfreeze (p : Path)
  /-- R126: Starts dirty-page logging for a VF. -/
  | vfDirtyStart (p : Path)
  /-- R127: Copies out and clears the dirty bitmap at one swap point. -/
  | vfDirtySync (p : Path)
  /-- R130: Ends dirty logging and discards the bitmap. -/
  | vfDirtyStop (p : Path)
  /-- R130: Returns a function's status. -/
  | vfStatus (p : Path)
  /-- R448: Fills a DRAM range with a pattern. -/
  | memFill (p : Path)
  /-- R449: Starts or stops a software scrub of a range. -/
  | memScrub (p : Path)
  /-- R455: Returns the memory status. -/
  | memStatus (p : Path)
  /-- R451: Returns error-log entries, clearing the log and counters on request. -/
  | memEccLogRead (p : Path)
  /-- R484: Arms or cancels an error injection. -/
  | diagInject (p : Path)
  /-- R495: Returns the armed injections. -/
  | diagInjectStatus (p : Path)
  /-- R488: Runs a built-in self-test. -/
  | diagBist (p : Path)
  /-- R495: Returns the running maintenance activities. -/
  | diagActivities (p : Path)
  /-- R492: Begins, writes, ends or aborts a firmware installation. -/
  | fwInstall (p : Path)
  /-- R493: Activates an installed slot on trial, or confirms it. -/
  | fwSelect (p : Path)
  /-- R495: Returns the image slot information. -/
  | fwInfo (p : Path)
  /-- R350: Returns a coherent copy of the RTC. -/
  | rtcRead (p : Path)
  /-- R344: Loads the date and time and/or wday at the next RTC second. -/
  | rtcSet (p : Path)
  /-- R346: Stores the trim source, alignment and window settings. -/
  | rtcCfg (p : Path)
  /-- R94: A doorbell write to a mailbox submission tail announces new commands, or is refused as overtaking HEAD. -/
  | mbSqTailWrite (p : Path) (v : Word)
  /-- R94: The host consumes completions, freeing slots so that fetching may resume. -/
  | mbCqHeadWrite (p : Path) (v : Word)
  /-- R93: Setting EN resets the rings to empty and starts fetching. -/
  | mbChannelEnable (p : Path)
  /-- R93: Clearing EN stops fetching and lets the executing command finish. -/
  | mbChannelDisable (p : Path)
  /-- R93: A disabled channel's last command ends and IDLE sets. -/
  | mbChannelIdle (p : Path)
  /-- R94: The module fetches the next submission entry once a doorbell covers it and a completion slot is free. -/
  | mailboxFetch (p : Path) (f : Fetch Req)
  /-- R101: The lock-out ends 60 s after it began. -/
  | authLockoutEnd
  /-- R101: A nonce becomes invalid 10 s after it was issued. -/
  | nonceExpiry (p : Path)
  /-- R421: An import session ends 60 s after it was opened. -/
  | importSessionExpiry (p : Path)
  /-- R85: Moves the BAR2 window onto another GiB of DRAM. -/
  | mbBar2BaseWrite (v : Word)
  /-- R85: A host read of on-module DRAM through the window, poisoned where ECC requires. -/
  | bar2Read (off len : Nat)
  /-- R85: A host write to on-module DRAM through the window, merged as R443 states. -/
  | bar2Write (off : Nat) (data : Bytes) (poisoned : Bool)
  /-- R90: A W1C write to INT_CAUSE clears causes, with set-wins and a repeated message. -/
  | intCauseWrite (v setting : Word)
  /-- R90: A write to INT_MASK may send the message of a set cause, or clear PBA bits. -/
  | intMaskWrite (v : Word)
  /-- R90: A W1C write clears DMA causes under R4 and R90. -/
  | intDmaCauseWrite (v setting : Word)
  /-- R90: A write to INT_DMA_MASK may send or withdraw DMA vector messages. -/
  | intDmaMaskWrite (v : Word)
  /-- R90: Unmasking a vector in the MSI-X table sends its pending message. -/
  | msixVectorUnmask (fn vec : Nat)
  /-- R109: A W1C write clears VF causes under R4 and R90. -/
  | vfIntCauseWrite (n : Nat) (v setting : Word)
  /-- R109: A write to VF_INT_MASK sends or withdraws VF messages. -/
  | vfIntMaskWrite (n : Nat) (v : Word)
  /-- R108: Posts receive descriptors to a VF queue. -/
  | vfRxqTailWrite (n q : Nat) (v : Word)
  /-- R108: Posts transmit descriptors to a VF queue. -/
  | vfTxqTailWrite (n q : Nat) (v : Word)
  /-- R118: A VF_TRIP write with VALUE 1 asserts a bound trip slot, or is rejected for an unbound one. -/
  | vfTripAssert (n slot cookie : Nat) (at_ : Nat)
  /-- R118: A VF_TRIP write with VALUE 0 releases a bound trip slot, or is rejected for an unbound one. -/
  | vfTripRelease (n slot cookie : Nat) (at_ : Nat)
  /-- R135: Posts DMA descriptors to a channel. -/
  | dmaTailWrite (ch : Nat) (v : Word)
  /-- R135: Setting EN resets HEAD, TAIL and DMA_DONE_CNT and starts the channel. -/
  | dmaEnable (ch : Nat)
  /-- R145: Clearing EN stops new fetches and lets the active descriptor finish. -/
  | dmaDisable (ch : Nat)
  /-- R144: Writing ABORT stops the channel after the current burst. -/
  | dmaAbort (ch : Nat)
  /-- R144: The aborted burst finishes, the descriptor is written back with status 1 and ABORT_DONE sets. -/
  | dmaAbortDone (ch : Nat)
  /-- R141: ARM sets SH_PEND, or takes the set at once when no descriptor is active. -/
  | dmaShadowArm (ch : Nat) (descriptorEnding : Bool)
  /-- R143: DISARM clears SH_PEND. -/
  | dmaShadowDisarm (ch : Nat) (taken : Bool)
  /-- R135: The engine prefetches up to 8 covered descriptors. -/
  | dmaDescriptorFetch (ch : Nat) (f : Fetch Bytes)
  /-- R142: A descriptor becomes active when its first data request issues. -/
  | dmaDescriptorStart (ch : Nat)
  /-- R133: The engine chooses the channel for the next beat by priority and round-robin. -/
  | dmaBeatArbitration
  /-- R134: Host read completions land in the channel's burst buffer. -/
  | dmaReadCompletion (ch : Nat) (f : Fetch Bytes) (poison : Bool)
  /-- R136: The last beat ends a descriptor, which is written back with its status. -/
  | dmaDescriptorEnd (ch : Nat)
  /-- R334: A read of TIME_NS captures TIME_WRAP and TIME_EPOCH from the same tick. -/
  | timeNsRead
  /-- R334: A read of TIME_MARK_CUR_LO captures the marks and the second number. -/
  | timeMarkCurRead
  /-- R334: A read of TIME_PPS_NS captures the rest of the PPS stamp and its offset. -/
  | timePpsNsRead
  /-- R342: A read of RTC_SUBSEC copies the counters into the shadows and sets FROZEN. -/
  | rtcSubsecRead
  /-- R342: A read of RTC_YEAR while frozen returns the shadow and clears FROZEN. -/
  | rtcYearRead
  /-- R452: A read of ECC_CE_ADDR_LO captures the rest of the corrected-error registers. -/
  | eccCeAddrRead
  /-- R452: A read of ECC_UE_ADDR_LO captures the rest of the uncorrectable-error registers. -/
  | eccUeAddrRead
  /-- R450: Arms the flip mask, or sets FLIP_REFUSED. -/
  | eccFlipArm
  /-- R452: Clears FLIP_ARMED. -/
  | eccFlipDisarm (sameCycle : Bool)
  /-- R3: A write to a register without behaviour of its own acts by its access codes, or is ignored as R5 and R82 state. -/
  | registerWrite (fn off : Nat) (v : Word) (allBytes : Bool)
  /-- R50: Slot +12 V and +3.3 V in range for 10 ms start the power-up sequence. -/
  | suppliesGood (j2 : Bool)
  /-- R50: A domain reaching power-good lets the next step of the sequence start. -/
  | domainPowerGood (d : Domain) (refclk : Bool)
  /-- R51: A domain not good within 5 ms stops the sequence with cause PWR_SEQ. -/
  | powerSeqTimeout (d : Domain)
  /-- R51: 1 s after a failed sequence, one retry starts. -/
  | powerSeqRetry
  /-- R53: A slot supply crossing its threshold starts the hardware power-fail sequence. -/
  | powerFailDetect
  /-- R53: Each timed step of the power-fail sequence switches off its domains. -/
  | powerFailStep
  /-- R70: A module reset of any cause runs the power-fail sequence, latches the cause and then powers up again. -/
  | moduleReset (c : ResetCause) (detail : Nat)
  /-- R64: ROM and Nyming run the boot timeline from verification to CONFIGURE. -/
  | bootSequence (b : BootInput)
  /-- R69: A counted reset leaves the count 600 s after it occurred. -/
  | resetCountExpiry
  /-- R70: PERST# resets the host interface, the VF layer and the DMA engine. -/
  | perstAssert
  /-- R70: A hot reset resets the host interface alone. -/
  | pcieHotReset
  /-- R70: A link-down resets the host interface alone. -/
  | pcieLinkDown
  /-- R70: A PF function-level reset resets the host interface alone. -/
  | pfFlr
  /-- R65: The link trains and configuration requests get CRS until the PF is ready. -/
  | pcieLinkTrained (speed width : Nat)
  /-- R122: A VF function-level reset returns that VF's registers and rings to reset. -/
  | vfFlr (n : Nat)
  /-- R20: J2 below 10.8 V moves the converters to slot +12 V and stops the recorder and Longe. -/
  | j2Loss
  /-- R54: PD_AO changes its source when the supply voltages cross 3.0 V. -/
  | aoSupplyChangeover (v33 aux cell : Nat)
  /-- R73: PD_AO's supply below 2.05 V sets AO_BOR. -/
  | aoBrownout
  /-- R26: A sensor at 100 °C raises TEMP_WARN. -/
  | tempWarnRaise (sensor : Nat) (t : Int)
  /-- R26: Every sensor below 95 °C for 10 s clears TEMP_WARN. -/
  | tempWarnClear
  /-- R26: A sensor at 115 °C resets the module with cause THERMAL. -/
  | thermalReset (sensor : Nat)
  /-- R26: Every sensor below 95 °C releases the thermal reset. -/
  | thermalRelease
  /-- R56: The cell is measured at start, every 24 h and after insertion, setting or clearing CELL_LOW. -/
  | cellMeasure (mv : Nat)
  /-- R56: A cell insertion triggers a measurement within 1 s. -/
  | cellInsertion
  /-- R60: Loss of root PLL lock resets the module. -/
  | rootPllUnlock
  /-- R60: CLK_TIME out of range against CLK_RTC resets the module. -/
  | oscFault
  /-- R61: A bad CLK_SAFE window count, or a stopped CLK_RTC, de-energises the safety outputs. -/
  | clockMonitorFault (stopped : Bool) (count : Nat)
  /-- R22: The management watchdog expires and resets the module. -/
  | watchdogExpiry
  /-- R40: The always-on domain tests the tamper loop every 31.25 ms. -/
  | tamperLoopSample (open_ : Bool)
  /-- R430: A tamper source fires and the key store zeroises and enters FAILSAFE as the module state requires. -/
  | tamperEvent (src : Nat)
  /-- R45: A debounced seal switch change writes a Firn record. -/
  | sealSwitchChange (pos : Nat) (on : Bool)
  /-- R276: A transceiver inserted is read over I2C. -/
  | sfpModAbsDeassert (port : Nat) (id : Fetch Bytes)
  /-- R276: A transceiver removed takes the port down. -/
  | sfpModAbsAssert (port : Nat)
  /-- R276: TX_FAULT asserting pulses TX_DISABLE once. -/
  | sfpTxFault (port : Nat)
  /-- R276: 100 ms later a persisting TX_FAULT holds the port down. -/
  | sfpTxFaultCheck (port : Nat) (persists : Bool)
  /-- R276: Transceiver diagnostics are polled every 1 s. -/
  | sfpDiagPoll (port : Nat) (diag : Fetch Bytes)
  /-- R30: A cage drawing over 450 mA for 1 ms is switched off. -/
  | cageOvercurrent (port : Nat)
  /-- R275: A port whose PCS has held lock for 10 ms goes up. -/
  | portLinkUp (port : Nat)
  /-- R275: Loss of lock, LOS or a lane PLL unlock takes a port down. -/
  | portLinkDown (port cause : Nat)
  /-- R275: After a lane PLL unlock, relock is attempted every 100 ms. -/
  | laneRelockAttempt (port : Nat) (locks : Bool)
  /-- R289: A verify mPacket is sent every verify_time, up to 3 times. -/
  | peVerifySend (port : Nat)
  /-- R289: A verify response makes pre-emption active. -/
  | peVerifyResponse (port : Nat)
  /-- R296: A frame received on a port is checked and dispatched to ingest, PTP or forwarding. -/
  | frameReceive (port : Nat) (f : Frame) (at_ : Nat)
  /-- R288: A received pause stops transmission for its quanta, or is counted only. -/
  | pauseFrameReceive (port : Nat) (quanta : Nat)
  /-- R278: P7 answers ARP and ICMP echo and discards other packets. -/
  | p7PacketReceive (kind target len : Nat)
  /-- R299: An egress starts its next frame by strict priority, with age, congestion and length checks. -/
  | egressTransmitStart (port : Nat)
  /-- R307: A number missing 5 µs after a later one is passed over. -/
  | resequenceTimeout (id : Nat)
  /-- R310: Every age_time/4 a sweep ages dynamic entries and removes old ones. -/
  | fdbAgeSweep
  /-- R152: A matched SV frame passes the ingest steps and its ASDUs are delivered. -/
  | svFrameIngest (k : Nat) (f : SvFrame) (at_ : Nat)
  /-- R161: No valid ASDU for loss_time moves the stream to LOST or MISMATCH. -/
  | svStreamLoss (k : Nat)
  /-- R162: No frame of a LAN for loss_time marks that LAN missing. -/
  | svLanMissing (k : Nat) (lanB : Bool)
  /-- R157: No accepted frame for 400 ms resets the duplicate window. -/
  | prpWindowTimeout (k : Nat)
  /-- R176: A coarse value is computed once ingest completes its newest tap. -/
  | coarseValue (k : Nat)
  /-- R176: At its deadline, a coarse value is computed from whatever is present. -/
  | coarseDeadline (k : Nat)
  /-- R176: At its emission instant, a fine value is computed from the samples received by then. -/
  | fineEmission (k : Nat)
  /-- R202: The guard elements are evaluated for an instant once their operands are complete. -/
  | guardEvaluation
  /-- R186: A due slab is written to a posted descriptor, or dropped. -/
  | slabDelivery (fn q : Nat) (desc : Fetch Bytes)
  /-- R318: Local time reaches the next mark, the marks shift and pending settings apply. -/
  | gridSecondMark
  /-- R332: PPS_OUT falls after the configured width. -/
  | ppsOutFall
  /-- R318: Nyming writes the pending mark for second s+2, or the write is refused as late. -/
  | pendingMarkWrite (sec : Nat)
  /-- R330: A valid Sync drives the servo. -/
  | ptpSyncReceive (m : PtpMsg) (origin : Nat) (corr : Int) (twoStep : Bool) (at_ : Nat)
  /-- R324: A Follow_Up completes a two-step Sync, or is forwarded with a correction. -/
  | ptpFollowUpReceive (m : PtpMsg) (origin : Nat) (corr : Int) (at_ : Nat)
  /-- R327: An Announce feeds the BMCA and the UTC offset. -/
  | ptpAnnounceReceive (m : PtpMsg) (a : AnnounceData) (at_ : Nat)
  /-- R325: A Pdelay_Req is answered with a one-step Pdelay_Resp. -/
  | ptpPdelayReqReceive (m : PtpMsg) (at_ : Nat)
  /-- R325: A Pdelay_Resp completes a peer-delay exchange. -/
  | ptpPdelayRespReceive (m : PtpMsg) (t3 : Nat) (corr : Int) (at_ : Nat)
  /-- R325: A master port answers a Delay_Req. -/
  | ptpDelayReqReceive (m : PtpMsg) (at_ : Nat)
  /-- R325: Each PTP port sends Pdelay_Req once a second. -/
  | ptpPdelayReqSend (port : Nat)
  /-- R325: No response within 500 ms counts a peer-delay failure. -/
  | ptpPdelayTimeout (port : Nat)
  /-- R325: A profile-2 slave sends Delay_Req once a second. -/
  | ptpDelayReqSend (port : Nat)
  /-- R324: A master port sends a one-step Sync. -/
  | ptpSyncSend (port : Nat)
  /-- R322: A master port sends an Announce. -/
  | ptpAnnounceSend (port : Nat)
  /-- R329: Missing Syncs or an Announce timeout moves the servo to FREE or HOLDOVER. -/
  | ptpSourceLost
  /-- R331: Holdover lasting holdover_limit sets HOLD_EXPIRED. -/
  | holdoverExpired
  /-- R333: A PPS_IN rising edge is stamped and judged against the nearest mark. -/
  | ppsInEdge (at_ : Nat)
  /-- R339: The RTC counters advance or load, and trim adjusts the next second's length. -/
  | rtcSecondEnd (at_ : Nat)
  /-- R345: The RTC is compared with UTC at a mark and loaded if it differs. -/
  | rtcAlignCompare
  /-- R346: A measurement window closes and a new TRIM is computed. -/
  | trimWindowClose (count : Nat)
  /-- R346: A failing source condition abandons the window with MEAS_FAIL. -/
  | trimWindowAbandon
  /-- R244: A scheduled scan latches the images, executes the program and commits the outputs. -/
  | logicScan
  /-- R246: A scheduled start that falls during a running scan is skipped and counted. -/
  | logicOverrun
  /-- R257: An uncorrectable ECC error sets FAULT and stops the engine. -/
  | logicFault
  /-- R253: A partial image is discarded when no segment has arrived for 10 s. -/
  | logLoadIdleDiscard
  /-- R217: A due retransmission is queued. -/
  | gooseRetransmission (p : Nat)
  /-- R223: A matched GOOSE frame is checked and its values are applied to the I bits. -/
  | gooseFrameReceive (g : Nat) (f : GooseFrame) (at_ : Nat)
  /-- R224: The deadline passes without a newer frame and the subscription goes to LOST or MISMATCH. -/
  | gooseTalExpiry (g : Nat)
  /-- R262: The running unit sends a CYCLE frame carrying the outputs. -/
  | brioCycleStart (seg : Nat)
  /-- R261: A CYCLE not sent within 400 µs is abandoned. -/
  | brioCycleAbort (seg : Nat)
  /-- R267: An INPUT frame is judged and its inputs are written. -/
  | brioInputReceive (seg : Nat) (dst src : Nat) (b : Bytes) (at_ : Nat)
  /-- R267: A listener or master receives a CYCLE frame. -/
  | brioCycleReceive (seg : Nat) (src : Nat) (b : Bytes) (at_ : Nat)
  /-- R268: The reply window closes, misses are counted and station states change. -/
  | brioWindowClose (seg : Nat)
  /-- R270: A new holder runs the segment after 2 ms of silence. -/
  | brioSegmentTake (seg : Nat)
  /-- R386: Every 250 µs both channels sample and process inputs, Harness, Halter, SRST and outputs. -/
  | safetySlot (inp : SlotInput)
  /-- R390: A terminal's filtered value changes after Nf samples. -/
  | inputFilterChange (n : Nat) (ch : Bool) (v : Bool)
  /-- R391: The discrepancy count reaching N faults the input. -/
  | discrepancyFault (n : Nat)
  /-- R394: A category-1 output is de-energised off_delay after its condition fell. -/
  | offDelayExpiry (n : Nat)
  /-- R396: Every 500 ms a switch of an energised output is opened and judged. -/
  | outputDarkTest (n : Nat) (high ok : Bool)
  /-- R36: Output current over 2.6 A for 1 ms switches the output off. -/
  | outputOverload (n : Nat)
  /-- R397: FV24 below 18.0 V for 10 ms sets FV24_LOW and de-energises the outputs. -/
  | fv24LowSet
  /-- R397: FV24 at or above 19.2 V for 100 ms clears FV24_LOW. -/
  | fv24LowClear
  /-- R387: The 8 h march and CRC tests complete. -/
  | safetyBackgroundTest (pass : Bool)
  /-- R404: A Harness PDU is checked and accepted. -/
  | harnessPduReceive (port src : Nat) (b : Bytes) (at_ : Nat)
  /-- R405: A path with no PDU within the watchdog is lost. -/
  | harnessWatchdogExpiry (conn : Nat) (pathB : Bool)
  /-- R406: Path data differing for more than 8 slots faults the connection. -/
  | harnessDualMismatch (conn : Nat)
  /-- R407: An output connection sends its PDUs at each cycle start. -/
  | harnessOutputCycle
  /-- R464: A heartbeat goes on PL1 and PL2 every 100 µs. -/
  | heartbeatH1Send
  /-- R464: A heartbeat goes on the named process-bus pairs every 1 ms. -/
  | heartbeatH2Send
  /-- R464: A received heartbeat is validated and recorded. -/
  | heartbeatReceive (path : Nat) (b : Bytes) (at_ : Nat)
  /-- R465: At each window end a path is judged lost or alive. -/
  | heartbeatWindow (path : Nat)
  /-- R466: A health word 3 ms old sets FW_STALL. -/
  | fwStall
  /-- R466: No heartbeat for 300 µs releases the Bridle unconditionally. -/
  | hbGenFail
  /-- R458: A filtered BRD or HBW input changes. -/
  | bridleLineChange (line : Nat) (v : Bool)
  /-- R462: HBW_IN without an edge for 300 µs is quiet. -/
  | hbwQuiet
  /-- R462: One line asserted for 1 ms raises BRD_DISC, and agreement for 1 ms clears it. -/
  | brdDisc (set : Bool)
  /-- R459: With ARM_TAKE set and the take condition met, the arbiter asserts BRD1_OUT. -/
  | bridleClaim
  /-- R459: After 20 µs of free lines, BRD2_OUT asserts and the unit holds. -/
  | bridleClaimComplete
  /-- R460: A holder reading both lines asserted for 20 µs resolves the contention. -/
  | bridleContention
  /-- R461: A release decision closes the gate and drops the lines. -/
  | bridleRelease (reason : Nat)
  /-- R478: The standby compares the received phasors with its own. -/
  | phasorGroupReceive (g : PhasorGroup) (at_ : Nat)
  /-- R477: Every check passing for 1 s sets READY, and any failure clears it. -/
  | farrierReady
  /-- R480: The home unit requests takeback after holdoff seconds READY. -/
  | takebackRequest
  /-- R480: The holder releases at its first scan start at the handover mark. -/
  | handoverRelease
  /-- R481: A taker not holding 1 ms after the release lets the former holder re-claim. -/
  | handoverAbort
  /-- R379: An event takes a seq and enters the holding queue. -/
  | firnEvent (code : Nat) (data : Bytes)
  /-- R379: A record finishes programming and INT_CAUSE.FIRN sets. -/
  | firnRecordProgrammed
  /-- R381: A freeze is released automatically after 600 s. -/
  | firnAutoRelease
  /-- R382: The erase completes and the clear record is written at index 0. -/
  | firnEraseComplete
  /-- R351: An instance captures a frame at a capture instant. -/
  | recorderFrame (inst : Nat)
  /-- R360: A detected trigger is judged by the instance state at its frame. -/
  | recorderTrigger (inst src : Nat)
  /-- R361: A falling edge on XTRIG or XTRIG_P is stamped as a trigger. -/
  | xtrigEdge (p : Bool) (at_ : Nat)
  /-- R359: A TRIG0 or TRIG1 edge that holds for 50 µs is stamped as a trigger. -/
  | trigInputEdge (n : Nat) (rising : Bool) (at_ : Nat)
  /-- R361: The 1 ms cross-trigger pulse ends. -/
  | xtrigPulseEnd
  /-- R360: A segment closes 5 ms after its last frame. -/
  | segmentClose (inst : Nat)
  /-- R353: A full FIFO closes the record and stops the instance. -/
  | recorderOverflow (inst : Nat)
  /-- R358: After holdoff frames the instance returns to ARMED. -/
  | rearmHoldoffEnd (inst : Nat)
  /-- R368: A Longe sample frame is built and queued. -/
  | longeSample (k : Nat)
  /-- R371: A stream whose source runs out stops or loops. -/
  | longeSourceEnd (k : Nat)
  /-- R116: A staged frame is written to posted receive descriptors. -/
  | vfFrameDelivery (fn q : Nat) (descs : List (Fetch Bytes))
  /-- R113: A function's transmit descriptors are fetched round-robin and the frame is sent or dropped. -/
  | vfTransmitFetch (fn q : Nat) (desc : Fetch Bytes) (data : Fetch Bytes) (f : Frame)
  /-- R120: Every 10 µs the host-bound scheduler allocates quotas. -/
  | schedulerRound
  /-- R443: A partial line is written by read-modify-write. -/
  | mergeBufferEvict
  /-- R446: An SRAM error is corrected or acted on by SRAM code. -/
  | sramError (code : Nat) (ue : Bool) (row : Nat)
  /-- R445: Nyming scrubs the firmware region every 24 h. -/
  | firmwareScrub (ce ue poison : List Nat)
  /-- R449: A software scrub ends and its counts are reported. -/
  | scrubComplete
  /-- R448: MEM_FILL ends. -/
  | fillComplete
  /-- R426: Every 4 s the keys are re-masked under a fresh mask. -/
  | keyRemask
  /-- R415: A failed health test restarts the source, and three in a row set ENTROPY_FAIL. -/
  | entropyHealthFail
  /-- R103: A TLS connection to port 4820 is accepted or refused. -/
  | p7Connect (certOk : Bool)
  /-- R104: A command entry received in a P7 session is executed. -/
  | p7CommandEntry (session : Nat) (r : Req)
  /-- R103: An idle session is closed. -/
  | p7IdleTimeout (session : Nat)
  /-- R486: An armed injection acts at its injection point. -/
  | injectionApplied (n : Nat)
  /-- R484: An injection's duration ends and it disarms. -/
  | injectionExpiry (n : Nat)
  /-- R429: A TAP instruction with the debug fuse unblown is a tamper event. -/
  | debugTapAccess
  /-- R474: The standby receives a mirror image on PL1 or PL2, checks its CRC and keeps it as the newest complete image for its next scan start. -/
  | mirrorImageReceive (link : Nat) (img : MirrorImage) (at_ : Nat)
  /-- R41: PRES_IN changes as a pairing cable is connected or removed, which updates the Farrier LINES check and writes a line-condition Firn record. -/
  | presInChange (v : Bool)
  /-- R469: P1–P4 having all been down for 10 ms raises the PORTS_DOWN yield cause on a holder. -/
  | portsDown
  /-- R325: Under profile 2, a slave port receives a Delay_Resp and updates its path delay. -/
  | ptpDelayRespReceive (m : PtpMsg) (rx : Nat) (corr : Int) (at_ : Nat)
  /-- R39: The mains-reference input falls below or returns above 8 V rms, which sets or clears MAINS_ABSENT. -/
  | mainsAbsentChange (absent : Bool)
  /-- R346: A positive-going zero crossing of the mains reference opens a mains trim window when MAINS_ABSENT is clear and no window is running. -/
  | mainsZeroCrossing
  /-- R261: A collision during the module's transmission on P8 in CSMA/CD mode is counted and starts truncated binary exponential back-off. -/
  | p8Collision (seg : Nat)
  /-- R261: At the end of its back-off, the module retries the frame, or abandons it after the sixteenth attempt and counts excess_coll. -/
  | p8BackoffExpiry (seg : Nat)
  deriving DecidableEq, Repr

end Sys2Proof
end

