-- ==== Sys2Proof/WellFormed.lean ====
section
/-! DEFINITION. Which commands are well-formed: operands within the ranges their rows give. -/

namespace Sys2Proof

/-- A path names a channel or a session that exists (R92, R103, R128). -/
def Path.wf : Path → Bool
  | .mb n => n < 4
  | .vf n => 1 ≤ n && n ≤ 127
  | .p7 n => n < 4

/-- The fields of a submission entry have the widths of R96. -/
def Req.wf (r : Req) : Bool :=
  r.opcode < 65536 && r.tag < 65536 && r.xpOffset < 4294967296 && r.xpLen < 4294967296 && r.params.length == 48

/-- A fetched entry, where the fetch brought one. -/
def Fetch.wf : Fetch Req → Bool
  | .ok r => r.wf
  | .unsupported | .abort | .timeout | .poisoned => true

/-- The number of a virtual function (R79). -/
def vfOk (n : Nat) : Bool := 1 ≤ n && n ≤ 127

/-- A command's operands name objects that exist. -/
def Instr.wf : Instr → Bool
  | .modStateSet p | .modReset p | .modResetCause p | .hostLinkCfg p | .hostLinkStatus p | .mgmtTlsCfg p
  | .timeCfg p | .timeCfgRead p | .timeStatus p | .timeMapRead p | .timePortStatus p | .timeManualSet p
  | .portStage p | .portRead p | .portFilterStage p | .portFilterRead p | .portStatus p | .portStats p
  | .portSfpRead p | .portIpCfg p | .swCfg p | .swClassStage p | .swPcpStage p | .swVlanStage p | .swFdbStage p
  | .swFdbRead p | .swFdbFlush p | .swCfgRead p | .swStatus p | .svStage p | .svUnstage p | .tblCommit p
  | .tblDiscard p | .svRead p | .svStatus p | .svStats p | .svSimMode p | .svLoad p | .alnCfg p | .alnStreamCfg p
  | .alnSlabBind p | .alnStatus p | .alnStreamStatus p | .phCfg p | .phProfileSet p | .phMapSet p | .phBusSet p
  | .phTripleSet p | .phSlabBind p | .grdSet p | .grdRead p | .grdStatus p | .grdLogRead p | .phStatus p
  | .goosePubStage p | .goosePubRead p | .gooseSubStage p | .gooseSubRead p | .tripBind p | .gooseSubStatus p
  | .goosePubStatus p | .gooseStats p | .tripLogRead p | .guarStatus p | .logLoad p | .logExchange p | .logMode p
  | .logStep p | .logForce p | .logCfg p | .logRestart p | .logStatus p | .logRead p | .logForceRead p
  | .brioSegCfg p | .brioStage p | .brioRead p | .brioStatus p | .brioStats p | .brioSegStatus p | .recCfg p
  | .recArm p | .recTrigger p | .recStatus p | .recSlots p | .recRelease p | .recLogRead p | .longeCfg p
  | .longeStart p | .longeStop p | .longeStatus p | .firnStatus p | .firnRead p | .firnFreeze p | .firnClear p
  | .safeStatus p | .safeCfgLoad p | .safeCfgCommit p | .safeCfgRead p | .safeHalter p | .safeReset p
  | .safeHarnessStatus p | .authNonce p | .secStatus p | .secAttest p | .secImportSession p | .secKeyImport p
  | .secKeyRemove p | .secKeyInfo p | .secOperatorEnrol p | .secBackup p | .secRestore p | .secCfg p
  | .secDebugDisable p | .secRollbackCommit p | .secKeyrev p | .secZeroise p | .secTamperClear p | .secCertRead p
  | .redCfg p | .redCfgRead p | .redStatus p | .redHealth p | .redSwitch p | .redIsolate p | .redDeepTest p
  | .vfInfo p | .vfQCfg p | .vfQCtrl p | .vfStats p | .vfCfg p | .vfShareSet p | .vfFreeze p | .vfSave p
  | .vfRestore p | .vfUnfreeze p | .vfDirtyStart p | .vfDirtySync p | .vfDirtyStop p | .vfStatus p | .memFill p
  | .memScrub p | .memStatus p | .memEccLogRead p | .diagInject p | .diagInjectStatus p | .diagBist p
  | .diagActivities p | .fwInstall p | .fwSelect p | .fwInfo p | .rtcRead p | .rtcSet p | .rtcCfg p
  | .mbSqTailWrite p _ | .mbCqHeadWrite p _ | .mbChannelEnable p | .mbChannelDisable p | .mbChannelIdle p => p.wf
  | .mailboxFetch p f => p.wf && f.wf
  | .authLockoutEnd => true
  | .nonceExpiry p | .importSessionExpiry p => p.wf
  | .mbBar2BaseWrite _ => true
  | .bar2Read off len => off + len ≤ 1073741824
  | .bar2Write off data _ => off + data.length ≤ 1073741824
  | .intCauseWrite _ _ | .intMaskWrite _ | .intDmaCauseWrite _ _ | .intDmaMaskWrite _ => true
  | .msixVectorUnmask fn vec => fn ≤ 127 && vec < 64
  | .vfIntCauseWrite n _ _ | .vfIntMaskWrite n _ => vfOk n
  | .vfRxqTailWrite n q _ | .vfTxqTailWrite n q _ => n ≤ 127 && q < 64
  | .vfTripAssert n slot cookie _ | .vfTripRelease n slot cookie _ => vfOk n && slot < 16 && cookie < 256
  | .dmaTailWrite ch _ | .dmaEnable ch | .dmaDisable ch | .dmaAbort ch | .dmaAbortDone ch | .dmaShadowArm ch _
  | .dmaShadowDisarm ch _ | .dmaDescriptorFetch ch _ | .dmaDescriptorStart ch => ch < 32
  | .dmaBeatArbitration => true
  | .dmaReadCompletion ch _ _ | .dmaDescriptorEnd ch => ch < 32
  | .timeNsRead | .timeMarkCurRead | .timePpsNsRead | .rtcSubsecRead | .rtcYearRead | .eccCeAddrRead
  | .eccUeAddrRead | .eccFlipArm | .eccFlipDisarm _ => true
  | .registerWrite fn off _ _ => fn ≤ 127 && off < 73728
  | .suppliesGood _ | .domainPowerGood _ _ | .powerSeqTimeout _ | .powerSeqRetry | .powerFailDetect
  | .powerFailStep | .moduleReset _ _ | .bootSequence _ | .resetCountExpiry | .perstAssert | .pcieHotReset
  | .pcieLinkDown | .pfFlr | .pcieLinkTrained _ _ => true
  | .vfFlr n => vfOk n
  | .j2Loss | .aoSupplyChangeover _ _ _ | .aoBrownout => true
  | .tempWarnRaise sensor _ => sensor < 8
  | .tempWarnClear => true
  | .thermalReset sensor => sensor < 8
  | .thermalRelease | .cellMeasure _ | .cellInsertion | .rootPllUnlock | .oscFault | .clockMonitorFault _ _
  | .watchdogExpiry | .tamperLoopSample _ | .tamperEvent _ => true
  | .sealSwitchChange pos _ => 1 ≤ pos && pos ≤ 4
  | .sfpModAbsDeassert port _ | .sfpModAbsAssert port | .sfpTxFault port | .sfpTxFaultCheck port _
  | .sfpDiagPoll port _ | .cageOvercurrent port | .portLinkUp port => port < 10
  | .portLinkDown port cause => port < 10 && 1 ≤ cause && cause ≤ 3
  | .laneRelockAttempt port _ | .peVerifySend port | .peVerifyResponse port | .frameReceive port _ _
  | .pauseFrameReceive port _ => port < 10
  | .p7PacketReceive _ _ _ => true
  | .egressTransmitStart port => port < 10
  | .resequenceTimeout _ | .fdbAgeSweep => true
  | .svFrameIngest k _ _ | .svStreamLoss k | .svLanMissing k _ | .prpWindowTimeout k | .coarseValue k
  | .coarseDeadline k | .fineEmission k => k < 2048
  | .guardEvaluation => true
  | .slabDelivery fn q _ => fn ≤ 127 && q < 64
  | .gridSecondMark | .ppsOutFall | .pendingMarkWrite _ | .ptpSyncReceive _ _ _ _ _ | .ptpFollowUpReceive _ _ _ _
  | .ptpAnnounceReceive _ _ _ | .ptpPdelayReqReceive _ _ | .ptpPdelayRespReceive _ _ _ _ | .ptpDelayReqReceive _ _ => true
  | .ptpPdelayReqSend port | .ptpPdelayTimeout port | .ptpDelayReqSend port | .ptpSyncSend port
  | .ptpAnnounceSend port => port < 10
  | .ptpSourceLost | .holdoverExpired | .ppsInEdge _ | .rtcSecondEnd _ | .rtcAlignCompare | .trimWindowClose _
  | .trimWindowAbandon | .logicScan | .logicOverrun | .logicFault | .logLoadIdleDiscard => true
  | .gooseRetransmission p => p < 256
  | .gooseFrameReceive g _ _ | .gooseTalExpiry g => 2048 ≤ g && g < 4096
  | .brioCycleStart seg | .brioCycleAbort seg | .brioInputReceive seg _ _ _ _ | .brioCycleReceive seg _ _ _
  | .brioWindowClose seg | .brioSegmentTake seg => seg == 0
  | .safetySlot _ => true
  | .inputFilterChange n _ _ | .discrepancyFault n => n < 8
  | .offDelayExpiry n | .outputDarkTest n _ _ | .outputOverload n => n < 4
  | .fv24LowSet | .fv24LowClear | .safetyBackgroundTest _ => true
  | .harnessPduReceive port _ _ _ => port < 10
  | .harnessWatchdogExpiry conn _ | .harnessDualMismatch conn => conn < 64
  | .harnessOutputCycle | .heartbeatH1Send | .heartbeatH2Send => true
  | .heartbeatReceive path _ _ | .heartbeatWindow path => 1 ≤ path && path ≤ 2
  | .fwStall | .hbGenFail => true
  | .bridleLineChange line _ => line ≤ 2
  | .hbwQuiet | .brdDisc _ | .bridleClaim | .bridleClaimComplete | .bridleContention | .bridleRelease _
  | .phasorGroupReceive _ _ | .farrierReady | .takebackRequest | .handoverRelease | .handoverAbort
  | .firnEvent _ _ | .firnRecordProgrammed | .firnAutoRelease | .firnEraseComplete => true
  | .recorderFrame inst | .recorderTrigger inst _ => inst < 16
  | .xtrigEdge _ _ => true
  | .trigInputEdge n _ _ => n ≤ 1
  | .xtrigPulseEnd => true
  | .segmentClose inst | .recorderOverflow inst | .rearmHoldoffEnd inst => inst < 16
  | .longeSample k | .longeSourceEnd k => k < 2048
  | .vfFrameDelivery fn q _ | .vfTransmitFetch fn q _ _ _ => fn ≤ 127 && q < 64
  | .schedulerRound | .mergeBufferEvict | .sramError _ _ _ | .firmwareScrub _ _ _ | .scrubComplete | .fillComplete
  | .keyRemask | .entropyHealthFail | .p7Connect _ => true
  | .p7CommandEntry session r => session < 4 && r.wf
  | .p7IdleTimeout session => session < 4
  | .injectionApplied n | .injectionExpiry n => n < 4096
  | .debugTapAccess | .mirrorImageReceive _ _ _ | .presInChange _ | .portsDown | .ptpDelayRespReceive _ _ _ _
  | .mainsAbsentChange _ | .mainsZeroCrossing => true
  | .p8Collision seg | .p8BackoffExpiry seg => seg == 0

end Sys2Proof
end

