-- ==== Sys2Proof/Config.lean ====
section
/-! DEFINITION. What a build of the module fixes, and the values the spec leaves open: constants with
no body, so that every statement holds for each of their values. -/

namespace Sys2Proof
namespace Config

/-- MB_ID.HW_REV (R84: set by the board). -/
opaque hwRev : BitVec 8

/-- The serial number fused into the module (R84). -/
opaque serial : BitVec 64

/-- A value the spec leaves open, one per draw (log 2). -/
opaque freeValue : Nat → Nat

/-- HMAC-SHA-256 (R100): key, message. An uninterpreted function of its arguments (log 3). -/
opaque hmacSha256 : Bytes → Bytes → Bytes

/-- SHA-256. Uninterpreted (log 3). -/
opaque sha256 : Bytes → Bytes

/-- A draw of the module's DRBG (R415): uninterpreted (log 3). -/
opaque drbg : Nat → Bytes

/-- What the cells of a never-written DRAM word hold (R447): its 64 data bits, and the 72-bit difference
of its codeword from a valid one (log 10). -/
opaque dramCells : Nat → BitVec 64 × BitVec 72

/-- The syndrome column of a data bit in the code of R440, whose matrix the spec does not give (log 11). -/
opaque eccColumn : Nat → BitVec 8

/-- ECDSA P-256 signature with the identity key (R416), of the DRBG draw its nonce takes and a message: 64
bytes. Uninterpreted (log 3). -/
opaque identitySign : Nat → Bytes → Bytes

/-- The P-256 public key (64 bytes) of the ephemeral key a DRBG draw makes (R421). Uninterpreted (log 3). -/
opaque ecPublic : Nat → Bytes

/-- The ECDH shared secret of that ephemeral key with a public key (R421). Uninterpreted (log 3). -/
opaque ecdh : Nat → Bytes → Bytes

/-- AES key wrap (R421, R427): key-encryption key, material. Uninterpreted (log 3). -/
opaque keyWrap : Bytes → Bytes → Bytes

/-- AES key unwrap: none where the integrity check fails. Uninterpreted (log 3). -/
opaque keyUnwrap : Bytes → Bytes → Option Bytes

/-- Bits 47 to 4 of the fused block of MAC addresses (R277). -/
opaque macBlock : BitVec 44

/-- The code of a cause or state that a record carries and the spec does not list: the event, the cause
(log 15). -/
opaque eventCode : Nat → Nat → BitVec 8

/-- AES-GMAC-128 (R153, R215): key, message. Uninterpreted (log 3). -/
opaque gmac : Bytes → Bytes → Bytes

/-- The device certificate and its chain, DER (R416): fused data of one module. -/
opaque certChain : Bytes

/-- What ROM reads from the header of an image slot's content, and checks against the fused key hashes and
the signature (R433): key index, svn, MAJOR, MINOR, BUILD and digest; none where a check fails. The
header's layout is not given (log 14). -/
opaque imageHeader : List (Nat × Bytes) → Option (Nat × Nat × Nat × Nat × Nat × Bytes)

/-- The engine's difference from an exactly evaluated phasor, in counts for re and im (R193): the same for the
same values, frequency, order and window shape. Its bound is applied where it is used (log 2). -/
opaque phasorError : List Int → Int → Nat → Nat → Int × Int

/-- Octets the IEC 62351-6 extension adds to a GOOSE or SV frame: the spec gives the tag's 16 only (log 21). -/
opaque authExtLen : Nat

/-- A part digest of R477 over the settings of parts 0 to 5: how it is taken is not given (log 25). -/
opaque partDigest : Nat → Bytes → BitVec 32

end Config
end Sys2Proof
end

