-- ==== Sys2Proof/Machine/State.lean ====
section
/-! DEFINITION. The state of the module: every register, buffer, queue, counter, mode and pin the
spec gives it, block by block, with the queue of waiting commands; the ways a step can stop; and the
state after reset. A bracket at the end of a field's comment gives its rule, its width in bits and its
reset value (DC: the spec gives none and the model names one, with the log entry that says so). -/

namespace Sys2Proof
namespace Machine

/-- A TS48 stamp (R6, R316): the low 32 bits and bits [39:32] of extended local time, the source class
of R317 and the clock flags of R328. -/
structure Stamp where
  ns : Nat := 0
  tag : Nat := 0
  src : Nat := 0
  interp : Bool := false
  holdover : Bool := false
  lock : Bool := false
  deriving DecidableEq, Repr, Inhabited

/-! ## Network time (chapter 15) -/

/-- A second mark (R167, R319, R320, R321), as the marks and the wrap-to-TAI map hold it. -/
structure Mark where
  /-- M(s), extended local time, ns. -/
  ns : Nat := 0
  /-- TAI second. -/
  sec : Nat := 0
  holdover : Bool := false
  extrapolated : Bool := false
  gridStep : Bool := false
  renumbered : Bool := false
  /-- UTC offset in force at the mark, s. -/
  utc : Nat := 0
  deriving DecidableEq, Repr

/-- A foreign master of a PTP port (R327): its last Announce and when it came. -/
structure Foreign where
  clockId : Nat
  data : AnnounceData
  at_ : Nat
  count : Nat
  deriving DecidableEq, Repr

/-- One PTP port (R323, R325, R326, R336). -/
structure PtpPort where
  /-- IEEE 1588 port state code, 0 when not in the mask. [R336; 8; 0] -/
  state : Nat := 0
  /-- Peer-delay failures, auth failures, Syncs and Announces received. [R336; 32 each; 0] -/
  syncs : Nat := 0
  announces : Nat := 0
  pdFail : Nat := 0
  authFail : Nat := 0
  /-- The last message verified (AUTH ok). [R336; 1; 0] -/
  authOk : Bool := false
  /-- The last 8 valid delays, newest first, ns. [R325; list; empty] -/
  delays : List Nat := []
  /-- Extended local time of the last valid exchange. [R325; 64; none] -/
  lastValid : Option Nat := none
  /-- The last Sync transmitted on the port: sequence number and transmit time (R324). [R324; 16+64; none] -/
  sent : Option (Nat × Nat) := none
  /-- The Pdelay_Req or Delay_Req awaiting an answer: sequence number and transmit time. [R325; 16+64; none] -/
  request : Option (Nat × Nat) := none
  /-- Next sequence number of Pdelay_Req, Delay_Req, Sync and Announce. [R325; 16 each; DC 0 (log 4)] -/
  reqSeq : Nat := 0
  syncSeq : Nat := 0
  annSeq : Nat := 0
  /-- The previous response, its send and receive times, for neighborRateRatio. [R325; 2×64; none] -/
  prevResp : Option (Nat × Nat) := none
  /-- neighborRateRatio error, 10⁻⁹. [R336; 32 signed; 0] -/
  ratioErr : Int := 0
  /-- A two-step Sync waiting for its Follow_Up: sequence, receive time, correction. [R324; 16+64+64; none] -/
  twoStep : Option (Nat × Nat × Int) := none
  /-- The last sequence number of a Sync of the parent. [R329; 16; none] -/
  rxSeq : Option Nat := none
  /-- Receive time minus origin and correction of the last Sync, ns (R325). [R325; 64 signed; 0] -/
  syncDiff : Int := 0
  /-- Foreign masters, at most 8. [R327; list; empty] -/
  foreign : List Foreign := []
  deriving DecidableEq, Repr

/-- Servo state (R328). -/
inductive Servo where
  | free | acquire | locked | holdover
  deriving DecidableEq, Repr, Inhabited

/-- The nanosecond clock, the marks, PTP and the 1PPS signals. -/
structure TimeBlk where
  /-- Fraction accumulator [31:0], TIME_NS [63:32], TIME_WRAP [79:64], TIME_EPOCH [95:80]. [R314; 96; 0] -/
  acc : BitVec 96 := 0
  /-- CLK_TIME ticks since reset, the free count. [R239, R314; count; 0] -/
  ticks : Nat := 0
  /-- TIME_INCR: integer ns [39:32] and fraction [31:0]. [R314, R334; 40; 4.0] -/
  incr : BitVec 40 := 17179869184
  /-- The current mark M(s). [R318, R334; 64; 0] -/
  cur : Mark := {}
  /-- The next mark M(s+1). [R318, R334; 64; 0] -/
  next : Mark := {}
  /-- The pending mark M(s+2); PEND_VALID. [R318, R334; 64; none] -/
  pend : Option Mark := none
  /-- Marks placed since reset: the grid runs. [R167; 1; 0] -/
  running : Bool := false
  /-- TIME_MARK_EXTRAP_CNT. [R334; 32; 0] -/
  extrapCnt : Nat := 0
  /-- TIME_MARK_LATE_CNT. [R334; 32; 0] -/
  lateCnt : Nat := 0
  /-- TIME_EVT. [R334; 8; 0] -/
  evt : BitVec 8 := 0
  /-- TIME_EVT_MASK. [R334; 8; 0xFF] -/
  evtMask : BitVec 8 := 255
  /-- TIME_WRAP register: EPOCH and WRAP captured by the last TIME_NS read. [R334; 32; 0] -/
  wrapCap : Nat := 0
  /-- TIME_MARK_CUR_HI to TIME_MARK_SEC as the last TIME_MARK_CUR_LO read captured them. [R334; 6×32; 0] -/
  markCap : List Nat := [0, 0, 0, 0, 0, 0]
  /-- Extended local time of the last accepted PPS_IN edge. [R333, R334; 48; 0] -/
  ppsExt : Nat := 0
  /-- Offset of that edge. [R333, R334; 32 signed; 0] -/
  ppsOfs : Int := 0
  /-- TIME_PPS_WRAP and TIME_PPS_OFS as the last TIME_PPS_NS read captured them. [R334; 2×32; 0] -/
  ppsCap : Nat × Nat := (0, 0)
  /-- An edge has been accepted since reset. [R333; 1; 0] -/
  ppsSeen : Bool := false
  /-- Consecutive edges beyond, and within, the threshold. [R333; 2 each; 0] -/
  ppsBad : Nat := 0
  ppsGood : Nat := 0
  /-- TIME_STATUS.PPS_ALARM. [R334; 1; 0] -/
  ppsAlarm : Bool := false
  /-- PPS_OUT level. [R332; 1; 0] -/
  ppsOut : Bool := false
  /-- Servo state. [R328; 3; FREE] -/
  servo : Servo := .free
  /-- LOCKED has been reached since the reset. [R328; 1; 0] -/
  wasLocked : Bool := false
  /-- Extended local time at which the servo entered its state. [R336; 64; 0] -/
  servoSince : Nat := 0
  /-- Valid Syncs towards ACQUIRE, consecutive Syncs within 1,000 ns and beyond 10,000 ns. [R329; counts; 0] -/
  syncCount : Nat := 0
  goodSyncs : Nat := 0
  badSyncs : Nat := 0
  /-- Extended local time of the last valid Sync, and of the last Announce of the parent. [R329; 64 each; 0] -/
  lastSync : Nat := 0
  lastAnn : Nat := 0
  /-- Increments in force while LOCKED, newest first, each with the time it was set; 600 s of them. [R331; list; empty] -/
  lockedIncr : List (Nat × Nat) := []
  /-- HOLD_EXPIRED. [R334; 1; 0] -/
  holdExpired : Bool := false
  /-- The last valid Sync: its local time and the TAI time it gave, ns, by which marks are placed. [R330; 64+64; none] -/
  sync : Option (Nat × Int) := none
  /-- TIME_OFFSET. [R334; 32 signed; 0] -/
  offset : Int := 0
  /-- TIME_PATH_DELAY. [R334; 32; 0] -/
  pathDelay : Nat := 0
  /-- UTC offset in force. [R334, R506; 16; 37] -/
  utc : Nat := 37
  /-- UTC_VALID. [R334; 1; 0] -/
  utcValid : Bool := false
  /-- LEAP61 and LEAP59. [R334; 1 each; 0] -/
  leap61 : Bool := false
  leap59 : Bool := false
  /-- TIME_GM_ID. [R334; 64; 0] -/
  gmId : Nat := 0
  /-- TIME_GM_INFO: CLASS, PRIO1, STEPS. [R334; 8 each; 0] -/
  gmClass : Nat := 0
  gmPrio1 : Nat := 0
  gmSteps : Nat := 0
  /-- SLAVE_PORT, 0xFF for none. [R334; 8; 0xFF] -/
  slavePort : Nat := 255
  /-- The parent's clock identity. [R329; 64; 0] -/
  parent : Nat := 0
  /-- The marks of the last 86,400 s, newest first. [R321; list; empty] -/
  map : List Mark := []
  /-- A TAI second that TIME_MANUAL_SET has asked for. [R319, R336; 48; none] -/
  manualSec : Option Nat := none
  /-- The PTP ports of P1 to P6. [R323; 6 ports; reset] -/
  ports : Tbl PtpPort := []
  deriving DecidableEq, Repr

/-! ## Host interface (chapter 4) -/

/-- A command that a path holds: the entry, its receipt stamp, the SQ HEAD its fetch left, whether its
effect has started and waits for a later event, and what it has done so far. -/
structure Exec where
  req : Req
  rx : Stamp
  sqHead : Nat
  started : Bool := false
  /-- A reset has cut it off: its completion will not be posted (R102, R122). -/
  cut : Bool := false
  /-- Progress words of a command that waits (a range, a count). -/
  prog : List Nat := []
  deriving DecidableEq, Repr

/-- A completion entry as the module wrote it (R97). `xp` are the bytes written from xp_offset. -/
structure Completion where
  opcode : Nat
  tag : Nat
  status : Nat
  phase : Bool
  sqHead : Nat
  rx : Stamp
  post : Stamp
  resp : Bytes
  xp : Option Bytes
  deriving DecidableEq, Repr

/-- A mailbox channel: the registers of R92 and what the channel holds. -/
structure Chan where
  /-- MB_SQ_BASE, MB_CQ_BASE, MB_XP_BASE. [R92; 64 each; 0] -/
  sqBase : Nat := 0
  cqBase : Nat := 0
  xpBase : Nat := 0
  /-- MB_XP_SIZE.PAGES. [R92; 5; 0] -/
  xpPages : Nat := 0
  /-- MB_CTRL.EN. [R92; 1; 0] -/
  en : Bool := false
  /-- MB_STATUS.ENABLED. [R92; 1; 0] -/
  enabled : Bool := false
  /-- MB_STATUS.TAIL_ERR. [R92; 1; 0] -/
  tailErr : Bool := false
  /-- MB_STATUS.FETCH_ERR. [R92; 1; 0] -/
  fetchErr : Bool := false
  /-- MB_STATUS.IDLE. [R92; 1; 1] -/
  idle : Bool := true
  /-- MB_SQ_TAIL. [R92; 6; 0] -/
  sqTail : Nat := 0
  /-- MB_SQ_HEAD. [R92; 6; 0] -/
  sqHead : Nat := 0
  /-- MB_CQ_HEAD. [R92; 6; 0] -/
  cqHead : Nat := 0
  /-- MB_CQ_TAIL.TAIL. [R92; 6; 0] -/
  cqTail : Nat := 0
  /-- MB_CQ_TAIL.PHASE. [R92; 1; 1] -/
  phase : Bool := true
  /-- Receipt stamps of the doorbells that cover the waiting slots. [R97; per slot; empty] -/
  bells : Tbl Stamp := []
  /-- The command fetched or executing. [R93, R98; one; none] -/
  exec : Option Exec := none
  /-- The last completion written. [R97; 32 bytes; none] -/
  last : Option Completion := none
  /-- The nonce in force: its bytes and when it was issued. [R101; 128+64; none] -/
  nonce : Option (Bytes × Nat) := none
  deriving DecidableEq, Repr

/-- A P7 session (R103, R104): its executing and waiting entries, its nonce and its last reply. -/
structure Session where
  exec : Option Exec := none
  /-- Entries received and not yet executing, oldest first; at most 16 are outstanding. [R104; list; empty] -/
  waiting : List Exec := []
  last : Option Completion := none
  nonce : Option (Bytes × Nat) := none
  /-- When the session was last used. [R103; 64; 0] -/
  lastUse : Nat := 0
  deriving DecidableEq, Repr

/-- An MSI-X table entry of a function with its PBA bit, and the messages sent (R81, R88, R90). -/
structure Msix where
  /-- [R81; 64; PRESUMED 0 (log 6)] -/
  addr : Nat := 0
  /-- [R81; 32; PRESUMED 0 (log 6)] -/
  data : Nat := 0
  /-- [R90; 1; PRESUMED 1 (log 6)] -/
  masked : Bool := true
  /-- [R90; 1; PRESUMED 0 (log 6)] -/
  pba : Bool := false
  /-- Messages sent: the model's own count. [R90; count; 0] -/
  sent : Nat := 0
  deriving DecidableEq, Repr

/-- The host interface. -/
structure HostBlk where
  /-- MB_BAR2_BASE.WINDOW. [R84; 6; 0] -/
  window : Nat := 0
  /-- MB_SCRATCH. [R84; 32; 0] -/
  scratch : Word := 0
  /-- INT_CAUSE. [R89; 16; 0] -/
  cause : BitVec 16 := 0
  /-- INT_MASK. [R89; 16; 0xFFFF] -/
  mask : BitVec 16 := 65535
  /-- INT_DMA_CAUSE. [R89; 32; 0] -/
  dmaCause : Word := 0
  /-- INT_DMA_MASK. [R89; 32; 0xFFFFFFFF] -/
  dmaMask : Word := 4294967295
  /-- MSI-X tables and PBAs of every function, key 64 × function + vector. [R81, R88, R106; entries; reset] -/
  msix : Tbl Msix := []
  /-- Functions whose MSI-X function mask is set. [R90; list; PRESUMED empty (log 6)] -/
  fnMask : List Nat := []
  /-- Mailbox channels: 0 to 3 are MB0 to MB3, 128 + n is the channel of VF n. [R92, R128; channels; reset] -/
  chans : Tbl Chan := []
  /-- The link has trained. [R65, R78; 1; DC 0 (log 5)] -/
  linkUp : Bool := false
  /-- Negotiated speed code and width. [R105; 8 each; DC 0 (log 5)] -/
  speed : Nat := 0
  width : Nat := 0
  /-- Link-downs since reset. [R105; 32; 0] -/
  linkDowns : Nat := 0
  /-- Data of the last register read completion: an observation point of the model. [R3; 32; 0] -/
  rdata : Nat := 0
  /-- Data and poison of the last BAR2 read completion: an observation point. [R85; bytes+1; none] -/
  bar2 : Option (Bytes × Bool) := none
  deriving DecidableEq, Repr

/-! ## Firn (chapter 18) -/

/-- An event offered to Firn: the record of R375 without its crc. -/
structure FirnEv where
  seq : Nat
  /-- Source in [15:8], code in [7:0]. -/
  code : Nat
  stamp : Stamp
  /-- Bytes 0 to 7 of the record. -/
  calendar : Bytes
  boot : Bool
  held : Bool
  calInvalid : Bool
  calFree : Bool
  data : Bytes
  deriving DecidableEq, Repr

/-- A clear in progress (R382): who waits for it, the seq it took, the last seq erased and the key. -/
structure FirnClear where
  path : Option Path
  seq : Nat
  lastSeq : Nat
  keyId : Nat
  erased : Nat
  ev : FirnEv
  deriving DecidableEq, Repr

/-- The event recorder's queue and state. -/
structure FirnBlk where
  /-- Holding queue, oldest first. [R379; 4,096 records; empty] -/
  queue : List FirnEv := []
  /-- Queue maximum since reset. [R384; 16; 0] -/
  qMax : Nat := 0
  /-- discarded. [R379, R384; 32; 0] -/
  discarded : Nat := 0
  /-- First seq lost and number lost while the queue was full. [R379; 2×32; none] -/
  lost : Option (Nat × Nat) := none
  /-- Freeze, with the time it began. [R381; 1+64; none] -/
  frozen : Option Nat := none
  /-- Clear in progress. [R382; record; none] -/
  clear : Option FirnClear := none
  /-- The near-full and full records have been written. [R380; 1 each; 0] -/
  nearFull : Bool := false
  full : Bool := false
  deriving DecidableEq, Repr

/-! ## Key store (chapter 20) -/

/-- A key generation (R418). -/
structure KeyGen where
  gen : Nat
  keyId : Nat
  material : Bytes
  stamp : Stamp
  deriving DecidableEq, Repr

/-- A key slot (R418, R419). -/
structure KeySlot where
  type : Nat
  usage : Nat
  cur : Option KeyGen
  prev : Option KeyGen
  deriving DecidableEq, Repr

/-- An import session (R421): when it was opened, its module nonce and the imports it has served. -/
structure ImportSession where
  since : Nat
  nonce : Bytes
  /-- The draw of the DRBG its ephemeral key came from. -/
  draw : Nat
  uses : Nat := 0
  deriving DecidableEq, Repr

/-- The key store in PD_MGMT. -/
structure SecBlk where
  /-- The derived keys are present. [R417, R498; 1; 0] -/
  derived : Bool := false
  /-- The keys were zeroised since the last reset. [R431; 1; 0] -/
  zeroised : Bool := false
  /-- Imported keys in key-store SRAM; an absent slot is empty. [R418; 256 slots; empty] -/
  slots : Tbl KeySlot := []
  /-- Draws of the DRBG so far: the model's count, which selects the opaque values. [R415; count; 0] -/
  draws : Nat := 0
  /-- ENTROPY_FAIL. [R415; 1; 0] -/
  entropyFail : Bool := false
  /-- Health-test failures in a row. [R415; 2; 0] -/
  healthFails : Nat := 0
  /-- Times of the authorisation failures of the last 60 s, newest first. [R101; list; empty] -/
  authFails : List Nat := []
  /-- When the lock-out began. [R101; 64; none] -/
  lockout : Option Nat := none
  /-- Import sessions by path key. [R421; per path; empty] -/
  sessions : Tbl ImportSession := []
  /-- LOOP_OPEN: the last loop sample read open. [R429, R439; 1; 0] -/
  loopOpen : Bool := false
  /-- Last tamper source and its stamp. [R439; 8+48; 0] -/
  tamperSrc : Nat := 0
  tamperStamp : Stamp := {}
  /-- The secure flags last reported (R437), to see a change. [R437; 8; 0] -/
  secure : Nat := 0
  /-- The root bank in use: 0 A, 1 B. [R414; 1; 0] -/
  rootBank : Nat := 0
  deriving DecidableEq, Repr

/-! ## Always-on domain and flash (chapters 2, 3, 20, 23) -/

/-- The reset-cause latch (R71, R72). -/
structure CauseLatch where
  code : Nat
  stamp : Stamp
  prevState : Nat
  detail : Nat
  deriving DecidableEq, Repr

/-- A record that PD_AO or ROM kept for the next boot (R430, R507): source and code, and data. -/
structure KeptRecord where
  code : Nat
  data : Bytes
  deriving DecidableEq, Repr

/-- An image slot of boot flash (R433, R492): its header if the header sector is valid, its length and
its content by offset. -/
structure Image where
  valid : Bool := false
  svn : Nat := 0
  keyIdx : Nat := 1
  major : Nat := 3
  minor : Nat := 2
  build : Nat := 0
  length : Nat := 0
  digest : Bytes := []
  content : Tbl Bytes := []
  deriving DecidableEq, Repr

/-! ## Timers, counters and their retentive copies (chapter 11) -/

/-- A timer (R239). -/
structure Timer where
  /-- [R239; 32 µs each; 0] -/
  el : Nat := 0
  tLast : Nat := 0
  /-- Previous input, running bit, output. [R239; 1 each; 0] -/
  p : Bool := false
  run : Bool := false
  out : Bool := false
  /-- Preset of its last execution, µs. [R258; 32; 0] -/
  preset : Nat := 0
  deriving DecidableEq, Repr

/-- A counter (R240). -/
structure Counter where
  /-- [R240; 32 signed; 0, or the preset for CTD] -/
  count : Int := 0
  /-- [R240; 32 signed; 0] -/
  preset : Int := 0
  /-- Previous input; none before its first execution. [R240; 1; none] -/
  prev : Option Bool := none
  /-- Done. [R240; 1; 0] -/
  out : Bool := false
  deriving DecidableEq, Repr

/-- A copy of the retentive ranges in the retention RAM (R256), with its sequence word. -/
structure RetCopy where
  seq : Nat
  m : BitVec 32768
  t : Tbl Timer
  c : Tbl Counter
  deriving DecidableEq, Repr

/-- PD_AO: what outlives a reset (R73). The RTC is `RtcBlk`. -/
structure AoBlk where
  /-- Canary words of the retention RAM (R73). [R73; 4×32; DC 0 (log 5)] -/
  canaries : List Nat := [0, 0, 0, 0]
  /-- AO_BOR; its latch powers up set. [R73; 1; 1] -/
  aoBor : Bool := true
  /-- MAIN_BO. [R53, R73; 1; DC 0 (log 5)] -/
  mainBo : Bool := false
  /-- Reset-cause latch. [R71, R73; record; DC none (log 5)] -/
  cause : Option CauseLatch := none
  /-- Ages, in seconds at the last reset, of the counted resets of the last 600 s, newest first. [R69; list; DC empty (log 5)] -/
  counted : List Nat := []
  /-- The cause latch belongs to a reset that the next boot has not yet seen. [R71; 1; 0] -/
  causeNew : Bool := false
  /-- Next Firn sequence number. [R377; 32; DC 0 (log 5)] -/
  firnSeq : Nat := 0
  /-- tamper_en; reads 1 after retention is lost. [R429; 1; 1] -/
  tamperEn : Bool := true
  /-- TAMP_AO. [R430; 1; DC 0 (log 5)] -/
  tampAo : Bool := false
  /-- tamper_count. [R430; 32; DC 0 (log 5)] -/
  tamperCount : Nat := 0
  /-- Imported keys in retention RAM. [R425; 256 slots; DC empty (log 5)] -/
  keys : Tbl KeySlot := []
  /-- The draw of the DRBG that is the PD_AO mask; none when cleared. [R425, R426; 256; DC none (log 5)] -/
  keyMask : Option Nat := none
  /-- Records kept for the next boot (R430, R507). [R507; list; DC empty (log 5)] -/
  kept : List KeptRecord := []
  /-- Complete retentive copies of the logic engine, newest first; at most two. [R256; 2 copies; DC none (log 5)] -/
  retLogic : List RetCopy := []
  /-- The source of PD_AO: 0 slot +3.3 V, 1 3.3 Vaux, 2 cell. [R54; 2; DC 0 (log 5)] -/
  supply : Nat := 0
  deriving DecidableEq, Repr

/-- Module-level state and what MB_STATE reports (R62, R84). -/
structure ModBlk where
  /-- STATE: 0 BOOT, 1 CONFIGURE, 2 OPERATE, 3 MAINTAIN, 4 FAILSAFE. [R62, R84; 3; 0] -/
  state : Nat := 0
  /-- ROLE: 0 ACTIVE, 1 STANDBY, 2 ISOLATED. [R84, R468; 2; 2] -/
  role : Nat := 2
  /-- BRIDLE: this unit holds the Bridle. [R84; 1; 0] -/
  bridle : Bool := false
  /-- TEMP_WARN. [R26, R84; 1; 0] -/
  tempWarn : Bool := false
  /-- CELL_LOW. [R56, R84; 1; 0] -/
  cellLow : Bool := false
  /-- RET_LOST. [R74, R84; 1; 0] -/
  retLost : Bool := false
  /-- SLOT: the image booted. [R84; 1; 0] -/
  slot : Nat := 0
  /-- FALLBACK. [R84; 1; 0] -/
  fallback : Bool := false
  /-- REFCLK_SEP. [R80, R84; 1; 0] -/
  refclkSep : Bool := false
  /-- AUX12_LOST. [R20, R84; 1; 0] -/
  aux12Lost : Bool := false
  /-- AUX12: J2 present at the BOOT sample. [R20, R84; 1; 0] -/
  aux12 : Bool := false
  /-- SLOT_CAP: the cap of R10. [R10, R84; 1; 0] -/
  slotCap : Bool := false
  /-- MB_RSTCAUSE. [R84; 16; Latch: DC 0 (log 5)] -/
  rstCause : Nat := 0
  /-- The reset-cause record of R72 that this boot made. [R72; 32 bytes; DC zeros (log 5)] -/
  causeRecord : Bytes := []
  /-- Restart kind of this boot: 0 warm, 1 cold, 2 cold forced. [R72, R76; 8; DC 0 (log 5)] -/
  restart : Nat := 0
  /-- Why FAILSAFE was entered: 0 not in it, 1 no valid image, 2 tamper found by ROM, 3 ROOT_FAIL,
  4 tamper, 5 DRAM training, 6 boot loop. [R63, R504; 3; 0] -/
  failReason : Nat := 0
  /-- A reset a command has asked for, due 10 ms after its completion. [R77, R432; cause; none] -/
  resetReq : Option ResetCause := none
  /-- When that reset is due, extended local time. [R77, R432; 64; 0] -/
  resetAt : Nat := 0
  /-- P7 sessions to be closed 100 ms after a completion (MGMT_TLS_CFG, PORT_IP_CFG): the due time. [R105; 64; none] -/
  p7Close : Option Nat := none
  /-- P7 address that applies when they are closed. [R293; 96; none] -/
  ipNew : Option Bytes := none
  deriving DecidableEq, Repr

/-- How far the power sequences have come (R50, R51, R53). -/
inductive PowerPhase where
  /-- Slot power absent or below its thresholds. -/
  | off
  /-- Powering up; the step of R50 that waits for power-good. -/
  | up (step : Nat)
  /-- Every domain but PD_ACQ is on. -/
  | run
  /-- The power-fail sequence of R53: the next step, whether a module reset started it, and whether a supply has
  failed. -/
  | down (step : Nat) (byReset lost : Bool)
  /-- A module reset has switched every domain off; the power-up sequence follows. -/
  | reset
  /-- A failed sequence waits for its retry of R51. -/
  | failed
  /-- The retry failed too: off until slot power is removed and restored. -/
  | locked
  deriving DecidableEq, Repr, Inhabited

/-- Supplies, domains and sensors (R26, R39, R44, R47 to R53). -/
structure PowerBlk where
  /-- Domains switched on and good. [R49, R50; list; all but PD_ACQ (log 5)] -/
  on : List Domain := [.ao, .safe, .mgmt, .mem, .host, .sw, .neta, .netb, .dsp, .logic]
  /-- The domains of the running power-up step not yet good. [R50; list; empty] -/
  waiting : List Domain := []
  /-- [R50, R51, R53; phase; run (log 5)] -/
  phase : PowerPhase := .run
  /-- The one retry of R51 has been made. [R51; 1; 0] -/
  retried : Bool := false
  /-- When the power-fail sequence began, extended local time. [R53; 64; 0] -/
  downAt : Nat := 0
  /-- Held in reset by a THERMAL reset until every sensor is below 95 °C. [R26; 1; 0] -/
  hot : Bool := false
  /-- The load switch chose J2 at the power-up start, and J2 is still good. [R48; 1; DC 0 (log 5)] -/
  j2Chosen : Bool := false
  /-- J2 has read 11.0 V or more for 50 ms. [R48; 1; DC 0 (log 5)] -/
  j2Good : Bool := false
  /-- The converters draw from J2. [R48; 1; DC 0 (log 5)] -/
  onJ2 : Bool := false
  /-- Seal switches SW1 positions 1 to 4, debounced. [R44; 4; DC all OFF (log 5)] -/
  seals : List Bool := [false, false, false, false]
  /-- PRES_IN reads low: a pairing cable is connected. [R41; 1; DC 0 (log 5)] -/
  cable : Bool := false
  /-- MAINS_ABSENT. [R39; 1; DC 1 (log 5)] -/
  mainsAbsent : Bool := true
  /-- Last cell measurement, mV. [R56; 16; DC 0 (log 5)] -/
  cellMv : Nat := 0
  /-- When the cell was last measured, and whether an insertion waits for a measurement. [R56; 64+1; 0] -/
  cellAt : Nat := 0
  cellDue : Bool := false
  deriving DecidableEq, Repr

/-- An armed injection (R484, R485). -/
structure Injection where
  code : Nat
  obj : Nat
  sub : Nat
  force : Bool
  /-- Remaining occurrences, or milliseconds. -/
  remaining : Nat
  value : Int
  armed : Stamp
  lastApplied : Stamp
  /-- End of a duration in extended local time, none for a count. -/
  until_ : Option Nat
  /-- The path that armed it. -/
  path : Path
  deriving DecidableEq, Repr

/-- A running maintenance activity (R490) with its path, start and DRAM range or object. -/
structure Activity where
  code : Nat
  path : Option Path
  start : Stamp
  lo : Nat := 0
  hi : Nat := 0
  deriving DecidableEq, Repr

/-- Diagnostics (chapter 23). -/
structure DiagBlk where
  /-- Armed injections. [R484; list; empty] -/
  inj : List Injection := []
  /-- Running activities. [R490; list; empty] -/
  acts : List Activity := []
  /-- FW_INSTALL in progress: the slot and the length. [R492; 1+32; none] -/
  install : Option (Nat × Nat) := none
  deriving DecidableEq, Repr

/-- Boot flash, the Firn flash and the fuses: what every loss of power leaves. -/
structure FlashBlk where
  /-- Boot selector: preferred slot and TRIAL. [R66, R493; 1+1; DC A, 0 (log 5)] -/
  preferred : Nat := 0
  trial : Bool := false
  /-- Image slots A and B. [R433, R492; 2×16 MiB; DC A the factory image, B empty (log 5)] -/
  imageA : Image := { valid := true, digest := zeros 32 }
  imageB : Image := {}
  /-- boot_count. [R72; 32; DC 0 (log 5)] -/
  bootCount : Nat := 0
  /-- tamper_count as boot flash keeps it. [R430; 32; DC 0 (log 5)] -/
  tamperCount : Nat := 0
  /-- A Firn clear in progress: the seq it took and the last seq. [R382; 2×32; DC none (log 5)] -/
  clearMark : Option (Nat × Nat) := none
  /-- Firn records, newest first. [R374; 262,144 slots; DC empty (log 5)] -/
  firn : List Bytes := []
  /-- The safety island's stored configuration. [R409; blob; DC none (log 5)] -/
  safeCfg : Option Bytes := none
  /-- Debug fuse. [R436; 1; DC 0 (log 5)] -/
  debugFuse : Bool := false
  /-- Anti-rollback counter. [R435; 64 fuses; DC 0 (log 5)] -/
  rollback : Nat := 0
  /-- Key 1 revoked. [R434; 1; DC 0 (log 5)] -/
  key1Revoked : Bool := false
  /-- Root banks A and B: done fuse blown; abandoned. [R413, R414; 2+2; DC A done (log 5)] -/
  rootA : Bool := true
  /-- The root secrets fused into the banks. [R412, R413; 2×256; DC zeros (log 5)] -/
  rootASecret : Bytes := zeros 32
  rootBSecret : Bytes := zeros 32
  rootAAbandoned : Bool := false
  rootB : Bool := false
  rootBAbandoned : Bool := false
  deriving DecidableEq, Repr

/-! ## Real-time clock (chapter 16) -/

/-- The calendar counters of the RTC (R337), and their shadows (R342). -/
structure Calendar where
  year : Nat := 0
  month : Nat := 1
  day : Nat := 1
  hour : Nat := 0
  min : Nat := 0
  sec : Nat := 0
  wday : Nat := 0
  deriving DecidableEq, Repr

/-- A running trim window (R346): 1 PTP or 2 mains, when it opened and its length W in seconds. -/
structure TrimWindow where
  src : Nat
  opened : Nat
  w : Nat
  deriving DecidableEq, Repr

/-- The RTC in PD_AO. -/
structure RtcBlk where
  /-- Live counters. [R337, R343; 8+4+5+5+6+6+3; 2000-01-01 00:00:00, wday 0] -/
  cal : Calendar := {}
  /-- Extended local time at which the running RTC second began. [R338; 64; 0] -/
  secStart : Nat := 0
  /-- Periods of the running RTC second. [R338; 16; 32,768] -/
  len : Nat := 32768
  /-- RTC_TRIM. [R338, R343; 32 signed; 0] -/
  trim : Int := 0
  /-- Trim accumulator. [R338; 24; DC 0 (log 5)] -/
  acc : Int := 0
  /-- Shadows: the counters and subsec. [R342; 51; DC 0 (log 5)] -/
  shadow : Calendar := {}
  shadowSub : Nat := 0
  /-- FROZEN. [R348; 1; 0] -/
  frozen : Bool := false
  /-- RTC_STATUS.RTC_INVALID. [R343, R348; 1; DC 0 (log 5)] -/
  invalid : Bool := false
  /-- TRIM_LIMIT. [R348; 1; DC 0 (log 5)] -/
  trimLimit : Bool := false
  /-- ALIGNED. [R348; 1; 0] -/
  aligned : Bool := false
  /-- RTC_ALIGN_ERR, µs. [R348; 32 signed; 0] -/
  alignErr : Int := 0
  /-- RTC_EVT. [R348; 6; 0] -/
  evt : BitVec 6 := 0
  /-- RTC_EVT_MASK. [R348; 6; 0x3F] -/
  evtMask : BitVec 6 := 63
  /-- The running measurement window. [R346; record; none] -/
  window : Option TrimWindow := none
  /-- Loads that RTC_SET has asked for, oldest first: parameter bytes 0 to 7, acceptance time, and the path that waits. [R344; list; empty] -/
  loads : List (Bytes × Nat × Path) := []
  /-- An alignment load due at the next mark. [R345; 1; 0] -/
  alignDue : Bool := false
  /-- A TRIM produced and not yet applied, with the time it was produced. [R347; 32+64; none] -/
  newTrim : Option (Int × Nat) := none
  /-- An RTC_CFG that waits for the RTC second at which it applies: path, acceptance time, parameters. [R350; record; none] -/
  cfgNew : Option (Path × Nat × Bytes) := none
  /-- Marks since LOCKED was entered. [R345; count; 0] -/
  marksLocked : Nat := 0
  deriving DecidableEq, Repr

/-! ## Stored configuration -/

/-- The defaults of TIME_CFG (R336). -/
def timeCfgDefault : Bytes :=
  [0, 2, 0, 15, 255, 255, 1, 0, 0, 0, 16, 14, 1, 0, 100, 0] ++ [232, 3, 0, 0, 37, 0] ++ zeros 26

/-- The defaults of RTC_CFG (R350). -/
def rtcCfgDefault : Bytes := [3, 1, 50, 7, 0, 16, 0, 0, 0, 0, 0, 0]

/-- RED_CFG where none has been given: single, REVERT, and the defaults of R483 (mode and the identity fields:
DESIGN CHOICE, log 5). -/
def redCfgDefault : Bytes := [0, 0, 2, 1, 1, 0, 60, 0, 208, 7, 15, 0]

/-- The default class records of R313: class 7 reserve 1,024 cells, class 6 512. -/
def classDefault : Bytes :=
  (List.range 8).flatMap (fun c =>
    leBytes 2 (if c = 7 then 1024 else if c = 6 then 512 else 0) ++ leBytes 1 (if 5 ≤ c then 16 else 8) ++
      leBytes 1 (if 5 ≤ c then 1 else 0) ++
      leBytes 4 (if c = 7 then 1000 else if 5 ≤ c then 10000 else 50000) ++ zeros 8)

/-- The tables that TBL_COMMIT replaces in one step (R154, R164). Records are kept as the bytes the
commands carry; an absent record is free, or its default. -/
structure Tables where
  /-- Port records by port 0 to 7. [R293; 8×64 bytes; defaults] -/
  ports : Tbl Bytes := []
  /-- Filter records by 16 × port + filter. [R286; 112×32 bytes; free] -/
  filters : Tbl Bytes := []
  /-- age_time, learn mask, cut-through mask. [R313; 32+7+7; 300 s, 0x7F, 0x7F] -/
  sw : Bytes := [44, 1, 0, 0, 127, 127]
  /-- Class records. [R313; 8×16 bytes; defaults] -/
  classes : Bytes := classDefault
  /-- PCP maps by port 0 to 6. [R298, R313; 7×8; identity] -/
  pcp : Tbl Bytes := []
  /-- VLAN records by VID. [R313; 4 bytes each; VLAN 1: P1 to P7, both flood flags] -/
  vlans : Tbl Bytes := [(1, [1, 0, 127, 7])]
  /-- Static FDB entries by MAC × 4,096 + VID. [R311, R313; 16 bytes each; none] -/
  fdb : Tbl Bytes := []
  /-- SV entries by stream. [R149, R150; 2,048×128 bytes; free] -/
  sv : Tbl Bytes := []
  /-- GOOSE subscriptions by index 2,048 to 4,095. [R149, R222; 2,048×128 bytes; free] -/
  subs : Tbl Bytes := []
  /-- Publications. [R214; 256×384 bytes; free] -/
  pubs : Tbl Bytes := []
  /-- Trip bindings: function × 16 + slot to publication. [R218, R232; 2,032×8; none] -/
  binds : Tbl Nat := []
  /-- BRIO station records. [R271; 8×32 bytes; free] -/
  stations : Tbl Bytes := []
  deriving DecidableEq, Repr

/-- A phasor profile (R190): cyc 0 half, 1 one, 2 two cycles; shape 1 Hann; path 1 coarse; bin orders. -/
structure PhProfile where
  cyc : Nat := 1
  shape : Nat := 0
  path : Nat := 0
  orders : List Nat := [1]
  deriving DecidableEq, Repr

/-- A frequency bus's settings (R189, R213). -/
structure PhBus where
  track : Bool := false
  fNom : Nat := 50
  triple : Bool := false
  ref : Nat := 0
  cycles : Nat := 5
  minMag : Nat := 0
  deriving DecidableEq, Repr

/-- A valid sequence triple (R189, R197). -/
structure PhTriple where
  a : Nat
  b : Nat
  c : Nat
  acb : Bool
  deriving DecidableEq, Repr

/-- The phasor engine's objects (R189). -/
structure PhCfg where
  /-- Output decimation P. [R189; 7; 8] -/
  p : Nat := 8
  /-- Profiles; an absent one is unused. [R189; 64; profile 0 one cycle, rectangular, fine, bin 1] -/
  profiles : Tbl PhProfile := [(0, {})]
  /-- Channel map: profile and bus; an absent channel has none. [R189; 16,384; 0xFF, 0] -/
  map : Tbl (Nat × Nat) := []
  /-- Buses. [R189; 64; 50 Hz, tracking off, rocof_cycles 5] -/
  buses : Tbl PhBus := []
  /-- Valid triples. [R189; 4,096; none] -/
  triples : Tbl PhTriple := []
  deriving DecidableEq, Repr

/-- Settings that the configuration commands store. The module runs with one copy; boot flash holds
another, which every boot loads (R76). -/
structure Cfg where
  /-- A configuration has been committed (R77). [R77; 1; 0] -/
  committed : Bool := false
  /-- refclk_mode, highest speed and width. [R80, R105; 8 each; 0, DC 5 (log 5), DC 8 (log 5)] -/
  refclk : Nat := 0
  maxSpeed : Nat := 5
  maxWidth : Nat := 8
  /-- P7 service on, idle timeout (s), key_id of the operator CA. [R105; 8+16+32; DC 0, 600, 0 (log 5)] -/
  p7On : Bool := false
  p7Idle : Nat := 600
  p7Ca : Nat := 0
  /-- TIME_CFG parameters. [R336; 48 bytes; the defaults] -/
  time : Bytes := timeCfgDefault
  /-- RTC_CFG parameters. [R350; 12 bytes; the defaults] -/
  rtc : Bytes := rtcCfgDefault
  /-- The committed tables (R154; stored with the configuration, log 16). [R154; record; the defaults] -/
  tables : Tables := {}
  /-- ALN_CFG parameters (log 16). [R188; 12 bytes; the defaults] -/
  aln : Bytes := [1, 0, 200, 0, 208, 7, 100, 0, 8, 0, 0, 0]
  /-- Phasor objects. [R189; record; the defaults] -/
  ph : PhCfg := {}
  /-- Guard element records; an absent one is OFF. [R212; 4,096×128 bytes; DC none (log 5)] -/
  grd : Tbl Bytes := []
  /-- autostart. [R68; 1; DC 0 (log 5)] -/
  autostart : Bool := false
  /-- LOG_CFG: period, start, stop and restart modes. [R258; 8 bytes; 1,000 µs, 1, 0, 0] -/
  logCfg : Bytes := [232, 3, 0, 0, 1, 0, 0, 0]
  /-- The stored logic program, as its image. [R252; 262,208 bytes; DC none (log 5)] -/
  logProg : Option Bytes := none
  /-- BRIO_SEG_CFG: mode, out_wd, segment_id. [R272; 4 bytes; 0, 20, DC 0 (log 5)] -/
  brioSeg : Bytes := [0, 20, 0, 0]
  /-- PORT_IP_CFG: address, prefix, gateway. [R293; 12 bytes; DC 0 (log 5)] -/
  ip : Bytes := zeros 12
  /-- RED_CFG. [R483; 12 bytes; DC mode 0, A, pair_id 1; the defaults (log 5)] -/
  red : Bytes := redCfgDefault
  /-- tamper_en as flash keeps it. [R439; 1; 1] -/
  tamperEn : Bool := true
  deriving DecidableEq, Repr

/-! ## Virtual functions (chapter 5) -/

/-- A queue pair of a function (R108, R110, R129). Slab bindings and slab positions are in the blocks
that fill them. -/
structure Queue where
  /-- kind: frame or slab. [R110; 1; DC frame (log 5)] -/
  slab : Bool := false
  /-- rx vector, tx vector. [R129; 8 each; DC 1, 0 (log 5)] -/
  rxVec : Nat := 1
  txVec : Nat := 0
  /-- Ring sizes. [R110; 13 each; DC 64 (log 5)] -/
  rxSize : Nat := 64
  txSize : Nat := 64
  /-- Ring addresses. [R129; 64 each; DC 0 (log 5)] -/
  rxBase : Nat := 0
  txBase : Nat := 0
  /-- Class mask. [R115; 8; DC 0 (log 5)] -/
  classes : Nat := 0
  /-- Interrupt interval, µs. [R129; 16; DC 0 (log 5)] -/
  interval : Nat := 0
  /-- VF_RXQ_TAIL, VF_RXQ_HEAD, VF_TXQ_TAIL, VF_TXQ_HEAD. [R108; 12 each; 0] -/
  rxTail : Nat := 0
  rxHead : Nat := 0
  txTail : Nat := 0
  txHead : Nat := 0
  /-- VF_Q_STATUS: TAIL_ERR, TX_EVT, RX_EVT, RX_NOBUF, FETCH_ERR, TX_EN, RX_EN. [R108; 1 each; 0] -/
  tailErr : Bool := false
  txEvt : Bool := false
  rxEvt : Bool := false
  noBuf : Bool := false
  fetchErr : Bool := false
  txEn : Bool := false
  rxEn : Bool := false
  /-- Receive write-backs, newest first, of the last delivery; an observation point. [R111; list; empty] -/
  rxBack : List Bytes := []
  /-- Bytes and poison of a transmit frame whose EOP descriptor has not been fetched. [R112; 16+1; 0] -/
  txPart : Nat := 0
  txPoison : Bool := false
  /-- Posted bytes of EOP descriptors that wait for their transmit stamp, by index. [R112; list; empty] -/
  txTs : Tbl Bytes := []
  /-- The last transmit write-back; an observation point. [R112; 32 bytes; none] -/
  txBack : Option Bytes := none
  deriving DecidableEq, Repr

/-- A frame staged for a function (R115): the frame, its receive stamp, ingress port and info word. -/
structure Staged where
  frame : Frame
  rx : Stamp
  src : Nat
  info : Nat
  /-- The queue R115 chose. -/
  queue : Nat
  /-- Traffic class, and the buffer entry that holds its cells (R301). -/
  cls : Nat
  fid : Nat
  deriving DecidableEq, Repr

/-- Dirty logging of a function (R126): the range and the dirty pages, rising. -/
structure Dirty where
  base : Nat
  len : Nat
  pages : List Nat := []
  deriving DecidableEq, Repr

/-- A function: the PF is function 0 (R106). -/
structure Fn where
  /-- Queue pairs assigned. [R109, R110; 7; 0] -/
  qp : Nat := 0
  /-- MAC address. [R113; 48; DC 0 (log 5)] -/
  mac : Nat := 0
  /-- VLAN, 0 untagged. [R130; 12; DC 0 (log 5)] -/
  vlan : Nat := 0
  /-- Staging limit, cells. [R130; 13; DC 16 (log 5)] -/
  limit : Nat := 16
  /-- Weight, and the weight that the next round takes. [R120, R121; 10 each; 10] -/
  weight : Nat := 10
  newWeight : Option Nat := none
  /-- VF_STATE.FROZEN. [R109; 1; 0] -/
  frozen : Bool := false
  /-- Stamp of the freeze and frames discarded at it. [R123, R124; 48+32; 0] -/
  freezeStamp : Stamp := {}
  freezeDrops : Nat := 0
  /-- VF_INT_CAUSE. [R109; 3; 0] -/
  cause : BitVec 3 := 0
  /-- VF_INT_MASK. [R109; 3; 7] -/
  mask : BitVec 3 := 7
  /-- VF_TRIP_STAT.REJECTS. [R109; 16; 0] -/
  rejects : Nat := 0
  /-- VF_TRIP_STAT.STATE. [R109; 16; 0] -/
  trip : BitVec 16 := 0
  /-- rx_drop, rx_nobuf, rx_noq. [R129; 32 each; 0] -/
  rxDrop : Nat := 0
  rxNobuf : Nat := 0
  rxNoq : Nat := 0
  /-- Queue pairs by index. [R108; 64; reset] -/
  queues : Tbl Queue := []
  /-- Staging queue, oldest first. [R115; frames; empty] -/
  staged : List Staged := []
  /-- Round-robin position of the transmit fetch. [R113; 6; DC 0 (log 4)] -/
  txNext : Nat := 0
  /-- Dirty logging. [R126; record; none] -/
  dirty : Option Dirty := none
  /-- Destination and pages of the last bitmap copied to the host (R127); an observation point. [R127; list; none] -/
  dirtyCopy : Option (Nat × List Nat) := none
  deriving DecidableEq, Repr

/-- The VF layer's scheduler (R120). -/
structure SchedBlk where
  /-- Extended local time at which the running round began. [R120; 64; 0] -/
  round : Nat := 0
  /-- Bytes each function may still write this round; bytes charged to the next one are negative. [R120; per function; 0] -/
  quota : Tbl Int := []
  /-- Slab bytes written in the running round. [R120; 32; 0] -/
  slabBytes : Nat := 0
  /-- Paths of VF_SHARE_SET that wait for the round start. [R121; list; empty] -/
  waiters : List Path := []
  deriving DecidableEq, Repr

/-! ## DMA (chapter 6) -/

/-- The descriptor a channel runs (R136, R142): its index, posted bytes, the bytes moved so far, the
bytes waiting in the burst buffer and whether any data carried poison. -/
structure DmaRun where
  idx : Nat
  desc : Bytes
  /-- Bytes written to the destination. -/
  moved : Nat := 0
  /-- Burst buffer: bytes with their poison, waiting to be written. -/
  buffer : List (Byte × Bool) := []
  poison : Bool := false
  /-- An ABORT waits for the end of this burst. -/
  aborting : Bool := false
  deriving DecidableEq, Repr

/-- A DMA channel: the registers of R146 and what the channel holds. -/
structure DmaChan where
  /-- DMA_RING. [R146; 52; 0] -/
  ring : Nat := 0
  /-- RING_LOG2. [R146; 4; 4] -/
  log2 : Nat := 4
  /-- Active BURST and PRIO. [R146; 3+2; 6, 0] -/
  burst : Nat := 6
  prio : Nat := 0
  /-- EN. [R146; 1; 0] -/
  en : Bool := false
  /-- DMA_STATUS: TAIL_ERR, SH_PEND, ERR_STOP, DESC_ERR, ABORT_DONE, SH_EVT, DESC_DONE, POISON_SEEN. [R146; 1 each; 0] -/
  tailErr : Bool := false
  shPend : Bool := false
  errStop : Bool := false
  descErr : Bool := false
  abortDone : Bool := false
  shEvt : Bool := false
  descDone : Bool := false
  poisonSeen : Bool := false
  /-- The ARM that set SH_PEND came too late for the descriptor that is ending (R141). [R141; 1; 0] -/
  shLate : Bool := false
  /-- DMA_TAIL, DMA_HEAD. [R146; 12 each; 0] -/
  tail : Nat := 0
  head : Nat := 0
  /-- DMA_SH_CFG. [R146; 3+2; 6, 0] -/
  shBurst : Nat := 6
  shPrio : Nat := 0
  /-- DMA_SH_TAKEN: COUNT, AT_IDLE, IDX. [R146; 16+1+12; 0] -/
  takenCount : Nat := 0
  takenIdle : Bool := false
  takenIdx : Nat := 0
  /-- DMA_RESIDUE. [R146; 32; 0] -/
  residue : Nat := 0
  /-- DMA_ERR: CODE, IDX. [R146; 8+12; 0] -/
  errCode : Nat := 0
  errIdx : Nat := 0
  /-- DMA_DONE_CNT. [R146; 32; 0] -/
  doneCnt : Nat := 0
  /-- Prefetched descriptors, oldest first, from slot HEAD on; at most 8. [R135; 8; empty] -/
  fetched : List Bytes := []
  /-- The active descriptor. [R142; record; none] -/
  run : Option DmaRun := none
  /-- No further descriptor starts: an ABORT found the channel between descriptors or at a last beat. [R145; 1; 0] -/
  stopping : Bool := false
  /-- The last write-back; an observation point. [R136; 32 bytes; none] -/
  back : Option Bytes := none
  deriving DecidableEq, Repr

/-- The engine. -/
structure DmaBlk where
  /-- Channels 0 to 31. [R131; 32; reset] -/
  chans : Tbl DmaChan := []
  /-- The channel that had the last beat, for the round-robin. [R133; 5; DC 31 (log 4)] -/
  last : Nat := 31
  /-- The bytes last written to host memory, with the address and poison: an observation point. [R138; —; none] -/
  hostOut : Option (Nat × Bytes × Bool) := none
  deriving DecidableEq, Repr

/-! ## Ports and switch core (chapters 13 and 14) -/

/-- Where a copy in the switch core comes from, beyond its ingress code (R294, R298). -/
inductive Origin where
  /-- A frame received on a port. -/
  | fwd
  /-- A function's transmit frame: function, queue, ring index and whether it asked for a stamp (R112). -/
  | fn (n q idx : Nat) (tsReq : Bool)
  /-- A publication's frame: publication and, for a change, its trip-log entry number (R219, R226). -/
  | pub (p : Nat) (log : Option Nat)
  /-- PTP frame of the module, with its ingress time where it is forwarded (R324). -/
  | ptp
  | heartbeat
  | longe (k : Nat)
  deriving DecidableEq, Repr

/-- A copy of a frame that waits at an egress port (R301, R307). -/
structure Copy where
  fid : Nat
  port : Nat
  cls : Nat
  /-- Ingress code 0 to 6, 10 HOST, 11 MOD. -/
  src : Nat
  num : Nat
  /-- Entry stamp, extended local time (R305). -/
  entry : Nat
  frame : Frame
  vid : Nat
  pcp : Nat
  /-- Length without a tag. -/
  base : Nat
  cells : Nat
  /-- Being cut through: never evicted (R303, R306). -/
  cut : Bool
  origin : Origin
  deriving DecidableEq, Repr

/-- A frame as its port last sent it: an observation point of the model. -/
structure TxFrame where
  frame : Frame
  cls : Nat
  len : Nat
  tagged : Bool
  stomped : Bool
  marked : Bool
  stamp : Stamp
  origin : Origin
  deriving DecidableEq, Repr

/-- A port (R273 to R276, R288, R289, R293) by code: 0 to 7 P1 to P8, 8 PL1, 9 PL2. -/
structure Port where
  /-- [R275; 1; 0] -/
  up : Bool := false
  /-- Stamp of the last link change. [R293; 48; 0] -/
  change : Stamp := {}
  /-- Speed in force while up: 1 one, 2 ten, 3 twenty-five Gbit/s, 4 ten Mbit/s. [R293; 8; 0] -/
  speed : Nat := 0
  /-- FEC in force. [R293; 8; 0] -/
  fec : Nat := 0
  /-- A transceiver is present. [R276; 1; 0] -/
  present : Bool := false
  /-- Identification data read from 0xA0 and 0xA2; none where it did not answer. [R276; 512 bytes; none] -/
  id : Option Bytes := none
  /-- 0xA2 bytes of the last diagnostics poll. [R276; 256 bytes; none] -/
  diag : Option Bytes := none
  /-- Power fault: cage switched off after over-current. [R30, R293; 1; 0] -/
  powerFault : Bool := false
  /-- TX_FAULT reads asserted, TX_DISABLE has been pulsed, and the port is held down for it. [R276; 1 each; 0] -/
  txFault : Bool := false
  txPulsed : Bool := false
  txHeld : Bool := false
  /-- Due times, extended local time: the TX_FAULT check, the diagnostics poll, the relock attempt, the verify mPacket. [R275, R276, R289; 4×64; 0] -/
  txDue : Nat := 0
  pollDue : Nat := 0
  relockDue : Nat := 0
  peDue : Nat := 0
  /-- LOS. [R275, R293; 1; 0] -/
  los : Bool := false
  /-- Lane PLL unlocked. [R275, R293; 1; 0] -/
  pllUnlocked : Bool := false
  /-- Pre-emption active, verification failed, verify mPackets sent since link up. [R289; 1+1+2; 0] -/
  peActive : Bool := false
  peFailed : Bool := false
  peSent : Nat := 0
  /-- End of the pause in force, extended local time. [R288; 64; 0] -/
  pauseUntil : Nat := 0
  /-- End of the frame being sent, its class and whether it has been pre-empted. [R299; 64+3+1; 0] -/
  busyUntil : Nat := 0
  txCls : Nat := 0
  preempted : Bool := false
  /-- Class-7 frame starts of the last 100 µs, newest first: time and bytes. [R230; list; empty] -/
  c7 : List (Nat × Nat) := []
  /-- Load excursions, burst excursions, G2 exceedances; pause seen. [R230, R231, R232; 3×32+1; 0] -/
  loadExc : Nat := 0
  burstExc : Nat := 0
  g2Exc : Nat := 0
  pauseSeen : Bool := false
  /-- The last frame sent; an observation point. [R281; —; none] -/
  last : Option TxFrame := none
  deriving DecidableEq, Repr

/-- Ports. -/
structure PortsBlk where
  /-- Ports by code. [R273; 10; reset] -/
  port : Tbl Port := []
  /-- Port counters, key 64 × block + register. [R292; 32 each; 0] -/
  counters : Tbl Nat := []
  /-- Half masks: counters of a block that have reached bit 31 since the mask was last read. [R291; 64 each; 0] -/
  half : Tbl Nat := []
  deriving DecidableEq, Repr

/-- A frame in the shared buffer (R301, R302): its cells, the part they come from (0 the pool, c + 1 the
reserve of class c) and the copies that hold it. -/
structure BufEntry where
  cells : Nat
  part : Nat
  copies : Nat
  deriving DecidableEq, Repr

/-- A numbering sequence of R307: the number the next copy takes, the number the egress releases next and
the numbers it has been told to skip. -/
structure SeqNo where
  next : Nat := 0
  expect : Nat := 0
  skipped : List Nat := []
  deriving DecidableEq, Repr

/-- An FDB entry (R308, R313). -/
structure FdbEntry where
  mac : Nat
  vid : Nat
  dest : Nat
  static : Bool
  drop : Bool
  age : Nat
  deriving DecidableEq, Repr

/-- The switch core. -/
structure SwBlk where
  /-- Frames in the buffer by number; the number the next frame takes. [R301; 65,536 cells; empty] -/
  bufs : Tbl BufEntry := []
  nextFid : Nat := 0
  /-- Copies waiting at the egress ports, in arrival order. [R299, R307; list; empty] -/
  queue : List Copy := []
  /-- Sequences by (source × 8 + class) × 8 + egress. [R307; 16 each; DC 0 (log 4)] -/
  seqs : Tbl SeqNo := []
  /-- Plane that the next frame of classes 0 to 6 takes. [R295; 2; DC 0 (log 4)] -/
  plane : Nat := 0
  /-- FDB by bucket × 4 + way. [R308; 32,768 entries; empty] -/
  fdb : Tbl FdbEntry := []
  /-- Instant of the last sweep, extended local time. [R310; 64; 0] -/
  sweep : Nat := 0
  /-- learn_full, moves, sa_violation, reseq_timeout. [R313; 32 each; 0] -/
  learnFull : Nat := 0
  moves : Nat := 0
  saViolation : Nat := 0
  reseqTimeout : Nat := 0
  /-- PRP sequence numbers of the frames the module sends on a pair. [R215; 16 each; DC 0 (log 4)] -/
  prpSeq : Tbl Nat := []
  deriving DecidableEq, Repr

/-! ## Memory and ECC (chapter 21) -/

/-- An entry of the merge buffer (R443): a 64-byte line with the bytes written, the words a poisoned
write touched, and when it was last written. -/
structure MergeLine where
  line : Nat
  bytes : Tbl Byte := []
  poisoned : List Nat := []
  touched : Nat := 0
  deriving DecidableEq, Repr

/-- An entry of the error log (R451). -/
structure EccLog where
  stamp : Stamp
  kind : Nat
  source : Nat
  address : Nat
  syndrome : Nat
  bit : Nat
  rewritten : Bool := false
  repeats : Nat := 0
  deriving DecidableEq, Repr

/-- What the error registers hold of a detection (R452). -/
structure EccReg where
  address : Nat := 0
  syndrome : Nat := 0
  bit : Nat := 0
  source : Nat := 0
  stamp : Stamp := {}
  deriving DecidableEq, Repr

/-- A fill or a scrub that runs (R448, R449): its range, start, pattern and the path that waits. -/
structure MemJob where
  lo : Nat
  hi : Nat
  start : Nat
  pattern : Nat
  deriving DecidableEq, Repr

/-- DRAM, the merge buffer and the ECC block. -/
structure MemBlk where
  /-- Bytes that have been written, by address, strictly rising; an address not listed has never been
  written (R447). [R440, R441; 64 GiB; none written] -/
  data : List Host.Cell := []
  /-- Codeword errors of written words, by word address: the 72-bit difference from a valid codeword. [R440; 72 per word; none] -/
  err : Tbl Nat := []
  /-- Merge buffer, oldest first. [R443; 16 lines; empty] -/
  merge : List MergeLine := []
  /-- ECC_EVT. [R452; 7; 0] -/
  evt : BitVec 7 := 0
  /-- ECC_EVT_MASK. [R452; 7; 0x7F] -/
  evtMask : BitVec 7 := 127
  /-- ECC_CE_CNT, ECC_UE_CNT, ECC_POISON_CNT, ECC_SRAM_CE_CNT. [R452; 32 each; 0] -/
  ceCnt : Nat := 0
  ueCnt : Nat := 0
  poisonCnt : Nat := 0
  sramCeCnt : Nat := 0
  /-- The last corrected and the last uncorrectable read. [R452; 5×32 each; 0] -/
  ce : EccReg := {}
  ue : EccReg := {}
  /-- The same as the last capturing reads left them. [R452; 4×32 each; 0] -/
  ceCap : EccReg := {}
  ueCap : EccReg := {}
  /-- ECC_FLIP_ADDR. [R452; 36; 0] -/
  flipAddr : Nat := 0
  /-- ECC_FLIP_DATA and ECC_FLIP_CHK. [R452; 72; 0] -/
  flipMask : Nat := 0
  /-- FLIP_ARMED. [R452; 1; 0] -/
  flipArmed : Bool := false
  /-- Error log, newest first, and the overwritten count. [R451; 256 entries; empty] -/
  log : List EccLog := []
  overwritten : Nat := 0
  /-- SRAM uncorrectable events since reset. [R455; 32; 0] -/
  sramUe : Nat := 0
  /-- Time of the last Firn record of codes 0x01 and 0x02, and the events since. [R454; 64+32; none, 0] -/
  ceFirn : Option Nat := none
  ceMore : Nat := 0
  ueFirn : Option Nat := none
  ueMore : Nat := 0
  /-- MEM_FILL that runs. [R448; record; none] -/
  fill : Option MemJob := none
  /-- MEM_SCRUB that runs. [R449; record; none] -/
  scrub : Option MemJob := none
  deriving DecidableEq, Repr

/-! ## GOOSE and the trip path (chapter 10) -/

/-- PRP duplicate window (R157): the highest accepted sequence number, which of the 64 up to it were
accepted (bit i for H − i), and when a frame was last accepted. -/
structure PrpWindow where
  high : Option Nat := none
  seen : Nat := 0
  last : Nat := 0
  deriving DecidableEq, Repr

/-- A publication as it runs (R216 to R221). -/
structure Pub where
  /-- [R216; 32 each; 1, 0 at its commit] -/
  stNum : Nat := 1
  sqNum : Nat := 0
  /-- Frames sent on the running curve, and when the next is due. [R217; count+64; 1, none] -/
  sent : Nat := 1
  due : Option Nat := none
  /-- The curve a state change started with: t_min, t_max, reps (R221). [R217; 3×16; record's] -/
  curve : Nat × Nat × Nat := (2, 1000, 2)
  /-- Extended local time of the last stNum change, and its stamp. [R215; 64+48; commit] -/
  changed : Nat := 0
  stamp : Stamp := {}
  /-- Trip inputs that are asserted: elements, the logic request, slots (function × 16 + slot). [R218; sets; empty] -/
  elems : List Nat := []
  logic : Bool := false
  slots : List Nat := []
  /-- Member values last sent, with each Quality. [R216; 32 values; none] -/
  values : List (Bool × Bool) := []
  /-- Frames sent. [R232; 32; 0] -/
  frames : Nat := 0
  deriving DecidableEq, Repr

/-- A trip-log entry (R226). -/
structure TripEntry where
  num : Nat
  pub : Nat
  source : Nat
  value : Bool
  index : Nat
  cookie : Nat
  changed : Bool
  gated : Bool
  exceed : Bool := false
  skip : Bool := false
  peOff : Bool := false
  src : Stamp
  srcExt : Nat
  tx : Option (Stamp × Nat) := none
  stNum : Nat
  deriving DecidableEq, Repr

/-- A subscription or stream's LAN supervision and duplicate window are shared by SV and GOOSE (R162,
R223). `a` and `b`: when a frame of the LAN last passed step 3, and whether it is missing. -/
structure Lans where
  a : Nat := 0
  b : Nat := 0
  missA : Bool := false
  missB : Bool := false
  deriving DecidableEq, Repr

/-- A GOOSE subscription as it runs (R223 to R225). -/
structure GooseSub where
  /-- State code of R160 and MISMATCH reason. [R224; 8 each; 1, 0] -/
  state : Nat := 1
  reason : Nat := 0
  /-- The source is simulated (R156); the last frame authenticated. [R223; 1 each; 0] -/
  sim : Bool := false
  authOk : Bool := false
  prp : PrpWindow := {}
  lans : Lans := {}
  /-- stNum and sqNum of the last accepted frame. [R223; 2×32; none] -/
  last : Option (Nat × Nat) := none
  /-- Receive stamp of it, and its TAL, ms. [R224, R232; 48+64+32; 0] -/
  rx : Stamp := {}
  rxExt : Nat := 0
  tal : Nat := 0
  /-- Reason of the last frame discarded at step 5 or 6 since then. [R224; 8; none] -/
  refused : Option Nat := none
  /-- Held value of each I bit, and whether its Quality reads invalid. [R225; bits; none] -/
  held : List (Bool × Bool) := []
  /-- The 16 counters of GOOSE_STATS. [R232; 16×32; 0] -/
  counts : Tbl Nat := []
  deriving DecidableEq, Repr

/-- GOOSE publisher, subscriber and trip log. -/
structure GooseBlk where
  /-- Publications by number. [R214; 256; none] -/
  pubs : Tbl Pub := []
  /-- Subscriptions by index. [R222; 2,048; none] -/
  subs : Tbl GooseSub := []
  /-- Trip log, newest first. [R226; 4,096 entries; empty] -/
  log : List TripEntry := []
  /-- Overwritten entries; number of the next entry. [R226; 32 each; 0] -/
  lost : Nat := 0
  logNext : Nat := 0
  /-- Bound slots: function × 16 + slot to publication, as committed (VF_TRIP_BOUND). [R109, R218; 2,032; none] -/
  binds : Tbl Nat := []
  deriving DecidableEq, Repr

/-! ## Sampled-value ingest (chapter 7) -/

/-- An SV stream as it runs (R155 to R162). -/
structure SvStream where
  /-- State code of R160 and MISMATCH reason. [R160; 8 each; 1, 0] -/
  state : Nat := 1
  reason : Nat := 0
  /-- Source simulated (R156); a source change waits for its first real ASDU; last frame authenticated. [R156, R164; 1 each; 0] -/
  sim : Bool := false
  realDue : Bool := false
  authOk : Bool := false
  /-- Last smpSynch, raw. [R164; 8; 0] -/
  synch : Nat := 0
  /-- Rate of the last delivered ASDU, samples/s. [R155; 32; rate_code's] -/
  rate : Nat := 4800
  /-- Receive stamp of the last valid ASDU, and its extended time. [R161, R164; 48+64; 0] -/
  rx : Stamp := {}
  rxExt : Nat := 0
  /-- Last delivered smpCnt; the newest delivered smpCnt, and which of the 64 positions up to it were
  delivered (bit i for i before it). [R155, R158; 16+16+64; none] -/
  cnt : Nat := 0
  head : Option Nat := none
  seen : Nat := 0
  /-- Consecutive qualifying ASDUs. [R161; count; 0] -/
  run : Nat := 0
  prp : PrpWindow := {}
  lans : Lans := {}
  /-- Policer bucket in units of 1/(8×10⁹) ASDU, and when it was last filled. [R159; 32 ASDUs; full] -/
  level : Nat := 256000000000
  levelAt : Nat := 0
  /-- When an ASDU was last discarded at steps 5 to 8, and its reason. [R161; 64+8; none] -/
  refused : Option (Nat × Nat) := none
  /-- The 16 counters of SV_STATS. [R160, R164; 16×32; 0] -/
  counts : Tbl Nat := []
  deriving DecidableEq, Repr

/-- A setting that waits for a grid second mark (R16, R509): its command, parameters and region, the path,
and the marks still to pass. -/
structure MarkChange where
  opcode : Nat
  params : Bytes
  region : Bytes
  path : Path
  marks : Nat
  deriving DecidableEq, Repr

/-- Ingest. -/
structure SvBlk where
  /-- Streams by index; absent for a stream that is OFF. [R149, R160; 2,048; OFF] -/
  streams : Tbl SvStream := []
  /-- Counters of removed streams, frozen until reused. [R154; 16×32 each; none] -/
  frozen : Tbl (Tbl Nat) := []
  /-- sv_unmatched and stale_drop. [R151, R154, R164; 32 each; 0] -/
  unmatched : Nat := 0
  stale : Nat := 0
  /-- SIM_MODE. [R156; 1; DC 0 (log 5)] -/
  simMode : Bool := false
  /-- Table generation. [R154; 32; 0] -/
  gen : Nat := 0
  /-- The generation before it, and when the last commit took effect. [R154, R184; 32+64; 0] -/
  genPrev : Nat := 0
  genAt : Nat := 0
  /-- Settings that wait for a mark, in order of acceptance. [R16, R17; list; empty] -/
  marks : List MarkChange := []
  deriving DecidableEq, Repr

/-! ## Alignment (chapter 8) -/

/-- A delivered ASDU as alignment stores it: its position, source time, receive time, channel values and
quality words, the ASDU's ingest flags (R163) and whether it counted in late (R178). -/
structure Sample where
  pos : Int
  t : Rat
  rx : Nat
  vals : List Int
  qual : List Nat
  flags : Nat
  late : Bool := false
  deriving DecidableEq, Repr

/-- The aligned value of one channel at an instant (R183, R185). -/
structure AVal where
  val : Int
  qual : Nat
  iflags : Nat
  aflags : Nat
  deriving DecidableEq, Repr

/-- The aligned values of a stream's channels at a grid instant, by its consecutive index. -/
structure Aligned where
  g : Nat
  vals : List AVal
  deriving DecidableEq, Repr

/-- Latencies of one second (R179): bins of 10 µs, bin 400 the overflow. -/
structure LatSecond where
  bins : Tbl Nat := []
  maxUs : Nat := 0
  /-- The stream has been in RUN throughout. -/
  run : Bool := true
  deriving DecidableEq, Repr

/-- A stream's alignment (R169 to R181, R187, R188). -/
structure AlnStream where
  /-- Fine kind 0, 1 or 2 the default; NO_SNOW; STEP_EN; src_offset; fixed_delay; step_thr. [R188; settings; defaults] -/
  kind : Nat := 2
  noSnow : Bool := false
  stepEn : Bool := false
  srcOffset : Int := 0
  fixedDelay : Nat := 0
  stepThr : Nat := 0
  /-- The last history-reset event, extended local time: inputs whose source time follows it count. [R181; 64; 0] -/
  event : Rat := 0
  /-- Basis: 0 global, 1 tracked, 2 none. [R188; 2; 2] -/
  basis : Nat := 2
  /-- The tracker: seeded, t_last, c_last with its position, T, untracked_until. [R170; reals; not seeded] -/
  seeded : Bool := false
  tLast : Rat := 0
  cLast : Nat := 0
  pLast : Int := 0
  per : Rat := 0
  untracked : Rat := 0
  /-- Stored inputs, newest position first. [R172; list; empty] -/
  hist : List Sample := []
  /-- Inputs since the last history reset, and since the last settling event of each channel. [R181; counts; 0] -/
  fresh : Nat := 0
  settle : List Nat := []
  /-- A poisoned input was among those cleared (R181). [R181; 1; 0] -/
  poison : Bool := false
  /-- Latencies: the running second and the complete seconds in RUN, newest first. [R179; 11 histograms; empty] -/
  lat : LatSecond := { run := false }
  seconds : List LatSecond := []
  /-- p of R179 and whether the stream contributes; largest latency of the last complete second, µs. [R179, R188; 16+16; none, 0] -/
  p : Option Nat := none
  lastMax : Nat := 0
  /-- late, late_drop, early, subst_values, invalid_values, reseeds, settle_events. [R188; 7×32; 0] -/
  counts : Tbl Nat := []
  /-- Next instant of the fine and the coarse values. [R176; index; none] -/
  fineNext : Option Nat := none
  coarseNext : Option Nat := none
  /-- Values computed, newest first. [R176; list; empty] -/
  fine : List Aligned := []
  coarse : List Aligned := []
  deriving DecidableEq, Repr

/-- A grid second (R167, R168, R180): its number, marks, first index, rate, snowline and flags. -/
structure GridSecond where
  /-- Marks passed before it since reset. -/
  ord : Nat
  sec : Nat
  m0 : Nat
  m1 : Nat
  g0 : Nat
  rate : Nat
  /-- D, the measurement mode and P in force. -/
  d : Nat
  mode : Nat
  p : Nat
  snow : Nat
  holdover : Bool
  step : Bool
  extrap : Bool
  deriving DecidableEq, Repr

/-- A slab binding (R184 to R186, R200): its content, channels and what its next slab reports. -/
structure SlabBind where
  /-- 1 fine, 2 coarse, 3 measurement, 4 phasor. -/
  kind : Nat
  count : Nat
  items : List Nat
  gen : Nat
  seq : Nat := 0
  missed : Nat := 0
  fresh : Bool := true
  gap : Bool := false
  /-- First instant of the next slab (grid index). -/
  next : Nat
  deriving DecidableEq, Repr

/-- The alignment engine. -/
structure AlnBlk where
  /-- Rate code, default fine kind, S_min, S_max, margin, D and mode in force. [R188; settings; defaults] -/
  rate : Nat := 1
  kind : Nat := 0
  sMin : Nat := 200
  sMax : Nat := 2000
  margin : Nat := 100
  d : Nat := 8
  mode : Nat := 0
  /-- Snowline in force, target at the last mark and the stream that set it. [R180, R188; 16 each; 200, 200, none] -/
  snow : Nat := 200
  target : Nat := 200
  setter : Nat := 65535
  /-- Grid steps since reset. [R188; 32; 0] -/
  steps : Nat := 0
  /-- Grid seconds opened, newest first; at most four. [R167; list; empty] -/
  seconds : List GridSecond := []
  /-- Streams by index. [R187; 2,048; defaults] -/
  streams : Tbl AlnStream := []
  /-- Slab bindings by 64 × function + queue, and the last bind_gen of each queue. [R186, R200; list; none] -/
  binds : Tbl SlabBind := []
  gens : Tbl Nat := []
  deriving DecidableEq, Repr

/-! ## Phasors and guard elements (chapter 9) -/

/-- What a bus holds of one instant on one path (R195): the frequency in units of 2⁻⁸⁰ Hz, its reference
phasor and whether that was unusable, f_meas, and flags. -/
structure BusAt where
  g : Nat
  f : Int
  re : Int
  im : Int
  bad : Bool
  meas : Option Int
  hold : Bool
  clamp : Bool
  iflags : Nat
  aflags : Nat
  deriving DecidableEq, Repr

/-- A bus on a path: the next instant, the first one of its present settings, the end of the FREQ_HOLD that a
change brings, its instants, newest first, and the first instant of settings that wait for the instants
before it. -/
structure BusRun where
  next : Nat := 0
  since : Nat := 0
  holdTo : Nat := 0
  hist : List BusAt := []
  restart : Option Nat := none
  deriving DecidableEq, Repr

/-- The phasor engine. -/
structure PhBlk where
  /-- Buses by 2 × bus + path (0 fine, 1 coarse). [R195; 128; f_nom] -/
  runs : Tbl BusRun := []
  /-- History words of channels that met an uncorrectable error: the first instant after it. [R446; per channel; empty] -/
  bad : Tbl Nat := []
  /-- Settings of the instants before the last mark that changed them: its first instant and the settings. [R189, R213; record; none] -/
  before : Option (Nat × PhCfg) := none
  deriving DecidableEq, Repr

/-- An element's evaluation up to step 3 at an instant (R202): condition met, level for INVERSE (0 at or below
the dropout, 1 between, 2 above thr), invalid. -/
structure GrdPre where
  g : Nat
  met : Bool
  level : Nat
  invalid : Bool
  mag : Nat
  deriving DecidableEq, Repr

/-- A guard element (R202 to R209). -/
structure GrdEl where
  /-- The instant it evaluates next. -/
  next : Nat := 0
  /-- The condition of the last instant. [R207; 1; 0] -/
  met : Bool := false
  /-- cnt_pu and cnt_do. [R205; 16 each; 0] -/
  cntPu : Nat := 0
  cntDo : Nat := 0
  /-- acc, in units of 2⁻⁸⁰. [R206; real; 0] -/
  acc : Int := 0
  /-- Output and VALID. [R202, R207; 1 each; 0, 1] -/
  out : Bool := false
  valid : Bool := true
  /-- ROC: magnitudes and whether invalid, newest first, since the last reset. [R202; 4,096; empty] -/
  mags : List (Nat × Bool) := []
  /-- Conditions after step 3 of the last instants, for the elements it blocks, newest first. [R208; list; empty] -/
  conds : List (Nat × Bool) := []
  /-- Output changes, newest first: the instant and the output from it on. [R352; 64; empty] -/
  outs : List (Nat × Bool) := []
  /-- Steps 1 to 3 done for the next instant. [R202; record; none] -/
  pre : Option GrdPre := none
  deriving DecidableEq, Repr

/-- The guard elements. -/
structure GrdBlk where
  /-- Elements with a record. [R202; 4,096; reset] -/
  els : Tbl GrdEl := []
  /-- Records that go on until the instants before a mark are evaluated: that mark's first instant and the record, by element. [R201, R210; list; empty] -/
  before : Tbl (Nat × Bytes) := []
  /-- Mirrored states whose instant is still to come here, by element: grid index and state. [R475; list; empty] -/
  mirror : Tbl (Nat × MirrorEl) := []
  /-- Guard log, newest first. [R211; 4,096×16 bytes; empty] -/
  log : List Bytes := []
  /-- Overwritten entries. [R211, R213; 32; 0] -/
  lost : Nat := 0
  deriving DecidableEq, Repr

/-! ## Logic engine (chapter 11) -/

/-- The operand areas of R233: the images, timers, counters and edge memory. -/
structure Areas where
  /-- I, latched at scan start. [R233; 8,192; 0] -/
  i : BitVec 8192 := 0
  /-- Q, the bits the program writes. [R233; 8,192; 0] -/
  q : BitVec 8192 := 0
  /-- M. [R233; 32,768; 0] -/
  m : BitVec 32768 := 0
  /-- T by index. [R233; 2,048; 0] -/
  t : Tbl Timer := []
  /-- C by index. [R233; 1,024; 0] -/
  c : Tbl Counter := []
  /-- E, latched. [R233; 4,096; 0] -/
  e : BitVec 4096 := 0
  /-- S, latched. [R234; 4,144; 0] -/
  st : BitVec 4144 := 0
  /-- H, latched. [R233; 1,024; 0] -/
  h : BitVec 1024 := 0
  /-- Y. [R233; 256; 0] -/
  y : BitVec 256 := 0
  /-- F by index; an absent bit is uninitialised (R241). [R241; 4,096; uninitialised] -/
  f : Tbl Bool := []
  deriving DecidableEq, Repr

/-- A program that has passed the checks (R238, R251), with its image as loaded. -/
structure Prog where
  raw : Bytes
  words : List Nat
  errEntry : Nat
  retM : Nat
  retT : Nat
  retC : Nat
  progId : Nat
  crc : Nat
  /-- ns (R242). -/
  wcet : Nat
  deriving DecidableEq, Repr

/-- A partial image in the staging bank (R253). -/
structure PartImage where
  path : Path
  bytes : Bytes
  lastAt : Nat
  deriving DecidableEq, Repr

/-- A change accepted for the next scan start (R16, R244 step 2), with the path that waits for it. -/
inductive LogicChange where
  | exchange (p : Path)
  | restart (cold : Bool) (p : Path)
  | force (params : Bytes) (p : Path)
  | period (params : Bytes) (p : Path)
  deriving DecidableEq, Repr

/-- The mode of the engine (R248). -/
inductive LogicMode where
  | run | stop | hold
  deriving DecidableEq, Repr, Inhabited

/-- The logic engine. -/
structure LogicBlk where
  /-- [R248; 2; STOP] -/
  mode : LogicMode := .stop
  /-- FAULT. [R257; 1; 0] -/
  fault : Bool := false
  /-- Active program. [R252; 65,536 words; the stored program] -/
  prog : Option Prog := none
  /-- Staging bank: a checked program, or a partial image. [R252, R253; 65,536 words; none] -/
  staged : Option Prog := none
  part : Option PartImage := none
  /-- Changes for the next scan start, in acceptance order. [R244; list; empty] -/
  changes : List LogicChange := []
  /-- Operand areas. [R233; record; 0] -/
  img : Areas := {}
  /-- Committed Q and Y, forces applied: what the publisher, BRIO and the trip inputs see. [R244; 8,192+256; 0] -/
  qOut : BitVec 8192 := 0
  yOut : BitVec 256 := 0
  /-- Q is held where no scans run, rather than cleared. [R248; 1; 0] -/
  qHeld : Bool := false
  /-- Force entries: area, address, value. [R250; 256; empty] -/
  forces : List (Nat × Nat × Bool) := []
  /-- First scan after a restart: 1 cold, 2 warm; after an exchange. [R234; 2+1; 1, 0] -/
  first : Nat := 1
  firstExch : Bool := false
  /-- Retentive timers take the next scan's tb (R255). [R255; 1; 0] -/
  retFix : Bool := false
  /-- Error events latched for the next scan. [R247; 1 each; 0] -/
  inFault : Bool := false
  ovr : Bool := false
  user : Bool := false
  /-- Time base: the value at a count of ticks; at the last scan start; frozen. [R239, R249; 64+64+64+1; 0, 0, 0, 1] -/
  tbRef : Nat := 0
  tickRef : Nat := 0
  tbLast : Nat := 0
  frozen : Bool := true
  /-- Instant of the last scheduled start, extended local time, and its count of ticks. [R243; 64+64; 0] -/
  sched : Nat := 0
  schedTick : Nat := 0
  /-- End of the running or last scan. [R246; 64; 0] -/
  busyUntil : Nat := 0
  /-- Period in force, µs. [R258; 32; 1,000] -/
  period : Nat := 1000
  /-- Second and index of the last scan, none for a period that does not divide 1 s. [R473; 48+32; none] -/
  scanId : Option (Nat × Nat) := none
  /-- The scan ids of the last 64 scans with their tb, newest first (R474). [R474; list; empty] -/
  tbs : List ((Nat × Nat) × Nat) := []
  /-- Stamp of the last scan start. [R258; 48; 0] -/
  start : Stamp := {}
  /-- Duration of the last scan, and the longest since the last clear, ns. [R258; 32 each; 0] -/
  last : Nat := 0
  longest : Nat := 0
  /-- Scans, overruns, input faults, user faults; exchanges since the module reset. [R258; 32 each; 0] -/
  scans : Nat := 0
  overruns : Nat := 0
  inFaults : Nat := 0
  users : Nat := 0
  exchanges : Nat := 0
  /-- Last user-fault code. [R258; 16; 0] -/
  code : Nat := 0
  /-- Extended local time of the last overrun record. [R246; 64; none] -/
  ovrRec : Option Nat := none
  deriving DecidableEq, Repr

/-! ## Remote I/O (chapter 12) -/

/-- A configured BRIO station as it runs (R267 to R269). -/
structure BrioStation where
  /-- State code of R160 and MISMATCH reason. [R268; 8 each; 1, 0] -/
  state : Nat := 1
  reason : Nat := 0
  /-- Consecutive missed cycles and consecutive cycles with a valid INPUT. [R268; 8 each; 0] -/
  misses : Nat := 0
  good : Nat := 0
  /-- In the current cycle: an INPUT was judged valid; one was refused for ident. [R267; 1 each; 0] -/
  got : Bool := false
  identBad : Bool := false
  /-- Status bits, cycle number and receive stamp of the last valid INPUT. [R272; 3+32+48; 0] -/
  status : Nat := 0
  cycle : Nat := 0
  rx : Stamp := {}
  /-- Held inputs, and point_fault of the last valid INPUT: every point from a new in_base on (R271). [R269, R271; 64 each; 0] -/
  held : BitVec 64 := 0
  faults : BitVec 64 := 0
  /-- The eight counters of BRIO_STATS. [R272; 8×32; 0] -/
  counts : Tbl Nat := []
  deriving DecidableEq, Repr

/-- The segment on P8. -/
structure BrioBlk where
  /-- Settings in force: mode, out_wd, segment_id. [R261, R272; 4 bytes; 0, 20, the stored ones] -/
  seg : Bytes := [0, 20, 0, 0]
  /-- Running the segment. [R260; 1; 0] -/
  running : Bool := false
  /-- When a beacon or a CYCLE of another unit was last observed, extended local time. [R270; 64; none] -/
  heard : Option Nat := none
  /-- The counted cycle whose window is open or was last open: number, start; its window has closed. [R262; 32+64+1; none] -/
  cur : Option (Nat × Nat) := none
  closed : Bool := true
  /-- Start of the last scheduled cycle, extended local time. [R262; 64; 0] -/
  sched : Nat := 0
  /-- The CYCLE frame of this cycle has been abandoned. [R261; 1; 0] -/
  aborted : Bool := false
  /-- Failed attempts of the frame in hand, the end of its back-off, and the frame. [R261; 5+64; 0, none] -/
  attempts : Nat := 0
  backoff : Option (Nat × Bytes) := none
  /-- Payload of the last CYCLE sent: an observation point. [R264; 84 bytes; none] -/
  sent : Option Bytes := none
  /-- Stations configured. [R268; 8; OFF] -/
  stations : Tbl BrioStation := []
  /-- cycles, cycles_aborted, collisions, excess_coll, beacon_err, foreign, seg_err, master_conflict. [R272; 8×32; 0] -/
  counts : Tbl Nat := []
  /-- BRIO_STATUS as of the last cycle end. [R272; 128 bytes; zeros] -/
  snap : Bytes := zeros 128
  deriving DecidableEq, Repr

/-! ## Safety island (chapter 19) -/

/-- A SIN terminal or SRST: the last sample, how many equal samples in a row, and the filtered value (R390). -/
structure Terminal where
  last : Bool := false
  run : Nat := 0
  val : Bool := false
  deriving DecidableEq, Repr

/-- An input (R391, R392). -/
structure SafeInput where
  /-- State code and last fault kind. [R392, R411; 4 each; 3 SEQ_WAIT with a mode, else 0; 0] -/
  state : Nat := 0
  kind : Nat := 0
  /-- Discrepancy count. [R391; 16; 0] -/
  count : Nat := 0
  deriving DecidableEq, Repr

/-- An output (R394, R396). -/
structure SafeOut where
  /-- Energised, armed, condition, fault. [R394, R411; 1 each; 0] -/
  on : Bool := false
  armed : Bool := false
  cond : Bool := false
  fault : Bool := false
  /-- End of a running category-1 delay, extended local time. [R394; 64; none] -/
  delay : Option Nat := none
  /-- Consecutive slots with a bad readback while on, and with an external feed while off. [R396; 2 each; 0] -/
  onBad : Nat := 0
  extBad : Nat := 0
  /-- SOUTn+ above 5 V in the last slot while off. [R396, R398; 1; 0] -/
  ext : Bool := false
  deriving DecidableEq, Repr

/-- One path of an input connection (R404, R405). -/
structure ConnPath where
  /-- Sequence number of the last accepted PDU; none after WAIT or FAULT. [R404; 16; none] -/
  last : Option Nat := none
  data : Nat := 0
  fs : Bool := false
  /-- Extended local time of its receive stamp. [R405; 64; 0] -/
  rxExt : Nat := 0
  alive : Bool := false
  deriving DecidableEq, Repr

/-- A Harness connection as it runs (R405 to R407). -/
structure Conn where
  /-- State code and reason. [R405; 8 each; 1 WAIT, 0] -/
  state : Nat := 1
  reason : Nat := 0
  degraded : Bool := false
  a : ConnPath := {}
  b : ConnPath := {}
  /-- Stamp of the last accepted PDU, and whether its data carried FS. [R411; 48+1; 0] -/
  rx : Stamp := {}
  fs : Bool := false
  /-- Consecutive slots in which the paths' data differ; consecutive accepted PDUs in ACK. [R405, R406; 8 each; 0] -/
  differ : Nat := 0
  acks : Nat := 0
  /-- masq_err, crc_err, seq_err, dup, path_err. [R404, R411; 5×32; 0] -/
  counts : Tbl Nat := []
  /-- Output connection: the data of the latest slot end, and the start of its last cycle. [R407; 16+64; 0] -/
  data : Nat := 0
  sched : Nat := 0
  /-- The last PDU sent on each path; an observation point. [R407; 2×20 bytes; none] -/
  sent : List Bytes := []
  deriving DecidableEq, Repr

/-- The island. -/
structure SafeBlk where
  /-- Configuration in force, and staged. [R408, R409; blobs; the stored one, none] -/
  cfg : Option Bytes := none
  staged : Option Bytes := none
  /-- The configuration has been read after the start (R409). [R64, R409; 1; 0] -/
  ready : Bool := false
  /-- Cause mask; HALTER while it is not 0. [R398; 16; 0] -/
  causes : BitVec 16 := 0
  /-- Stamp of the last HALTER entry. [R411; 48; 0] -/
  halt : Stamp := {}
  /-- Slots since reset, and when the next one starts, extended local time. [R386; 64+64; 0, DC 0 (log 5)] -/
  slot : Nat := 0
  due : Nat := 0
  /-- The 16 terminals, A then B of each input, and SRST last. [R390; 17 filters; DC 0 (log 5)] -/
  terms : Tbl Terminal := []
  /-- Inputs SIN0 to SIN7. [R392; 8; OFF] -/
  inputs : Tbl SafeInput := []
  /-- Outputs SOUT0 to SOUT3. [R394; 4; off] -/
  outs : Tbl SafeOut := []
  /-- High samples of SRST so far. [R393; 32; 0] -/
  srstHigh : Nat := 0
  /-- Consecutive slots with different data, and bad readbacks of TP0 and TP1 at consecutive pulses. [R387, R389; 2 each; 0] -/
  cross : Nat := 0
  tp0Bad : Nat := 0
  tp1Bad : Nat := 0
  /-- FV24_LOW. [R397; 1; 0] -/
  fv24Low : Bool := false
  /-- H image. [R402; 1,024; 0] -/
  h : BitVec 1024 := 0
  /-- Connections by number. [R402; 64; OFF] -/
  conns : Tbl Conn := []
  /-- Discrepancy faults, test-pulse faults, SRST accepted, SRST rejected. [R411; 4×32; 0] -/
  counts : Tbl Nat := []
  deriving DecidableEq, Repr

/-! ## Redundant pair (chapter 22) -/

/-- A heartbeat path (R464, R465). -/
structure HbPath where
  /-- seq of the next heartbeat sent; when the last one left, extended local time. [R464; 32+64; DC 0 (log 4), 0] -/
  seq : Nat := 0
  sentAt : Nat := 0
  /-- Payload of the last heartbeat sent; an observation point. [R464; 44 bytes; none] -/
  last : Option Bytes := none
  /-- seq of the last valid heartbeat received. [R464; 32; none] -/
  peerSeq : Option Nat := none
  /-- Start of the running window; a valid heartbeat came in it. [R465; 64+1; 0] -/
  winAt : Nat := 0
  got : Bool := false
  /-- Consecutive missed and received windows. [R465; 2 each; 0] -/
  missed : Nat := 0
  received : Nat := 0
  /-- [R465; 1; DC 0 (log 5)] -/
  alive : Bool := false
  deriving DecidableEq, Repr

/-- The redundancy block. -/
structure RedBlk where
  /-- RED_CFG in force. [R483; 12 bytes; the stored one] -/
  cfg : Bytes := redCfgDefault
  /-- ARM_TAKE; isolated by command. [R459, R468, R483; 1 each; 0] -/
  armTake : Bool := false
  isolated : Bool := false
  /-- BRD1_IN and BRD2_IN as filtered, BRD1_OUT and BRD2_OUT. [R458; 1 each; 0] -/
  in1 : Bool := false
  in2 : Bool := false
  out1 : Bool := false
  out2 : Bool := false
  /-- Since when both IN lines read released, disagree or agree, and read asserted. [R458, R460, R462; 64 each; 0, 0, none] -/
  freeSince : Option Nat := some 0
  discSince : Nat := 0
  bothSince : Option Nat := none
  /-- BRD_DISC. [R462; 1; 0] -/
  brdDisc : Bool := false
  /-- HBW_IN's level, its last edge, and quiet. [R462; 1+64+1; 0, 0, DC 1 (log 5)] -/
  hbw : Bool := false
  hbwAt : Nat := 0
  hbwQuiet : Bool := true
  /-- A claim in hand: when BRD1_OUT was asserted, and whether under R463. [R459, R463; 64+1; none] -/
  claim : Option (Nat × Bool) := none
  /-- The previous claim was abandoned or restarted; the further wait after free lines, ns. [R459; 1+32; 0] -/
  again : Bool := false
  wait : Nat := 0
  /-- Since when the take condition holds. [R468; 64; none] -/
  takeSince : Option Nat := none
  /-- H1 and H2. [R464; 2 paths; reset] -/
  h1 : HbPath := {}
  h2 : HbPath := {}
  /-- The latest valid heartbeat, and when it came. [R463, R468; 44 bytes + 64; none] -/
  peer : Option (Bytes × Nat) := none
  /-- Last release reason, and FAULT in the heartbeats. [R469; 8+1; 0] -/
  reason : Nat := 0
  fault : Bool := false
  /-- FW_STALL; HB_GEN_FAIL, until a heartbeat leaves again; P1 to P4 have all been down for 10 ms. [R466, R469; 1 each; 0] -/
  fwStall : Bool := false
  genFail : Bool := false
  portsDown : Bool := false
  /-- Stamp of the last role change, and when it was; Bridle changes since reset. [R480, R483; 48+64+32; 0] -/
  roleStamp : Stamp := {}
  roleAt : Nat := 0
  changes : Nat := 0
  /-- PAIR_CFG. [R457; 1; 0] -/
  pairCfg : Bool := false
  /-- READY, the fail mask, since when every check passes, and since when READY. [R477; 1+16+64+64; 0, 0, none, none] -/
  ready : Bool := false
  failMask : Nat := 0
  cleanSince : Option Nat := none
  readySince : Option Nat := none
  /-- Since when the two units' safety bytes differ. [R477; 64; none] -/
  diffSince : Option Nat := none
  /-- TAKEBACK_REQ. [R480; 1; 0] -/
  takeback : Bool := false
  /-- The handover: marks still to pass, its second, and whether the peer asked for it. [R480; 2+32+1; none] -/
  handover : Option (Nat × Nat × Bool) := none
  /-- When this unit released with reason 11 and waits for the taker. [R481; 64; none] -/
  released : Option Nat := none
  /-- The newest complete mirror image not yet applied; the scan of the last one applied. [R474; image; none] -/
  image : Option MirrorImage := none
  applied : Option (Nat × Nat) := none
  /-- Consecutive misses and applications; MIRROR_LOST; the last miss. [R476; 2+2+1+64; 0, 0, 0, none] -/
  missRun : Nat := 0
  okRun : Nat := 0
  mirrorLost : Bool := false
  missAt : Option Nat := none
  /-- Images applied, mirror misses, H1 windows missed. [R483; 32 each; 0] -/
  images : Nat := 0
  misses : Nat := 0
  h1Missed : Nat := 0
  /-- The peer's part digests, from its last image. [R473, R477; 8×32; none] -/
  parts : List Nat := []
  /-- Health section of the last image applied: S 0 to 4,095. [R473, R477; 4,096; 0] -/
  health : Nat := 0
  /-- Channels compared, mismatches, skipped, element_skip. [R475, R478, R483; 32 each; 0] -/
  compared : Nat := 0
  mismatches : Nat := 0
  skipped : Nat := 0
  elementSkip : Nat := 0
  /-- The last mismatch: channel, second and index, and when; the last record of one, and the times of those in the last second, newest first. [R478, R483; record; none] -/
  mismatch : Option (Nat × Nat × Nat × Nat) := none
  misFirn : Option Nat := none
  misTimes : List Nat := []
  /-- The next grid instant whose channel group the holder sends. [R478; index; none] -/
  groupNext : Option Nat := none
  /-- The last channel group and the last mirror image sent; observation points. [R473, R478; —; none] -/
  sentGroup : Option PhasorGroup := none
  sentImage : Option MirrorImage := none
  deriving DecidableEq, Repr

/-! ## Recorder and Longe (chapter 17) -/

/-- A trigger detected and not yet judged (R359, R360): its time, source, term, source class and whether its
stamp is interpolated. -/
structure RecTrig where
  at_ : Nat
  source : Nat
  term : Nat
  cls : Nat
  interp : Bool
  deriving DecidableEq, Repr

/-- A frame in an instance's ring, as the module remembers it: ordinal, grid index, time, second, index within
it, and frame flags. -/
structure RecFrame where
  ord : Nat
  g : Nat
  t : Nat
  sec : Nat
  n : Nat
  flags : Nat
  deriving DecidableEq, Repr

/-- A slot that is not free (R356, R362): CLOSED or FILLING, and what its header says. Frame 0 is the first of
`frames` frames, kept by ordinal in the instance's run. -/
structure RecSeg where
  closed : Bool := false
  record : Nat
  segment : Nat
  flags : Nat := 0
  firstPos : Nat
  frames : Nat
  pre : Nat
  first : RecFrame
  trig : RecFrame
  /-- Ordinal of the first frame and of the trigger frame. -/
  firstOrd : Nat
  trigOrd : Nat
  /-- Ordinal of the last frame the segment is to have. -/
  lastOrd : Nat
  /-- The trigger list: stamp, source, term and offset; triggers beyond 32. -/
  trigs : List (Stamp × Nat × Nat × Int) := []
  trigsMore : Nat := 0
  trigExt : Nat
  close : Stamp := {}
  calendar : Bytes
  tblGen : Nat
  /-- The map entries that bracket the trigger. -/
  map : Bytes
  /-- When it closes, once its last frame is written. -/
  closeAt : Option Nat := none
  deriving DecidableEq, Repr

/-- A recorder instance (R351 to R362). -/
structure RecInst where
  /-- Head, terms and capture list as configured. [R373; 64 + 16×16 bytes + list; none] -/
  head : Bytes := []
  terms : List Bytes := []
  items : List Nat := []
  digs : List Nat := []
  /-- State code and stop reason (R358). [R358, R373; 8 each; 0 OFF, 0] -/
  state : Nat := 0
  reason : Nat := 0
  /-- Record number of the next record. [R356; 32; 1] -/
  record : Nat := 1
  /-- Slots that are not free. [R362; 256; none] -/
  slots : Tbl RecSeg := []
  /-- The slot whose ring fills, and frames written into it since it began. [R358; 8+32; none, 0] -/
  slot : Option Nat := none
  inSlot : Nat := 0
  /-- Ordinal of the next frame; ordinal of the first frame since it was armed. [R360; counts; 0] -/
  ord : Nat := 0
  armOrd : Nat := 0
  /-- Frames since it was armed, newest first, and the ordinal at which the running slot's ring began. [R354; list; empty] -/
  ring : List RecFrame := []
  ringOrd : Nat := 0
  /-- Ordinal of the last frame of the latest segment since arming, none before the first; its slot. [R360; count; none] -/
  lastOrd : Option Nat := none
  lastSlot : Nat := 0
  /-- The next capture instant, grid index. [R351; index; none] -/
  next : Option Nat := none
  /-- Digital values of points and digital terms at the last frame, and entry values of crossing terms: value, INVALID, time. [R359; record; none] -/
  prevDigs : Option (List Bool) := none
  prevVals : List (Option (Int × Nat)) := []
  /-- Triggers detected and not yet judged, in detection order. [R360; list; empty] -/
  trigs : List RecTrig := []
  /-- Digital values after the latest scan ends, newest first: scan end and values. [R352; 512; empty] -/
  scans : List (Nat × List Bool) := []
  /-- Missed triggers, overflows, records closed. [R373; 32 each; 0] -/
  missed : Nat := 0
  overflows : Nat := 0
  closed : Nat := 0
  deriving DecidableEq, Repr

/-- A Longe stream as it runs (R368 to R371). -/
structure LongeRun where
  /-- [R373; 1; 0] -/
  running : Bool := false
  /-- Frames sent, last smpCnt. [R373; 32+16; 0] -/
  frames : Nat := 0
  smpCnt : Nat := 0
  /-- Second (by marks passed) and number of the next sample. [R368; count+16; 0] -/
  ord : Nat := 0
  c : Nat := 0
  /-- Time of T0 or of the last restart of the source, extended local time. [R369, R371; 64; 0] -/
  t0 : Nat := 0
  /-- Source position: frame or sample, floor. [R373; 32; 0] -/
  pos : Nat := 0
  /-- Synthetic: the state, when it began, and the phase then in 10⁻¹⁴ turns. [R370; 2+64+48; 0] -/
  state : Nat := 0
  stateAt : Nat := 0
  phase : Nat := 0
  /-- Stamp of the last sample. [R373; 48; 0] -/
  last : Stamp := {}
  deriving DecidableEq, Repr

/-- A configured Longe stream: its record and its states (R367, R370). -/
structure LongeCfg where
  rec_ : Bytes
  states : List Bytes
  deriving DecidableEq, Repr

/-- The recorder and Longe. -/
structure AcqBlk where
  /-- Instances 0 to 15. [R351; 16; OFF] -/
  inst : Tbl RecInst := []
  /-- Event log, newest first, and overwritten entries. [R372, R373; 1,024×16 bytes + 32; empty, 0] -/
  log : List Bytes := []
  lost : Nat := 0
  /-- When the module last pulled XTRIG and XTRIG_P low and released them. [R361; 4×64; none] -/
  x1 : Option (Nat × Option Nat) := none
  j4 : Option (Nat × Option Nat) := none
  /-- Longe streams by number, and as they run. [R366; 64; none] -/
  longe : Tbl LongeCfg := []
  runs : Tbl LongeRun := []
  /-- Longe runs; it has been stopped and ends at the next sample; the path that waits for that. [R366, R371; 1+1; 0] -/
  running : Bool := false
  /-- Slots under replay: instance × 256 + slot. [R367; list; empty] -/
  replay : List Nat := []
  deriving DecidableEq, Repr

/-! ## The whole module -/

/-- The module. -/
structure State where
  /-- Commands waiting, first in, first out. The model's own field. -/
  pending : List Instr := []
  /-- Free values drawn so far. The model's own field: no statement rests on it. [—; count; DC 0 (log 2)] -/
  free : Nat := 0
  mod : ModBlk := {}
  power : PowerBlk := {}
  ao : AoBlk := {}
  flash : FlashBlk := {}
  time : TimeBlk := {}
  host : HostBlk := {}
  /-- P7 sessions by number, at most four. [R103; sessions; none open] -/
  p7 : Tbl Session := []
  firn : FirnBlk := {}
  sec : SecBlk := {}
  diag : DiagBlk := {}
  /-- Functions by number: 0 the PF, 1 to 127 the VFs. [R106; 128; reset] -/
  fns : Tbl Fn := []
  sched : SchedBlk := {}
  dma : DmaBlk := {}
  ports : PortsBlk := {}
  sw : SwBlk := {}
  goose : GooseBlk := {}
  sv : SvBlk := {}
  aln : AlnBlk := {}
  ph : PhBlk := {}
  grd : GrdBlk := {}
  logic : LogicBlk := {}
  brio : BrioBlk := {}
  safe : SafeBlk := {}
  red : RedBlk := {}
  acq : AcqBlk := {}
  /-- The staging copy of the tables; none while it equals the committed ones. [R154, R164; record; none] -/
  stg : Option Tables := none
  mem : MemBlk := {}
  rtc : RtcBlk := {}
  /-- The configuration the module runs with. [R76; record; the defaults] -/
  cfg : Cfg := {}
  /-- The configuration in boot flash. [R76, R417; record; DC the defaults (log 5)] -/
  stored : Cfg := {}
  deriving DecidableEq, Repr

/-- Why a step stops with a fault. -/
inductive Fault where
  /-- Raised by nothing in this model: the spec names no command that stops the module. Safe. -/
  | none_
  deriving DecidableEq, Repr

/-- Why a command has no meaning. -/
inductive Refusal where
  /-- Raised by an arm of `exec` whose command the model does not give a meaning. Safe. -/
  | notModelled (mnemonic : String)
  deriving DecidableEq, Repr

/-- The module right after reset: every field at its reset value, no command waiting. -/
def State.reset : State := {}

end Machine
end Sys2Proof
end

