-- ==== Sys2Proof/Machine/Dbl.lean ====
section
/-! DEFINITION. Duntonov bit logic: the instruction set, the checks of a program image and the execution
of a section (R233 to R242, R251). -/

namespace Sys2Proof
namespace Machine

/-! ## Operand areas (R233, R234) -/

/-- Bits or elements of an area. -/
def areaSize : Nat → Nat
  | 0 => 8192
  | 1 => 8192
  | 2 => 32768
  | 3 => 2048
  | 4 => 1024
  | 5 => 4096
  | 6 => 4144
  | 7 => 1024
  | 8 => 256
  | 9 => 4096
  | _ => 0

/-- An address is inside its area; of S only the listed ones are (R234). -/
def addrOk (area x : Nat) : Bool :=
  if area = 6 then x < 4104 || (4128 ≤ x && x < 4144) else x < areaSize area

/-- Sets one bit. -/
def setBit {n : Nat} (x : BitVec n) (i : Nat) (v : Bool) : BitVec n :=
  if v then x ||| BitVec.twoPow n i else x &&& ~~~ BitVec.twoPow n i

/-- The bits of a list of indexes. -/
def bitsOf (n : Nat) (l : List Nat) : BitVec n := l.foldl (fun x i => setBit x i true) 0

/-! ## Instruction words (R235, R236) -/

def wOp (w : Nat) : Nat := w / 2 ^ 24 % 256
def wArea (w : Nat) : Nat := w / 2 ^ 20 % 16
def wRes (w : Nat) : Nat := w / 2 ^ 16 % 16
def wAddr (w : Nat) : Nat := w % 65536

/-- What an opcode's fields hold. -/
inductive OpKind where
  /-- No operand. -/
  | none
  /-- An operand in one of these areas. -/
  | operand (areas : List Nat)
  /-- A jump target or a user code in addr. -/
  | target
  | code
  deriving DecidableEq, Repr

/-- The areas an instruction can read. -/
def readAreas : List Nat := [0, 1, 2, 3, 4, 5, 6, 7, 8]

/-- Words and operand kind of an opcode; none where R236 does not list it. -/
def opKind (op : Nat) : Option (Nat × OpKind) :=
  if op = 0 || (0x10 ≤ op && op ≤ 0x12) || (0x18 ≤ op && op ≤ 0x1D) || op = 0x7F then some (1, .none)
  else if op ≤ 7 then some (1, .operand readAreas)
  else if 0x20 ≤ op && op ≤ 0x23 then some (1, .operand [1, 2, 8])
  else if op = 0x28 || op = 0x29 then some (1, .operand [9])
  else if 0x30 ≤ op && op ≤ 0x33 then some (2, .operand [3])
  else if op = 0x34 then some (1, .operand [3])
  else if op = 0x38 || op = 0x39 then some (2, .operand [4])
  else if op = 0x3A || op = 0x3B then some (1, .operand [4])
  else if 0x40 ≤ op && op ≤ 0x42 then some (1, .target)
  else if op = 0x48 then some (1, .code)
  else none

/-- What an opcode does to the stack depth. -/
def opStack (op : Nat) : Int :=
  if op = 0x18 then 1 else if 0x19 ≤ op && op ≤ 0x1C then -1 else 0

/-- An instruction: its address, its word, the word after it and its words. -/
structure Insn where
  pc : Nat
  w : Nat
  preset : Nat
  len : Nat
  deriving DecidableEq, Repr

def Insn.op (i : Insn) : Nat := wOp i.w
def Insn.addr (i : Insn) : Nat := wAddr i.w
def Insn.isJump (i : Insn) : Bool := 0x40 ≤ i.op && i.op ≤ 0x42

/-- The instructions of a program from word 0 on, the words of two-word ones taken together, and the address
of the first word whose opcode is not listed (check 2). -/
def insns : List Nat → Nat → Nat → List Insn × Option Nat
  | [], _, _ => ([], none)
  | w :: ws, pc, skip =>
    if skip > 0 then insns ws (pc + 1) (skip - 1)
    else match opKind (wOp w) with
      | none => ([], some pc)
      | some (n, _) =>
        let r := insns ws (pc + 1) (n - 1)
        ({ pc := pc, w := w, preset := ws.headD 0, len := n } :: r.1, r.2)

/-! ## Load checks (R238) -/

/-- Checks 3 and 4 of one instruction: 0 or the code. -/
def insnCheck (i : Insn) : List Nat :=
  match opKind i.op with
  | some (_, .none) => if wArea i.w ≠ 0 || wRes i.w ≠ 0 || i.addr ≠ 0 then [4] else []
  | some (_, .operand as) =>
    (if as.contains (wArea i.w) && addrOk (wArea i.w) i.addr then [] else [3]) ++
      (if wRes i.w ≠ 0 then [4] else [])
  | some (_, _) => if wArea i.w ≠ 0 || wRes i.w ≠ 0 then [4] else []
  | none => [2]

/-- Static depths through a section: the instructions in order and the depths known so far; failures of
checks 6 and 7 in order. An instruction no path reaches has no depth. -/
def depthRun : List Insn → Tbl Nat → List (Nat × Nat)
  | [], _ => []
  | i :: rest, d =>
    match d.get? i.pc with
    | none => depthRun rest d
    | some k =>
      if i.op = 0x7F then (if k = 0 then [] else [(7, i.pc)]) ++ depthRun rest d
      else
        let k' := (k : Int) + opStack i.op
        if k' < 0 || 16 < k' || (i.op = 0x1D && k = 0) then (6, i.pc) :: depthRun rest d
        else
          let next := (if i.op = 0x40 then [] else [i.pc + i.len]) ++ (if i.isJump then [i.addr] else [])
          let bad := next.filter (fun t => match d.get? t with | some x => (x : Int) != k' | none => false)
          let d := next.foldl (fun d t => if (d.get? t).isSome then d else d.set t k'.toNat) d
          bad.map (fun t => (6, t)) ++ depthRun rest d

/-- Cycles along the longest path of a section, from its last instruction backwards (R242). -/
def longestPath (l : List Insn) : Tbl Nat :=
  l.foldr (fun i t =>
    let next := t.getD (i.pc + i.len) 0
    let jump := 2 + t.getD i.addr 0
    t.set i.pc (if i.op = 0x7F then 1 else if i.op = 0x40 then jump
      else if i.isJump then max (1 + next) jump else i.len + next)) []

/-- Failures of check 8 and 9: a timer, counter or F index used twice, and a reset of one that no instruction
defines. `seen` holds (kind, index, op): kind 0 timer, 1 counter, 2 F. -/
def useCheck : List Insn → List (Nat × Nat × Nat) → List (Nat × Nat)
  | [], _ => []
  | i :: rest, seen =>
    let k := i.op
    let kind := if 0x30 ≤ k && k ≤ 0x33 then some 0 else if k = 0x38 || k = 0x39 then some 1
      else if k = 0x28 || k = 0x29 then some 2 else none
    match kind with
    | none => useCheck rest seen
    | some c =>
      let clash := seen.any (fun x => x.1 == c && x.2.1 == i.addr && (c == 2 || x.2.2 != k))
      (if clash then [(8, i.pc)] else []) ++ useCheck rest ((c, i.addr, k) :: seen)

/-- The instructions that define timers, counters and F bits (R254). -/
def definesT (i : Insn) : Bool := 0x30 ≤ i.op && i.op ≤ 0x33
def definesC (i : Insn) : Bool := i.op = 0x38 || i.op = 0x39
def definesF (i : Insn) : Bool := i.op = 0x28 || i.op = 0x29
def writesBit (i : Insn) : Bool := 0x20 ≤ i.op && i.op ≤ 0x23

/-- The first failure of the lowest check. -/
def firstFail (l : List (Nat × Nat)) : Option (Nat × Nat) :=
  match ((List.range 12).filterMap (fun c => l.find? (fun x => x.1 == c))) with
  | x :: _ => some x
  | [] => none

/-- The code words of an image. -/
def codeWords : Nat → Bytes → List Nat
  | 0, _ => []
  | n + 1, b => le32 b 0 :: codeWords n (b.drop 4)

/-- The checks of R238 over a whole image: the program, or the failing check and its word address. -/
def checkImage (b : Bytes) : Except (Nat × Nat) Prog :=
  let n := le32 b 8
  let crcOk := crc32c ((b.take 28) ++ zeros 4 ++ b.drop 32) == le32 b 28
  if b.length < 64 || le32 b 0 != 0x314C4244 || le16 b 4 != 1 || le16 b 6 != 64 || n = 0 || 65536 < n ||
      b.length != 64 + 4 * n || !crcOk then .error (1, 0)
  else
    let words := codeWords n (b.drop 64)
    let err := le32 b 12
    match insns words 0 0 with
    | (_, some pc) => .error (2, pc)
    | (is, none) =>
      let ends := (is.filter (fun i => i.op = 0x7F)).map (·.pc)
      let mainEnd := ends.head?
      let errOk := err = 0 ||
        (match mainEnd with | some e => e < err | none => false) && is.any (fun i => i.pc == err)
      let errEnd := ends.find? (fun e => err ≤ e)
      let sections := (0, mainEnd.getD (n - 1)) ::
        (if err ≠ 0 && errOk then [(err, errEnd.getD (n - 1))] else [])
      let inSec (x : Nat × Nat) : List Insn := is.filter (fun i => x.1 ≤ i.pc && i.pc ≤ x.2)
      let c34 := is.flatMap (fun i => (insnCheck i).map (fun c => (c, i.pc)))
      let trunc := match is.getLast? with
        | some i => if i.pc + i.len > n then [(4, i.pc)] else []
        | none => []
      let c5 := sections.flatMap (fun x => ((inSec x).filter (fun i =>
        i.isJump && !(i.pc < i.addr && i.addr ≤ x.2 && is.any (fun j => j.pc == i.addr)))).map (fun i => (5, i.pc)))
      let c67 := sections.flatMap (fun x => depthRun (inSec x) [(x.1, 0)] ++
        (if is.any (fun i => i.pc == x.2 && i.op == 0x7F) then [] else [(7, x.2)]))
      let c9 := (is.filter (fun i =>
        (i.op = 0x34 && !is.any (fun j => definesT j && j.addr == i.addr)) ||
        ((i.op = 0x3A || i.op = 0x3B) && !is.any (fun j => definesC j && j.addr == i.addr)))).map (fun i => (9, i.pc))
      let c10 := if le16 b 16 > 32768 || le16 b 18 > 2048 || le16 b 20 > 1024 then [(10, 0)] else []
      let c11 := (if errOk then [] else [(11, err)]) ++
        (if le16 b 22 = 0 && zeroAt b 32 32 then [] else [(11, 0)])
      match firstFail (c34 ++ trunc ++ c5 ++ c67 ++ useCheck is [] ++ c9 ++ c10 ++ c11) with
      | some f => .error f
      | none =>
        let time (x : Nat × Nat) : Nat := 2 * (longestPath (inSec x)).getD x.1 0
        .ok { raw := b, words := words, errEntry := err, retM := le16 b 16, retT := le16 b 18, retC := le16 b 20,
              progId := le32 b 24, crc := le32 b 28,
              wcet := 1500 + time (0, mainEnd.getD 0) + (if err = 0 then 0 else 100 + time (err, errEnd.getD 0)) }

/-- A program's instructions. -/
def Prog.insns (p : Prog) : List Insn := (Machine.insns p.words 0 0).1

/-- A bit of Q, M or Y that some instruction of the program writes (R250, R254). -/
def Prog.writes (p : Prog) (area x : Nat) : Bool :=
  p.insns.any (fun i => writesBit i && wArea i.w == area && i.addr == x)

/-! ## Execution (R236 to R241) -/

/-- A section in execution: A, the stack, the images, the next word, whether END was met, the cycles and the
codes of FLT, newest first. -/
structure Dbl where
  a : Bool := false
  stk : List Bool := []
  img : Areas
  next : Nat
  fin : Bool := false
  cycles : Nat := 0
  codes : List Nat := []
  deriving DecidableEq, Repr

/-- The forced value of a bit. -/
def forcedAt (fs : List (Nat × Nat × Bool)) (area x : Nat) : Option Bool :=
  (fs.find? (fun f => f.1 == area && f.2.1 == x)).map (·.2.2)

/-- An operand as the program reads it (R236, R250). -/
def Areas.read (m : Areas) (fs : List (Nat × Nat × Bool)) (area x : Nat) : Bool :=
  match forcedAt fs area x with
  | some v => v
  | none =>
    match area with
    | 0 => m.i.getLsbD x
    | 1 => m.q.getLsbD x
    | 2 => m.m.getLsbD x
    | 3 => (m.t.getD x {}).out
    | 4 => (m.c.getD x {}).out
    | 5 => m.e.getLsbD x
    | 6 => m.st.getLsbD x
    | 7 => m.h.getLsbD x
    | 8 => m.y.getLsbD x
    | _ => m.f.getD x false

/-- A write to the underlying bit of Q, M or Y (R250). -/
def Areas.write (m : Areas) (area x : Nat) (v : Bool) : Areas :=
  match area with
  | 1 => { m with q := setBit m.q x v }
  | 2 => { m with m := setBit m.m x v }
  | 8 => { m with y := setBit m.y x v }
  | _ => m

/-- Saturation of el (R239). -/
def satU32 (n : Nat) : Nat := min n 4294967295

/-- One execution of a timer (R239). -/
def Timer.exec (t : Timer) (op : Nat) (a : Bool) (tb preset : Nat) : Timer :=
  let acc := satU32 (t.el + (tb - t.tLast))
  let t' : Timer :=
    if op = 0x30 then
      let el := if a && t.p then acc else 0
      { t with el := el, out := a && decide (preset ≤ el) }
    else if op = 0x31 then
      if a then { t with el := 0, run := true, out := true }
      else if t.p then { t with el := 0, out := decide (0 < preset), run := decide (0 < preset) }
      else if t.run then { t with el := acc, out := decide (acc < preset), run := decide (acc < preset) }
      else { t with out := false }
    else if op = 0x32 then
      let t1 : Timer := if a && !t.p && !t.run then { t with run := true, el := 0 }
        else if t.run then { t with el := acc } else t
      let run := t1.run && !decide (preset ≤ t1.el)
      { t1 with run := run, out := run }
    else
      let el := if a && t.p then acc else t.el
      { t with el := el, out := decide (preset ≤ el) }
  { t' with p := a, tLast := tb, preset := preset }

/-- One execution of a counter (R240). -/
def Counter.exec (c : Counter) (up a : Bool) (preset : Int) : Counter :=
  let edge := match c.prev with | some p => a && !p | none => false
  let n := if !edge then c.count else if up then satI32 (c.count + 1) else satI32 (c.count - 1)
  { count := n, preset := preset, prev := some a, out := if up then decide (preset ≤ n) else decide (n ≤ 0) }

/-- One instruction (R236). -/
def dblStep (fs : List (Nat × Nat × Bool)) (tb w preset pc : Nat) (d : Dbl) : Dbl :=
  let op := wOp w
  let x := d.img.read fs (wArea w) (wAddr w)
  let k := wAddr w
  let a := d.a
  let top := d.stk.headD false
  let pop := d.stk.tail
  let d := { d with next := pc + 1, cycles := d.cycles + 1 }
  let setA (v : Bool) : Dbl := { d with a := v }
  let take (v : Bool) : Dbl := { d with a := v, stk := pop }
  let put (v : Bool) : Dbl := { d with img := d.img.write (wArea w) k v }
  let jump (go : Bool) : Dbl := if go then { d with next := k, cycles := d.cycles + 1 } else d
  match op with
  | 0x01 => setA x
  | 0x02 => setA (!x)
  | 0x03 => setA (a && x)
  | 0x04 => setA (a && !x)
  | 0x05 => setA (a || x)
  | 0x06 => setA (a || !x)
  | 0x07 => setA (a ^^ x)
  | 0x10 => setA (!a)
  | 0x11 => setA true
  | 0x12 => setA false
  | 0x18 => { d with stk := a :: d.stk }
  | 0x19 => take (top && a)
  | 0x1A => take (top || a)
  | 0x1B => take (top ^^ a)
  | 0x1C => take top
  | 0x1D => setA top
  | 0x20 => put a
  | 0x21 => put (!a)
  | 0x22 => if a then put true else d
  | 0x23 => if a then put false else d
  | 0x28 =>
    match d.img.f.get? k with
    | some f => { d with a := a && !f, img.f := d.img.f.set k a }
    | none => { d with a := false, img.f := d.img.f.set k a }
  | 0x29 =>
    match d.img.f.get? k with
    | some f => { d with a := f && !a, img.f := d.img.f.set k a }
    | none => { d with a := false, img.f := d.img.f.set k a }
  | 0x34 =>
    if a then { d with img.t := d.img.t.upd k {} (fun t => { t with el := 0, run := false, out := false, tLast := tb }) }
    else d
  | 0x3A => if a then { d with img.c := d.img.c.upd k {} (fun c => { c with count := 0 }) } else d
  | 0x3B => if a then { d with img.c := d.img.c.upd k {} (fun c => { c with count := c.preset }) } else d
  | 0x40 => jump true
  | 0x41 => jump a
  | 0x42 => jump (!a)
  | 0x48 => if a then { d with codes := k :: d.codes } else d
  | 0x7F => { d with fin := true }
  | 0x38 =>
    let c := (d.img.c.getD k {}).exec true a (int32 preset)
    { d with a := c.out, img.c := d.img.c.set k c, next := pc + 2, cycles := d.cycles + 1 }
  | 0x39 =>
    let c := (d.img.c.getD k {}).exec false a (int32 preset)
    { d with a := c.out, img.c := d.img.c.set k c, next := pc + 2, cycles := d.cycles + 1 }
  | _ =>
    if 0x30 ≤ op && op ≤ 0x33 then
      let t := (d.img.t.getD k {}).exec op a tb preset
      { d with a := t.out, img.t := d.img.t.set k t, next := pc + 2, cycles := d.cycles + 1 }
    else d

/-- Words from address `pc` on, up to END: jumps go forward only (R237). -/
def dblRun (fs : List (Nat × Nat × Bool)) (tb : Nat) : List Nat → Nat → Dbl → Dbl
  | [], _, d => d
  | w :: ws, pc, d =>
    if d.fin || pc < d.next then dblRun fs tb ws (pc + 1) d
    else dblRun fs tb ws (pc + 1) (dblStep fs tb w (ws.headD 0) pc d)

/-- A section from its first word, with A 0 and the stack empty (R237). -/
def runSection (p : Prog) (entry : Nat) (fs : List (Nat × Nat × Bool)) (tb : Nat) (m : Areas) (codes : List Nat) : Dbl :=
  dblRun fs tb (p.words.drop entry) entry { img := m, next := entry, codes := codes }

/-! ## Restarts and exchanges (R254, R255) -/

/-- Counters and timers a program defines, at their reset: a CTD counts from its preset (R240). -/
def Prog.freshT (p : Prog) (tb : Nat) : Tbl Timer :=
  p.insns.foldl (fun t i => if definesT i then t.set i.addr { tLast := tb, preset := i.preset } else t) []
def freshCount (i : Insn) : Counter :=
  { count := if i.op = 0x39 then int32 i.preset else 0, preset := int32 i.preset }
def Prog.freshC (p : Prog) : Tbl Counter :=
  p.insns.foldl (fun t i => if definesC i && (t.get? i.addr).isNone then t.set i.addr (freshCount i) else t) []

/-- The images after a restart: a cold one clears everything, a warm one keeps the retentive ranges of the
copy given (R255). A retentive timer keeps el and out. -/
def restartAreas (p : Option Prog) (cold : Bool) (r : RetCopy) : Areas :=
  match p with
  | none => {}
  | some g =>
    if cold then { t := g.freshT 0, c := g.freshC }
    else
      { m := r.m &&& (BitVec.twoPow 32768 g.retM - 1)
        t := (r.t.filter (fun x => x.1 < g.retT)).map (fun x => (x.1, { x.2 with p := false, run := false }))
        c := r.c.filter (fun x => x.1 < g.retC) }

/-- The retentive ranges of the images (R256). -/
def Areas.retain (m : Areas) (p : Prog) (seq : Nat) : RetCopy :=
  { seq := seq, m := m.m &&& (BitVec.twoPow 32768 p.retM - 1)
    t := m.t.filter (fun x => x.1 < p.retT), c := m.c.filter (fun x => x.1 < p.retC) }

/-- Bits of an area that a program writes. -/
def Prog.writeMask (p : Prog) (n area : Nat) : BitVec n :=
  bitsOf n ((p.insns.filter (fun i => writesBit i && wArea i.w == area)).map (·.addr))

/-- Bits of an area that are forced, and the values of those forced to 1. -/
def forceMask (fs : List (Nat × Nat × Bool)) (n area : Nat) : BitVec n :=
  bitsOf n ((fs.filter (fun f => f.1 == area)).map (·.2.1))
def forceOnes (fs : List (Nat × Nat × Bool)) (n area : Nat) : BitVec n :=
  bitsOf n ((fs.filter (fun f => f.1 == area && f.2.2)).map (·.2.1))

/-- An area as forced. -/
def forced {n : Nat} (fs : List (Nat × Nat × Bool)) (area : Nat) (x : BitVec n) : BitVec n :=
  (x &&& ~~~ forceMask fs n area) ||| forceOnes fs n area

/-- The images at an exchange (R254), with the timers and counters kept and the Q and Y bits cleared. -/
def exchangeAreas (old : Option Prog) (new : Prog) (fs : List (Nat × Nat × Bool)) (tb : Nat) (m : Areas) :
    Areas × Nat × Nat :=
  let olds := (old.map Prog.insns).getD []
  let news := new.insns
  let has (l : List Insn) (f : Insn → Bool) (k : Nat) : Bool := l.any (fun i => f i && i.addr == k)
  let keptT := (new.freshT tb).map (fun x => if has olds definesT x.1 then (x.1, m.t.getD x.1 x.2) else x)
  let newC := (new.freshC).filter (fun x => !has olds definesC x.1)
  let c := newC.foldl (fun t x => t.set x.1 x.2) m.c
  let f := m.f.filter (fun x => has olds definesF x.1 || !has news definesF x.1)
  let none8 : BitVec 8192 := 0
  let noneY : BitVec 256 := 0
  let oldQ := (old.map (fun p => p.writeMask 8192 1)).getD none8
  let oldY := (old.map (fun p => p.writeMask 256 8)).getD noneY
  let dropQ := oldQ &&& ~~~ new.writeMask 8192 1
  let dropY := oldY &&& ~~~ new.writeMask 256 8
  let dropQ := dropQ &&& ~~~ forceMask fs 8192 1
  let dropY := dropY &&& ~~~ forceMask fs 256 8
  let kept := ((new.freshT tb).filter (fun x => has olds definesT x.1)).length +
    ((new.freshC).filter (fun x => has olds definesC x.1)).length
  let count {n : Nat} (x : BitVec n) : Nat := ((List.range n).filter (fun i => x.getLsbD i)).length
  ({ m with t := keptT, c := c, f := f, q := m.q &&& ~~~ dropQ, y := m.y &&& ~~~ dropY }, kept,
    count dropQ + count dropY)

end Machine
end Sys2Proof
end

