-- ==== Sys2Proof/Machine/FixedMath.lean ====
section
/-! DEFINITION. Real functions of the filter and phasor formulas, in integers of units of 2⁻⁸⁰: far finer
than any rounding the spec applies to their results (log 20). -/

namespace Sys2Proof
namespace Machine

/-- The number 1. -/
def fxOne : Int := 2 ^ 80

/-- π. -/
def fxPi : Int := 0x3243F6A8885A308D31319

/-- Product. -/
def fxMul (a b : Int) : Int := a * b / fxOne

/-- Quotient, 0 by 0. -/
def fxDiv (a b : Int) : Int := if b = 0 then 0 else a * fxOne / b

/-- The rational a/b. -/
def fxRat (a : Int) (b : Nat) : Int := if b = 0 then 0 else a * fxOne / b

/-- Nearest integer, halves away from zero. -/
def fxRound (a : Int) : Int := divRoundAway a (2 ^ 80)

/-- Σ of an alternating Taylor series: the term `t`, then `t·x²/((n+1)(n+2))` with the sign changed, and so
on. -/
def fxSeries (x2 : Int) : Nat → Nat → Int → Int
  | 0, _, _ => 0
  | k + 1, n, t => t - fxSeries x2 k (n + 2) (fxMul t x2 / ((n + 1) * (n + 2) : Nat))

/-- sin x for |x| ≤ π/2. -/
def fxSinSmall (x : Int) : Int := fxSeries (fxMul x x) 20 1 x

/-- sin(π·a/b). -/
def fxSinPi (a : Int) (b : Nat) : Int :=
  if b = 0 then 0
  else
    let r := (a % (2 * b : Nat)).toNat
    let neg := b ≤ r
    let r := if neg then r - b else r
    let r := if b < 2 * r then b - r else r
    let v := fxSinSmall (fxPi * r / b)
    if neg then -v else v

/-- cos(π·a/b). -/
def fxCosPi (a : Int) (b : Nat) : Int := fxSinPi (2 * a + b) (2 * b)

/-- sinc(a/b) = sin(πa/b)/(πa/b), sinc(0) = 1 (R171). -/
def fxSinc (a : Int) (b : Nat) : Int :=
  if a = 0 then fxOne else fxSinPi a b * b * fxOne / (fxPi * a)

/-- Σ z^k/(k!)² from k on: `t` is the k-th term. -/
def fxBessel (z : Int) : Nat → Nat → Int → Int
  | 0, _, _ => 0
  | m + 1, k, t => t + fxBessel z m (k + 1) (fxMul t z / (((k + 1) * (k + 1) : Nat) : Int))

/-- I0(2√z). -/
def fxI0 (z : Int) : Int := fxBessel z 48 0 fxOne

/-- kaiser(o, β, H) with o = a/b, β an integer and H = h/2 (R171); 0 outside |o| ≤ H. -/
def fxKaiser (a : Int) (b : Nat) (beta h : Nat) : Int :=
  let num : Int := ((h * b : Nat) : Int) ^ 2 - (2 * a) ^ 2
  if num < 0 then 0
  else
    let z0 := fxRat (beta * beta : Nat) 4
    fxDiv (fxI0 (z0 * num / (((h * b) ^ 2 : Nat) : Int))) (fxI0 z0)

/-- ⌊√n⌋ by bits, from bit `k` − 1 down. -/
def isqrtFrom (n : Nat) : Nat → Nat → Nat
  | 0, r => r
  | k + 1, r => let c := r + 2 ^ k; isqrtFrom n k (if c * c ≤ n then c else r)

/-- ⌊√n⌋ of n < 2²⁵⁶. -/
def isqrt (n : Nat) : Nat := isqrtFrom n 128 0

/-- √x for x ≥ 0. -/
def fxSqrt (x : Int) : Int := (isqrt (x.toNat * 2 ^ 80) : Nat)

/-- Σ of the arctangent series x − x³/3 + x⁵/5 − … -/
def fxAtanSeries (x2 : Int) : Nat → Nat → Int → Int
  | 0, _, _ => 0
  | k + 1, n, t => t / (n : Int) - fxAtanSeries x2 k (n + 2) (fxMul t x2)

/-- arctan x for 0 ≤ x ≤ 1, by halving the angle three times. -/
def fxAtanUnit (x : Int) : Int :=
  let half (y : Int) : Int := fxDiv y (fxOne + fxSqrt (fxOne + fxMul y y))
  let y := half (half (half x))
  8 * fxAtanSeries (fxMul y y) 24 1 y

/-- atan2(y, x) in units of π radians times 2⁸⁰, in (−1, 1]; 0 at the origin. -/
def fxAtan2 (y x : Int) : Int :=
  let ax : Int := x.natAbs
  let ay : Int := y.natAbs
  let a := if ax = 0 ∧ ay = 0 then 0
    else if ay ≤ ax then fxAtanUnit (fxDiv ay ax) else fxPi / 2 - fxAtanUnit (fxDiv ax ay)
  let a := if x < 0 then fxPi - a else a
  fxDiv (if y < 0 then -a else a) fxPi

/-- ln 2 in units of 2⁻⁸⁰. -/
def fxLn2 : Int := 0xB17217F7D1CF79ABC9E3

/-- Σ (−r)^i / i!, from term `i` on. -/
def fxExpSeries (r : Int) : Nat → Nat → Int → Int
  | 0, _, _ => 0
  | n + 1, i, t => t + fxExpSeries r n (i + 1) (-(fxMul t r) / ((i : Int) + 1))

/-- e^(−x) for x ≥ 0. -/
def fxExpNeg (x : Int) : Int :=
  let k := (x / fxLn2).toNat
  if 90 < k then 0 else fxExpSeries (x % fxLn2) 32 0 fxOne / 2 ^ k

end Machine
end Sys2Proof
end

