-- ==== Sys2Proof/Machine/Commands.lean ====
section
/-! DEFINITION. The opcode index of R501 and the legality classes of R502. -/

namespace Sys2Proof
namespace Machine

/-- The paths that accept an opcode (R501). -/
inductive Paths where
  /-- PF channels and P7. -/
  | p
  /-- PF channels, P7 and VF channels. -/
  | pv
  /-- PF and VF channels. -/
  | mv
  /-- PF channels only. -/
  | m
  deriving DecidableEq, Repr

/-- The legality classes of R502. -/
inductive Cls where
  | a | af | c | cm | cmf | om | f
  deriving DecidableEq, Repr

/-- A row of the index: opcode, privilege, seal switches needed (bit i for SW1 position i + 1),
paths and class. -/
structure OpInfo where
  opcode : Nat
  priv : Bool
  seals : Nat
  paths : Paths
  cls : Cls
  deriving DecidableEq, Repr

/-- Part 0 of the index of R501. -/
def opTable0 : List OpInfo := [
  ⟨0x0110, true, 0, .p, .a⟩,
  ⟨0x0111, true, 0, .p, .af⟩,
  ⟨0x0112, false, 0, .p, .af⟩,
  ⟨0x0120, true, 0, .p, .c⟩,
  ⟨0x0121, false, 0, .p, .a⟩,
  ⟨0x0122, true, 0, .p, .cm⟩,
  ⟨0x0201, true, 0, .p, .c⟩,
  ⟨0x0202, false, 0, .p, .a⟩,
  ⟨0x0203, false, 0, .pv, .a⟩,
  ⟨0x0204, false, 0, .pv, .a⟩,
  ⟨0x0205, false, 0, .p, .a⟩,
  ⟨0x0206, true, 0, .p, .a⟩,
  ⟨0x0301, true, 0, .p, .a⟩,
  ⟨0x0302, false, 0, .p, .a⟩,
  ⟨0x0303, true, 0, .p, .a⟩,
  ⟨0x0304, false, 0, .p, .a⟩,
  ⟨0x0305, false, 0, .p, .a⟩,
  ⟨0x0306, false, 0, .p, .a⟩,
  ⟨0x0307, false, 0, .p, .a⟩,
  ⟨0x0308, true, 0, .p, .cm⟩,
  ⟨0x0401, true, 0, .p, .a⟩,
  ⟨0x0402, true, 0, .p, .a⟩,
  ⟨0x0403, true, 0, .p, .a⟩,
  ⟨0x0404, true, 0, .p, .a⟩]

/-- Part 1 of the index of R501. -/
def opTable1 : List OpInfo := [
  ⟨0x0405, true, 0, .p, .a⟩,
  ⟨0x0406, false, 0, .p, .a⟩,
  ⟨0x0407, true, 0, .p, .a⟩,
  ⟨0x0408, false, 0, .p, .a⟩,
  ⟨0x0409, false, 0, .p, .a⟩,
  ⟨0x0501, true, 0, .p, .a⟩,
  ⟨0x0502, true, 0, .p, .a⟩,
  ⟨0x0503, true, 0, .p, .a⟩,
  ⟨0x0504, true, 0, .p, .a⟩,
  ⟨0x0505, false, 0, .p, .a⟩,
  ⟨0x0506, false, 0, .pv, .a⟩,
  ⟨0x0507, false, 0, .pv, .a⟩,
  ⟨0x0508, true, 0, .p, .a⟩,
  ⟨0x0509, false, 0, .p, .a⟩,
  ⟨0x0601, true, 0, .p, .a⟩,
  ⟨0x0602, true, 0, .p, .a⟩,
  ⟨0x0603, false, 0, .p, .a⟩,
  ⟨0x0604, false, 0, .pv, .a⟩,
  ⟨0x0605, false, 0, .pv, .a⟩,
  ⟨0x0701, true, 0, .p, .a⟩,
  ⟨0x0702, true, 0, .p, .a⟩,
  ⟨0x0703, true, 0, .p, .a⟩,
  ⟨0x0704, true, 0, .p, .a⟩,
  ⟨0x0705, true, 0, .p, .a⟩]

/-- Part 2 of the index of R501. -/
def opTable2 : List OpInfo := [
  ⟨0x0706, false, 0, .p, .a⟩,
  ⟨0x0707, true, 0, .p, .a⟩,
  ⟨0x0708, false, 0, .p, .a⟩,
  ⟨0x0709, false, 0, .pv, .a⟩,
  ⟨0x070A, false, 0, .p, .a⟩,
  ⟨0x070B, false, 0, .pv, .a⟩,
  ⟨0x0801, true, 0, .p, .a⟩,
  ⟨0x0802, false, 0, .p, .a⟩,
  ⟨0x0803, true, 0, .p, .a⟩,
  ⟨0x0804, false, 0, .p, .a⟩,
  ⟨0x0805, true, 0, .p, .a⟩,
  ⟨0x0806, false, 0, .pv, .a⟩,
  ⟨0x0807, false, 0, .pv, .a⟩,
  ⟨0x0808, false, 0, .pv, .a⟩,
  ⟨0x0809, false, 0, .p, .a⟩,
  ⟨0x080A, false, 0, .p, .a⟩,
  ⟨0x0901, true, 0, .p, .a⟩,
  ⟨0x0902, true, 0, .p, .a⟩,
  ⟨0x0903, true, 0, .p, .a⟩,
  ⟨0x0904, true, 0, .p, .cm⟩,
  ⟨0x0905, true, 0, .p, .cm⟩,
  ⟨0x0906, true, 0, .p, .a⟩,
  ⟨0x0907, true, 0, .p, .a⟩,
  ⟨0x0908, false, 0, .pv, .a⟩]

/-- Part 3 of the index of R501. -/
def opTable3 : List OpInfo := [
  ⟨0x0909, false, 0, .pv, .a⟩,
  ⟨0x090A, false, 0, .p, .a⟩,
  ⟨0x0A01, true, 0, .p, .c⟩,
  ⟨0x0A02, true, 0, .p, .a⟩,
  ⟨0x0A03, false, 0, .p, .a⟩,
  ⟨0x0A04, false, 0, .pv, .a⟩,
  ⟨0x0A05, false, 0, .pv, .a⟩,
  ⟨0x0A06, false, 0, .p, .a⟩,
  ⟨0x0B01, true, 0, .p, .a⟩,
  ⟨0x0B02, true, 0, .p, .a⟩,
  ⟨0x0B03, false, 0, .pv, .a⟩,
  ⟨0x0B04, false, 0, .pv, .a⟩,
  ⟨0x0B05, false, 0, .p, .a⟩,
  ⟨0x0B06, false, 0, .p, .a⟩,
  ⟨0x0B07, false, 0, .p, .a⟩,
  ⟨0x0B10, true, 0, .p, .cm⟩,
  ⟨0x0B11, true, 0, .p, .cm⟩,
  ⟨0x0B12, true, 0, .p, .a⟩,
  ⟨0x0B13, false, 0, .pv, .a⟩,
  ⟨0x0C01, false, 0, .p, .af⟩,
  ⟨0x0C02, false, 0, .p, .af⟩,
  ⟨0x0C03, false, 0, .p, .a⟩,
  ⟨0x0C04, true, 0, .p, .cm⟩,
  ⟨0x0D01, false, 0, .p, .af⟩]

/-- Part 4 of the index of R501. -/
def opTable4 : List OpInfo := [
  ⟨0x0D02, true, 3, .p, .cm⟩,
  ⟨0x0D03, true, 3, .p, .cm⟩,
  ⟨0x0D04, false, 0, .p, .a⟩,
  ⟨0x0D05, true, 0, .p, .a⟩,
  ⟨0x0D06, true, 0, .p, .a⟩,
  ⟨0x0D07, false, 0, .p, .a⟩,
  ⟨0x0E01, false, 0, .p, .a⟩,
  ⟨0x0E02, false, 0, .p, .af⟩,
  ⟨0x0E03, false, 0, .p, .a⟩,
  ⟨0x0E04, false, 0, .p, .a⟩,
  ⟨0x0E05, true, 0, .p, .a⟩,
  ⟨0x0E06, true, 0, .p, .a⟩,
  ⟨0x0E07, false, 0, .p, .a⟩,
  ⟨0x0E08, false, 8, .m, .c⟩,
  ⟨0x0E09, true, 8, .p, .cm⟩,
  ⟨0x0E0A, true, 8, .p, .cm⟩,
  ⟨0x0E0B, true, 8, .p, .cm⟩,
  ⟨0x0E0C, true, 8, .p, .c⟩,
  ⟨0x0E0D, true, 4, .p, .cm⟩,
  ⟨0x0E0E, true, 4, .p, .cm⟩,
  ⟨0x0E0F, true, 8, .p, .cm⟩,
  ⟨0x0E10, false, 8, .m, .f⟩,
  ⟨0x0E11, false, 0, .p, .a⟩,
  ⟨0x0F01, true, 0, .p, .c⟩]

/-- Part 5 of the index of R501. -/
def opTable5 : List OpInfo := [
  ⟨0x0F02, false, 0, .p, .a⟩,
  ⟨0x0F03, false, 0, .pv, .af⟩,
  ⟨0x0F04, false, 0, .p, .a⟩,
  ⟨0x0F05, true, 0, .p, .om⟩,
  ⟨0x0F06, true, 0, .p, .om⟩,
  ⟨0x0F07, true, 0, .p, .om⟩,
  ⟨0x1001, false, 0, .mv, .a⟩,
  ⟨0x1002, false, 0, .mv, .a⟩,
  ⟨0x1003, false, 0, .mv, .a⟩,
  ⟨0x1004, false, 0, .mv, .a⟩,
  ⟨0x1010, false, 0, .p, .a⟩,
  ⟨0x1011, false, 0, .p, .a⟩,
  ⟨0x1012, false, 0, .p, .a⟩,
  ⟨0x1013, false, 0, .p, .a⟩,
  ⟨0x1014, false, 0, .p, .a⟩,
  ⟨0x1015, false, 0, .p, .a⟩,
  ⟨0x1016, false, 0, .p, .a⟩,
  ⟨0x1017, false, 0, .p, .a⟩,
  ⟨0x1018, false, 0, .p, .a⟩,
  ⟨0x1019, false, 0, .p, .a⟩,
  ⟨0x1101, true, 0, .p, .a⟩,
  ⟨0x1102, false, 0, .p, .a⟩,
  ⟨0x1103, false, 0, .p, .af⟩,
  ⟨0x1104, false, 0, .p, .af⟩]

/-- Part 6 of the index of R501. -/
def opTable6 : List OpInfo := [
  ⟨0x1110, true, 0, .p, .cm⟩,
  ⟨0x1111, false, 0, .p, .a⟩,
  ⟨0x1112, true, 0, .p, .cm⟩,
  ⟨0x1113, false, 0, .p, .af⟩,
  ⟨0x1120, true, 4, .p, .cmf⟩,
  ⟨0x1121, true, 0, .p, .cmf⟩,
  ⟨0x1122, false, 0, .p, .af⟩,
  ⟨0x1201, false, 0, .pv, .a⟩,
  ⟨0x1202, true, 0, .p, .a⟩,
  ⟨0x1203, true, 0, .p, .a⟩]

/-- The index of R501. FW_SELECT stands with the class of its activate form (R502). -/
def opTable : List OpInfo :=
  opTable0 ++ opTable1 ++ opTable2 ++ opTable3 ++ opTable4 ++ opTable5 ++ opTable6

/-- The row of an opcode, if the index lists it (R500). -/
def opInfo (o : Nat) : Option OpInfo := opTable.find? (fun i => i.opcode == o)

/-- A path among those a row names (R500, R501). -/
def pathOk : Paths → Path → Bool
  | .p, .mb _ => true
  | .p, .p7 _ => true
  | .p, .vf _ => false
  | .pv, _ => true
  | .mv, .p7 _ => false
  | .mv, _ => true
  | .m, .mb _ => true
  | .m, _ => false

/-- R502: legality of a class in a module state, on a path. BOOT fetches nothing (R99). -/
def legal (c : Cls) (state : Nat) (p : Path) : Bool :=
  match c with
  | .a => state == 1 || state == 2 || state == 3
  | .af => state == 1 || state == 2 || state == 3 || (state == 4 && p == .mb 0)
  | .c => state == 1
  | .cm => state == 1 || state == 3
  | .cmf => state == 1 || state == 3 || (state == 4 && p == .mb 0)
  | .om => state == 2 || state == 3
  | .f => state == 4 && p == .mb 0

end Machine
end Sys2Proof
end

