-- ==== Sys2Proof/Machine/Ops.lean ====
section
/-! DEFINITION. The operations every family shares: the clock and its stamps, calendar time, free
values, interrupts and their messages, counters, Firn events, DRBG draws, mailbox channels and their
completions, seal switches, authorisation, and the frame of checks every command passes (R98). -/

namespace Sys2Proof
namespace Machine

/-- The outcome of every meaning. -/
abbrev Out := Host.Outcome State Fault Refusal

/-! ## Clock and stamps (R314 to R317) -/

/-- Extended local time, ns (R315). -/
def TimeBlk.ext (t : TimeBlk) : Nat := (t.acc >>> 32).toNat

/-- Extended local time now. -/
def State.now (s : State) : Nat := s.time.ext

/-- The clock after `n` CLK_TIME ticks (R314). -/
def TimeBlk.tick (t : TimeBlk) (n : Nat) : TimeBlk :=
  { t with acc := t.acc + BitVec.ofNat 96 (n * t.incr.toNat), ticks := t.ticks + n }

/-- The ticks until extended local time reaches `due`. -/
def TimeBlk.ticksTo (t : TimeBlk) (due : Nat) : Nat :=
  if due ≤ t.ext then 0 else ceilDiv (4294967296 * due - t.acc.toNat) t.incr.toNat

/-- Time passes up to `due`; nothing changes when it has passed already (log 1). -/
def State.clockTo (s : State) (due : Nat) : State :=
  { s with time := s.time.tick (s.time.ticksTo due) }

/-- The stamp of an instant (R6, R316, R328). -/
def State.stampOf (s : State) (ext src : Nat) (interp : Bool := false) : Stamp :=
  { ns := ext % 4294967296
    tag := ext / 4294967296 % 256
    src := src
    interp := interp
    holdover := s.time.servo == .holdover || (s.time.servo == .acquire && s.time.wasLocked)
    lock := s.time.servo == .locked }

/-- A latched stamp of now. -/
def State.stamp (s : State) (src : Nat) : Stamp := s.stampOf s.now src

/-- A stamp's six bytes in host memory (R6). -/
def Stamp.bytes (t : Stamp) : Bytes :=
  leBytes 4 t.ns ++
    leBytes 2 (t.tag + 256 * (8 * t.src + 4 * b2n t.interp + 2 * b2n t.holdover + b2n t.lock))

/-! ## Calendar time (R321, R376) -/

/-- Extended local time as TAI nanoseconds and the UTC offset that applies, through the marks held,
newest first (R321). With no mark held there is nothing to convert by. -/
def taiOf (x : Int) : List Mark → Option (Int × Nat)
  | [] => none
  | [m] => some (1000000000 * m.sec + (x - m.ns), m.utc)
  | n :: o :: rest =>
    let rate (b : Mark) : Int := 1000000000 * b.sec + divRoundUp (1000000000 * (x - b.ns)) (n.ns - o.ns)
    if x ≥ n.ns then some (rate n, n.utc)
    else if x ≥ o.ns || rest.isEmpty then some (rate o, o.utc)
    else taiOf x (o :: rest)

/-- Days since 1970-01-01 as year, month and day of the proleptic Gregorian calendar. -/
def civil (days : Int) : Int × Nat × Nat :=
  let z := days + 719468
  let era := z / 146097
  let doe := (z % 146097).toNat
  let yoe := (doe - doe / 1460 + doe / 36524 - doe / 146096) / 365
  let doy := doe - (365 * yoe + yoe / 4 - yoe / 100)
  let mp := (5 * doy + 2) / 153
  let d := doy - (153 * mp + 2) / 5 + 1
  let m := if mp < 10 then mp + 3 else mp - 9
  (yoe + era * 400 + (if m ≤ 2 then 1 else 0), m, d)

/-- UTC nanoseconds since 1970 as a calendar and the sub-second in 1/32,768 s, rounded down (R376). -/
def utcCalendar (ns : Int) : Calendar × Nat :=
  let sec := ns / 1000000000
  let (y, m, d) := civil (sec / 86400)
  let t := (sec % 86400).toNat
  ({ year := ((y - 2000) % 256).toNat, month := m, day := d, hour := t / 3600,
     min := t / 60 % 60, sec := t % 60, wday := 0 },
   (ns % 1000000000).toNat * 32768 / 1000000000)

/-- subsec of the running RTC second, with CLK_RTC at its nominal rate against local time (log 8). -/
def RtcBlk.subsec (r : RtcBlk) (now : Nat) : Nat :=
  min 32767 ((now - r.secStart) * 32768 / 1000000000)

/-- Bytes 16 to 23 of R72 for a calendar and a sub-second. -/
def calBytes (c : Calendar) (sub : Nat) : Bytes :=
  [BitVec.ofNat 8 c.year, BitVec.ofNat 8 c.month, BitVec.ofNat 8 c.day, BitVec.ofNat 8 c.hour,
   BitVec.ofNat 8 c.min, BitVec.ofNat 8 c.sec] ++ leBytes 2 (sub % 32768)

/-- The UTC offset as signed seconds. -/
def State.utcAt (s : State) (ext : Nat) : Option Int :=
  (taiOf ext s.time.map).map (fun r => r.1 - 1000000000 * r.2)

/-- The calendar bytes of an instant (R376); from the RTC while no mark is held (log 9). -/
def State.calendarOf (s : State) (ext : Nat) : Bytes :=
  match s.utcAt ext with
  | some utc => let c := utcCalendar utc; calBytes c.1 c.2
  | none => calBytes s.rtc.cal (s.rtc.subsec ext)

/-! ## Free values (log 2) -/

/-- A value the spec leaves open, a fresh one at every draw. -/
def State.draw (s : State) : Nat × State :=
  (Config.freeValue s.free, { s with free := s.free + 1 })

/-- A value the spec bounds and leaves open: an integer between −b and b. -/
def State.drawWithin (s : State) (b : Nat) : Int × State :=
  let d := s.draw
  ((d.1 % (2 * b + 1) : Nat) - (b : Int), d.2)

/-- `n` bytes of the DRBG (R415). -/
def State.random (s : State) (n : Nat) : Bytes × State :=
  (padTo n (Config.drbg s.sec.draws), { s with sec.draws := s.sec.draws + 1 })

/-! ## Interrupts (R88 to R90, R109) -/

/-- The MSI-X entry of a function's vector. -/
def HostBlk.msixAt (h : HostBlk) (fn vec : Nat) : Msix := h.msix.getD (64 * fn + vec) {}

/-- Sends a vector's message, or sets its PBA bit while it is masked (R90). -/
def HostBlk.message (h : HostBlk) (fn vec : Nat) : HostBlk :=
  { h with msix := h.msix.upd (64 * fn + vec) {} (fun m =>
      if m.masked || h.fnMask.contains fn then { m with pba := true } else { m with sent := m.sent + 1 }) }

/-- Clears a vector's PBA bit where no cause of it is both set and unmasked (R90). -/
def HostBlk.settle (h : HostBlk) (fn vec : Nat) (pend : Bool) : HostBlk :=
  if !pend && (h.msixAt fn vec).pba then
    { h with msix := h.msix.upd (64 * fn + vec) {} (fun m => { m with pba := false }) }
  else h

/-- The vector of a bit of INT_CAUSE (R88). -/
def intVector (bit : Nat) : Nat := if bit = 15 then 0 else if bit ≤ 3 then bit + 1 else 33 + bit

/-- Sends the messages of the bits of a 16-bit word of INT_CAUSE, lowest bit first. -/
def HostBlk.messages (h : HostBlk) (w : BitVec 16) : HostBlk :=
  (List.range 16).foldl (fun h b => if w.getLsbD b then h.message 0 (intVector b) else h) h

/-- Settles the PBA bits of the vectors of INT_CAUSE. -/
def HostBlk.settleAll (h : HostBlk) : HostBlk :=
  (List.range 16).foldl (fun h b =>
    h.settle 0 (intVector b) ((h.cause &&& ~~~h.mask).getLsbD b)) h

/-- Sends the messages of the bits of a word of INT_DMA_CAUSE. -/
def HostBlk.dmaMessages (h : HostBlk) (w : Word) : HostBlk :=
  (List.range 32).foldl (fun h b => if w.getLsbD b then h.message 0 (5 + b) else h) h

/-- Settles the PBA bits of the vectors of INT_DMA_CAUSE. -/
def HostBlk.dmaSettleAll (h : HostBlk) : HostBlk :=
  (List.range 32).foldl (fun h b =>
    h.settle 0 (5 + b) ((h.dmaCause &&& ~~~h.dmaMask).getLsbD b)) h

/-- Sets a bit of INT_CAUSE, with the message of R90 where it goes from 0 to 1 unmasked. -/
def State.raise (s : State) (bit : Nat) : State :=
  if s.host.cause.getLsbD bit then s
  else
    let h := { s.host with cause := s.host.cause ||| BitVec.twoPow 16 bit }
    { s with host := if h.mask.getLsbD bit then h else h.message 0 (intVector bit) }

/-- Sets bit n of INT_DMA_CAUSE (R89, R146). -/
def State.raiseDma (s : State) (n : Nat) : State :=
  if s.host.dmaCause.getLsbD n then s
  else
    let h := { s.host with dmaCause := s.host.dmaCause ||| BitVec.twoPow 32 n }
    { s with host := if h.dmaMask.getLsbD n then h else h.message 0 (5 + n) }

/-- A function's VF-layer state. -/
def State.fn (s : State) (n : Nat) : Fn := s.fns.getD n {}

/-- Replaces a function's VF-layer state. -/
def State.setFn (s : State) (n : Nat) (f : Fn) : State := { s with fns := s.fns.set n f }

/-- Sets a bit of a VF's VF_INT_CAUSE (R109): 0 MB_CQ, 1 Q_ERR, 2 TRIP_REJ. The PF has no such register. -/
def State.raiseVf (s : State) (n bit : Nat) : State :=
  let f := s.fn n
  if n = 0 || f.cause.getLsbD bit then s
  else
    let s := s.setFn n { f with cause := f.cause ||| BitVec.twoPow 3 bit }
    if f.mask.getLsbD bit then s else { s with host := s.host.message n 0 }

/-- INT_CAUSE bits by name (R89). -/
def intSTATE : Nat := 15
def intALARM : Nat := 14
def intSEC : Nat := 13
def intLOGIC : Nat := 12
def intACQ : Nat := 11
def intFIRN : Nat := 10
def intSAFE : Nat := 9
def intRED : Nat := 8
def intCNT : Nat := 7
def intRTC : Nat := 6
def intTIME : Nat := 5
def intECC : Nat := 4

/-- Sets bits of TIME_EVT and raises INT_CAUSE.TIME where an unmasked one goes from 0 to 1 (R335). -/
def State.timeEvt (s : State) (bit : Nat) : State :=
  let was := s.time.evt.getLsbD bit
  let s := { s with time.evt := s.time.evt ||| BitVec.twoPow 8 bit }
  if was || s.time.evtMask.getLsbD bit then s else s.raise intTIME

/-- Sets bits of RTC_EVT and raises INT_CAUSE.RTC where an unmasked one goes from 0 to 1 (R349). -/
def State.rtcEvt (s : State) (bit : Nat) : State :=
  let was := s.rtc.evt.getLsbD bit
  let s := { s with rtc.evt := s.rtc.evt ||| BitVec.twoPow 6 bit }
  if was || s.rtc.evtMask.getLsbD bit then s else s.raise intRTC

/-- The data path runs: in CONFIGURE, OPERATE and MAINTAIN, with its domains on (R53, R62). -/
def State.pathOn (s : State) : Bool := 1 ≤ s.mod.state && s.mod.state ≤ 3 && s.power.on.contains .dsp

/-- An event of the data path: nothing comes of it while the path is stopped (R62). -/
def State.onPath (s : State) (t : Out) : Out := if s.pathOn then t else .next s

/-- PD_HOST is on, so an access reaches the host interface (R12, R510). -/
def State.hostOn (s : State) : Bool := s.power.on.contains .host

/-! ## Firn events (R375 to R381) -/

/-- ROM serves this FAILSAFE: nothing is written to Firn (R504, R507). -/
def State.romServed (s : State) : Bool := s.mod.state == 4 && 1 ≤ s.mod.failReason && s.mod.failReason ≤ 3

/-- Offers an event with its stamp to Firn (R377, R379, R380): it takes the next seq; it is queued, or
discarded where the log or the queue is full. -/
def State.firnTake (s : State) (code : Nat) (stamp : Stamp) (ext : Nat) (data : Bytes) : State :=
  let seq := s.ao.firnSeq
  let s := { s with ao.firnSeq := (seq + 1) % 4294967296 }
  if s.firn.full || s.firn.queue.length ≥ 4096 then
    let d := (s.firn.discarded + 1) % 4294967296
    let lost := if s.firn.full then s.firn.lost else
      some (match s.firn.lost with | none => (seq, 1) | some l => (l.1, l.2 + 1))
    let s := { s with firn := { s.firn with discarded := d, lost := lost } }
    if d = 2147483648 then s.raise intFIRN else s
  else
    let e : FirnEv :=
      { seq := seq, code := code, stamp := stamp, calendar := s.calendarOf ext,
        boot := s.mod.state == 0
        held := s.firn.frozen.isSome || s.firn.clear.isSome,
        calInvalid := s.rtc.invalid && !s.time.wasLocked, calFree := !s.time.wasLocked,
        data := padTo 8 data }
    let q := s.firn.queue ++ [e]
    { s with firn := { s.firn with queue := q, qMax := max s.firn.qMax q.length } }

/-- Offers an event to Firn, which ROM does not run (R507). -/
def State.firnAt (s : State) (code : Nat) (stamp : Stamp) (ext : Nat) (data : Bytes) : State :=
  if s.romServed then s else s.firnTake code stamp ext data

/-- Offers an event detected now: source class 11 (R375). -/
def State.firnEv (s : State) (code : Nat) (data : Bytes) : State :=
  s.firnAt code (s.stamp 11) s.now data

/-- Raises or clears an alarm of MB_STATE: ALARM when raised, and its Firn record (R24, R378). -/
def State.alarm (s : State) (bit : Nat) (on : Bool) (detail : Nat) : State :=
  let s := if on then s.raise intALARM else s
  s.firnEv 0x0103 ([BitVec.ofNat 8 bit, BitVec.ofNat 8 (b2n on)] ++ leBytes 1 detail)

/-! ## Counters (R291, R292) -/

/-- A counter one event on. -/
def inc32 (v : Nat) : Nat := (v + 1) % 4294967296

/-- The event of a counter that is not a port counter (R291): where the event that took it to `new`
took bit 31 from 0 to 1, a record that names the opcode that reads it, the position in its response and
the object. -/
def State.counted (s : State) (new opcode pos obj : Nat) : State :=
  if new = 2147483648 then
    s.firnEv 0x0107 (leBytes 2 opcode ++ leBytes 2 pos ++ leBytes 2 obj)
  else s

/-- Adds one to the port counter at a byte offset of a port block (R291, R292). -/
def State.portCount (s : State) (port off : Nat) : State :=
  let k := 64 * port + off / 4
  let v := inc32 (s.ports.counters.getD k 0)
  let s := { s with ports.counters := s.ports.counters.set k v }
  if v = 2147483648 then
    State.raise { s with ports.half := s.ports.half.upd port 0 (fun m => m ||| 2 ^ (off / 4)) } intCNT
  else s

/-- Adds `n` to a port counter of octets. -/
def State.portAdd (s : State) (port off n : Nat) : State :=
  let k := 64 * port + off / 4
  let old := s.ports.counters.getD k 0
  let v := (old + n) % 4294967296
  let s := { s with ports.counters := s.ports.counters.set k v }
  if !old.testBit 31 && v.testBit 31 then
    State.raise { s with ports.half := s.ports.half.upd port 0 (fun m => m ||| 2 ^ (off / 4)) } intCNT
  else s

/-- An input fault is latched for the logic engine and counted (R247). -/
def State.inputFault (s : State) : State :=
  let v := inc32 s.logic.inFaults
  State.counted { s with logic := { s.logic with inFault := true, inFaults := v } } v 0x0908 36 0

/-! ## Mailbox channels and completions (R92 to R99, R496) -/

/-- The key of a mailbox path's channel. -/
def chanKey : Path → Nat
  | .mb n => n
  | .vf n => 128 + n
  | .p7 n => 256 + n

/-- The ring size of a path (R92, R128). -/
def ringSize : Path → Nat
  | .vf _ => 16
  | _ => 64

/-- A mailbox path's channel. -/
def State.chan (s : State) (p : Path) : Chan := s.host.chans.getD (chanKey p) {}

/-- Replaces a mailbox path's channel. -/
def State.setChan (s : State) (p : Path) (c : Chan) : State :=
  { s with host.chans := s.host.chans.set (chanKey p) c }

/-- The command a path holds. -/
def State.execOf (s : State) : Path → Option Exec
  | .p7 n => (s.p7.get? n).bind (·.exec)
  | p => (s.chan p).exec

/-- Replaces the command a path holds. -/
def State.setExec (s : State) (p : Path) (e : Option Exec) : State :=
  match p with
  | .p7 n =>
    match s.p7.get? n with
    | some x => { s with p7 := s.p7.set n { x with exec := e } }
    | none => s
  | p => s.setChan p { s.chan p with exec := e }

/-- Raises a channel's completion cause: MBn_CQ, or MB_CQ of the VF. -/
def State.raiseCq (s : State) : Path → State
  | .mb n => s.raise n
  | .vf n => s.raiseVf n 0
  | .p7 _ => s

/-- Marks the pages of a module write into a function's logged range (R126). -/
def Dirty.mark (d : Dirty) (addr len : Nat) : Dirty :=
  let lo := max addr d.base
  let hi := min (addr + len) (d.base + d.len)
  let first := (lo - d.base) / 4096
  let put (ps : List Nat) (i : Nat) : List Nat :=
    let q := first + i
    if ps.contains q then ps else ps.filter (· < q) ++ [q] ++ ps.filter (q < ·)
  if lo < hi then
    { d with pages := (List.range ((hi - 1 - d.base) / 4096 + 1 - first)).foldl put d.pages }
  else d

/-- Logs a module write into a function's memory (R126). -/
def State.logWrite (s : State) (n addr len : Nat) : State :=
  match (s.fn n).dirty with
  | some d => s.setFn n { s.fn n with dirty := some (d.mark addr len) }
  | none => s

/-- Opcode known to this firmware and permitted on this path, in the FAILSAFE that ROM serves too
(R98 step 1, R500, R504). -/
def State.opcodeOk (s : State) (p : Path) (o : Nat) : Bool :=
  match opInfo o with
  | none => false
  | some i =>
    pathOk i.paths p &&
      (s.mod.state != 4 ||
        match s.mod.failReason with
        | 1 => o == 0x1120 || o == 0x1121
        | 2 => o == 0x0E10
        | 3 => false
        | _ => true)

/-- Writes a completion for a command: response data, completion entry, message, in this order (R87,
R97). A command that a reset cut off leaves a Firn record in its place (R102, R122). -/
def State.post (s : State) (p : Path) (e : Exec) (status : Nat) (resp : Bytes) (xp : Option Bytes) : State :=
  let fnNo := match p with | .vf n => n | _ => 0
  if e.cut then
    s.firnEv 0x0106 ([BitVec.ofNat 8 fnNo] ++ leBytes 2 e.req.opcode ++ leBytes 1 status)
  else
    let entry (phase : Bool) (head : Nat) : Completion :=
      { opcode := e.req.opcode, tag := e.req.tag, status := status, phase := phase, sqHead := head,
        rx := e.rx, post := s.stamp 10, resp := padTo 12 resp, xp := xp }
    match p with
    | .p7 n =>
      match s.p7.get? n with
      | some x => { s with p7 := s.p7.set n { x with last := some (entry false 0), lastUse := s.now } }
      | none => s
    | p =>
      let c := s.chan p
      let s := match xp with
        | some b => s.logWrite fnNo (c.xpBase + e.req.xpOffset) b.length
        | none => s
      let s := s.logWrite fnNo (c.cqBase + 32 * c.cqTail) 32
      let t := (c.cqTail + 1) % ringSize p
      let c := { s.chan p with
        last := some (entry c.phase e.sqHead), cqTail := t, phase := if t = 0 then !c.phase else c.phase }
      (s.setChan p c).raiseCq p

/-- P7 takes its next entry: each waiting one in turn, those of an opcode it does not accept being
answered with BAD_OPCODE (R98 step 1, R104). -/
def State.promote (n : Nat) : List Exec → State → State
  | [], s => { s with p7 := s.p7.upd n {} (fun x => { x with waiting := [], exec := none }) }
  | e :: rest, s =>
    if s.opcodeOk (.p7 n) e.req.opcode then
      { s with p7 := s.p7.upd n {} (fun x => { x with waiting := rest, exec := some e }) }
    else State.promote n rest (s.post (.p7 n) e 1 [] none)

/-- Ends the command a path holds (R93, R98): its completion is posted, and the path is free for the
next. IDLE sets on an enabled channel; on a disabled one MB_CHANNEL_IDLE sets it. -/
def State.complete (s : State) (p : Path) (status : Nat) (resp : Bytes := []) (xp : Option Bytes := none) :
    State :=
  match s.execOf p with
  | none => s
  | some e =>
    let s := s.post p e status resp xp
    match p with
    | .p7 n =>
      match s.p7.get? n with
      | some x => State.promote n x.waiting s
      | none => s
    | p =>
      let c := s.chan p
      s.setChan p { c with exec := none, idle := c.enabled || e.cut }

/-! ## Seal switches (R44, R45) -/

/-- Every switch of a mask reads ON. -/
def State.sealsOn (s : State) (m : Nat) : Bool :=
  (List.range 4).all (fun i => !m.testBit i || s.power.seals.getD i false)

/-! ## Authorisation (R100, R101, R420) -/

/-- The command entry's 64 bytes (R96). -/
def reqEntry (r : Req) : Bytes :=
  leBytes 2 r.opcode ++ leBytes 2 r.tag ++
    leBytes 4 (b2n r.auth + 2 * b2n r.xp + 4 * r.reserved) ++
    leBytes 4 r.xpOffset ++ leBytes 4 r.xpLen ++ padTo 48 r.params

/-- The valid generation that holds a key_id, with its slot (R418, R420). -/
def findKey (slots : Tbl KeySlot) (id : Nat) : Option (Nat × KeySlot × KeyGen) :=
  slots.findSome? (fun (n, k) =>
    match k.cur, k.prev with
    | some g, q =>
      if g.keyId = id then some (n, k, g)
      else match q with
        | some h => if h.keyId = id then some (n, k, h) else none
        | none => none
    | none, some h => if h.keyId = id then some (n, k, h) else none
    | none, none => none)

/-- A path's nonce. -/
def State.nonceOf (s : State) : Path → Option (Bytes × Nat)
  | .p7 n => (s.p7.get? n).bind (·.nonce)
  | p => (s.chan p).nonce

/-- Replaces a path's nonce. -/
def State.setNonce (s : State) (p : Path) (v : Option (Bytes × Nat)) : State :=
  match p with
  | .p7 n =>
    match s.p7.get? n with
    | some x => { s with p7 := s.p7.set n { x with nonce := v } }
    | none => s
  | p => s.setChan p { s.chan p with nonce := v }

/-- A lock-out is in force (R101). -/
def State.lockedOut (s : State) : Bool :=
  match s.sec.lockout with
  | some t => s.now < t + 60000000000
  | none => false

/-- Counts an authorisation failure; the fifth within 60 s begins a lock-out and writes its record (R101). -/
def State.authFailure (s : State) (p : Path) : State :=
  let fs := s.now :: s.sec.authFails.filter (fun t => s.now < t + 60000000000)
  if fs.length ≥ 5 then
    let s := { s with sec := { s.sec with authFails := [], lockout := some s.now } }
    s.firnEv 0x0E04 (leBytes 1 (match p with | .mb n => n | _ => 4))
  else { s with sec.authFails := fs }

/-- The authorisation block of a command verifies (R100, R101): its key is an operator key, its nonce is
the path's own and not expired, and all 32 bytes of its MAC match. -/
def State.blockOk (s : State) (p : Path) (r : Req) : Bool :=
  let b := r.block
  match s.nonceOf p, findKey s.sec.slots (le32 b 0) with
  | some (nonce, issued), some (_, slot, g) =>
    slot.type == 3 && slot.usage.testBit 5 && slice b 4 16 == nonce && s.now < issued + 10000000000 &&
      slice b 32 32 == padTo 32 (Config.hmacSha256 g.material (reqEntry r ++ slice b 0 32 ++ r.region))
  | _, _ => false

/-- SEC_ADMIN in the generation the block names (R420). -/
def State.secAdmin (s : State) (r : Req) : Bool :=
  match findKey s.sec.slots (le32 r.block 0) with
  | some (_, slot, _) => slot.usage.testBit 7
  | none => false

/-- A block that carries its path's nonce uses it up, whether it is verified or not (R101). -/
def State.useNonce (s : State) (p : Path) (r : Req) : State :=
  match s.nonceOf p with
  | some (nonce, _) => if slice r.block 4 16 = nonce then s.setNonce p none else s
  | none => s

/-- The authorisation check of R98 step 3 for a privileged command: whether it passes, and the state with
the nonce consumed and a failure counted (R100, R101). -/
def State.authorise (s : State) (p : Path) (r : Req) : Bool × State :=
  if s.lockedOut then (false, if r.auth && r.xp && r.xpLen ≥ 64 && r.block.length == 64 then s.useNonce p r else s)
  else if !(r.auth && r.xp && r.xpLen ≥ 64 && r.block.length == 64) then (false, s.authFailure p)
  else
    let ok := s.blockOk p r
    let s := s.useNonce p r
    if !ok then (false, s.authFailure p)
    else (r.opcode / 256 != 0x0E || s.secAdmin r, s)

/-! ## The secure configuration (R437) -/

/-- The image slot that runs (R84 SLOT). -/
def State.runImage (s : State) : Image := if s.mod.slot = 0 then s.flash.imageA else s.flash.imageB

/-- The operator CA that MGMT_TLS_CFG names is in the key store (R103, R419, R420). -/
def State.caHeld (s : State) : Bool :=
  match findKey s.sec.slots s.cfg.p7Ca with
  | some (_, k, _) => k.type == 4 && k.usage.testBit 6
  | none => false

/-- The flags of R437: bits 0 to 5, and their AND in bit 6. Key 2 is the newest unrevoked key: nothing
revokes it (R434). -/
def State.secureFlags (s : State) : Nat :=
  let f := b2n s.flash.debugFuse + 2 * b2n (s.ao.tamperEn && !s.sec.loopOpen) +
    4 * b2n (s.flash.rollback == s.runImage.svn) + 8 * b2n (!s.cfg.p7On || s.caHeld) +
    16 * b2n (s.runImage.keyIdx == 2) + 32 * b2n (!s.sec.entropyFail)
  if f = 63 then 127 else f

/-- Evaluates the flags anew: a change of SECURE writes its record and raises INT_CAUSE.SEC (R437). -/
def State.secSettle (s : State) : State :=
  let f := s.secureFlags
  let changed := f.testBit 6 != s.sec.secure.testBit 6
  let s := { s with sec.secure := f }
  if changed then (s.firnEv 0x0E08 (leBytes 1 f)).raise intSEC else s

/-! ## The frame of a command (R98, R505) -/

/-- How a command's own effect ends: with a status and a response, or still running. -/
inductive CmdResult where
  | done (s : State) (status : Nat) (resp : Bytes) (xp : Option Bytes)
  | wait (s : State)

/-- A command: its opcode, the checks of its own, and its effect. -/
structure Cmd where
  opcode : Nat
  /-- Seal switches it needs for these parameters, beside those of the index (R45). -/
  seals : State → Req → Nat := fun _ _ => 0
  /-- Step 4: its parameters are valid. -/
  param : State → Path → Req → Bool := fun _ _ _ => true
  /-- Step 4: the response data that goes to the region, in bytes (R97). -/
  xpNeed : State → Req → Nat := fun _ _ => 0
  /-- Step 5: object conditions; 0 or the status (R503). -/
  state : State → Path → Req → Nat := fun _ _ _ => 0
  /-- Step 6: 0, CONFLICT or BUSY (R491). -/
  busy : State → Path → Req → Nat := fun _ _ _ => 0
  body : Path → Exec → State → CmdResult

/-- The status names of R497. -/
def stOK : Nat := 0
def stBAD_PARAM : Nat := 2
def stSTATE : Nat := 3
def stBUSY : Nat := 4
def stAUTH : Nat := 5
def stNO_RESOURCE : Nat := 6
def stCONFLICT : Nat := 7
def stTIMEOUT : Nat := 8
def stFAULT : Nat := 9
def stABORTED : Nat := 10
def stTAMPER : Nat := 12

/-- Working keys zeroised or absent (R498). -/
def State.noKeys (s : State) : Bool := s.sec.zeroised || !s.sec.derived

/-- FW_INSTALL and FW_SELECT activate in FAILSAFE, which SEAL_FW alone authorises (R504). -/
def State.sealOnly (s : State) (r : Req) : Bool :=
  s.mod.state == 4 && (r.opcode == 0x1120 || (r.opcode == 0x1121 && byteAt r.params 0 == 0))

/-- Step 4 for every command (R96, R97): reserved bits, the region, the authorisation block of a command
that needs none, and room for the response. -/
def State.regionOk (s : State) (p : Path) (r : Req) (priv : Bool) (need : Nat) : Bool :=
  r.reserved == 0 && (priv || !r.auth || (r.xp && 64 ≤ r.xpLen)) &&
  (!r.xp || (r.xpOffset % 64 == 0 &&
    match p with
    | .p7 _ => r.xpOffset == 0
    | p => r.xpOffset + r.xpLen ≤ 4096 * (s.chan p).xpPages)) &&
  (need == 0 || (r.xp && need ≤ r.xpLen))

/-- The commands that work on keys, which wait out CRYPTO_KAT (R488). -/
def keyCommands : List Nat := [0x0E03, 0x0E04, 0x0E05, 0x0E06, 0x0E08, 0x0E09, 0x0E0A]

/-- Test 1 runs: alone, or as the first 40 ms of a deep test, whose activity holds its start (R479, R488). -/
def State.cryptoTest (s : State) : Bool :=
  s.diag.acts.any (fun a => (a.code == 13 && a.lo == 1) || (a.code == 6 && s.now < a.lo + 40000000))

/-- The seal switches that must read ON for a request: those of the index and of its parameters. An installation is
accepted at its begin and commits at its end, so its data and its abort need none; FW_SELECT activate in FAILSAFE
needs SEAL_FW (R45, R492, R504). -/
def Cmd.needed (c : Cmd) (i : OpInfo) (s : State) (r : Req) : Nat :=
  if c.opcode = 0x1120 then (if byteAt r.params 0 = 0 ∨ byteAt r.params 0 = 2 then i.seals else 0)
  else i.seals ||| c.seals s r ||| (if s.sealOnly r then 4 else 0)

/-- Steps 2 to 6 of R98 for the command a path holds: the first status that applies, 0 for none, and the
state with what the checks themselves change (R101). -/
def State.checks (s : State) (c : Cmd) (p : Path) (r : Req) : Nat × State :=
  match opInfo c.opcode with
  | none => (1, s)
  | some i =>
    let alone := s.sealOnly r
    if i.priv && !alone && s.noKeys then (stTAMPER, s)
    else
      let a := if i.priv && !alone then s.authorise p r else (true, s)
      let s := a.2
      if !a.1 || !s.sealsOn (c.needed i s r) then (stAUTH, s)
      else if (alone && r.auth) || !s.regionOk p r (i.priv && !alone) (c.xpNeed s r) || !c.param s p r then
        (stBAD_PARAM, s)
      else if !legal i.cls s.mod.state p && !(c.opcode == 0x1121 && byteAt r.params 0 == 1 && s.mod.state == 2)
      then (stSTATE, s)
      else if c.state s p r ≠ 0 then (c.state s p r, s)
      else if keyCommands.contains c.opcode && s.cryptoTest then (stBUSY, s)
      else (c.busy s p r, s)

/-- Carries out the command a path holds, where it is this one and has not started: it is judged now
(R505), and refused with the first status that applies, or has its effect. -/
def State.run (s : State) (c : Cmd) (p : Path) : State :=
  match s.execOf p with
  | none => s
  | some e =>
    if e.started || e.req.opcode != c.opcode then s
    else
      let k := s.checks c p e.req
      if k.1 ≠ 0 then k.2.complete p k.1
      else match c.body p e k.2 with
        | .done s st resp xp => s.complete p st resp xp
        | .wait s =>
          match s.execOf p with
          | some e => s.setExec p (some { e with started := true })
          | none => s

/-- Records progress in the command a path holds. -/
def State.setProg (s : State) (p : Path) (w : List Nat) : State :=
  match s.execOf p with
  | some e => s.setExec p (some { e with prog := w })
  | none => s

/-- The path whose started command has this opcode, if any. -/
def State.waiting (s : State) (opcode : Nat) : Option (Path × Exec) :=
  let test (p : Path) : Option (Path × Exec) :=
    match s.execOf p with
    | some e => if e.started && e.req.opcode == opcode then some (p, e) else none
    | none => none
  ((List.range 4).map Path.mb ++ s.p7.map (fun x => Path.p7 x.1) ++
    (s.host.chans.filter (fun x => 128 ≤ x.1)).map (fun x => Path.vf (x.1 - 128))).findSome? test

/-- Completes the command of an opcode that waits, if its path still holds it. -/
def State.completeWaiting (s : State) (opcode status : Nat) (resp : Bytes) : State :=
  match s.waiting opcode with
  | some (p, _) => s.complete p status resp
  | none => s

/-- Parameter bytes from `i` on are 0 (reserved bytes, R105). -/
def restZero (r : Req) (i : Nat) : Bool := zeroAt r.params i 48

/-! ## Maintenance activities (R490, R491) -/

/-- An activity runs. -/
def State.active (s : State) (code : Nat) : Bool :=
  s.diag.acts.any (·.code == code) || (code == 10 && !s.diag.inj.isEmpty)

/-- An activity of one of these codes runs whose range meets the given one. -/
def State.activeIn (s : State) (codes : List Nat) (lo hi : Nat) : Bool :=
  s.diag.acts.any (fun a => codes.contains a.code && a.lo < hi && lo < a.hi)

/-- An instance's region (R354). -/
def RecInst.lo (r : RecInst) : Nat := le64 r.head 8
def RecInst.slotBytes (r : RecInst) : Nat := 2097152 * le16 r.head 16
def RecInst.hi (r : RecInst) : Nat := r.lo + le16 r.head 18 * r.slotBytes

/-- Start and end of a Longe stream's buffer (R367, R441); empty for other sources. -/
def bufLo (b : Bytes) : Nat := 8589934592 + le64 b 152
def bufHi (b : Bytes) : Nat := if byteAt b 30 = 2 then bufLo b + le32 b 160 * byteAt b 168 * 4 else bufLo b

/-- A range meets the region of a recorder instance that is not OFF, or the buffer of a running Longe
stream (R455, R489). -/
def State.acqBusy (s : State) (lo hi : Nat) : Bool :=
  s.acq.inst.any (fun x => x.2.state != 0 && lo < x.2.hi && x.2.lo < hi) ||
    (s.acq.running && s.acq.longe.any (fun x => lo < bufHi x.2.rec_ && bufLo x.2.rec_ < hi))

/-- Starts an activity. -/
def State.begin (s : State) (code : Nat) (p : Option Path) (lo hi : Nat := 0) : State :=
  { s with diag.acts := s.diag.acts ++ [{ code := code, path := p, start := s.stamp 17, lo := lo, hi := hi }] }

/-- Ends an activity. -/
def State.finish (s : State) (code : Nat) : State :=
  { s with diag.acts := s.diag.acts.filter (·.code != code) }

/-- The injection armed for a detector and object (R484). -/
def State.injection (s : State) (code obj sub : Nat) : Option Injection :=
  s.diag.inj.find? (fun i => i.code == code && i.obj == obj && i.sub == sub)

/-- An injection that occurrences do not use up: one with a duration, or 0x05, which acts until the next link up (R485). -/
def Injection.lasting (i : Injection) : Bool := i.until_.isSome || i.code == 0x05

/-- What is left of an injection: milliseconds, or occurrences. -/
def Injection.left (i : Injection) (now : Nat) : Nat :=
  match i.until_ with
  | some t => (t - now + 999999) / 1000000
  | none => i.remaining

/-- An injection after one more occurrence. -/
def Injection.used (i : Injection) (now : Nat) : Injection :=
  { i with remaining := if i.lasting then i.left now else i.remaining - 1 }

/-- Replaces the injection for a detector and object, or disarms it where its occurrences are used up (R484). -/
def DiagBlk.putInj (d : DiagBlk) (i : Injection) : DiagBlk :=
  let same (j : Injection) : Bool := j.code == i.code && j.obj == i.obj && j.sub == i.sub
  { d with inj := if i.remaining = 0 && !i.lasting then d.inj.filter (fun j => !same j)
      else d.inj.map (fun j => if same j then i else j) }

/-- Applies an armed injection once (R484, R486): it acts, its record is written, and it disarms when its
occurrences are used up. Whether one acted, and the state. -/
def State.inject (s : State) (code obj sub : Nat) : Bool × State :=
  match s.injection code obj sub with
  | none => (false, s)
  | some i =>
    let u := i.used s.now
    let t := s.firnEv 0x1107 ([BitVec.ofNat 8 code, BitVec.ofNat 8 sub] ++ leBytes 2 obj ++ leBytes 4 u.remaining)
    (true, { t with diag := t.diag.putInj { u with lastApplied := s.stamp 17 } })

end Machine
end Sys2Proof
end

