-- ==== Sys2Proof/Machine/Buffer.lean ====
section
/-! DEFINITION. Port and class records, frame counters, the shared buffer, admission and push-out, and the
staging of frames for functions (chapters 5, 13 and 14). -/

namespace Sys2Proof
namespace Machine

/-! ## Ports (R273, R279, R293) -/

/-- A port by code. -/
def State.port (s : State) (i : Nat) : Port := s.ports.port.getD i {}

/-- Replaces a port. -/
def State.setPort (s : State) (i : Nat) (p : Port) : State := { s with ports.port := s.ports.port.set i p }

/-- The default record of a port (R293). -/
def portDefault (i : Nat) : Bytes :=
  leBytes 1 i ++ [13, 0, 0] ++ leBytes 2 1522 ++ [0, 0, 1, 0, 1, 0, 10, 0] ++ zeros 50

/-- A port's committed record. -/
def Tables.port (t : Tables) (i : Nat) : Bytes := t.ports.getD i (portDefault i)

/-- EN, PAUSE_RX, PE_EN and PE_VERIFY of a port record. -/
def recEn (b : Bytes) : Bool := (byteAt b 1).testBit 0
def recPauseRx (b : Bytes) : Bool := (byteAt b 1).testBit 1
def recPe (b : Bytes) : Bool := (byteAt b 1).testBit 2
def recPeVerify (b : Bytes) : Bool := (byteAt b 1).testBit 3

/-- A port's maximum frame (R273, R293). -/
def State.maxFrame (s : State) (i : Nat) : Nat :=
  if i < 6 then le16 (s.cfg.tables.port i) 4 else if i < 8 then 1522 else 9216

/-- A port's speed code as hundredths of a Gbit/s. -/
def rateOf (code : Nat) : Nat :=
  if code = 1 then 100 else if code = 2 then 1000 else if code = 3 then 2500 else if code = 4 then 1 else 0

/-- Time on the wire of a frame, with preamble and gap, ns. -/
def wireTime (code len : Nat) : Nat := if rateOf code = 0 then 0 else ceilDiv ((len + 20) * 800) (rateOf code)

/-- The broadcast address. -/
def macBroadcast : Nat := 0xFFFFFFFFFFFF

/-- A group address. -/
def macGroup (m : Nat) : Bool := m.testBit 40

/-- The size bin of a length (R292). -/
def sizeBin (len : Nat) : Nat :=
  if len ≤ 64 then 0 else if len ≤ 127 then 1 else if len ≤ 255 then 2 else if len ≤ 511 then 3
  else if len ≤ 1023 then 4 else if len ≤ 1522 then 5 else 6

/-- Counts the kind of an address: unicast at `off`, multicast and broadcast after it. -/
def State.countKind (s : State) (port off dst : Nat) : State :=
  if dst = macBroadcast then s.portCount port (off + 8)
  else if macGroup dst then s.portCount port (off + 4) else s.portCount port off

/-- Counts a good frame received on a block (R292). -/
def State.rxGood (s : State) (port len dst : Nat) (tagged : Bool) : State :=
  let s := ((s.portAdd port 0x00 len).portCount port 0x04).countKind port 0x08 dst
  if tagged then s.portCount port 0x14 else s

/-- Counts a frame sent on a block (R292). -/
def State.txCount (s : State) (port len dst cls : Nat) (tagged : Bool) : State :=
  let s := ((s.portAdd port 0x70 len).portCount port 0x74).countKind port 0x78 dst
  let s := if tagged then s.portCount port 0x84 else s
  let s := if cls = 7 then s.portCount port 0x88 else s
  s.portCount port (0x8C + 4 * sizeBin len)

/-! ## Class records (R313) -/

/-- The committed reserve, alpha, push-out, age limit and congestion threshold of a class. -/
def State.clsReserve (s : State) (c : Nat) : Nat := le16 s.cfg.tables.classes (16 * c)
def State.clsAlpha (s : State) (c : Nat) : Nat := byteAt s.cfg.tables.classes (16 * c + 2)
def State.clsPush (s : State) (c : Nat) : Bool := c == 7 || (byteAt s.cfg.tables.classes (16 * c + 3)).testBit 0
def State.clsAge (s : State) (c : Nat) : Nat := le32 s.cfg.tables.classes (16 * c + 4)
def State.clsCong (s : State) (c : Nat) : Nat := le16 s.cfg.tables.classes (16 * c + 8)

/-! ## The shared buffer (R301 to R303) -/

/-- Cells of a length. -/
def cellsOf (len : Nat) : Nat := ceilDiv len 256

/-- Cells in use from a part of the buffer: 0 the pool, c + 1 the reserve of class c. -/
def SwBlk.used (w : SwBlk) (part : Nat) : Nat :=
  ((w.bufs.filter (fun x => x.2.part == part)).map (fun x => x.2.cells)).sum

/-- Free cells of the shared pool: what the reserves, or the cells still held from a lowered one, leave
(R301, R312). -/
def State.freeShared (s : State) : Nat :=
  65536 - ((List.range 8).map (fun c => max (s.clsReserve c) (s.sw.used (c + 1)))).sum - s.sw.used 0

/-- Cells queued at a port and class (R302). -/
def SwBlk.queueCells (w : SwBlk) (port cls : Nat) : Nat :=
  ((w.queue.filter (fun c => c.port == port && c.cls == cls)).map (·.cells)).sum

/-- Cells of a function's staging queue. -/
def Fn.staging (f : Fn) : Nat := (f.staged.map (fun t => cellsOf t.frame.len)).sum

/-- One copy fewer of a buffered frame: its cells return when none remains (R303). -/
def State.release (s : State) (fid : Nat) : State :=
  match s.sw.bufs.get? fid with
  | some b =>
    if b.copies ≤ 1 then { s with sw.bufs := s.sw.bufs.del fid }
    else { s with sw.bufs := s.sw.bufs.set fid { b with copies := b.copies - 1 } }
  | none => s

/-- The key of a sequence of R307. -/
def seqKey (src cls port : Nat) : Nat := (src * 8 + cls) * 8 + port

/-- Passes over the numbers a sequence has been told to skip, from the one it expects on. -/
def SeqNo.settle : Nat → SeqNo → SeqNo
  | 0, q => q
  | k + 1, q =>
    if q.skipped.contains q.expect then
      SeqNo.settle k { q with expect := (q.expect + 1) % 65536, skipped := q.skipped.erase q.expect }
    else q

/-- A copy produced its outcome without being sent: a skip notice (R307). -/
def State.skipCopy (s : State) (c : Copy) : State :=
  let k := seqKey c.src c.cls c.port
  { s with sw.seqs := s.sw.seqs.upd k {} (fun q =>
      SeqNo.settle (q.skipped.length + 1) { q with skipped := q.skipped ++ [c.num] }) }

/-- A copy leaves its egress: the sequence goes on to the next number. -/
def State.passCopy (s : State) (c : Copy) : State :=
  let k := seqKey c.src c.cls c.port
  { s with sw.seqs := s.sw.seqs.upd k {} (fun q =>
      SeqNo.settle (q.skipped.length + 1) { q with expect := (c.num + 1) % 65536 }) }

/-- Where an arriving copy goes: an egress port, or a function's staging queue. -/
inductive Dest where
  | port (i : Nat)
  | fn (n : Nat)
  deriving DecidableEq, Repr

/-- Cells of a destination's queue for a class. -/
def State.destCells (s : State) (d : Dest) (cls : Nat) : Nat :=
  match d with
  | .port i => s.sw.queueCells i cls
  | .fn n => (s.fn n).staging

/-- Tests 1 and 2 of R302 for `n` cells of class `c` at a destination; `own` are cells the frame already
holds for an earlier copy, which this one shares (R301): the part its cells come from. -/
def State.admitTest (s : State) (d : Dest) (c n own : Nat) : Option Nat :=
  let free := s.freeShared + own
  let limit := match d with
    | .port _ => s.clsAlpha c * free / 16
    | .fn f => (s.fn f).limit
  if n ≤ free ∧ s.destCells d c + n ≤ limit then some 0
  else if s.sw.used (c + 1) + n ≤ s.clsReserve c then some (c + 1)
  else none

/-- The queues of a class that hold a copy that may be evicted: the destination, its cells. -/
def State.evictable (s : State) (c : Nat) : List (Dest × Nat) :=
  (List.range 7).filterMap (fun i =>
    if s.sw.queue.any (fun x => x.port == i && x.cls == c && !x.cut) then
      some (Dest.port i, s.sw.queueCells i c) else none) ++
  s.fns.filterMap (fun x =>
    if x.2.staged.any (fun t => t.cls == c) then some (Dest.fn x.1, x.2.staging) else none)

/-- The first of the longest queues. -/
def longest : List (Dest × Nat) → Option Dest
  | [] => none
  | x :: rest =>
    some ((rest.foldl (fun b y => if b.2 < y.2 then y else b) x).1)

/-- The queue that R303 takes a victim from: the lowest class below `c`, the same egress first, then the
longest queue. -/
def State.victim (s : State) (d : Dest) (c : Nat) : Option (Dest × Nat) :=
  (List.range c).findSome? (fun v =>
    let qs := s.evictable v
    if qs.any (fun x => decide (x.1 = d)) then some (d, v) else (longest qs).map (fun e => (e, v)))

/-- Removes the last element that a test accepts. -/
def dropLastWith {α : Type} (f : α → Bool) (l : List α) : Option (α × List α) :=
  match l.reverse.find? f with
  | none => none
  | some x => some (x, (l.reverse.eraseP f).reverse)

/-- Counts a frame that a function loses as rx_drop (R115). -/
def State.rxDropFn (s : State) (n : Nat) : State :=
  let v := inc32 (s.fn n).rxDrop
  (s.setFn n { s.fn n with rxDrop := v }).counted v 0x1004 0 n

/-- Evicts the tail of a queue and class (R303). -/
def State.evictTail (s : State) (d : Dest) (v : Nat) : State :=
  match d with
  | .port i =>
    match dropLastWith (fun (x : Copy) => x.port == i && x.cls == v && !x.cut) s.sw.queue with
    | some (x, q) => ((({ s with sw.queue := q }).skipCopy x).release x.fid).portCount i 0xC4
    | none => s
  | .fn n =>
    match dropLastWith (fun (t : Staged) => t.cls == v) (s.fn n).staged with
    | some (t, q) => ((s.setFn n { s.fn n with staged := q }).release t.fid).rxDropFn n
    | none => s

/-- Push-out until test 1 or 2 succeeds or no victim remains (R302 test 3, R303); `k` bounds the victims. -/
def State.pushOut (d : Dest) (c n own : Nat) : Nat → State → Option Nat × State
  | 0, s => (s.admitTest d c n own, s)
  | k + 1, s =>
    match s.admitTest d c n own with
    | some p => (some p, s)
    | none =>
      match s.victim d c with
      | some (e, v) => State.pushOut d c n own k (s.evictTail e v)
      | none => (none, s)

/-- Copies that could be evicted. -/
def State.copyCount (s : State) : Nat := s.sw.queue.length + (s.fns.map (fun x => x.2.staged.length)).sum

/-- Admission of a copy of `n` cells (R302): the part its cells come from, or refusal. Class 7 always
pushes out. -/
def State.admission (s : State) (d : Dest) (c n own : Nat) : Option Nat × State :=
  match s.admitTest d c n own with
  | some p => (some p, s)
  | none => if s.clsPush c then State.pushOut d c n own s.copyCount s else (none, s)

/-- One more copy of frame `fid`: its cells are stored once (R301). -/
def State.hold (s : State) (fid cells part : Nat) : State :=
  { s with sw.bufs := match s.sw.bufs.get? fid with
      | some b => s.sw.bufs.set fid { b with copies := b.copies + 1 }
      | none => s.sw.bufs.set fid { cells := cells, part := part, copies := 1 } }

/-- Cells a frame holds from the pool already. -/
def State.ownCells (s : State) (fid : Nat) : Nat :=
  match s.sw.bufs.get? fid with
  | some b => if b.part = 0 then b.cells else 0
  | none => 0

/-! ## Staging for functions (R115) -/

/-- The lowest-numbered enabled frame queue whose class mask includes the class. -/
def Fn.rxQueue (f : Fn) (cls : Nat) : Option Nat :=
  (f.queues.find? (fun x => x.1 < f.qp && !x.2.slab && x.2.rxEn && x.2.classes.testBit cls)).map (·.1)

/-- A frame for a function: staged on the queue R115 chooses, or counted as rx_noq or rx_drop; whether it
was refused for want of buffer. -/
def State.stage (s : State) (n : Nat) (f : Frame) (fid cls src info admitCells : Nat) (rx : Stamp) :
    Bool × State :=
  match (s.fn n).rxQueue cls with
  | none =>
    let v := inc32 (s.fn n).rxNoq
    (false, (s.setFn n { s.fn n with rxNoq := v }).counted v 0x1004 8 n)
  | some q =>
    let own := s.ownCells fid
    match s.admission (.fn n) cls admitCells own with
    | (some part, s) =>
      let s := s.hold fid (cellsOf f.len) part
      (false, s.setFn n { s.fn n with
        staged := (s.fn n).staged ++
          [{ frame := f, rx := rx, src := src, info := info, queue := q, cls := cls, fid := fid }] })
    | (none, s) => (true, s)

end Machine
end Sys2Proof
end

