-- ==== Sys2Proof/Machine/Ports.lean ====
section
/-! DEFINITION. Ports: link state, transceivers, pre-emption, pause, the P7 host, and the port commands
(chapter 13). -/

namespace Sys2Proof
namespace Machine

/-! ## Staging copies (R154, R164) -/

/-- The staging copy of the tables: the committed ones until something is staged. -/
def State.staged (s : State) : Tables := s.stg.getD s.cfg.tables

/-- Replaces the staging copy. -/
def State.setStaged (s : State) (t : Tables) : State := { s with stg := some t }

/-- A copy named by a read command: 0 committed, 1 staged. -/
def State.tablesOf (s : State) (which : Nat) : Tables := if which = 1 then s.staged else s.cfg.tables

/-- The records of `n` bytes that a staging command carries after its block. -/
def regionRecs (n count : Nat) (r : Req) : List Bytes := chunks n count r.region

/-- A staging command carries this many records, all valid. -/
def recsOk (n count : Nat) (r : Req) (ok : Bytes → Bool) : Bool :=
  r.xp && n * count ≤ r.region.length && (regionRecs n count r).all ok

/-! ## Records (R286, R293) -/

/-- A field that P7 and P8 do not support holds its default (R293). -/
def portFixedOk (b : Bytes) : Bool :=
  (byteAt b 0 < 6 ||
    (byteAt b 2 == 0 && byteAt b 3 == 0 && le16 b 4 == 1522 && recPe b && recPeVerify b && byteAt b 12 == 10 &&
      byteAt b 13 == 0)) &&
  (byteAt b 0 < 4 || byteAt b 3 == 0) &&
  (byteAt b 0 != 7 || (byteAt b 6 == 0 && byteAt b 7 == 0 && le16 b 8 == 1 && le16 b 10 == 1))

/-- A port record is in range (R293). -/
def portRecOk (b : Bytes) : Bool :=
  byteAt b 0 ≤ 7 && byteAt b 1 < 16 && byteAt b 2 ≤ 3 && byteAt b 3 ≤ 2 && 1522 ≤ le16 b 4 && le16 b 4 ≤ 9216 &&
    byteAt b 6 ≤ 2 && byteAt b 7 ≤ 7 && 1 ≤ le16 b 8 && le16 b 8 ≤ 4094 && le16 b 10 ≤ 4094 && 1 ≤ byteAt b 12 &&
    byteAt b 12 ≤ 128 && byteAt b 13 ≤ 3 && zeroAt b 14 50 && portFixedOk b

/-- A filter record is in range (R286). -/
def filterRecOk (b : Bytes) : Bool :=
  byteAt b 0 ≤ 15 && byteAt b 1 < 4 && zeroAt b 10 6 &&
    (if (byteAt b 1).testBit 0 then
      (if (byteAt b 1).testBit 1 then le16 b 2 == 0 else 1 ≤ le16 b 2 && le16 b 2 ≤ 4094)
    else zeroAt b 1 31)

/-! ## Speed (R273, R274) -/

/-- The nominal signalling rate in SFF-8472 identification data, MBd (log 17). -/
def nominalRate (id : Bytes) : Nat := if byteAt id 12 = 255 then 250 * byteAt id 66 else 100 * byteAt id 12

/-- The speed code a port selects (R274, R276). -/
def State.selectSpeed (s : State) (i : Nat) : Nat :=
  if i = 6 then 1
  else if i = 7 then 4
  else if 8 ≤ i then 3
  else
    let c := byteAt (s.cfg.tables.port i) 2
    if c ≠ 0 then c
    else match (s.port i).id with
      | some id => if 25000 ≤ nominalRate id then 3 else if 10000 ≤ nominalRate id then 2 else 1
      | none => if i < 4 then 3 else 2

/-- The port supports a speed (R273). -/
def speedOk (i c : Nat) : Bool :=
  if i < 4 then c == 3 || c == 2 else if i < 6 then c == 2 || c == 1 else true

/-- SPEED_FAULT (R274). -/
def State.speedFault (s : State) (i : Nat) : Bool := !speedOk i (s.selectSpeed i)

/-- EN of a port; the pairing lanes have no record. -/
def State.portEn (s : State) (i : Nat) : Bool := 8 ≤ i || recEn (s.cfg.tables.port i)

/-! ## Link state (R275) -/

/-- A link record: port, new state (1 up), cause (log 15). -/
def State.linkRecord (s : State) (i : Nat) (up : Bool) (cause : Nat) : State :=
  s.firnEv 0x0301 (leBytes 1 i ++ leBytes 1 (b2n up) ++ [Config.eventCode 0x0301 cause])

/-- Nothing holds a port down (R30, R274 to R276, R485). -/
def State.linkAllowed (s : State) (i : Nat) : Bool :=
  let p := s.port i
  i ≤ 9 && s.portEn i && !p.powerFault && !p.txHeld && !p.pllUnlocked && (6 ≤ i || p.present) && !s.speedFault i &&
    (s.injection 0x03 i 0).isNone

/-- PORT_LINK_UP: the PCS has held lock for 10 ms; pre-emption is active at once or is to be verified
(R275, R289). -/
def execPortLinkUp (i : Nat) (s : State) : Out :=
  .next (if s.linkAllowed i && !(s.port i).up then
    let b := s.cfg.tables.port i
    let speed := s.selectSpeed i
    let p := { s.port i with
      up := true, change := s.stamp 17, speed := speed, los := false
      fec := if speed = 3 then (if i < 4 then byteAt b 3 else 0) else 2
      peActive := i < 6 && recPe b && !recPeVerify b, peFailed := false, peSent := 0, peDue := s.now
      pauseUntil := 0, busyUntil := 0, preempted := false }
    let same (x : Injection) : Bool := x.code == 0x05 && x.obj == i
    let s := { s.setPort i p with diag.inj := s.diag.inj.filter (fun x => !same x), red.portsDown := s.red.portsDown && !decide (i < 4) }
    s.linkRecord i true 0
    else s)

/-- Takes a port down with a cause: 1 lock lost, 2 LOS, 3 lane PLL, 4 transceiver removed, 5 TX_FAULT,
6 power fault, 7 restart or disabled (R275). -/
def State.linkDown (s : State) (i cause : Nat) : State :=
  if (s.port i).up then
    let s := s.setPort i { s.port i with
      up := false, change := s.stamp 17, speed := 0, fec := 0, peActive := false }
    (s.portCount i 0xE0).linkRecord i false cause
  else s

/-- PORT_LINK_DOWN: loss of lock, LOS of a transceiver, or an unlock of a serdes lane's PLL (R275). -/
def execPortLinkDown (i cause : Nat) (s : State) : Out :=
  .next (if i ≤ 9 && cause = 1 then s.linkDown i 1
    else if i < 6 && cause = 2 then (s.setPort i { s.port i with los := true }).linkDown i 2
    else if i ≤ 9 && i ≠ 6 && i ≠ 7 && cause = 3 then
      (s.setPort i { s.port i with pllUnlocked := true, relockDue := s.now + 100000000 }).linkDown i 3
    else s)

/-- LANE_RELOCK_ATTEMPT: every 100 ms after the unlock, until one succeeds (R275). -/
def execLaneRelockAttempt (i : Nat) (locks : Bool) (s : State) : Out :=
  .next (if (s.port i).pllUnlocked then
    let s := s.clockTo (s.port i).relockDue
    s.setPort i { s.port i with pllUnlocked := !locks, relockDue := (s.port i).relockDue + 100000000 }
    else s)

/-! ## Transceivers (R30, R276) -/

/-- A transceiver record: port, new state (1 present), cause (log 15). -/
def State.sfpRecord (s : State) (i : Nat) (present : Bool) (cause : Nat) : State :=
  s.firnEv 0x0302 (leBytes 1 i ++ leBytes 1 (b2n present) ++ [Config.eventCode 0x0302 cause])

/-- SFP_MOD_ABS_DEASSERT: identification data are read; one that does not answer has none (R276). -/
def execSfpModAbsDeassert (i : Nat) (id : Fetch Bytes) (s : State) : Out :=
  .next (if i < 6 && !(s.port i).present then
    let data := match id with | .ok b => some (padTo 512 b) | _ => none
    (s.setPort i { s.port i with present := true, id := data, pollDue := s.now + 1000000000 }).sfpRecord i true 0
    else s)

/-- SFP_MOD_ABS_ASSERT: the port goes down, diagnostics and holds are cleared (R30, R276). -/
def execSfpModAbsAssert (i : Nat) (s : State) : Out :=
  .next (if i < 6 && (s.port i).present then
    let s := s.linkDown i 4
    (s.setPort i { s.port i with
      present := false, id := none, diag := none, powerFault := false, txFault := false, txPulsed := false
      txHeld := false }).sfpRecord i false 1
    else s)

/-- SFP_TX_FAULT: TX_DISABLE is pulsed once (R276). -/
def State.sfpTxFault (s : State) (i : Nat) : State :=
  if i < 6 && (s.port i).present && !(s.port i).txPulsed then
    s.setPort i { s.port i with txFault := true, txPulsed := true, txDue := s.now + 100000000 }
  else s

/-- SFP_TX_FAULT (R276). -/
def execSfpTxFault (i : Nat) (s : State) : Out := .next (s.sfpTxFault i)

/-- SFP_TX_FAULT_CHECK: a fault that persists 100 ms later holds the port down (R276). -/
def execSfpTxFaultCheck (i : Nat) (persists : Bool) (s : State) : Out :=
  .next (if i < 6 && (s.port i).txPulsed && !(s.port i).txHeld then
    let s := s.clockTo (s.port i).txDue
    if persists || (s.injection 0x04 i 0).isSome then
      let s := s.linkDown i 5
      ((s.setPort i { s.port i with txHeld := true }).portCount i 0xF4).sfpRecord i true 2
    else s.setPort i { s.port i with txFault := false, txPulsed := false }
    else s)

/-- The transceiver reports digital diagnostics (R276; its bit is log 17's). -/
def Port.reportsDiag (p : Port) : Bool :=
  p.present && match p.id with | some b => (byteAt b 92).testBit 6 | none => false

/-- SFP_DIAG_POLL: every 1 s; a poll that is not answered leaves the values (R276). -/
def execSfpDiagPoll (i : Nat) (diag : Fetch Bytes) (s : State) : Out :=
  .next (if i < 6 && (s.port i).reportsDiag then
    let s := s.clockTo (s.port i).pollDue
    let p := { s.port i with pollDue := (s.port i).pollDue + 1000000000 }
    s.setPort i (match diag with
      | .ok b => { p with diag := some (padTo 256 b) }
      | _ => p)
    else s)

/-- CAGE_OVERCURRENT: the cage supply switches off until the transceiver is removed (R30, R276). -/
def execCageOvercurrent (i : Nat) (s : State) : Out :=
  .next (if i < 6 && (s.port i).present && !(s.port i).powerFault then
    let s := s.linkDown i 6
    ((s.setPort i { s.port i with powerFault := true }).portCount i 0xF4).sfpRecord i true 3
    else s)

/-! ## Pre-emption and pause (R288, R289) -/

/-- Verification of pre-emption is running. -/
def State.verifying (s : State) (i : Nat) : Bool :=
  let p := s.port i
  let b := s.cfg.tables.port i
  i < 6 && p.up && recPe b && recPeVerify b && !p.peActive && !p.peFailed

/-- PE_VERIFY_SEND: a verify mPacket every verify_time from link up on, three at most; without a response in the
verify_time after the third, verification has failed (R289). -/
def execPeVerifySend (i : Nat) (s : State) : Out :=
  .next (if s.verifying i then
    let s := s.clockTo (s.port i).peDue
    if (s.port i).peSent < 3 then
      s.setPort i { s.port i with
        peSent := (s.port i).peSent + 1, peDue := (s.port i).peDue + 1000000 * byteAt (s.cfg.tables.port i) 12 }
    else
      ((s.setPort i { s.port i with peFailed := true }).portCount i 0xF0).firnEv 0x0303
        (leBytes 1 i ++ [Config.eventCode 0x0303 0, Config.eventCode 0x0303 1])
    else s)

/-- PE_VERIFY_RESPONSE: pre-emption becomes active, unless an injection ignores responses (R289, R485). -/
def execPeVerifyResponse (i : Nat) (s : State) : Out :=
  .next (if s.verifying i && 0 < (s.port i).peSent then
    if s.diag.inj.any (fun x => x.code == 0x05 && x.obj == i) then (s.inject 0x05 i 0).2
    else s.setPort i { s.port i with peActive := true }
    else s)

/-- PAUSE_FRAME_RECEIVE: with PAUSE_RX, transmission stops for its quanta of 512 bit times (R230, R288). -/
def execPauseFrameReceive (i quanta : Nat) (s : State) : Out :=
  .next (if i < 8 && (s.port i).up then
    let s := s.portCount i 0x18
    if recPauseRx (s.cfg.tables.port i) then
      let p := s.port i
      (s.setPort i { p with
        pauseUntil := s.now + ceilDiv (quanta * 51200) (rateOf p.speed), pauseSeen := true }).portCount i 0xB8
    else s
    else s)

/-! ## P7 host (R278) -/

/-- P7_PACKET_RECEIVE: ARP (kind 0) and ICMP echo (1) for its address are answered, TCP port 4820 (2) is
served, everything else is discarded and counted. -/
def execP7PacketReceive (kind target len : Nat) (s : State) : Out :=
  .next (if (s.port 6).up then
    let mine := le32 s.cfg.ip 0 != 0 && target == le32 s.cfg.ip 0
    if mine && kind = 0 then s.txCount 6 64 0 0 false
    else if mine && kind = 1 then s.txCount 6 (max 64 len) 0 0 false
    else if mine && kind = 2 then s
    else s.portCount 6 0xFC
    else s)

/-! ## Commands (R293) -/

/-- PORT_STAGE (R290, R293). -/
def cmdPortStage : Cmd where
  opcode := 0x0301
  param _ _ r := 1 ≤ byteAt r.params 0 && byteAt r.params 0 ≤ 8 && restZero r 1 &&
    recsOk 64 (byteAt r.params 0) r portRecOk
  body _ e s :=
    let recs := regionRecs 64 (byteAt e.req.params 0) e.req
    let t := s.staged
    .done (s.setStaged { t with ports := recs.foldl (fun x b => x.set (byteAt b 0) b) t.ports }) stOK
      (leBytes 2 recs.length) none

/-- PORT_STAGE (R293). -/
def execPortStage (p : Path) (s : State) : Out := .next (s.run cmdPortStage p)

/-- PORT_READ (R293). -/
def cmdPortRead : Cmd where
  opcode := 0x0302
  param _ _ r := byteAt r.params 0 ≤ 7 && byteAt r.params 1 ≤ 1 && restZero r 2
  xpNeed _ _ := 64
  body _ e s := .done s stOK [] (some ((s.tablesOf (byteAt e.req.params 1)).port (byteAt e.req.params 0)))

/-- PORT_READ (R293). -/
def execPortRead (p : Path) (s : State) : Out := .next (s.run cmdPortRead p)

/-- A table with a record written at its key, or removed where it is free. -/
def putRec (t : Tbl Bytes) (k : Nat) (valid : Bool) (b : Bytes) : Tbl Bytes := if valid then t.set k b else t.del k

/-- PORT_FILTER_STAGE (R286, R293). -/
def cmdPortFilterStage : Cmd where
  opcode := 0x0303
  param _ _ r := byteAt r.params 0 ≤ 6 && 1 ≤ byteAt r.params 1 && byteAt r.params 1 ≤ 16 && restZero r 2 &&
    recsOk 32 (byteAt r.params 1) r filterRecOk
  body _ e s :=
    let i := byteAt e.req.params 0
    let recs := regionRecs 32 (byteAt e.req.params 1) e.req
    let t := s.staged
    let put (x : Tbl Bytes) (b : Bytes) : Tbl Bytes :=
      putRec x (16 * i + byteAt b 0) ((byteAt b 1).testBit 0) b
    .done (s.setStaged { t with filters := recs.foldl put t.filters }) stOK (leBytes 2 recs.length) none

/-- PORT_FILTER_STAGE (R293). -/
def execPortFilterStage (p : Path) (s : State) : Out := .next (s.run cmdPortFilterStage p)

/-- PORT_FILTER_READ (R293). -/
def cmdPortFilterRead : Cmd where
  opcode := 0x0304
  param _ _ r := byteAt r.params 0 ≤ 6 && byteAt r.params 1 ≤ 1 && restZero r 2
  xpNeed _ _ := 512
  body _ e s :=
    let t := (s.tablesOf (byteAt e.req.params 1)).filters
    .done s stOK [] (some (((List.range 16).map (fun f =>
      t.getD (16 * byteAt e.req.params 0 + f) (leBytes 1 f ++ zeros 31))).flatten))

/-- PORT_FILTER_READ (R293). -/
def execPortFilterRead (p : Path) (s : State) : Out := .next (s.run cmdPortFilterRead p)

/-- A port's MAC address (R277). -/
def portMac (i : Nat) : Nat := 16 * Config.macBlock.toNat + i

/-- The 32 bytes of PORT_STATUS (R293); diagnostics at their SFF-8472 places (log 17). -/
def State.portStatusBytes (s : State) (i : Nat) : Bytes :=
  let p := s.port i
  let d := p.diag.getD []
  let be (k : Nat) : Nat := 256 * byteAt d k + byteAt d (k + 1)
  leBytes 1 (b2n p.up + 2 * b2n (s.portEn i) + 4 * b2n p.present + 8 * b2n p.powerFault + 16 * b2n p.txFault +
    32 * b2n p.los + 64 * b2n (s.speedFault i) + 128 * b2n p.pllUnlocked) ++
  leBytes 1 (if p.up then p.speed else 0) ++ leBytes 1 p.fec ++
  leBytes 1 (b2n p.peActive + 2 * b2n p.peFailed + 4 * b2n (decide (s.now < p.pauseUntil))) ++
  leBytes 2 (s.maxFrame i) ++ macBytes (portMac i) ++ p.change.bytes ++
  (if p.diag.isSome then leBytes 2 (be 96) ++ leBytes 2 (be 104) ++ leBytes 2 (be 102)
   else leBytes 2 0x8000 ++ zeros 4) ++ zeros 8

/-- PORT_STATUS (R293). -/
def cmdPortStatus : Cmd where
  opcode := 0x0305
  param _ _ r := byteAt r.params 0 ≤ 9 && restZero r 1
  xpNeed _ _ := 32
  body _ e s := .done s stOK [] (some (s.portStatusBytes (byteAt e.req.params 0)))

/-- PORT_STATUS (R293). -/
def execPortStatus (p : Path) (s : State) : Out := .next (s.run cmdPortStatus p)

/-- PORT_STATS: 64 counters and the half mask from one instant; the mask is cleared by every read, the
counters on request (R291, R293). -/
def cmdPortStats : Cmd where
  opcode := 0x0306
  param _ _ r := byteAt r.params 0 ≤ 10 && byteAt r.params 1 ≤ 1 && restZero r 2
  xpNeed _ _ := 264
  body _ e s :=
    let i := byteAt e.req.params 0
    let vals := (List.range 64).map (fun k => leBytes 4 (s.ports.counters.getD (64 * i + k) 0))
    let mask := s.ports.half.getD i 0
    let s := { s with ports.half := s.ports.half.del i }
    let s := if byteAt e.req.params 1 = 1 then
        { s with ports.counters := s.ports.counters.delIf (fun k => k / 64 == i) } else s
    .done s stOK [] (some (vals.flatten ++ leBytes 8 mask))

/-- PORT_STATS (R293). -/
def execPortStats (p : Path) (s : State) : Out := .next (s.run cmdPortStats p)

/-- The bytes of a transceiver address as last read. -/
def Port.sfpBytes (p : Port) (a2 : Bool) : Option Bytes :=
  match p.present, p.id with
  | true, some b => some (if a2 then p.diag.getD (slice b 256 256) else slice b 0 256)
  | _, _ => none

/-- PORT_SFP_READ: FAULT when no transceiver answers (R293). -/
def cmdPortSfpRead : Cmd where
  opcode := 0x0307
  param _ _ r := byteAt r.params 0 ≤ 5 && byteAt r.params 1 ≤ 1 && 1 ≤ byteAt r.params 3 && byteAt r.params 3 ≤ 128 &&
    byteAt r.params 2 + byteAt r.params 3 ≤ 256 && restZero r 4
  xpNeed _ r := byteAt r.params 3
  body _ e s :=
    let b := e.req.params
    match (s.port (byteAt b 0)).sfpBytes (byteAt b 1 == 1) with
    | some d => .done s stOK [] (some (slice d (byteAt b 2) (byteAt b 3)))
    | none => .done s stFAULT [] none

/-- PORT_SFP_READ (R293). -/
def execPortSfpRead (p : Path) (s : State) : Out := .next (s.run cmdPortSfpRead p)

/-- PORT_IP_CFG: stored in flash; the new address applies when the open sessions are closed, 100 ms after
the completion (R293; log 1). -/
def cmdPortIpCfg : Cmd where
  opcode := 0x0308
  param _ _ r := 8 ≤ byteAt r.params 4 && byteAt r.params 4 ≤ 30 && zeroAt r.params 5 3 && restZero r 12
  body _ e s :=
    let b := padTo 12 e.req.params
    .done { s with stored.ip := b, mod.ipNew := some b, mod.p7Close := some (s.now + 100000000) } stOK [] none

/-- PORT_IP_CFG (R293). -/
def execPortIpCfg (p : Path) (s : State) : Out := .next (s.run cmdPortIpCfg p)

end Machine
end Sys2Proof
end

