-- ==== Sys2Proof/Machine/HostIf.lean ====
section
/-! DEFINITION. Host interface: mailbox channels, interrupts, the BAR2 window register, P7 sessions and
the host-interface commands (chapter 4), with the VF interrupt registers of R109. -/

namespace Sys2Proof
namespace Machine

/-- A mailbox path that exists (R92, R128). -/
def pathReal : Path → Bool
  | .mb n => n < 4
  | .vf n => 1 ≤ n && n ≤ 127
  | .p7 _ => false

/-- A VF's channel is stopped by a freeze (R123). -/
def State.pathFrozen (s : State) : Path → Bool
  | .vf n => (s.fn n).frozen
  | _ => false

/-- The slots from `t`, `k` of them, modulo the ring size. -/
def slotsFrom (size t k : Nat) : List Nat := (List.range k).map (fun i => (t + i) % size)

/-- The slots by which a tail write moves the tail, and whether it overtakes HEAD (R95). -/
def tailMove (size head tail v : Nat) : Nat × Bool :=
  let d := (v + size - tail) % size
  (d, decide ((head + 2 * size - tail - 1) % size < d))

/-- MB_SQ_TAIL_WRITE (R94, R95, R97). -/
def State.sqTail (s : State) (p : Path) (v : Word) : State :=
  let size := ringSize p
  let c := s.chan p
  let m := tailMove size c.sqHead c.sqTail (v.toNat % size)
  if m.1 = 0 then s
  else if m.2 then (s.setChan p { c with tailErr := true }).raiseCq p
  else
    let st := s.stamp 9
    s.setChan p { c with
      sqTail := v.toNat % size
      bells := (slotsFrom size c.sqTail m.1).foldl (fun b i => b.set i st) c.bells }

/-- MB_SQ_TAIL_WRITE (R94, R95). -/
def execMbSqTailWrite (p : Path) (v : Word) (s : State) : Out :=
  .next (if s.hostOn && pathReal p then s.sqTail p v else s)

/-- MB_CQ_HEAD_WRITE (R94). -/
def execMbCqHeadWrite (p : Path) (v : Word) (s : State) : Out :=
  .next (if s.hostOn && pathReal p then
    s.setChan p { s.chan p with cqHead := v.toNat % ringSize p } else s)

/-- MB_CHANNEL_ENABLE: setting EN, when it was clear, empties both rings and sets ENABLED (R93). -/
def execMbChannelEnable (p : Path) (s : State) : Out :=
  .next (if s.hostOn && pathReal p && !(s.chan p).en then
    s.setChan p { s.chan p with
      en := true, enabled := true, sqTail := 0, sqHead := 0, cqHead := 0, cqTail := 0, phase := true, bells := [] }
    else s)

/-- MB_CHANNEL_DISABLE: clearing EN stops fetching; the executing command runs on (R93). -/
def execMbChannelDisable (p : Path) (s : State) : Out :=
  .next (if s.hostOn && pathReal p then
    s.setChan p { s.chan p with en := false, enabled := false } else s)

/-- MB_CHANNEL_IDLE: a disabled channel that holds no command sets IDLE (R93). -/
def execMbChannelIdle (p : Path) (s : State) : Out :=
  .next (if s.hostOn && pathReal p && !(s.chan p).enabled && (s.chan p).exec.isNone then
    s.setChan p { s.chan p with idle := true } else s)

/-- The channel may fetch (R93, R94, R98, R99). -/
def State.mayFetch (s : State) (p : Path) : Bool :=
  let c := s.chan p
  s.hostOn && pathReal p && !s.pathFrozen p && c.enabled && c.sqHead != c.sqTail &&
    (c.cqTail + 1) % ringSize p != c.cqHead && c.exec.isNone &&
    s.mod.state != 0 && (s.mod.state != 4 || p == .mb 0)

/-- A failed fetch stops the channel (R93). -/
def State.fetchFailed (s : State) (p : Path) : State :=
  (s.setChan p { s.chan p with fetchErr := true, enabled := false }).raiseCq p

/-- A command whose entry has been read: it executes next, or is answered with BAD_OPCODE (R97, R98). -/
def State.accept (s : State) (p : Path) (r : Req) : State :=
  let c := s.chan p
  let h := (c.sqHead + 1) % ringSize p
  let e : Exec := { req := r, rx := c.bells.getD c.sqHead {}, sqHead := h }
  let s := s.setChan p { c with sqHead := h, exec := some e, idle := false }
  if s.opcodeOk p r.opcode then s else s.complete p 1

/-- An injection fails the fetch of a PF channel (R485). -/
def State.fetchInjected (s : State) (p : Path) : Bool × State :=
  match p with
  | .mb n => s.inject 0x22 n 0
  | _ => (false, s)

/-- MAILBOX_FETCH (R93, R94). -/
def execMailboxFetch (p : Path) (f : Fetch Req) (s : State) : Out :=
  .next (if s.mayFetch p then
    let j := s.fetchInjected p
    if j.1 then j.2.fetchFailed p
    else match f with
      | .ok r => s.accept p r
      | _ => s.fetchFailed p
    else s)

/-- AUTH_LOCKOUT_END (R101). -/
def execAuthLockoutEnd (s : State) : Out :=
  .next (match s.sec.lockout with
    | some t => { s.clockTo (t + 60000000000) with sec.lockout := none }
    | none => s)

/-- NONCE_EXPIRY (R101). -/
def execNonceExpiry (p : Path) (s : State) : Out :=
  .next (match s.nonceOf p with
    | some (_, t) => (s.clockTo (t + 10000000000)).setNonce p none
    | none => s)

/-- MB_BAR2_BASE_WRITE (R84, R85). -/
def execMbBar2BaseWrite (v : Word) (s : State) : Out :=
  .next (if s.hostOn then { s with host.window := v.toNat % 64 } else s)

/-! ## Interrupt registers (R89, R90, R109) -/

/-- A W1C write of a cause register: what remains, and the bits whose message is due (R4, R90). -/
def w1c {w : Nat} (cause mask v setting : BitVec w) : BitVec w × BitVec w :=
  ((cause &&& ~~~v) ||| setting, setting &&& (~~~cause ||| v) &&& ~~~mask)

/-- INT_CAUSE_WRITE (R3, R4, R90). `setting` are the causes that hardware sets in the same cycle. -/
def execIntCauseWrite (v setting : Word) (s : State) : Out :=
  .next (if s.hostOn then
    let r := w1c s.host.cause s.host.mask (v.truncate 16) (setting.truncate 16)
    { s with host := ({ s.host with cause := r.1 }.messages r.2).settleAll }
    else s)

/-- INT_MASK_WRITE (R90). -/
def execIntMaskWrite (v : Word) (s : State) : Out :=
  .next (if s.hostOn then
    let m : BitVec 16 := v.truncate 16
    { s with host := ({ s.host with mask := m }.messages (s.host.cause &&& s.host.mask &&& ~~~m)).settleAll }
    else s)

/-- INT_DMA_CAUSE_WRITE (R4, R90). -/
def execIntDmaCauseWrite (v setting : Word) (s : State) : Out :=
  .next (if s.hostOn then
    let r := w1c s.host.dmaCause s.host.dmaMask v setting
    { s with host := ({ s.host with dmaCause := r.1 }.dmaMessages r.2).dmaSettleAll }
    else s)

/-- INT_DMA_MASK_WRITE (R90). -/
def execIntDmaMaskWrite (v : Word) (s : State) : Out :=
  .next (if s.hostOn then
    { s with host := ({ s.host with dmaMask := v }.dmaMessages
        (s.host.dmaCause &&& s.host.dmaMask &&& ~~~v)).dmaSettleAll }
    else s)

/-- The vectors a function's MSI-X table has (R81, R107). -/
def msixVectors (fn : Nat) : Nat := if fn = 0 then 64 else 16

/-- MSIX_VECTOR_UNMASK: a pending message is sent (R90). -/
def execMsixVectorUnmask (fn vec : Nat) (s : State) : Out :=
  .next (if s.hostOn && fn ≤ 127 && vec < msixVectors fn then
    let m := { s.host.msixAt fn vec with masked := false }
    let m := if m.pba && !s.host.fnMask.contains fn then { m with pba := false, sent := m.sent + 1 } else m
    { s with host.msix := s.host.msix.set (64 * fn + vec) m }
    else s)

/-- The message and PBA bit of a VF's vector 0 after its causes or mask changed (R109). -/
def State.vfSettle (s : State) (n : Nat) (send : Bool) : State :=
  let f := s.fn n
  let h := if send then s.host.message n 0 else s.host
  { s with host := h.settle n 0 ((f.cause &&& ~~~f.mask) != 0) }

/-- VF_INT_CAUSE_WRITE (R4, R90, R109). -/
def execVfIntCauseWrite (n : Nat) (v setting : Word) (s : State) : Out :=
  .next (if s.hostOn && 1 ≤ n && n ≤ 127 then
    let f := s.fn n
    let r := w1c f.cause f.mask (v.truncate 3) (setting.truncate 3)
    (s.setFn n { f with cause := r.1 }).vfSettle n (r.2 != 0)
    else s)

/-- VF_INT_MASK_WRITE (R90, R109). -/
def execVfIntMaskWrite (n : Nat) (v : Word) (s : State) : Out :=
  .next (if s.hostOn && 1 ≤ n && n ≤ 127 then
    let f := s.fn n
    let m : BitVec 3 := v.truncate 3
    (s.setFn n { f with mask := m }).vfSettle n ((f.cause &&& f.mask &&& ~~~m) != 0)
    else s)

/-! ## Host-interface commands (R105) -/

/-- HOST_LINK_CFG: stored in flash, applied at the next module reset. -/
def cmdHostLinkCfg : Cmd where
  opcode := 0x0120
  param _ _ r := byteAt r.params 0 ≤ 1 && (1 ≤ byteAt r.params 1 && byteAt r.params 1 ≤ 5) &&
    [1, 2, 4, 8].contains (byteAt r.params 2) && restZero r 3
  body _ e s := .done { s with stored := { s.stored with
      refclk := byteAt e.req.params 0, maxSpeed := byteAt e.req.params 1, maxWidth := byteAt e.req.params 2 } }
    stOK [] none

/-- HOST_LINK_CFG (R80, R105). -/
def execHostLinkCfg (p : Path) (s : State) : Out := .next (s.run cmdHostLinkCfg p)

/-- HOST_LINK_STATUS. -/
def cmdHostLinkStatus : Cmd where
  opcode := 0x0121
  param _ _ r := restZero r 0
  body _ _ s := .done s stOK
    (leBytes 1 s.host.speed ++ leBytes 1 s.host.width ++ leBytes 2 (b2n s.mod.refclkSep) ++
      leBytes 4 s.host.linkDowns) none

/-- HOST_LINK_STATUS (R105). -/
def execHostLinkStatus (p : Path) (s : State) : Out := .next (s.run cmdHostLinkStatus p)

/-- The P7 settings of MGMT_TLS_CFG. -/
def Cfg.tls (c : Cfg) (b : Bytes) : Cfg :=
  { c with p7On := byteAt b 0 == 1, p7Idle := le16 b 2, p7Ca := le32 b 4 }

/-- MGMT_TLS_CFG: stored in flash; open sessions close 100 ms later. -/
def cmdMgmtTlsCfg : Cmd where
  opcode := 0x0122
  param _ _ r := byteAt r.params 0 ≤ 1 && byteAt r.params 1 == 0 &&
    (10 ≤ le16 r.params 2 && le16 r.params 2 ≤ 3600) && restZero r 8
  body _ e s :=
    let s := { s with
      cfg := s.cfg.tls e.req.params
      stored := s.stored.tls e.req.params
      mod.p7Close := some (s.now + 100000000) }
    .done s.secSettle stOK [] none

/-- MGMT_TLS_CFG (R105). -/
def execMgmtTlsCfg (p : Path) (s : State) : Out := .next (s.run cmdMgmtTlsCfg p)

/-! ## P7 (R103, R104) -/

/-- Closes the P7 sessions whose closing is due (R105, R293). -/
def State.p7Sweep (s : State) : State :=
  match s.mod.p7Close with
  | some t =>
    if t ≤ s.now then
      { s with p7 := [], mod.p7Close := none, mod.ipNew := none, cfg.ip := s.mod.ipNew.getD s.cfg.ip }
    else s
  | none => s

/-- The lowest session number that is free. -/
def State.freeSession (s : State) : Option Nat := (List.range 4).find? (fun n => (s.p7.get? n).isNone)

/-- P7_CONNECT: accepted in CONFIGURE, OPERATE and MAINTAIN with the service on, a client certificate that
chains to the operator CA, and fewer than four sessions open. -/
def execP7Connect (certOk : Bool) (s : State) : Out :=
  let s := s.p7Sweep
  .next (match s.freeSession with
    | some n =>
      if (s.mod.state == 1 || s.mod.state == 2 || s.mod.state == 3) && s.cfg.p7On && certOk && s.caHeld then
        { s with p7 := s.p7.set n { lastUse := s.now } }
      else s
    | none => s)

/-- P7_COMMAND_ENTRY: the entry joins its session, at most 16 being outstanding; a malformed one closes it. -/
def execP7CommandEntry (n : Nat) (r : Req) (s : State) : Out :=
  let s := s.p7Sweep
  .next (match s.p7.get? n with
    | none => s
    | some x =>
      if r.xp && r.xpOffset != 0 then { s with p7 := s.p7.del n }
      else if 16 ≤ x.waiting.length + b2n x.exec.isSome then s
      else
        let e : Exec := { req := r, rx := s.stamp 9, sqHead := 0 }
        if x.exec.isSome then
          { s with p7 := s.p7.set n { x with waiting := x.waiting ++ [e], lastUse := s.now } }
        else State.promote n [e] { s with p7 := s.p7.set n { x with lastUse := s.now } })

/-- P7_IDLE_TIMEOUT (R103). -/
def execP7IdleTimeout (n : Nat) (s : State) : Out :=
  .next (match s.p7.get? n with
    | none => s
    | some x =>
      if x.exec.isNone && x.waiting.isEmpty then
        let s := s.clockTo (x.lastUse + 1000000000 * s.cfg.p7Idle)
        { s with p7 := s.p7.del n }
      else s)

end Machine
end Sys2Proof
end

