-- ==== Sys2Proof/Machine/Vf.lean ====
section
/-! DEFINITION. Virtual functions: queue doorbells, frame delivery, the scheduler, function-level reset,
freeze and dirty logging, and the VF-layer commands (chapter 5). -/

namespace Sys2Proof
namespace Machine

/-! ## Queues (R95, R108, R114) -/

/-- A queue pair of a function. -/
def Fn.queue (f : Fn) (q : Nat) : Queue := f.queues.getD q {}

/-- Replaces a queue pair of a function. -/
def State.setQueue (s : State) (n q : Nat) (x : Queue) : State :=
  s.setFn n { s.fn n with queues := (s.fn n).queues.set q x }

/-- A queue's event message on its vector (R88, R109); the PF's vectors carry none. -/
def State.queueMsg (s : State) (n vec : Nat) (was : Bool) : State :=
  if n = 0 || vec = 0 || was then s else { s with host := s.host.message n vec }

/-- A queue index the function has (R107, R110). -/
def State.queueOk (s : State) (n q : Nat) : Bool := s.hostOn && n ≤ 127 && q < (s.fn n).qp

/-- VF_RXQ_TAIL_WRITE (R95, R108). -/
def execVfRxqTailWrite (n q : Nat) (v : Word) (s : State) : Out :=
  .next (if s.queueOk n q then
    let x := (s.fn n).queue q
    let t := v.toNat % 4096
    if x.rxSize ≤ t then s
    else if (tailMove x.rxSize x.rxHead x.rxTail t).2 then
      (s.setQueue n q { x with tailErr := true }).raiseVf n 1
    else s.setQueue n q { x with rxTail := t }
    else s)

/-- VF_TXQ_TAIL_WRITE (R95, R108). -/
def execVfTxqTailWrite (n q : Nat) (v : Word) (s : State) : Out :=
  .next (if s.queueOk n q then
    let x := (s.fn n).queue q
    let t := v.toNat % 4096
    if x.txSize ≤ t then s
    else if (tailMove x.txSize x.txHead x.txTail t).2 then
      (s.setQueue n q { x with tailErr := true }).raiseVf n 1
    else s.setQueue n q { x with txTail := t }
    else s)

/-- A failed descriptor fetch stops a ring (R114). -/
def State.queueStop (s : State) (n q : Nat) (rx : Bool) : State :=
  let x := (s.fn n).queue q
  (s.setQueue n q { x with fetchErr := true, rxEn := x.rxEn && !rx, txEn := x.txEn && rx }).raiseVf n 1

/-- Descriptors posted to a receive ring. -/
def Queue.posted (x : Queue) : Nat := (x.rxTail + x.rxSize - x.rxHead) % x.rxSize

/-- A receive descriptor keeps the posted-form rules (R111). -/
def rxDescOk (d : Bytes) : Bool :=
  le64 d 0 % 64 == 0 && 256 ≤ le32 d 8 && le32 d 8 ≤ 65536 && le32 d 8 % 64 == 0 && zeroAt d 12 20

/-- A receive descriptor as written back (R111). -/
def rxBack (rx done : Stamp) (frameLen used vlan src info flags : Nat) : Bytes :=
  rx.bytes ++ done.bytes ++ leBytes 4 frameLen ++ leBytes 4 used ++ leBytes 2 vlan ++ leBytes 2 src ++
    leBytes 4 info ++ leBytes 4 (flags * 65536)

/-- How a frame of `left` bytes fills descriptors (R111, R116): per descriptor taken, its buffer address
and the bytes used, `none` where it broke a rule; the bytes left over; whether a fetch failed. -/
def fillDescs : List (Fetch Bytes) → Nat → List (Nat × Option Nat) × Nat × Bool
  | _, 0 => ([], 0, false)
  | [], left => ([], left, false)
  | .ok d :: rest, left =>
    if rxDescOk d then
      let n := min left (le32 d 8)
      let r := fillDescs rest (left - n)
      ((le64 d 0, some n) :: r.1, r.2)
    else
      let r := fillDescs rest left
      ((0, none) :: r.1, r.2)
  | _ :: _, left => ([], left, true)

/-- The write-backs of a frame, from the buffers it filled (R111, R116). `k` is the position, `first` and
`last` the positions of the first and the last buffer filled. -/
def frameBacks (rx done : Stamp) (len vlan src info : Nat) (short bad : Bool) (stripped : Bool) (first last : Nat) :
    Nat → List (Nat × Option Nat) → List Bytes
  | _, [] => []
  | k, (_, u) :: rest =>
    let b := match u with
      | none => rxBack rx done 0 0 0 src info (32768 + 4096)
      | some n =>
        let eop := k == last
        rxBack rx done (if eop then len else 0) n vlan src info
          (32768 + 16384 * b2n (k == first) + 8192 * b2n eop + 4096 * b2n (eop && short) +
            1024 * b2n (eop && bad) + 512 * b2n stripped)
    b :: frameBacks rx done len vlan src info short bad stripped first last (k + 1) rest

/-- The bytes of a frame that a function receives: without its FCS and its outer tag (log 13). -/
def frameRxBytes (f : Frame) : Nat := f.len - 4 - (if f.tag.isSome then 4 else 0)

/-- A function may write now: its own quota, or one that a function with nothing staged leaves (R120). -/
def State.lender (s : State) (n : Nat) : Option Nat :=
  if 0 < s.sched.quota.getD n 0 then some n
  else (s.sched.quota.find? (fun x => 0 < x.2 && (s.fn x.1).staged.isEmpty)).map (·.1)

/-- VF_FRAME_DELIVERY: the oldest frame staged for a queue is written to its posted descriptors, as
fetched; what does not fit is discarded (R111, R114, R116, R120, R126). -/
def execVfFrameDelivery (n q : Nat) (descs : List (Fetch Bytes)) (s : State) : Out := s.onPath <|
  .next (
    let f := s.fn n
    let x := f.queue q
    match f.staged.find? (·.queue == q), s.lender n with
    | some t, some lend =>
      if s.queueOk n q && !f.frozen && x.rxEn && 0 < x.posted then
        let len := frameRxBytes t.frame
        let r := fillDescs (descs.take x.posted) len
        let used := r.1
        let filled := (List.range used.length).filter (fun i => ((used.getD i (0, none)).2).isSome)
        if used.isEmpty then (if r.2.2 then s.queueStop n q true else s)
        else
          let short := 0 < r.2.1
          let back := frameBacks t.rx (s.stamp 8) len (match t.frame.tag with | some (vid, pcp) => vid + 8192 * pcp | none => 0)
            t.src t.info short (!t.frame.fcsOk) t.frame.tag.isSome (filled.headD 0) (filled.getLastD 0) 0 used
          let f := { f with staged := f.staged.erase t }
          let f := if short then { f with rxNobuf := inc32 f.rxNobuf } else f
          let x' := { x with
            rxHead := (x.rxHead + used.length) % x.rxSize, rxEvt := true, noBuf := x.noBuf || short
            rxBack := back.reverse }
          let s := (s.setFn n f).setQueue n q x'
          let s := if short then s.counted f.rxNobuf 0x1004 4 n else s
          let s := (s.release t.fid).txCount 10 t.frame.len t.frame.dst t.cls t.frame.tag.isSome
          let s := used.foldl (fun s b => match b.2 with | some k => s.logWrite n b.1 k | none => s) s
          let s := (slotsFrom x.rxSize x.rxHead used.length).foldl (fun s i => s.logWrite n (x.rxBase + 32 * i) 32) s
          let s := { s with sched.quota := s.sched.quota.upd lend 0 (fun v => v - len) }
          let s := if r.2.2 then s.queueStop n q true else s
          s.queueMsg n x.rxVec x.rxEvt
      else s
    | _, _ => s)

/-! ## Scheduler (R120, R121) -/

/-- SCHEDULER_ROUND: every 10 µs new weights apply, and what slab writes leave of 240,000 bytes goes to the
functions with staged frames by weight. -/
def execSchedulerRound (s : State) : Out :=
  let s := s.clockTo (s.sched.round + 10000)
  let s := { s with fns := s.fns.mapV (fun _ f => { f with weight := f.newWeight.getD f.weight, newWeight := none }) }
  let avail := 240000 - s.sched.slabBytes
  let act := s.fns.filter (fun x => !x.2.staged.isEmpty)
  let total := (act.map (fun x => x.2.weight)).sum
  let quota : Tbl Int := act.map (fun x =>
    (x.1, (avail * x.2.weight / total : Nat) + min 0 (s.sched.quota.getD x.1 0)))
  let start := s.now
  let ws := s.sched.waiters
  let s := { s with sched := { s.sched with round := start, quota := quota, slabBytes := 0, waiters := [] } }
  .next (ws.foldl (fun s p => s.complete p stOK (s.stamp 17).bytes) s)

/-! ## Function-level reset (R122) -/

/-- Discards a function's staged frames, each counted in rx_drop (R115, R122). -/
def State.dropStaged (s : State) (n : Nat) : State :=
  let ts := (s.fn n).staged
  let s := s.setFn n { s.fn n with staged := [] }
  ts.foldl (fun s t => (s.release t.fid).rxDropFn n) s

/-- A queue after a reset of its function: its registers and rings, not its configuration. -/
def Queue.reset (x : Queue) : Queue :=
  { x with
    rxTail := 0, rxHead := 0, txTail := 0, txHead := 0, tailErr := false, txEvt := false, rxEvt := false
    noBuf := false, fetchErr := false, txEn := false, rxEn := false, txPart := 0, txPoison := false, txTs := [] }

/-- A channel after a reset: its registers at reset; a command it executes runs on, cut off (R102, R122). -/
def Chan.reset (c : Chan) : Chan :=
  { exec := c.exec.map (fun e => { e with cut := true }), last := c.last }

/-- VF_FLR (R122). -/
def State.vfReset (s : State) (n : Nat) : State :=
  let s := s.dropStaged n
  let f := s.fn n
  let s := s.setFn n { f with
    frozen := false, cause := 0, mask := 7, rejects := 0, dirty := none
    queues := f.queues.mapV (fun _ x => x.reset) }
  let s := s.setChan (.vf n) (s.chan (.vf n)).reset
  { s with host.msix := s.host.msix.delIf (fun k => k / 64 == n) }

/-- VF_FLR (R122). -/
def execVfFlr (n : Nat) (s : State) : Out :=
  .next (if s.hostOn && 1 ≤ n && n ≤ 127 then s.vfReset n else s)

/-! ## Function-level commands (R129) -/

/-- The function a command acts for (R129). -/
def fnOf : Path → Nat
  | .vf n => n
  | _ => 0

/-- VF_INFO (R129). -/
def cmdVfInfo : Cmd where
  opcode := 0x1001
  param _ _ r := restZero r 0
  body p _ s :=
    let f := s.fn (fnOf p)
    .done s stOK (leBytes 1 (fnOf p) ++ leBytes 1 f.qp ++ macBytes f.mac ++ leBytes 2 f.weight ++
      leBytes 2 (b2n f.frozen)) none

/-- VF_INFO (R129). -/
def execVfInfo (p : Path) (s : State) : Out := .next (s.run cmdVfInfo p)

/-- A ring size of R110. -/
def ringPow2 (n : Nat) : Bool := [64, 128, 256, 512, 1024, 2048, 4096].contains n

/-- VF_Q_CFG (R110, R129). -/
def cmdVfQCfg : Cmd where
  opcode := 0x1002
  param s p r :=
    let b := r.params
    let slab := byteAt b 1 == 1
    byteAt b 0 < (s.fn (fnOf p)).qp && byteAt b 1 ≤ 1 && 1 ≤ byteAt b 2 && byteAt b 2 ≤ 15 && byteAt b 3 ≤ 15 &&
      ringPow2 (le16 b 4) && (if slab then byteAt b 3 == 0 && le16 b 6 == 0 else ringPow2 (le16 b 6)) &&
      le64 b 8 % 4096 == 0 && le64 b 16 % 4096 == 0 && byteAt b 25 == 0 && le16 b 26 ≤ 1000 && restZero r 28
  state s p r :=
    let x := (s.fn (fnOf p)).queue (byteAt r.params 0)
    if x.rxEn || x.txEn then stSTATE else 0
  body p e s :=
    let b := e.req.params
    let x := (s.fn (fnOf p)).queue (byteAt b 0)
    .done (s.setQueue (fnOf p) (byteAt b 0) { x with
      slab := byteAt b 1 == 1, rxVec := byteAt b 2, txVec := byteAt b 3, rxSize := le16 b 4, txSize := le16 b 6
      rxBase := le64 b 8, txBase := le64 b 16, classes := byteAt b 24, interval := le16 b 26 }) stOK [] none

/-- VF_Q_CFG (R110, R129). -/
def execVfQCfg (p : Path) (s : State) : Out := .next (s.run cmdVfQCfg p)

/-- VF_Q_CTRL: enabling a ring that was not resets its indices (R108, R114, R129). -/
def cmdVfQCtrl : Cmd where
  opcode := 0x1003
  param s p r := byteAt r.params 0 < (s.fn (fnOf p)).qp && restZero r 2 &&
    byteAt r.params 1 ≤ (if ((s.fn (fnOf p)).queue (byteAt r.params 0)).slab then 1 else 3)
  body p e s :=
    let b := e.req.params
    let x := (s.fn (fnOf p)).queue (byteAt b 0)
    let rx := (byteAt b 1).testBit 0
    let tx := (byteAt b 1).testBit 1
    let x := if rx && !x.rxEn then { x with rxTail := 0, rxHead := 0 } else x
    let x := if tx && !x.txEn then { x with txTail := 0, txHead := 0, txPart := 0, txPoison := false } else x
    .done (s.setQueue (fnOf p) (byteAt b 0) { x with rxEn := rx, txEn := tx }) stOK [] none

/-- VF_Q_CTRL (R129). -/
def execVfQCtrl (p : Path) (s : State) : Out := .next (s.run cmdVfQCtrl p)

/-- VF_STATS (R129). -/
def cmdVfStats : Cmd where
  opcode := 0x1004
  param _ _ r := restZero r 0
  body p _ s :=
    let f := s.fn (fnOf p)
    .done s stOK (leBytes 4 f.rxDrop ++ leBytes 4 f.rxNobuf ++ leBytes 4 f.rxNoq) none

/-- VF_STATS (R129). -/
def execVfStats (p : Path) (s : State) : Out := .next (s.run cmdVfStats p)

/-! ## Management commands (R130) -/

/-- VF_CFG (R106, R110, R130). -/
def cmdVfCfg : Cmd where
  opcode := 0x1010
  param _ _ r :=
    let b := r.params
    byteAt b 0 ≤ 127 && byteAt b 1 ≤ 64 && le16 b 8 ≤ 4094 && 16 ≤ le16 b 10 && le16 b 10 ≤ 4096 && restZero r 12
  state s _ r :=
    if (s.fn (byteAt r.params 0)).queues.any (fun x => x.2.rxEn || x.2.txEn) then stSTATE else 0
  body _ e s :=
    let b := e.req.params
    let n := byteAt b 0
    let others := ((s.fns.filter (fun x => x.1 != n)).map (fun x => x.2.qp)).sum
    if 1024 < others + byteAt b 1 then .done s stNO_RESOURCE [] none
    else
      let f := s.fn n
      .done (s.setFn n { f with
        qp := byteAt b 1, mac := macAt b 2, vlan := le16 b 8, limit := le16 b 10
        queues := f.queues.delIf (fun q => byteAt b 1 ≤ q) }) stOK [] none

/-- VF_CFG (R130). -/
def execVfCfg (p : Path) (s : State) : Out := .next (s.run cmdVfCfg p)

/-- VF_SHARE_SET: posted after the round from which the weight applies has started (R121, R130). -/
def cmdVfShareSet : Cmd where
  opcode := 0x1011
  param _ _ r := byteAt r.params 0 ≤ 127 && byteAt r.params 1 == 0 && 1 ≤ le16 r.params 2 &&
    le16 r.params 2 ≤ 1000 && restZero r 4
  body p e s :=
    let n := byteAt e.req.params 0
    .wait { s.setFn n { s.fn n with newWeight := some (le16 e.req.params 2) } with
      sched.waiters := s.sched.waiters ++ [p] }

/-- VF_SHARE_SET (R121, R130). -/
def execVfShareSet (p : Path) (s : State) : Out := .next (s.run cmdVfShareSet p)

/-- Byte 0 names a VF, and the rest is 0. -/
def vfOnly (r : Req) : Bool := 1 ≤ byteAt r.params 0 && byteAt r.params 0 ≤ 127 && restZero r 1

/-- VF_FREEZE (R123, R130). -/
def cmdVfFreeze : Cmd where
  opcode := 0x1012
  param _ _ r := vfOnly r
  state s _ r := if (s.fn (byteAt r.params 0)).frozen then stSTATE else 0
  body _ e s :=
    let n := byteAt e.req.params 0
    let k := (s.fn n).staged.length
    let s := s.dropStaged n
    let st := s.stamp 17
    .done (s.setFn n { s.fn n with frozen := true, freezeStamp := st, freezeDrops := k }) stOK
      (st.bytes ++ leBytes 4 k) none

/-- VF_FREEZE (R123, R130). -/
def execVfFreeze (p : Path) (s : State) : Out := .next (s.run cmdVfFreeze p)

/-- VF_UNFREEZE: rings resume (R123, R130). -/
def cmdVfUnfreeze : Cmd where
  opcode := 0x1015
  param _ _ r := vfOnly r
  state s _ r := if (s.fn (byteAt r.params 0)).frozen then 0 else stSTATE
  body _ e s :=
    let n := byteAt e.req.params 0
    .done (s.setFn n { s.fn n with frozen := false }) stOK (s.stamp 17).bytes none

/-- VF_UNFREEZE (R130). -/
def execVfUnfreeze (p : Path) (s : State) : Out := .next (s.run cmdVfUnfreeze p)

/-- VF_DIRTY_START (R126, R130). -/
def cmdVfDirtyStart : Cmd where
  opcode := 0x1016
  param _ _ r :=
    let b := r.params
    1 ≤ byteAt b 0 && byteAt b 0 ≤ 127 && zeroAt b 1 7 && le64 b 8 % 262144 == 0 && le64 b 16 % 262144 == 0 &&
      262144 ≤ le64 b 16 && le64 b 16 ≤ 1099511627776 && restZero r 24
  state s _ r := if (s.fn (byteAt r.params 0)).dirty.isSome then stSTATE else 0
  body _ e s :=
    let n := byteAt e.req.params 0
    if 8 ≤ (s.fns.filter (fun x => x.2.dirty.isSome)).length then .done s stNO_RESOURCE [] none
    else .done (s.setFn n { s.fn n with
      dirty := some { base := le64 e.req.params 8, len := le64 e.req.params 16 } }) stOK [] none

/-- VF_DIRTY_START (R130). -/
def execVfDirtyStart (p : Path) (s : State) : Out := .next (s.run cmdVfDirtyStart p)

/-- VF_DIRTY_SYNC: copy and clear in one swap (R127, R130). -/
def cmdVfDirtySync : Cmd where
  opcode := 0x1017
  param _ _ r :=
    let b := r.params
    1 ≤ byteAt b 0 && byteAt b 0 ≤ 127 && zeroAt b 1 7 && le64 b 8 % 4096 == 0 && restZero r 16
  state s _ r := if (s.fn (byteAt r.params 0)).dirty.isSome then 0 else stSTATE
  body _ e s :=
    let n := byteAt e.req.params 0
    match (s.fn n).dirty with
    | none => .done s stSTATE [] none
    | some d =>
      .done (s.setFn n { s.fn n with
        dirty := some { d with pages := [] }, dirtyCopy := some (le64 e.req.params 8, d.pages) }) stOK
        ((s.stamp 17).bytes ++ leBytes 4 d.pages.length) none

/-- VF_DIRTY_SYNC (R130). -/
def execVfDirtySync (p : Path) (s : State) : Out := .next (s.run cmdVfDirtySync p)

/-- VF_DIRTY_STOP: the bitmap is discarded (R130). -/
def cmdVfDirtyStop : Cmd where
  opcode := 0x1018
  param _ _ r := vfOnly r
  state s _ r := if (s.fn (byteAt r.params 0)).dirty.isSome then 0 else stSTATE
  body _ e s :=
    let n := byteAt e.req.params 0
    .done (s.setFn n { s.fn n with dirty := none }) stOK [] none

/-- VF_DIRTY_STOP (R130). -/
def execVfDirtyStop (p : Path) (s : State) : Out := .next (s.run cmdVfDirtyStop p)

/-- VF_STATUS (R130). -/
def cmdVfStatus : Cmd where
  opcode := 0x1019
  param _ _ r := byteAt r.params 0 ≤ 127 && restZero r 1
  body _ e s :=
    let f := s.fn (byteAt e.req.params 0)
    .done s stOK (leBytes 1 (b2n f.frozen) ++ leBytes 1 f.qp ++ leBytes 2 f.weight ++ leBytes 2 f.staging ++
      leBytes 1 (b2n f.dirty.isSome)) none

/-- VF_STATUS (R130). -/
def execVfStatus (p : Path) (s : State) : Out := .next (s.run cmdVfStatus p)

end Machine
end Sys2Proof
end

