-- ==== Sys2Proof/Machine/Align.lean ====
section
/-! DEFINITION. The protection grid, source times, the tracker, the resampler, fills and flags, and the
aligned values (chapter 8). -/

namespace Sys2Proof
namespace Machine

/-! ## The grid (R8, R165, R167) -/

/-- Samples a second of a rate code (R184). -/
def gridRate (code : Nat) : Nat :=
  if code = 0 then 4000 else if code = 1 then 4800 else if code = 2 then 9600 else 14400

/-- The mark after the next one: the pending mark, or the extrapolation of R167. -/
def TimeBlk.after (t : TimeBlk) : Nat :=
  match t.pend with
  | some m => m.ns
  | none => 2 * t.next.ns - t.cur.ns

/-- The second after the newest one opened, as the marks known now place it. -/
def State.coming (s : State) : Option GridSecond :=
  s.aln.seconds.head?.map (fun d =>
    { d with
      ord := d.ord + 1, sec := s.time.next.sec, m0 := d.m1, m1 := s.time.after, g0 := d.g0 + d.rate
      rate := gridRate s.aln.rate, d := s.aln.d, mode := s.aln.mode, p := s.cfg.ph.p, snow := s.aln.snow, holdover := s.time.next.holdover, step := false
      extrap := false })

/-- The seconds that can be placed, oldest first. -/
def State.placed (s : State) : List GridSecond := s.aln.seconds.reverse ++ s.coming.toList

/-- t(s:n) (R167). -/
def GridSecond.at_ (d : GridSecond) (n : Nat) : Nat := d.m0 + (divRoundUp (n * (d.m1 - d.m0) : Nat) d.rate).toNat

/-- The second that holds a grid index. -/
def State.secondOf (s : State) (g : Nat) : Option GridSecond :=
  s.placed.find? (fun d => d.g0 ≤ g && g < d.g0 + d.rate)

/-- The instant of a grid index, extended local time. -/
def State.instant (s : State) (g : Nat) : Option (GridSecond × Nat) :=
  (s.secondOf g).map (fun d => (d, d.at_ (g - d.g0)))

/-- The first index of a second at or after an instant inside it. -/
def GridSecond.firstN (d : GridSecond) (x : Rat) : Nat :=
  let n := (((x - d.m0) * d.rate / (d.m1 - d.m0 : Nat)).floor - 1).toNat
  n + if x ≤ d.at_ n then 0 else if x ≤ d.at_ (n + 1) then 1 else if x ≤ d.at_ (n + 2) then 2 else 3

/-- The first grid index at or after an instant. -/
def State.gridFrom (s : State) (x : Rat) : Option Nat :=
  (s.placed.find? (fun d => x ≤ d.m1)).map (fun d => d.g0 + min d.rate (d.firstN x))

/-- M of a mark, counted in marks since reset. -/
def State.markAt (s : State) (o : Nat) : Option Nat :=
  s.placed.findSome? (fun d => if d.ord = o then some d.m0 else if d.ord + 1 = o then some d.m1 else none)

/-! ## Streams (R150, R169, R172) -/

/-- channel_base and channels of an SV entry (R150). -/
def svBase (b : Bytes) : Nat := le16 b 30
def svChans (b : Bytes) : Nat := byteAt b 26

/-- Samples a second of a rate code of an SV entry (R150). -/
def svRate (code : Nat) : Nat :=
  if code = 0 then 4000 else if code = 1 then 4800 else if code = 2 then 14400 else 96000

/-- The smpCnt period of a rate (R169). -/
def smpPeriod (rate : Nat) : Nat := if rate = 96000 then 48000 else rate

/-- A committed entry of the SV half. -/
def State.svEntry (s : State) (k : Nat) : Bytes := s.cfg.tables.sv.getD k []

/-- A stream's alignment. -/
def State.alnOf (s : State) (k : Nat) : AlnStream := s.aln.streams.getD k {}

/-- Replaces a stream's alignment. -/
def State.setAln (s : State) (k : Nat) (x : AlnStream) : State := { s with aln.streams := s.aln.streams.set k x }

/-- A stream's rate (R155). -/
def State.svRateOf (s : State) (k : Nat) : Nat :=
  match s.sv.streams.get? k with
  | some x => x.rate
  | none => 4800

/-- A stream's fine kind: its own or the module's (R172). -/
def State.fineKind (s : State) (x : AlnStream) : Nat := if x.kind = 2 then s.aln.kind else x.kind

/-- Adds to a counter of ALN_STREAM_STATUS: 0 late, 1 late_drop, 2 early, 3 subst_values, 4 invalid_values,
5 reseeds, 6 settle_events (R188, R291). -/
def State.alnCount (s : State) (k i n : Nat) : State :=
  let x := s.alnOf k
  let old := x.counts.getD i 0
  let v := (old + n) % 4294967296
  let s := s.setAln k { x with counts := x.counts.set i v }
  if !old.testBit 31 && v.testBit 31 then
    s.firnEv 0x0107 (leBytes 2 0x0605 ++ leBytes 2 (12 + 4 * i) ++ leBytes 2 k) else s

/-- A history-reset event at an instant (R181): stored inputs go, every channel settles anew. -/
def State.historyReset (s : State) (k : Nat) (at_ : Rat) : State :=
  let x := s.alnOf k
  let n := svChans (s.svEntry k)
  (s.setAln k { x with
    hist := [], fresh := 0, settle := List.replicate n 0, event := at_, poison := false }).alnCount k 6 1

/-! ## Source times (R169, R170) -/

/-- The source time of a global-basis position: marks × rate + smpCnt (R169). -/
def State.globalTime (s : State) (x : AlnStream) (rate : Nat) (p : Int) : Option Rat :=
  let o := (p / rate).toNat
  let i := (p % rate).toNat
  match s.markAt o, s.markAt (o + 1) with
  | some a, some b => some (((a : Int) + divRoundUp (i * (b - a) : Nat) rate + x.srcOffset : Int) : Rat)
  | _, _ => none

/-- The position of an ASDU of global basis: the second and period for which its source time lies in the
window of R169 about its receive stamp. -/
def State.globalPos (s : State) (x : AlnStream) (rate c rx : Nat) : Option (Int × Rat) :=
  let pc := smpPeriod rate
  let half : Rat := 500000000 * pc / rate
  let cand := s.placed.flatMap (fun d => (List.range (rate / pc)).map (fun h => ((d.ord * rate + h * pc + c : Nat) : Int)))
  cand.findSome? (fun p =>
    match s.globalTime x rate p with
    | some t => if (rx : Rat) - half < t ∧ t ≤ rx + half then some (p, t) else none
    | none => none)

/-- What the tracker answers for an ASDU: its position, its source time, the tracker after it, and whether it
was reseeded (R170). -/
def track (x : AlnStream) (rate c : Nat) (a : Rat) : Int × Rat × AlnStream × Bool :=
  let pc := smpPeriod rate
  let t0 : Rat := 1000000000 / rate
  let seed (re : Bool) : Int × Rat × AlnStream × Bool :=
    let t := a - x.fixedDelay
    (c, t, { x with seeded := true, tLast := t, cLast := c, pLast := c, per := t0, untracked := t + 1000000000 }, re)
  if !x.seeded then seed false
  else
    let back := (x.cLast + pc - c) % pc
    if 1 ≤ back ∧ back ≤ 63 then (x.pLast - back, x.tLast - back * x.per, x, false)
    else
      let dc := (c + pc - x.cLast) % pc
      let p := x.tLast + dc * x.per
      let e := a - x.fixedDelay - p
      if 2000000 < |e| then seed true
      else
        let d := if e < 0 then e else e / 256
        let t := p + d
        let per := max (min (x.per + d / (1024 * dc)) (t0 * (1 + 200 / 1000000))) (t0 * (1 - 200 / 1000000))
        (x.pLast + dc, t, { x with tLast := t, per := per, cLast := c, pLast := x.pLast + dc }, false)

/-- Tin of a stream's inputs (R172). -/
def tinOf (x : AlnStream) (rate : Nat) : Rat := if x.basis = 1 then x.per else 1000000000 / rate

/-- The source time of a position: as stored, or by the stream's basis. -/
def State.srcTime (s : State) (x : AlnStream) (rate : Nat) (p : Int) : Rat :=
  match x.hist.find? (·.pos == p) with
  | some h => h.t
  | none =>
    if x.basis = 1 then x.tLast + (p - x.pLast) * x.per
    else match s.globalTime x rate p with
      | some t => t
      | none =>
        match x.hist.head? with
        | some h => h.t + ((p - h.pos : Int) : Rat) * tinOf x rate
        | none => 0

/-- Moves a position, in steps of `step`, to the newest one whose source time is at or before an instant. -/
def State.seek (s : State) (x : AlnStream) (rate step : Nat) (lim : Rat) : Nat → Int → Int
  | 0, p => p
  | n + 1, p =>
    if s.srcTime x rate (p + step) ≤ lim then State.seek s x rate step lim n (p + step)
    else if lim < s.srcTime x rate p then State.seek s x rate step lim n (p - step)
    else p

/-- The newest position whose source time is at or before an instant (R173); `step` is 4 for the
pre-decimated path. -/
def State.newest (s : State) (x : AlnStream) (rate step : Nat) (lim : Rat) : Int :=
  let est : Int :=
    if x.basis = 1 then x.pLast + (if x.per = 0 then 0 else ((lim - x.tLast) / x.per).floor)
    else match s.aln.seconds.head? with
      | some d => ((d.ord * rate : Nat) : Int) + ((lim - x.srcOffset - d.m0) * rate / ((d.m1 - d.m0 : Nat) : Rat)).floor
      | none => 0
  State.seek s x rate step lim 128 (est / step * step)

/-! ## Coefficients (R171, R174, R175) -/

/-- Kernel values as integers of 2⁻¹⁷ whose sum is 131,072: the residual goes to the largest, the newest
among equals (R175). -/
def quantise (hs : List Int) : List Int :=
  let sum := hs.sum
  let qs := hs.map (fun h => divRoundAway (h * 131072) sum.toNat)
  let res := 131072 - qs.sum
  let big := (qs.map Int.natAbs).foldl max 0
  match qs.findIdx? (fun q => q.natAbs == big) with
  | some i => qs.set i (qs.getD i 0 + res)
  | none => qs

/-- h(o) of the fine paths at o/2,560 input samples, `num`/`den` being ρ (R174). -/
def fineKernel (minPhase : Bool) (num den : Nat) (o : Int) : Int :=
  let sinc := fxSinc (num * o) (2560 * den)
  if minPhase then
    if o < -2560 then fxMul sinc (fxKaiser (o + 2560) 2560 5 28) else if o ≤ 3584 then sinc else 0
  else fxMul sinc (fxKaiser o 2560 7 17)

/-- c_φ of a fine path (R174, R175). -/
def fineCoefs (minPhase : Bool) (gridRate inputRate phi : Nat) : List Int :=
  let g : Int := if minPhase then 3584 else 19200
  let num := 9 * min gridRate inputRate
  quantise ((List.range 16).map (fun j => fineKernel minPhase num (10 * inputRate) (g - 10 * phi - 2560 * j)))

/-- c_φ of the coarse path (R174). -/
def coarseCoefs (phi : Nat) : List Int := [512 * (128 + phi), 512 * (128 - (phi : Int))]

/-- h_pd (R171), held as R175 holds coefficients (log 20). -/
def preCoefs : List Int :=
  quantise ((List.range 49).map (fun i =>
    let o : Int := (i : Int) - 24
    fxMul (fxSinc (9 * o) 40) (fxKaiser o 1 8 49)))

/-! ## Taps (R171 to R173, R176) -/

/-- An input of a path as one tap holds it. -/
structure Tap where
  vals : List Int
  qual : List Nat
  flags : List Nat
  late : Bool
  rx : Nat

/-- Q_INV, Q_QUEST and Q_TEST of a quality word (R163; log 19). -/
def qualFlags (q : Nat) : Nat :=
  let v := q % 4
  b2n (v == 1 || v == 2) + 2 * b2n (v == 3) + 4 * b2n (q.testBit 11)

/-- A stored sample as a tap. -/
def Sample.tap (h : Sample) : Tap :=
  { vals := h.vals, qual := h.qual, flags := h.qual.map (fun q => h.flags ||| qualFlags q), late := h.late, rx := h.rx }

/-- The sample of a position, if its receive stamp is no later than `e` (R176). -/
def AlnStream.sampleAt (x : AlnStream) (e : Nat) (p : Int) : Option Sample :=
  x.hist.find? (fun h => h.pos == p && h.rx ≤ e)

/-- A straight line through two points at a third, halves away from zero, saturated; and whether it was. -/
def lineAt (a b : Nat × Int) (j : Nat) : Int × Bool :=
  let num := a.2 * ((b.1 : Int) - a.1) + (b.2 - a.2) * ((j : Int) - a.1)
  let v := divRoundAway num (b.1 - a.1)
  (satI32 v, satI32 v != v)

/-- Fills missing taps, newest first (R177). -/
def fillTaps (xs : List (Option Int)) : List (Int × Bool) :=
  let have_ : List (Nat × Int) := xs.zipIdx.filterMap (fun (v, j) => v.map (fun y => (j, y)))
  xs.zipIdx.map (fun (v, j) =>
    match v with
    | some y => (y, false)
    | none =>
      let newer := have_.filter (fun p => p.1 < j)
      let older := have_.filter (fun p => j < p.1)
      match newer.reverse, older with
      | a :: _, b :: _ => lineAt a b j
      | [], a :: b :: _ => lineAt a b j
      | [], [a] => (a.2, false)
      | b :: a :: _, [] => lineAt a b j
      | [a], [] => (a.2, false)
      | [], [] => (0, false))

/-- An input of the pre-decimator: stored, or interpolated over a run of at most four missing ones (R171). -/
def AlnStream.preInput (x : AlnStream) (e : Nat) (chan : Nat) (p : Int) : Option Int :=
  let at_ (q : Int) : Option Int := (x.sampleAt e q).bind (fun h => h.vals[chan]?)
  match at_ p with
  | some v => some v
  | none =>
    let up := (List.range 4).findSome? (fun i => (at_ (p + (i + 1 : Nat))).map (fun v => (i + 1, v)))
    let down := (List.range 4).findSome? (fun i => (at_ (p - (i + 1 : Nat))).map (fun v => (i + 1, v)))
    match up, down with
    | some (u, a), some (d, b) => if u + d ≤ 5 then some (lineAt (0, a) (u + d, b) u).1 else none
    | _, _ => none

/-- The tap of a pre-decimated position p = 4j: 49 inputs from p + 24 down (R171). -/
def AlnStream.preTap (x : AlnStream) (e chans : Nat) (p : Int) : Option Tap :=
  let ps := (List.range 49).map (fun i => p + 24 - (i : Int))
  let hs := ps.filterMap (x.sampleAt e)
  let one (c : Nat) : Option Int :=
    (ps.zip preCoefs).foldl (fun acc (q, k) =>
      match acc, x.preInput e c q with
      | some a, some v => some (a + k * v)
      | _, _ => none) (some 0)
  let vals := (List.range chans).map one
  if hs.isEmpty || vals.any (·.isNone) then none
  else some {
    vals := vals.map (fun v => satI32 (divRoundAway (v.getD 0) 131072))
    qual := (hs.head?.map (·.qual)).getD []
    flags := (List.range chans).map (fun c => hs.foldl (fun a h => a ||| h.flags ||| qualFlags (h.qual.getD c 0)) 0)
    late := hs.any (·.late)
    rx := (hs.map (·.rx)).foldl max 0 }

/-- A resampler path at an instant: its input rate, taps, G and period, and how its inputs are read. -/
structure PathAt where
  inRate : Nat
  step : Nat
  /-- G in 1/2,560 input samples. -/
  g : Int
  tin : Rat
  /-- What the pre-decimator adds, in nanoseconds. -/
  pre : Rat := 0

/-- The fine path of a stream (R172). -/
def State.finePath (s : State) (k : Nat) : PathAt :=
  let x := s.alnOf k
  let rate := s.svRateOf k
  let g : Int := if s.fineKind x = 1 then 3584 else 19200
  if rate = 96000 then { inRate := 24000, step := 4, g := g, tin := 1000000000 / 24000, pre := 250000 }
  else { inRate := rate, step := 1, g := g, tin := if x.basis = 1 then x.per else 1000000000 / rate }

/-- The coarse path of a stream. -/
def State.coarsePath (s : State) (k : Nat) : PathAt :=
  let x := s.alnOf k
  let rate := s.svRateOf k
  { inRate := rate, step := 1, g := 1280, tin := if x.basis = 1 then x.per else 1000000000 / rate }

/-- G × Tin, which bounds the source times of a value's inputs (R172). -/
def PathAt.reach (p : PathAt) : Rat := p.g / 2560 * p.tin

/-- The path delay in time, pre-decimator included (R172; log 87). -/
def PathAt.delay (p : PathAt) : Rat := p.reach + p.pre

/-- The newest tap's position and the phase at an instant (R173). -/
def State.phase (s : State) (k : Nat) (p : PathAt) (t : Nat) : Int × Nat :=
  let x := s.alnOf k
  let rate := s.svRateOf k
  let n := s.newest x rate p.step (t + p.reach)
  let o : Rat := (s.srcTime x rate n - t) / p.tin
  let phi := (256 * (p.g / 2560 - o) + 1 / 2).floor
  if phi = 256 then (n + p.step, 0) else (n, (min 255 (max 0 phi)).toNat)

/-- The taps of a path, newest first, as samples received by `e` leave them. -/
def State.taps (s : State) (k : Nat) (p : PathAt) (newest : Int) (count e : Nat) : List (Option Tap) :=
  let x := s.alnOf k
  (List.range count).map (fun j =>
    let q := newest - ((p.step * j : Nat) : Int)
    if p.step = 4 then x.preTap e (svChans (s.svEntry k)) q else (x.sampleAt e q).map Sample.tap)

/-- Σ c × x of one channel, and whether the sum or a fill saturated (R175, R177). -/
def weigh (coefs : List Int) (taps : List (Option Tap)) (chan : Nat) : Int × Bool :=
  let xs := fillTaps (taps.map (fun t => t.map (fun y => y.vals.getD chan 0)))
  let sum := ((coefs.zip xs).map (fun c => c.1 * c.2.1)).sum
  let v := divRoundAway sum 131072
  (satI32 v, xs.any (·.2) || satI32 v != v)

/-! ## Aligned values (R176, R177, R181, R183) -/

/-- Alignment flags by bit (R183). -/
def afINVALID : Nat := 1
def afSUBST : Nat := 2
def afSETTLE : Nat := 4
def afHOLDOVER : Nat := 8
def afCOARSE_FILL : Nat := 16
def afLATE_IN : Nat := 32
def afPOISON : Nat := 64
def afSAT : Nat := 128
def afUNTRACKED : Nat := 256

/-- The value of a channel with no samples (R177). -/
def noSamples (d : GridSecond) : AVal :=
  { val := 0, qual := 0, iflags := 0, aflags := afINVALID + (if d.holdover then afHOLDOVER else 0) }

/-- A stream delivers samples (R160). -/
def State.delivers (s : State) (k : Nat) : Bool :=
  match s.sv.streams.get? k with
  | some x => x.state == 2 || x.state == 3
  | none => false

/-- Inputs that settle a fine path, and a coarse one, in the inputs a stream delivers: four to each
pre-decimated sample (R181). -/
def settleFine (rate : Nat) : Nat := if rate = 96000 then 64 else 16
def settleCoarse (rate : Nat) : Nat := if rate = 96000 then 8 else 2

/-- What the values of a stream at an instant share: flags, and the inputs' quality and ingest flags. -/
def mkAVal (taps : List (Option Tap)) (chan flags : Nat) (v : Int × Bool) : AVal :=
  let present := taps.filterMap id
  { val := v.1
    qual := (present.head?.map (fun t => t.qual.getD chan 0)).getD 0
    iflags := present.foldl (fun a t => a ||| t.flags.getD chan 0) 0
    aflags := flags ||| (if v.2 then afSAT else 0) }

/-- The coarse values of a stream at an instant from the taps received by `e`; `snow` is S of its second
(R176, R177). -/
def State.coarseAt (s : State) (k e : Nat) (d : GridSecond) (t : Nat) : List AVal :=
  let x := s.alnOf k
  let n := svChans (s.svEntry k)
  if !s.delivers k then List.replicate n (noSamples d)
  else
    let p := s.coarsePath k
    let ph := s.phase k p t
    let taps := s.taps k p ph.1 2 e
    let miss := taps.countP (·.isNone)
    let lim : Rat := t + p.delay + d.snow * 1000
    let late := match taps.head? with | some (some y) => decide (lim < y.rx) | _ => false
    let common := (if d.holdover then afHOLDOVER else 0) ||| (if late then afLATE_IN else 0) |||
      (if x.basis = 1 ∧ (t : Rat) < x.untracked then afUNTRACKED else 0) |||
      (if miss = 1 then afSUBST else if miss = 2 then afINVALID else 0) |||
      (if x.poison then afPOISON ||| afINVALID else 0)
    let g := d.g0 + d.firstN t
    let prev := ((x.coarse.find? (fun a => a.g < g)).map (·.vals)).getD []
    (List.range n).map (fun c =>
      let settle := if x.settle.getD c 64 < settleCoarse p.inRate then afSETTLE else 0
      if miss = 2 then
        mkAVal taps c (common ||| settle) (((prev[c]?).map (·.val)).getD 0, false)
      else mkAVal taps c (common ||| settle) (weigh (coarseCoefs ph.2) taps c))

/-- The fine values of a stream at an instant whose emission instant is `e` (R173 to R177, R181). -/
def State.fineAt (s : State) (k e : Nat) (d : GridSecond) (t : Nat) : List AVal :=
  let x := s.alnOf k
  let n := svChans (s.svEntry k)
  let rate := s.svRateOf k
  if !s.delivers k then List.replicate n (noSamples d)
  else if x.fresh < settleFine rate then
    (s.coarseAt k e d t).map (fun v => { v with aflags := v.aflags ||| afCOARSE_FILL ||| afSETTLE })
  else
    let p := s.finePath k
    let ph := s.phase k p t
    let taps := s.taps k p ph.1 16 e
    let miss := taps.countP (·.isNone)
    let coefs := fineCoefs (s.fineKind x == 1) d.rate p.inRate ph.2
    let common := (if d.holdover then afHOLDOVER else 0) |||
      (if taps.any (fun y => match y with | some z => z.late | none => false) then afLATE_IN else 0) |||
      (if x.basis = 1 ∧ (t : Rat) < x.untracked then afUNTRACKED else 0) |||
      (if miss = 0 then 0 else if miss ≤ 2 then afSUBST else afINVALID)
    (List.range n).map (fun c =>
      mkAVal taps c (common ||| (if x.settle.getD c 64 < settleFine rate then afSETTLE else 0)) (weigh coefs taps c))

/-- The emission instant of a stream's fine value, rounded up to a nanosecond (R176). -/
def State.emission (s : State) (k : Nat) (d : GridSecond) (t : Nat) : Nat :=
  ((t : Rat) + (s.finePath k).delay + d.snow * 1000).ceil.toNat

/-! ## Delivery to alignment (R169 to R171, R178, R179, R181) -/

/-- Inserts a sample, newest position first; the oldest beyond 1,200 go. -/
def insertSample (h : Sample) (l : List Sample) : List Sample :=
  (l.filter (fun x => h.pos < x.pos) ++ [h] ++ l.filter (fun x => x.pos < h.pos)).take 1200

/-- How a sample stands to the fine values whose tap set includes it, or includes a pre-decimated sample
formed from it: 0 in time, 1 late, 2 too late for all (R171, R178). -/
def State.lateness (s : State) (k : Nat) (t : Rat) (rx : Nat) : Nat :=
  let p := s.finePath k
  let emit (g : Nat) : Option Nat := (s.instant g).map (fun d => s.emission k d.1 d.2)
  match s.gridFrom (t - p.pre - p.reach - p.tin / 512), s.gridFrom (t + p.pre + 16 * p.tin - p.reach - p.tin / 512) with
  | some a, some b =>
    if b ≤ a then 0
    else match emit a, emit (b - 1) with
      | some ea, some eb => if eb < rx then 2 else if ea < rx then 1 else 0
      | some ea, none => if ea < rx then 1 else 0
      | _, _ => 0
  | some a, none => match emit a with | some ea => if ea < rx then 1 else 0 | none => 0
  | _, _ => 0

/-- Counts an arrival latency in the running second (R179). -/
def LatSecond.add (l : LatSecond) (lat : Rat) : LatSecond :=
  let us := (max 0 (lat / 1000)).floor.toNat
  { l with bins := l.bins.upd (min 400 (us / 10)) 0 (· + 1), maxUs := max l.maxUs (min 65535 us) }

/-- A delivered ASDU as ingest hands it to alignment. -/
structure Delivery where
  cnt : Nat
  rx : Nat
  /-- smpSynch 2. -/
  global : Bool
  /-- The frame's ASDUs that follow it. -/
  later : Nat
  vals : List Int
  qual : List Nat
  flags : Nat
  gap : Nat
  rateStep : Bool

/-- The history-reset events an ASDU brings before its source time is known (R170, R181). -/
def State.deliveryResets (s : State) (k : Nat) (a : Delivery) : State :=
  let unseed (s : State) : State := s.setAln k { s.alnOf k with seeded := false }
  let basis := if a.global then 0 else 1
  let old := (s.alnOf k).basis
  let s := if a.rateStep then unseed (s.historyReset k 0) else s
  let s := if old ≠ 2 ∧ old ≠ basis then unseed (s.historyReset k a.rx) else s
  let s := if 15 < a.gap then s.historyReset k 0 else s
  s.setAln k { s.alnOf k with basis := basis }

/-- Position and source time of an ASDU, with the tracker moved on; none where no mark places it (R169,
R170). -/
def State.place (s : State) (k : Nat) (a : Delivery) : Option (Int × Rat) × State :=
  let x := s.alnOf k
  let rate := s.svRateOf k
  if a.global then (s.globalPos x rate a.cnt a.rx, s)
  else
    let per : Rat := if x.seeded then x.per else 1000000000 / rate
    let r := track x rate a.cnt (a.rx - a.later * per)
    let s := s.setAln k r.2.2.1
    let s := if r.2.2.2 then (s.alnCount k 5 1).historyReset k a.rx else s
    (some (r.1, r.2.1), s)

/-- A step on a channel of a stream with STEP_EN (R181). -/
def stepped (x : AlnStream) (p : Int) (vals : List Int) (c : Nat) : Bool :=
  x.stepEn && (match x.hist.find? (·.pos == p - 1) with
    | some h => x.stepThr ≤ (vals.getD c 0 - h.vals.getD c 0).natAbs
    | none => false)

/-- Stores an ASDU's sample: latency, lateness, settling counts and steps (R178, R179, R181). -/
def State.store (s : State) (k : Nat) (a : Delivery) (p : Int) (t : Rat) : State :=
  let x := s.alnOf k
  let s := s.setAln k { x with lat := x.lat.add (a.rx - t) }
  let late := s.lateness k t a.rx
  if late = 2 then s.alnCount k 1 1
  else
    let s := if late = 1 then s.alnCount k 0 1 else s
    let s := if a.global ∧ (a.rx : Rat) + 50000 < t then s.alnCount k 2 1 else s
    let x := s.alnOf k
    let n := svChans (s.svEntry k)
    let counts := decide (x.event < t)
    let steps := (List.range n).filter (stepped x p a.vals)
    let settle := (List.range n).map (fun c =>
      if steps.contains c then 1 else if counts then min 64 (x.settle.getD c 64 + 1) else x.settle.getD c 64)
    let s := s.setAln k { x with
      settle := settle, fresh := if counts then min 64 (x.fresh + 1) else x.fresh
      poison := x.poison && x.fresh + 1 < settleFine (s.svRateOf k)
      hist := insertSample { pos := p, t := t, rx := a.rx, vals := a.vals, qual := a.qual, flags := a.flags, late := late == 1 } x.hist }
    if steps.isEmpty then s else s.alnCount k 6 steps.length

/-- A delivered ASDU reaches alignment. -/
def State.toAlign (s : State) (k : Nat) (a : Delivery) : State :=
  let s := s.deliveryResets k a
  match s.place k a with
  | (some (p, t), s) => s.store k a p t
  | (none, s) => s

/-- Binds a stream's channels at a commit (R154, R181): its inputs go, and its values start at the next
instant. -/
def State.alnBind (s : State) (k : Nat) : State :=
  let s := s.historyReset k s.now
  let g := s.gridFrom (s.now + 1)
  s.setAln k { s.alnOf k with
    basis := 2, seeded := false, fineNext := g, coarseNext := g, fine := [], coarse := [], lat := { run := false }
    seconds := [], p := none }

end Machine
end Sys2Proof
end

