-- ==== Sys2Proof/Machine/Switch.lean ====
section
/-! DEFINITION. The switch core: lookup and disposition of received frames, the FDB, numbering, egress,
function transmission, and the switch commands (chapter 14). -/

namespace Sys2Proof
namespace Machine

/-! ## Stream-table lookup (R151, R222, R296) -/

/-- The ports a source_mode admits (R150, R215): P1/P3 are A1/B1, P2/P4 are A2/B2. -/
def modePorts (mode port : Nat) : List Nat :=
  if mode = 0 then [port] else if mode = 1 then [0, 2] else if mode = 2 then [1, 3] else if mode = 3 then [0]
  else if mode = 4 then [2] else if mode = 5 then [1] else [3]

/-- The VID of a frame, 0 for an untagged or priority-tagged one. -/
def frameVid (f : Frame) : Nat := (f.tag.map Prod.fst).getD 0

/-- An entry's key matches a frame that arrived on a port; `portAt` is where the entry keeps its port
(R150, R151, R222). -/
def entryMatch (portAt : Nat) (b : Bytes) (f : Frame) (port appid : Nat) : Bool :=
  (modePorts (byteAt b 3) (byteAt b portAt)).contains port && macAt b 4 == f.dst && le16 b 16 == appid &&
    ((byteAt b 2).testBit 2 || le16 b 18 == frameVid f) && (!(byteAt b 2).testBit 1 || macAt b 10 == f.src)

/-- The entry of a table that a frame matches. -/
def findEntry (portAt : Nat) (t : Tbl Bytes) (f : Frame) (port appid : Nat) : Option Nat :=
  (t.find? (fun x => entryMatch portAt x.2 f port appid)).map (·.1)

/-! ## Forwarding database (R308 to R310) -/

/-- The bucket of a key (R308). -/
def fdbBucket (mac vid : Nat) : Nat :=
  crc32c (macBytes mac ++ [BitVec.ofNat 8 (vid / 256), BitVec.ofNat 8 vid]) % 8192

/-- The index of the entry with a key. -/
def SwBlk.fdbFind (w : SwBlk) (mac vid : Nat) : Option Nat :=
  (List.range 4).findSome? (fun i =>
    let k := 4 * fdbBucket mac vid + i
    match w.fdb.get? k with
    | some e => if e.mac = mac ∧ e.vid = vid then some k else none
    | none => none)

/-- The entry with a key. -/
def SwBlk.fdbLookup (w : SwBlk) (mac vid : Nat) : Option FdbEntry := (w.fdbFind mac vid).bind (w.fdb.get? ·)

/-- The lowest free way of a bucket. -/
def SwBlk.freeWay (w : SwBlk) (bucket : Nat) : Option Nat :=
  ((List.range 4).map (4 * bucket + ·)).find? (fun k => (w.fdb.get? k).isNone)

/-- Learns a source address on a port (R309). -/
def State.learn (s : State) (port mac vid : Nat) : State :=
  if macGroup mac || !(byteAt s.cfg.tables.sw 4).testBit port then s
  else match s.sw.fdbFind mac vid with
    | some k =>
      match s.sw.fdb.get? k with
      | some e =>
        if e.static then
          if e.dest.testBit port then s
          else
            let v := inc32 s.sw.saViolation
            State.counted { s with sw.saViolation := v } v 0x0409 56 0
        else if e.dest = 2 ^ port then { s with sw.fdb := s.sw.fdb.set k { e with age := 0 } }
        else
          let v := inc32 s.sw.moves
          State.counted { s with sw.fdb := s.sw.fdb.set k { e with dest := 2 ^ port, age := 0 }, sw.moves := v } v 0x0409 54 0
      | none => s
    | none =>
      match s.sw.freeWay (fdbBucket mac vid) with
      | some k =>
        let e : FdbEntry := { mac := mac, vid := vid, dest := 2 ^ port, static := false, drop := false, age := 0 }
        { s with sw.fdb := s.sw.fdb.set k e }
      | none =>
        let v := inc32 s.sw.learnFull
        State.counted { s with sw.learnFull := v } v 0x0409 52 0

/-- FDB_AGE_SWEEP: every age_time / 4 (R310). -/
def execFdbAgeSweep (s : State) : Out :=
  .next (if s.power.on.contains .sw then
    let s := s.clockTo (s.sw.sweep + 250000000 * le32 s.cfg.tables.sw 0)
    let aged := s.sw.fdb.mapV (fun _ e => if e.static then e else { e with age := e.age + 1 })
    { s with sw.fdb := aged.filter (fun x => x.2.static || x.2.age < 5), sw.sweep := s.now }
    else s)

/-! ## Destinations (R284, R287, R297) -/

/-- The VLAN and PCP of a frame on a port, none where the admission mode drops it (R284). -/
def admitVlan (rec : Bytes) (f : Frame) : Option (Nat × Nat) :=
  let mode := byteAt rec 6
  match f.tag with
  | none => if mode = 1 then none else some (le16 rec 8, byteAt rec 7)
  | some (vid, pcp) =>
    if mode = 2 ∨ 4095 ≤ vid then none
    else if vid = 0 then some (le16 rec 8, pcp) else some (vid, pcp)

/-- Two ports of different PRP LANs: A is P1 and P2, B is P3 and P4 (R297). -/
def lanSplit (a b : Nat) : Bool := (a < 2 && (b == 2 || b == 3)) || ((a == 2 || a == 3) && b < 2)

/-- The egress ports of a frame from an ingress (7 and above: not a port), none where the ingress is no
member of the VLAN (R297). -/
def State.forwardPorts (s : State) (ingress vid dst : Nat) : Option (List Nat) :=
  let v := s.cfg.tables.vlans.getD vid []
  let members := if (byteAt v 3).testBit 0 then byteAt v 2 else 0
  if ingress < 7 ∧ !members.testBit ingress then none
  else
    let mask := match s.sw.fdbLookup dst vid with
      | some e => if e.drop then 0 else e.dest
      | none =>
        if dst = macBroadcast then members
        else if macGroup dst then (if (byteAt v 3).testBit 2 then members else 0)
        else if (byteAt v 3).testBit 1 then members else 0
    some ((List.range 7).filter (fun e =>
      mask.testBit e && members.testBit e && e != ingress && (s.port e).up && !lanSplit ingress e))

/-- The lowest-numbered matching filter of a port and the functions it names (R287). -/
def State.filterHit (s : State) (port vid dst : Nat) : Option (Nat × List Nat) :=
  (List.range 16).findSome? (fun f =>
    match s.cfg.tables.filters.get? (16 * port + f) with
    | some b =>
      if macAt b 4 = dst ∧ ((byteAt b 1).testBit 1 ∨ le16 b 2 = vid) then
        some (f, (List.range 128).filter (fun n => (byteAt b (16 + n / 8)).testBit (n % 8)))
      else none
    | none => none)

/-- The function a unicast frame is addressed to (R287). -/
def State.ownFn (s : State) (dst : Nat) : Option Nat :=
  if macGroup dst || dst == 0 then none else (s.fns.find? (fun x => x.2.mac == dst)).map (·.1)

/-- The class of a frame received on a port (R298). -/
def State.classOf (s : State) (port pcp : Nat) : Nat :=
  byteAt (s.cfg.tables.pcp.getD port [0, 1, 2, 3, 4, 5, 6, 7]) pcp

/-! ## Egress (R281, R285, R299, R304, R305) -/

/-- A copy of VLAN 0 is untagged traffic of the module; others leave tagged unless theirs is the port's
untag_vid (R285). -/
def State.leavesTagged (s : State) (c : Copy) : Bool :=
  let u := le16 (s.cfg.tables.port c.port) 10
  c.vid != 0 && (u == 0 || c.vid != u)

/-- A copy ends without being sent: its sequence skips it, its cells go, and a function that waits for its
stamp is told (R112, R303, R307). -/
def State.loseCopy (s : State) (c : Copy) : State :=
  let s := (s.skipCopy c).release c.fid
  match c.origin with
  | .fn n q idx true =>
    if s.sw.queue.any (fun x => x.fid == c.fid) then s
    else
      let x := (s.fn n).queue q
      match x.txTs.get? idx with
      | some b =>
        s.setQueue n q { x with
          txTs := x.txTs.del idx
          txBack := some (slice b 0 16 ++ zeros 6 ++ (s.stamp 8).bytes ++ [4, 0] ++ leBytes 2 0x8000) }
      | none => s
  | _ => s

/-- The G2 bound of a port (R227, R230), ns. -/
def State.g2Bound (s : State) (port : Nat) : Nat :=
  let p := s.port port
  2000 + (if p.peActive || rateOf p.speed = 0 then 0 else ceilDiv ((s.maxFrame port + 20) * 800) (rateOf p.speed))

/-- A publication's change frame starts on a port: its trip-log entry takes the first stamp, and a doorbell
beyond its G2 bound is an exceedance (R226, R230, R231). -/
def State.tripTx (s : State) (num port : Nat) : State :=
  match s.goose.log.find? (·.num == num) with
  | none => s
  | some e =>
    let paused := e.srcExt < (s.port port).pauseUntil
    let bad := e.source == 3 && !paused && s.g2Bound port < s.now - e.srcExt
    let e' := { e with tx := some (e.tx.getD (s.stamp 2, s.now)), exceed := e.exceed || bad }
    let s := { s with goose.log := s.goose.log.map (fun x => if x.num == num then e' else x) }
    if bad then
      let v := inc32 (s.port port).g2Exc
      ((s.setPort port { s.port port with g2Exc := v }).firnEv 0x0802
        (leBytes 2 e.pub ++ [0, 0] ++ leBytes 1 port)).counted v 0x080A 8 port
    else s

/-- Class-7 load and bursts at a frame start (R230). -/
def State.class7Start (s : State) (port len : Nat) : State :=
  let p := s.port port
  let recent := p.c7.filter (fun x => s.now < x.1 + 100000)
  let load := 20 * 800 * (recent.map (·.2)).sum > 100000 * rateOf p.speed
  let ahead := (s.sw.queue.filter (fun x => x.port == port && x.cls == 7)).length ≥ 4
  let s := s.setPort port { p with c7 := (s.now, len) :: recent }
  let s := if load then
      let v := inc32 (s.port port).loadExc
      (s.setPort port { s.port port with loadExc := v }).counted v 0x080A 0 port else s
  if ahead then
    let v := inc32 (s.port port).burstExc
    (s.setPort port { s.port port with burstExc := v }).counted v 0x080A 4 port
  else s

/-- A class-7 frame pre-empts a lower class that is being sent (R289): the fragments are counted. -/
def State.preempt (s : State) (port cls : Nat) : State :=
  let p := s.port port
  if cls = 7 ∧ p.peActive ∧ s.now < p.busyUntil ∧ p.txCls ≠ 7 then
    if p.preempted then s.portCount port 0xB4
    else (((s.setPort port { p with preempted := true }).portCount port 0xB0).portCount port 0xB4).portCount port 0xB4
  else s

/-- The transmit completion of a function's frame: stamp and write-back (R112). -/
def State.fnTxDone (s : State) (n q idx : Nat) : State :=
  let x := (s.fn n).queue q
  match x.txTs.get? idx with
  | some b =>
    let back := slice b 0 16 ++ (s.stamp 2).bytes ++ (s.stamp 8).bytes ++ [0, 0] ++ leBytes 2 0x8000
    let s := s.setQueue n q { x with txTs := x.txTs.del idx, txBack := some back, txEvt := true }
    (s.logWrite n (x.txBase + 32 * idx) 32).queueMsg n x.txVec x.txEvt
  | none => s

/-- A PTP message as it leaves a port: a message with an ingress time takes its residence, a Follow_Up that of
the Sync it follows (R324, R325). -/
def ptpLeave (x : PtpPort) (c : Content) (now : Nat) : Content :=
  match c with
  | .ptp 8 q corr (some at_) =>
    let gone := match x.sent with | some (n, t) => if n = q then t else now | none => now
    .ptp 8 q (corr + ((gone : Int) - at_)) none
  | .ptp k q corr (some at_) => .ptp k q (corr + ((now : Int) - at_)) none
  | y => y

/-- What a port notes of a PTP message that leaves it: when a Sync or a delay request went (R324, R325). -/
def State.ptpSent (s : State) (port : Nat) (c : Content) : State :=
  let x := s.time.ports.getD port {}
  match c with
  | .ptp 0 q _ _ => { s with time.ports := s.time.ports.set port { x with sent := some (q, s.now) } }
  | .ptp k q _ _ =>
    if (k = 1 || k = 2) && x.request.any (fun r => r.1 == q) then
      { s with time.ports := s.time.ports.set port { x with request := some (q, s.now) } } else s
  | _ => s

/-- Counts one where a condition holds. -/
def State.countIf (s : State) (c : Bool) (port off : Nat) : State := if c then s.portCount port off else s

/-- A frame's transmit stamp is kept for its origin (R112, R231, R324). -/
def Origin.stamped : Origin → Bool
  | .fn _ _ _ t => t
  | .ptp => true
  | .pub _ (some _) => true
  | _ => false

/-- What a transmission counts: class-7 load, what it pre-empts, the frame, and what is wrong with it or marked
(R230, R281, R289, R292, R304). -/
def State.sendCounts (s : State) (c : Copy) (sent : Nat) (tagged tooLong stomp mark : Bool) : State :=
  let s := if c.cls = 7 then s.class7Start c.port sent else s
  let s := (s.preempt c.port c.cls).txCount c.port sent c.frame.dst c.cls tagged
  (((s.countIf tooLong c.port 0xA8).countIf (tooLong || stomp) c.port 0xAC).countIf mark c.port 0xC8).countIf
    c.origin.stamped c.port 0xF8

/-- A transmission occupies its port; a lower class that it pre-empts ends later. -/
def State.sendPort (s : State) (c : Copy) (sent : Nat) (tagged stomped mark : Bool) : State :=
  let p := s.port c.port
  let keep := c.cls == 7 && s.now < p.busyUntil && p.txCls != 7
  let done_ := s.now + wireTime p.speed sent
  s.setPort c.port { p with
    busyUntil := if keep then p.busyUntil + (done_ - s.now) else done_
    txCls := if keep then p.txCls else c.cls
    preempted := keep && p.preempted
    last := some {
      frame := { c.frame with content := ptpLeave (s.time.ports.getD c.port {}) c.frame.content s.now }, cls := c.cls, len := sent
      tagged := tagged, stomped := stomped, marked := mark, stamp := s.stamp 2, origin := c.origin } }

/-- What a copy's origin learns of its transmission. -/
def State.sendTold (s : State) (c : Copy) : State :=
  match c.origin with
  | .fn n q idx true => s.fnTxDone n q idx
  | .pub _ (some num) => s.tripTx num c.port
  | .ptp => s.ptpSent c.port c.frame.content
  | _ => s

/-- The length of a copy on its port, with its tag and padding (R281, R285). -/
def State.leavesLen (s : State) (c : Copy) : Nat := max 64 (c.base + (if s.leavesTagged c then 4 else 0))

/-- A copy's transmission on its port: length and padding, marking, counters, what it pre-empts, and what
its origin learns of it. `stomp`: the head was cut through and the frame is bad (R281). -/
def State.send (s : State) (c : Copy) (mark stomp : Bool) : State :=
  let tagged := s.leavesTagged c
  let maxLen := s.maxFrame c.port
  if maxLen < s.leavesLen c ∧ !c.cut then (s.portCount c.port 0xA8).loseCopy c
  else
    let tooLong := decide (maxLen < s.leavesLen c)
    let sent := min maxLen (s.leavesLen c)
    let s := (s.sendCounts c sent tagged tooLong stomp mark).sendPort c sent tagged (tooLong || stomp) mark
    ((s.passCopy c).release c.fid).sendTold c

/-- A copy may leave now: class 7 never waits for resequencing (R307). -/
def State.inTurn (s : State) (c : Copy) : Bool :=
  c.cls == 7 || (s.sw.seqs.getD (seqKey c.src c.cls c.port) {}).expect == c.num

/-- The next copy of a port by strict priority, in arrival order within a class (R299). -/
def State.nextCopy (s : State) (port : Nat) : Option Copy :=
  (List.range 8).reverse.findSome? (fun k =>
    s.sw.queue.find? (fun c => c.port == port && c.cls == k && s.inTurn c))

/-- The frame is marked CE: threshold reached without it, ECT(0) or ECT(1), stored (R304). -/
def State.congMark (s : State) (c : Copy) : Bool :=
  let thr := s.clsCong c.cls
  thr != 0 && thr ≤ s.sw.queueCells c.port c.cls && !c.cut && (c.frame.ecn == some 1 || c.frame.ecn == some 2)

/-- An egress starts its next frame: aged copies are discarded on the way (R299, R304, R305). -/
def State.egress (port : Nat) : Nat → State → State
  | 0, s => s
  | k + 1, s =>
    match s.nextCopy port with
    | none => s
    | some c =>
      let s := { s with sw.queue := s.sw.queue.erase c }
      if s.clsAge c.cls ≠ 0 ∧ s.clsAge c.cls * 1000 < s.now - c.entry then
        State.egress port k ((s.portCount port 0xC0).loseCopy c)
      else if s.maxFrame port < s.leavesLen c ∧ !c.cut then
        State.egress port k ((s.portCount port 0xA8).loseCopy c)
      else
        let mark := s.congMark c
        let c := if mark then { c with frame := { c.frame with ecn := some 3 } } else c
        s.send c mark false

/-- The egress is free for a copy at once: idle, or sending a lower class that it pre-empts. -/
def State.idleFor (s : State) (c : Copy) : Bool :=
  let e := s.port c.port
  e.busyUntil ≤ s.now || (c.cls == 7 && e.peActive && e.txCls != 7)

/-- The end of the frame that a port sends, where its next copy has to wait for it. -/
def State.egressFree (s : State) (port : Nat) : Nat :=
  match s.nextCopy port with
  | some c => if s.idleFor c then s.now else (s.port port).busyUntil
  | none => s.now

/-- EGRESS_TRANSMIT_START (R288, R299): the next frame starts as the one being sent ends; an egress that is down or
paused starts nothing. -/
def execEgressTransmitStart (port : Nat) (s : State) : Out :=
  .next (
    let s' := s.clockTo (s.egressFree port)
    if port < 7 && (s.port port).up && (s.nextCopy port).isSome && (s.port port).pauseUntil ≤ s'.now then
      State.egress port s'.sw.queue.length s' else s)

/-- RESEQUENCE_TIMEOUT: a missing number is passed over 5 µs after a later one arrived (R307). -/
def execResequenceTimeout (id : Nat) (s : State) : Out :=
  .next (
    let q := s.sw.seqs.getD id {}
    let waiting := s.sw.queue.filter (fun c => seqKey c.src c.cls c.port == id)
    match waiting with
    | [] => s
    | c :: _ =>
      if waiting.any (fun x => x.num == q.expect) || id / 8 % 8 = 7 then s
      else
        let s := s.clockTo (c.entry + 5000)
        let v := inc32 s.sw.reseqTimeout
        { s with sw.seqs := s.sw.seqs.set id { q with expect := c.num }, sw.reseqTimeout := v }.counted v 0x0409 58 0)

/-! ## Enqueueing -/

/-- What every copy of a frame shares. -/
structure Meta where
  fid : Nat
  cls : Nat
  src : Nat
  vid : Nat
  pcp : Nat
  base : Nat
  /-- Cells it holds until it has ended (R302), and after. -/
  hold : Nat
  frame : Frame
  origin : Origin

/-- A frame's number in the buffer, and its plane (R295). -/
def State.newFrame (s : State) (cls : Nat) : Nat × State :=
  (s.sw.nextFid, { s with
    sw.nextFid := s.sw.nextFid + 1, sw.plane := if cls = 7 then s.sw.plane else (s.sw.plane + 1) % 4 })

/-- The copy of a frame for a port, numbered (R307). -/
def State.number (s : State) (m : Meta) (port : Nat) : Copy × State :=
  let k := seqKey m.src m.cls port
  let q := s.sw.seqs.getD k {}
  ({ fid := m.fid, port := port, cls := m.cls, src := m.src, num := q.next, entry := s.now, frame := m.frame
     vid := m.vid, pcp := m.pcp, base := m.base, cells := cellsOf m.frame.len, cut := false, origin := m.origin },
   { s with sw.seqs := s.sw.seqs.set k { q with next := (q.next + 1) % 65536 } })

/-- The conditions of R306 for a copy to be cut through: ingress in the mask, egress no faster, next in its
sequence, nothing of its class or higher waiting, egress up and not paused. -/
def State.cutOk (s : State) (c : Copy) (ingress : Nat) : Bool :=
  let e := s.port c.port
  ingress < 7 && (byteAt s.cfg.tables.sw 5).testBit ingress && rateOf e.speed ≤ rateOf (s.port ingress).speed &&
    s.inTurn c && !s.sw.queue.any (fun x => x.port == c.port && c.cls ≤ x.cls) && e.up && e.pauseUntil ≤ s.now

/-- Enqueues a copy of a frame at a port: admission, cut-through, or a refusal that skips its number
(R302, R306, R307). Answers whether it was refused. -/
def State.enqueue (s : State) (m : Meta) (port : Nat) : Bool × State :=
  let n := s.number m port
  let c := n.1
  match n.2.admission (.port port) m.cls m.hold (n.2.ownCells m.fid) with
  | (some part, s) =>
    let s := s.hold m.fid c.cells part
    if s.cutOk c m.src then
      let c := { c with cut := true }
      if s.idleFor c then (false, s.send c false false)
      else (false, { s with sw.queue := s.sw.queue ++ [c] })
    else (false, { s with sw.queue := s.sw.queue ++ [c] })
  | (none, s) => (true, s.skipCopy c)

/-- Enqueues a frame at several ports; the ports that refused it. -/
def State.enqueueAll (m : Meta) : List Nat → State → List Nat × State
  | [], s => ([], s)
  | p :: ps, s =>
    let a := s.enqueue m p
    let r := State.enqueueAll m ps a.2
    (if a.1 then p :: r.1 else r.1, r.2)

/-- Stages a frame for several functions, each with its info word; the functions refused. -/
def State.stageAll (f : Frame) (fid cls src hold : Nat) (rx : Stamp) : List (Nat × Nat) → State → List Nat × State
  | [], s => ([], s)
  | (n, info) :: ns, s =>
    let a := s.stage n f fid cls src info hold rx
    let r := State.stageAll f fid cls src hold rx ns a.2
    (if a.1 then n :: r.1 else r.1, r.2)

/-- Delivers a frame to ports and functions; refusals are counted as R302 and R115 state. `block` is the
ingress port block. -/
def State.fanOut (s : State) (m : Meta) (ports : List Nat) (fns : List (Nat × Nat)) (rx : Stamp) (block : Nat) :
    State :=
  let a := State.enqueueAll m ports s
  let b := State.stageAll m.frame m.fid m.cls m.src m.hold rx fns a.2
  let s := b.1.foldl (fun s n => s.rxDropFn n) b.2
  if ports.length + fns.length ≠ 0 ∧ a.1.length + b.1.length = ports.length + fns.length then s.portCount block 0x4C
  else a.1.foldl (fun s p => s.portCount p 0xCC) s

/-- A frame of the module's own sources enters the core from MOD for the ports given (R294, R298); a
refused copy counts at its egress. -/
def State.modSend (s : State) (ports : List Nat) (frame : Frame) (cls : Nat) (origin : Origin) : State :=
  let n := s.newFrame cls
  let m : Meta :=
    { fid := n.1, cls := cls, src := 11, vid := frameVid frame, pcp := ((frame.tag.map Prod.snd).getD 0)
      base := frame.len - (if frame.tag.isSome then 4 else 0), hold := cellsOf frame.len, frame := frame, origin := origin }
  let a := State.enqueueAll m (ports.filter (fun p => (n.2.port p).up)) n.2
  a.1.foldl (fun s p => s.portCount p 0xCC) a.2

/-! ## Reception (R280, R283, R287, R296) -/

/-- What the MAC finds wrong with a frame: the counter, in the precedence of R283. -/
def rxFault (maxLen : Nat) (f : Frame) : Option Nat :=
  if !f.fcsOk then some 0x40
  else if !f.pcsOk then some 0x44
  else if f.len ≤ 63 then some 0x38
  else if maxLen < f.len then some 0x3C
  else none

/-- Copies a bad frame's head reached before the fault was found: cut-through ports that were free are
stomped, functions with a descriptor posted receive it with TAIL_BAD (R280, R306). -/
def State.cutBad (s : State) (port : Nat) (f : Frame) (rx : Stamp) : State :=
  match admitVlan (s.cfg.tables.port port) f with
  | none => s
  | some (vid, pcp) =>
    let cls := s.classOf port pcp
    let ports := (s.forwardPorts port vid f.dst).getD []
    let m : Meta :=
      { fid := s.sw.nextFid, cls := cls, src := port, vid := vid, pcp := pcp
        base := f.len - (if f.tag.isSome then 4 else 0), hold := cellsOf (s.maxFrame port), frame := f, origin := .fwd }
    let one (s : State) (e : Nat) : State :=
      let n := s.number m e
      let c := { n.1 with cut := true }
      if n.2.cutOk c port && n.2.idleFor c then
        match n.2.admission (.port e) cls m.hold 0 with
        | (some part, s) => (s.hold m.fid c.cells part).send c false true
        | (none, _) => s
      else s
    let s := ports.foldl one (s.newFrame cls).2
    match s.ownFn f.dst with
    | some n =>
      let fn := s.fn n
      let posted := fn.queues.any (fun x => x.2.rxEn && 0 < x.2.posted)
      if fn.staged.isEmpty && posted && (byteAt s.cfg.tables.sw 5).testBit port then
        (s.stage n { f with fcsOk := false } m.fid cls port 0xFFFFFFFF m.hold rx).2
      else s
    | none => s

/-- Disposition of a good frame on P1 to P7 with its VLAN and PCP (R287, R296, R297, R309). -/
def State.dispose (s : State) (port : Nat) (f : Frame) (vid pcp : Nat) (rx : Stamp) : State :=
  let cls := s.classOf port pcp
  let filt : List (Nat × Nat) := match s.filterHit port vid f.dst with
    | some (i, ns) => ns.map (fun n => (n, i))
    | none => []
  let s := filt.foldl (fun s _ => s.portCount port 0x5C) s
  let n := s.newFrame cls
  let s := n.2
  let m : Meta :=
    { fid := n.1, cls := cls, src := port, vid := vid, pcp := pcp, base := f.len - (if f.tag.isSome then 4 else 0)
      hold := cellsOf (s.maxFrame port), frame := f, origin := .fwd }
  let copies (s : State) : State := if filt.isEmpty then s else s.fanOut m [] filt rx port
  let own : List (Nat × Nat) := match s.ownFn f.dst with
    | some n => if filt.any (fun x => x.1 == n) then [] else [(n, 0xFFFFFFFF)]
    | none => []
  let forward (s : State) : State :=
    match s.forwardPorts port vid f.dst with
    | none => copies (s.portCount port 0x48)
    | some ps => if ps.isEmpty && own.isEmpty && filt.isEmpty then s else s.fanOut m ps (filt ++ own) rx port
  let s := match f.content with
    | .ptp .. => copies (s.portCount port 0x58)
    | .sv appid _ =>
      if f.dst / 16 = 0x0180C200000 then copies s
      else if (findEntry 34 s.cfg.tables.sv f port appid).isSome then copies (s.portCount port 0x50)
      else
        let v := inc32 s.sv.unmatched
        forward ({ s with sv.unmatched := v }.counted v 0x0509 16 0)
    | .goose appid _ =>
      if f.dst / 16 = 0x0180C200000 then copies s
      else if (findEntry 31 s.cfg.tables.subs f port appid).isSome then copies (s.portCount port 0x54)
      else forward s
    | _ =>
      if f.dst / 16 = 0x0180C200000 then copies s
      else if port = 6 ∧ f.dst = portMac 6 then copies s
      else forward s
  s.learn port f.src vid

/-- FRAME_RECEIVE: a frame received on a port with its receive stamp's instant (R279 to R287, R296). -/
def execFrameReceive (port : Nat) (f : Frame) (at_ : Nat) (s : State) : Out := s.onPath <|
  let s := s.clockTo at_
  .next (if port ≤ 9 && (s.port port).up then
    let j1 := s.inject 0x01 port 0
    let j2 := if j1.1 then (false, j1.2) else j1.2.inject 0x02 port 0
    let f := { f with fcsOk := f.fcsOk && !j1.1, pcsOk := f.pcsOk && !j2.1 }
    let s := j2.2
    let maxLen := s.maxFrame port
    let rx := s.stamp 1
    let binned := f.pcsOk && 64 ≤ f.len && f.len ≤ maxLen
    let s := if binned then s.portCount port (0x1C + 4 * sizeBin f.len) else s
    match rxFault maxLen f with
    | some off =>
      let s := s.portCount port off
      if port < 7 && 64 ≤ f.len then s.cutBad port f rx else s
    | none =>
      let s := s.rxGood port f.len f.dst (f.tag.isSome && port < 7)
      if port = 7 then
        if f.tag.isSome then s.portCount port 0xFC
        else match f.content with
          | .brio => s
          | _ => s.portCount port 0x60
      else if 8 ≤ port then s
      else match admitVlan (s.cfg.tables.port port) f with
        | none => s.portCount port 0x48
        | some (vid, pcp) => s.dispose port f vid pcp rx
    else s)

/-! ## Function transmission (R112 to R114, R282) -/

/-- A transmit descriptor keeps the posted-form rules (R112). -/
def txDescOk (d : Bytes) : Bool :=
  1 ≤ le16 d 8 && le16 d 8 ≤ 9216 && le16 d 10 % 8192 == 0 && byteAt d 14 ≤ 7 && byteAt d 15 == 0 && zeroAt d 16 16

/-- Writes a transmit descriptor back at once (R112): status, no transmit stamp. -/
def State.txBackNow (s : State) (n q idx status : Nat) (d : Bytes) : State :=
  let x := (s.fn n).queue q
  let back := slice d 0 16 ++ zeros 6 ++ (s.stamp 8).bytes ++ leBytes 2 status ++ leBytes 2 0x8000
  let s := s.setQueue n q { x with txBack := some back, txEvt := true }
  (s.logWrite n (x.txBase + 32 * idx) 32).queueMsg n x.txVec x.txEvt

/-- The queue whose turn it is: the next enabled transmit ring with a descriptor posted, from the
round-robin position on (R113). -/
def Fn.txTurn (f : Fn) : Option Nat :=
  ((List.range 64).map (fun i => (f.txNext + i) % 64)).find? (fun q =>
    q < f.qp && (f.queue q).txEn && (f.queue q).txTail != (f.queue q).txHead)

/-- Sends a function's frame into the core: destinations by lookup in the function's VLAN (R297, R298;
log 18). -/
def State.fnSend (s : State) (n q idx : Nat) (d : Bytes) (f : Frame) : State :=
  let ts := (le16 d 10).testBit 13
  let ins := (le16 d 10).testBit 14
  let fv := (s.fn n).vlan
  let vid := if ins && le16 d 12 % 4096 != 0 then le16 d 12 % 4096 else if fv = 0 then 1 else fv
  let cls := min 6 (byteAt d 14)
  let b := s.newFrame cls
  let s := b.2
  let m : Meta :=
    { fid := b.1, cls := cls, src := 10, vid := vid, pcp := if ins then le16 d 12 / 8192 else 0
      base := f.len - (if ins then 4 else 0), hold := cellsOf f.len, frame := f, origin := .fn n q idx ts }
  let ports := (s.forwardPorts 10 vid f.dst).getD []
  let own : List (Nat × Nat) := match s.ownFn f.dst with
    | some k => if k = n then [] else [(k, 0xFFFFFFFF)]
    | none => []
  let x := (s.fn n).queue q
  let s := if ts && !ports.isEmpty then s.setQueue n q { x with txTs := x.txTs.set idx d } else s
  let s := s.fanOut m ports own (s.stamp 8) 10
  if ts && !ports.isEmpty then
    -- every copy refused: nothing will carry a stamp
    if ((s.fn n).queue q).txTs.get? idx = none then s
    else if s.sw.queue.any (fun c => c.fid == m.fid) then s
    else
      let x := (s.fn n).queue q
      (s.setQueue n q { x with txTs := x.txTs.del idx }).txBackNow n q idx 4 d
  else s.txBackNow n q idx 0 d

/-- The status of a function's frame before it enters the core, 0 to send it (R112, R113, R282). -/
def State.txStatus (s : State) (n len : Nat) (d : Bytes) (poison ok : Bool) (f : Frame) : Nat :=
  let wire := max 64 (len + 4 + (if (le16 d 10).testBit 14 then 4 else 0))
  if !ok then 4
  else if 9216 < wire then 1
  else if f.src ≠ (s.fn n).mac then 2
  else if poison then 3
  else 0

/-- VF_TRANSMIT_FETCH: the next descriptor of the queue whose turn it is; a frame is complete at its EOP
descriptor (R112 to R114, R282). -/
def execVfTransmitFetch (n q : Nat) (desc : Fetch Bytes) (data : Fetch Bytes) (f : Frame) (s : State) : Out := s.onPath <|
  .next (
    if !(s.queueOk n q) || (s.fn n).frozen || (s.fn n).txTurn != some q then s
    else
      let x := (s.fn n).queue q
      let idx := x.txHead
      match desc with
      | .ok d =>
        let good := txDescOk d && (match data with | .ok _ => true | .poisoned => true | _ => false)
        let poison := x.txPoison || (match data with | .poisoned => true | _ => false)
        let len := x.txPart + le16 d 8
        let x := { x with txHead := (idx + 1) % x.txSize }
        if (le16 d 10).testBit 15 then
          let s := s.setFn n { s.fn n with txNext := (q + 1) % 64 }
          let s := s.setQueue n q { x with txPart := 0, txPoison := false }
          let ins := (le16 d 10).testBit 14
          let st := s.txStatus n len d poison good f
          let f := { f with
            len := max 64 (len + 4 + (if ins then 4 else 0)), fcsOk := true, pcsOk := true
            tag := if ins then some (le16 d 12 % 4096, le16 d 12 / 8192) else none }
          if st ≠ 0 then s.txBackNow n q idx st d
          else (s.rxGood 10 f.len f.dst ins).fnSend n q idx d f
        else s.setQueue n q { x with txPart := len, txPoison := poison }
      | _ => s.queueStop n q false)

/-! ## Commands (R313) -/

/-- SW_CFG (R312, R313). -/
def cmdSwCfg : Cmd where
  opcode := 0x0401
  param _ _ r := 10 ≤ le32 r.params 0 && le32 r.params 0 ≤ 1000000 && byteAt r.params 4 < 128 &&
    byteAt r.params 5 < 128 && restZero r 6
  body _ e s := .done (s.setStaged { s.staged with sw := slice e.req.params 0 6 }) stOK [] none

/-- SW_CFG (R313). -/
def execSwCfg (p : Path) (s : State) : Out := .next (s.run cmdSwCfg p)

/-- A class record is in range (R313). -/
def classRecOk (c : Nat) (b : Bytes) : Bool :=
  (c != 7 || (256 ≤ le16 b 0 && le16 b 0 ≤ 8192)) && 1 ≤ byteAt b 2 && byteAt b 2 ≤ 64 && byteAt b 3 < 2 &&
    le32 b 4 ≤ 1000000 && zeroAt b 10 6

/-- SW_CLASS_STAGE (R313). -/
def cmdSwClassStage : Cmd where
  opcode := 0x0402
  param _ _ r := restZero r 0 && r.xp && 128 ≤ r.region.length &&
    (List.range 8).all (fun c => classRecOk c (slice r.region (16 * c) 16))
  body _ e s := .done (s.setStaged { s.staged with classes := slice e.req.region 0 128 }) stOK [] none

/-- SW_CLASS_STAGE (R313). -/
def execSwClassStage (p : Path) (s : State) : Out := .next (s.run cmdSwClassStage p)

/-- SW_PCP_STAGE (R313). -/
def cmdSwPcpStage : Cmd where
  opcode := 0x0403
  param _ _ r := byteAt r.params 0 ≤ 6 && zeroAt r.params 1 7 &&
    (List.range 8).all (fun k => byteAt r.params (8 + k) ≤ 7) && restZero r 16
  body _ e s :=
    let t := s.staged
    .done (s.setStaged { t with pcp := t.pcp.set (byteAt e.req.params 0) (slice e.req.params 8 8) }) stOK [] none

/-- SW_PCP_STAGE (R313). -/
def execSwPcpStage (p : Path) (s : State) : Out := .next (s.run cmdSwPcpStage p)

/-- A VLAN record is in range (R313). -/
def vlanRecOk (b : Bytes) : Bool := 1 ≤ le16 b 0 && le16 b 0 ≤ 4094 && byteAt b 2 < 128 && byteAt b 3 < 8

/-- SW_VLAN_STAGE (R313). -/
def cmdSwVlanStage : Cmd where
  opcode := 0x0404
  param _ _ r := 1 ≤ byteAt r.params 0 && byteAt r.params 0 ≤ 64 && restZero r 1 &&
    recsOk 4 (byteAt r.params 0) r vlanRecOk
  body _ e s :=
    let recs := regionRecs 4 (byteAt e.req.params 0) e.req
    let t := s.staged
    .done (s.setStaged { t with
      vlans := recs.foldl (fun x b => putRec x (le16 b 0) ((byteAt b 3).testBit 0) b) t.vlans }) stOK
      (leBytes 2 recs.length) none

/-- SW_VLAN_STAGE (R313). -/
def execSwVlanStage (p : Path) (s : State) : Out := .next (s.run cmdSwVlanStage p)

/-- A staged FDB entry is in range: STATIC, or VALID = 0 to remove (R313). -/
def fdbRecOk (b : Bytes) : Bool :=
  1 ≤ le16 b 6 && le16 b 6 ≤ 4094 && byteAt b 9 < 8 && (!(byteAt b 9).testBit 0 || (byteAt b 9).testBit 1) && zeroAt b 11 5

/-- The key of a static entry in the staged table. -/
def fdbKey (b : Bytes) : Nat := macAt b 0 * 4096 + le16 b 6

/-- SW_FDB_STAGE (R313). -/
def cmdSwFdbStage : Cmd where
  opcode := 0x0405
  param _ _ r := 1 ≤ byteAt r.params 0 && byteAt r.params 0 ≤ 64 && restZero r 1 &&
    recsOk 16 (byteAt r.params 0) r fdbRecOk
  body _ e s :=
    let recs := regionRecs 16 (byteAt e.req.params 0) e.req
    let t := s.staged
    .done (s.setStaged { t with
      fdb := recs.foldl (fun x b => putRec x (fdbKey b) ((byteAt b 9).testBit 0) b) t.fdb }) stOK
      (leBytes 2 recs.length) none

/-- SW_FDB_STAGE (R313). -/
def execSwFdbStage (p : Path) (s : State) : Out := .next (s.run cmdSwFdbStage p)

/-- The 16 bytes of an FDB entry (R313). -/
def FdbEntry.bytes (e : FdbEntry) : Bytes :=
  macBytes e.mac ++ leBytes 2 e.vid ++ leBytes 1 e.dest ++ leBytes 1 (1 + 2 * b2n e.static + 4 * b2n e.drop) ++
    leBytes 1 (if e.static then 0 else e.age) ++ zeros 5

/-- SW_FDB_READ (R313). -/
def cmdSwFdbRead : Cmd where
  opcode := 0x0406
  param _ _ r := le16 r.params 0 < 32768 && 1 ≤ le16 r.params 2 && le16 r.params 2 ≤ 4096 &&
    le16 r.params 0 + le16 r.params 2 ≤ 32768 && restZero r 4
  xpNeed _ r := 16 * le16 r.params 2
  body _ e s :=
    .done s stOK [] (some (((List.range (le16 e.req.params 2)).map (fun i =>
      match s.sw.fdb.get? (le16 e.req.params 0 + i) with | some x => x.bytes | none => zeros 16)).flatten))

/-- SW_FDB_READ (R313). -/
def execSwFdbRead (p : Path) (s : State) : Out := .next (s.run cmdSwFdbRead p)

/-- A dynamic entry that a flush names (R313). -/
def flushHit (b : Bytes) (e : FdbEntry) : Bool :=
  !e.static && (byteAt b 0 == 0 || (byteAt b 0 == 1 && e.dest == 2 ^ byteAt b 1) || (byteAt b 0 == 2 && e.vid == le16 b 2))

/-- SW_FDB_FLUSH (R310, R313). -/
def cmdSwFdbFlush : Cmd where
  opcode := 0x0407
  param _ _ r := byteAt r.params 0 ≤ 2 && (if byteAt r.params 0 = 1 then byteAt r.params 1 ≤ 6 else byteAt r.params 1 == 0) &&
    (if byteAt r.params 0 = 2 then 1 ≤ le16 r.params 2 && le16 r.params 2 ≤ 4094 else le16 r.params 2 == 0) && restZero r 4
  body _ e s :=
    let gone := s.sw.fdb.filter (fun x => flushHit e.req.params x.2)
    .done { s with sw.fdb := s.sw.fdb.filter (fun x => !flushHit e.req.params x.2) } stOK (leBytes 4 gone.length) none

/-- SW_FDB_FLUSH (R310). -/
def execSwFdbFlush (p : Path) (s : State) : Out := .next (s.run cmdSwFdbFlush p)

/-- What SW_CFG_READ returns (R313). -/
def swCfgBytes (t : Tables) (b : Bytes) : Bytes :=
  if byteAt b 0 = 0 then t.sw ++ zeros 2
  else if byteAt b 0 = 1 then t.classes
  else if byteAt b 0 = 2 then t.pcp.getD (byteAt b 2) [0, 1, 2, 3, 4, 5, 6, 7]
  else (t.vlans.map (·.2)).flatten

/-- SW_CFG_READ (R313). -/
def cmdSwCfgRead : Cmd where
  opcode := 0x0408
  param _ _ r := byteAt r.params 0 ≤ 3 && byteAt r.params 1 ≤ 1 &&
    (if byteAt r.params 0 = 2 then byteAt r.params 2 ≤ 6 else byteAt r.params 2 == 0) && restZero r 3
  xpNeed s r := (swCfgBytes (s.tablesOf (byteAt r.params 1)) r.params).length
  body _ e s := .done s stOK [] (some (swCfgBytes (s.tablesOf (byteAt e.req.params 1)) e.req.params))

/-- SW_CFG_READ (R313). -/
def execSwCfgRead (p : Path) (s : State) : Out := .next (s.run cmdSwCfgRead p)

/-- Cells queued of a class at every egress and staging queue. -/
def State.classCells (s : State) (c : Nat) : Nat :=
  ((s.sw.queue.filter (fun x => x.cls == c)).map (·.cells)).sum +
    (s.fns.map (fun x => ((x.2.staged.filter (fun t => t.cls == c)).map (fun t => cellsOf t.frame.len)).sum)).sum

/-- The 64 bytes of SW_STATUS (R313). -/
def State.swStatusBytes (s : State) : Bytes :=
  leBytes 4 s.freeShared ++ ((List.range 8).map (fun c => leBytes 2 (s.sw.used (c + 1)))).flatten ++
    ((List.range 8).map (fun c => leBytes 4 (s.classCells c))).flatten ++ leBytes 2 (min 65535 s.sw.learnFull) ++
    leBytes 2 (min 65535 s.sw.moves) ++ leBytes 2 (min 65535 s.sw.saViolation) ++
    leBytes 2 (min 65535 s.sw.reseqTimeout) ++ leBytes 2 (s.sw.fdb.countP (fun x => !x.2.static)) ++
    leBytes 2 (s.sw.fdb.countP (fun x => x.2.static))

/-- SW_STATUS: read and clear in one step (R291, R313). -/
def cmdSwStatus : Cmd where
  opcode := 0x0409
  param _ _ r := byteAt r.params 0 ≤ 1 && restZero r 1
  xpNeed _ _ := 64
  body _ e s :=
    let b := s.swStatusBytes
    let s := if byteAt e.req.params 0 = 1 then { s with
        sw.learnFull := 0, sw.moves := 0, sw.saViolation := 0, sw.reseqTimeout := 0 } else s
    .done s stOK [] (some b)

/-- SW_STATUS (R313). -/
def execSwStatus (p : Path) (s : State) : Out := .next (s.run cmdSwStatus p)

end Machine
end Sys2Proof
end

