-- ==== Sys2Proof/Machine/Sv.lean ====
section
/-! DEFINITION. Sampled-value ingest: authentication, PRP duplicates, rate, policing, stream states and
their commands (chapter 7). -/

namespace Sys2Proof
namespace Machine

/-! ## Counters and windows shared with GOOSE (R153, R157, R162) -/

/-- A tag verifies with the key of a slot, whichever generation it names (R153, R223, R420): `use` is the
usage bit, `auth` 1 AES-GMAC-128 or 2 HMAC-SHA-256-128. -/
def State.tagOk (s : State) (slot use auth : Nat) (tag : Option AuthTag) (raw : Bytes) : Bool :=
  match tag, s.sec.slots.get? slot with
  | some t, some k =>
    k.type == auth && k.usage.testBit use && !s.sec.zeroised &&
      (k.cur.toList ++ k.prev.toList).any (fun g =>
        g.keyId == t.keyId &&
          padTo 16 t.mac == padTo 16 (if auth = 1 then Config.gmac g.material raw else Config.hmacSha256 g.material raw) &&
          t.mac.length == 16)
  | _, _ => false

/-- Judges a sequence number against a window (R157): whether it is a duplicate, and the window. -/
def PrpWindow.judge (w : PrpWindow) (q now : Nat) : Bool × PrpWindow :=
  let fresh : PrpWindow := { high := some q, seen := 1, last := now }
  match w.high with
  | none => (false, fresh)
  | some h =>
    let d := (q + 65536 - h) % 65536
    if d = 0 then (true, w)
    else if d ≤ 32767 then
      (false, { high := some q, seen := if d < 64 then (w.seen * 2 ^ d + 1) % 2 ^ 64 else 1, last := now })
    else if 65473 ≤ d then
      let i := 65536 - d
      if w.seen.testBit i then (true, w) else (false, { w with seen := w.seen ||| 2 ^ i, last := now })
    else (false, fresh)

/-- A port is on LAN B of its pair (R297). -/
def lanB (port : Nat) : Bool := port == 2 || port == 3

/-- A LAN of a stream or subscription changes between missing and present: its record (R162, log 15). -/
def State.lanRecord (s : State) (i : Nat) (b present : Bool) : State :=
  s.firnEv 0x0502 (leBytes 2 i ++ leBytes 1 (1 - b2n present) ++ leBytes 1 (b2n present) ++
    [Config.eventCode 0x0502 (b2n b)])

/-- A frame of a LAN passed authentication: its LAN is present (R162). -/
def State.lanSeen (s : State) (i : Nat) (l : Lans) (b : Bool) (now : Nat) : Lans × State :=
  if b then ({ l with b := now, missB := false }, if l.missB then s.lanRecord i b true else s)
  else ({ l with a := now, missA := false }, if l.missA then s.lanRecord i b true else s)

/-! ## Streams (R150, R155, R160, R161) -/

/-- Fields of an SV entry (R150). -/
def svMode (b : Bytes) : Nat := byteAt b 3
def svAuth (b : Bytes) : Nat := byteAt b 27 % 4
def svAuthMon (b : Bytes) : Bool := (byteAt b 27).testBit 7
def svLoss (b : Bytes) : Nat := 1000000 * byteAt b 32

/-- A stream as it runs. -/
def State.sv1 (s : State) (k : Nat) : SvStream := s.sv.streams.getD k {}

/-- Replaces it. -/
def State.setSv (s : State) (k : Nat) (x : SvStream) : State := { s with sv.streams := s.sv.streams.set k x }

/-- Adds to a counter of SV_STATS, by its place there (R164, R291). -/
def State.svCount (s : State) (k i n : Nat) : State :=
  let x := s.sv1 k
  let old := x.counts.getD i 0
  let v := (old + n) % 4294967296
  let s := s.setSv k { x with counts := x.counts.set i v }
  if !old.testBit 31 && v.testBit 31 then
    s.firnEv 0x0107 (leBytes 2 0x0507 ++ leBytes 2 (4 * i) ++ leBytes 2 k) else s

/-- Changes a stream's state: entries into and exits from RUN, LOST and MISMATCH are recorded (R161). -/
def State.svTo (s : State) (k new reason : Nat) : State :=
  let x := s.sv1 k
  let s := s.setSv k { x with
    state := new, reason := if new = 5 then reason else 0, run := if new = 2 then x.run else 0 }
  let s := if x.state = 3 ∧ new ≠ 3 then s.setAln k { s.alnOf k with lat := { (s.alnOf k).lat with run := false } } else s
  if x.state = new then s
  else if 3 ≤ x.state ∨ 3 ≤ new then
    s.firnEv 0x0501 (leBytes 2 k ++ leBytes 1 x.state ++ leBytes 1 new ++ leBytes 1 reason)
  else s

/-- smpSynch as a grade: 0 none, 1 local, 2 global (R148). -/
def synchGrade (v : Nat) : Nat := if v = 2 then 2 else if v = 1 ∨ (5 ≤ v ∧ v ≤ 254) then 1 else 0

/-- The lowest rate of a mask whose wrap point is at least `c` (R155). -/
def lowestRate (mask c : Nat) : Option Nat :=
  ((List.range 4).find? (fun i => mask.testBit i && c < smpPeriod (svRate i))).map svRate

/-- The rate an ASDU has (R155): none for a rate outside any the module knows. -/
def asduRate (x : SvStream) (mask : Nat) (a : Asdu) : Option Nat :=
  match a.smpRate with
  | some r => some r
  | none =>
    let pc := smpPeriod x.rate
    if pc ≤ a.smpCnt then lowestRate mask a.smpCnt
    else if x.head.isNone then some x.rate
    else
      let back := (x.cnt + pc - a.smpCnt) % pc
      if a.smpCnt < x.cnt ∧ 63 < back ∧ x.cnt < pc - 1 then
        match lowestRate mask x.cnt with
        | some r => if r < x.rate then some r else some x.rate
        | none => some x.rate
      else some x.rate

/-- A rate in rate_mask. -/
def rateIn (mask r : Nat) : Bool := (List.range 4).any (fun i => mask.testBit i && svRate i == r)

/-- The policer of a stream (R159): whether an ASDU passes, and the stream with its bucket. -/
def SvStream.police (x : SvStream) (now : Nat) : Bool × SvStream :=
  let level := min 256000000000 (x.level + 9 * x.rate * (now - x.levelAt))
  if 8000000000 ≤ level then (true, { x with level := level - 8000000000, levelAt := now })
  else (false, { x with level := level, levelAt := now })

/-- The record of delivered positions with a new one (R158): positions missed before it and whether its
smpCnt follows the one delivered last (R161). -/
def SvStream.mark (x : SvStream) (pc c : Nat) : Nat × Bool × SvStream :=
  match x.head with
  | none => (0, true, { x with head := some c, seen := 1, cnt := c })
  | some h =>
    let back := (h + pc - c) % pc
    let next := c == (x.cnt + 1) % pc
    if 1 ≤ back ∧ back ≤ 63 then (0, next, { x with seen := x.seen ||| 2 ^ back, cnt := c })
    else
      let d := (c + pc - h) % pc
      (d - 1, next, { x with
        head := some c, seen := if d < 64 then (x.seen * 2 ^ d + 1) % 2 ^ 64 else 1, cnt := c })

/-- A position already delivered (R158). -/
def SvStream.delivered (x : SvStream) (pc c : Nat) : Bool :=
  match x.head with
  | none => false
  | some h => let back := (h + pc - c) % pc; back < 64 && x.seen.testBit back

/-- An ASDU discarded at steps 5 to 8, with its MISMATCH reason (R161). -/
def State.svRefuse (s : State) (k now reason : Nat) : State :=
  s.setSv k { s.sv1 k with refused := some (now, reason) }

/-- What the frame brings to each of its ASDUs. -/
structure SvCtx where
  at_ : Nat
  sim : Bool
  authFail : Bool
  count : Nat

/-- The ingest flags of an ASDU, but for its quality bits (R163). -/
def svFlags (b : Bytes) (x : SvStream) (c : SvCtx) (grade : Nat) (gap rateStep : Bool) : Nat :=
  2048 * b2n ((svMode b == 1 || svMode b == 2) && (x.lans.missA != x.lans.missB)) + 1024 * b2n gap + 512 * b2n rateStep +
    256 * b2n (svAuth b == 0) + 128 * b2n c.authFail + 64 * b2n (grade == 2) + 32 * b2n (grade == 1) +
    16 * b2n (grade < byteAt b 33) + 8 * b2n c.sim

/-- The state after a valid ASDU (R161). -/
def State.svAdvance (s : State) (k : Nat) (meets next changed : Bool) : State :=
  let x := s.sv1 k
  if x.state = 3 then
    if changed || !meets then (s.setSv k { x with run := b2n meets }).svTo k 2 0 else s
  else
    let first := x.state != 2
    let run := if !meets then 0 else if first || changed || !next then 1 else x.run + 1
    let s := s.setSv k { x with run := run }
    let s := if first then s.svTo k 2 0 else s
    if 4 ≤ run then s.svTo k 3 0 else s

/-- Steps 9 to 11 for an ASDU whose rate is permitted (R152, R158, R159). -/
def State.svDeliver (s : State) (k : Nat) (c : SvCtx) (later : Nat) (a : Asdu) (rate : Nat) : State :=
  let b := s.svEntry k
  let x := s.sv1 k
  let step := rate != x.rate
  let pc := smpPeriod rate
  if !step && x.delivered pc a.smpCnt then s.svCount k 11 1
  else
    let pol := x.police c.at_
    if !pol.1 then (s.setSv k pol.2).svCount k 13 1
    else
      let base := if step then { pol.2 with rate := rate, head := none, seen := 0 } else pol.2
      let m := base.mark pc a.smpCnt
      let grade := synchGrade a.smpSynch
      let meets := byteAt b 33 ≤ grade
      let x := { m.2.2 with rx := s.stampOf c.at_ 1, rxExt := c.at_, synch := a.smpSynch }
      let s := s.setSv k x
      let s := if step then s.svCount k 14 1 else s
      let s := if 0 < m.1 ∧ x.state = 3 then s.svCount k 12 m.1 else s
      let s := s.svAdvance k meets m.2.1 step
      s.toAlign k {
        cnt := a.smpCnt, rx := c.at_, global := grade == 2, later := later, vals := a.values, qual := a.quality
        flags := svFlags b x c grade (0 < m.1) step, gap := m.1, rateStep := step }

/-- Steps 6 to 11 for each ASDU of a frame, in order (R152); one that an injection discards is `none`. -/
def State.svAsdus (k : Nat) (c : SvCtx) : List (Option Asdu) → State → State
  | [], s => s
  | none :: rest, s => State.svAsdus k c rest s
  | some a :: rest, s =>
    let b := s.svEntry k
    let x := s.sv1 k
    let mask := byteAt b 25
    let s :=
      if a.confRev ≠ le32 b 20 then (s.svCount k 9 1).svRefuse k c.at_ 1
      else if a.dataLen ≠ 8 * svChans b then (s.svCount k 10 1).svRefuse k c.at_ 2
      else match asduRate x mask a with
        | some r =>
          if r = x.rate ∨ rateIn mask r then s.svDeliver k c rest.length a r
          else (s.svCount k 9 1).svRefuse k c.at_ 3
        | none => (s.svCount k 9 1).svRefuse k c.at_ 3
    State.svAsdus k c rest s

/-- Step 5 (R156): whether the frame is accepted, and the stream with its source. -/
def State.svSim (s : State) (k : Nat) (sim : Bool) (at_ : Nat) : Bool × State :=
  let x := s.sv1 k
  if sim && !s.sv.simMode then (false, (s.svCount k 6 1).svRefuse k at_ 4)
  else if !sim && x.sim then (false, (s.svCount k 6 1).svRefuse k at_ 4)
  else if sim && !x.sim then
    let s := (s.setSv k { x with sim := true, realDue := false, run := 0 }).historyReset k at_
    (true, if x.state = 3 then s.svTo k 2 0 else s)
  else if !sim && x.realDue then
    let s := s.setSv k { x with realDue := false, run := 0 }
    (true, if x.state = 3 then s.svTo k 2 0 else s)
  else (true, s)

/-- ASDUs as an injection leaves them after step 1 (R485). -/
def State.svLose (k : Nat) : List Asdu → State → List (Option Asdu) × State
  | [], s => ([], s)
  | a :: rest, s =>
    let j := s.inject 0x07 k 0
    let r := State.svLose k rest j.2
    ((if j.1 then none else some a) :: r.1, r.2)

/-- Steps 2 to 11 of a frame that parses and carries the stream's svID, with what is left of its ASDUs (R152). -/
def State.svFrame (s : State) (k : Nat) (f : SvFrame) (asdus : List (Option Asdu)) (at_ : Nat) : State :=
  let b := s.svEntry k
  let prpMode := svMode b == 1 || svMode b == 2
  let onB := lanB f.port
  let rct := match f.prp with | some p => p.sizeOk | none => false
  let s := if prpMode && !rct then s.svCount k 3 1 else s
  let s := match f.prp with
    | some p => if prpMode && p.sizeOk && p.lanB != onB then s.svCount k 4 1 else s
    | none => s
  let auth := svAuth b
  let inj := if auth == 0 then (false, s) else s.inject 0x06 k 0
  let s := inj.2
  let ok := auth == 0 || (!inj.1 && s.tagOk (le16 b 28) 0 auth f.tag f.raw)
  let s := if ok then s else s.svCount k 5 1
  let s := s.setSv k { s.sv1 k with authOk := auth != 0 && ok }
  if !ok && !svAuthMon b then s
  else
    let l := if prpMode then s.lanSeen k (s.sv1 k).lans onB at_ else ((s.sv1 k).lans, s)
    let s := l.2.setSv k { l.2.sv1 k with lans := l.1 }
    let j := match f.prp with
      | some p => if prpMode && p.sizeOk then (s.sv1 k).prp.judge p.seq at_ else (false, (s.sv1 k).prp)
      | none => (false, (s.sv1 k).prp)
    if j.1 then s.svCount k 2 1
    else
      let s := s.setSv k { s.sv1 k with prp := { j.2 with last := at_ } }
      let sim := s.svSim k f.sim at_
      if !sim.1 then sim.2
      else State.svAsdus k { at_ := at_, sim := f.sim, authFail := !ok, count := f.asdus.length } asdus sim.2

/-- A frame that matched a stream passes the steps of R152; an injection drops those of one LAN (R485). -/
def State.svIngest (s : State) (k : Nat) (f : SvFrame) : State :=
  match s.cfg.tables.sv.get? k, s.sv.streams.get? k with
  | some b, some _ =>
    if (modePorts (svMode b) (byteAt b 34)).contains f.port && (s.injection 0x08 k (b2n (lanB f.port))).isNone then
      let s := s.svCount k (if svMode b != 0 && lanB f.port then 1 else 0) 1
      if !f.parses then s.svCount k 7 1
      else if f.svid != slice b 36 (byteAt b 35) then s.svCount k 8 1
      else
        let r := State.svLose k f.asdus s
        if r.1.all (·.isNone) && !f.asdus.isEmpty then r.2 else r.2.svFrame k f r.1 r.2.now
    else s
  | _, _ => s

/-- SV_FRAME_INGEST (R152). -/
def execSvFrameIngest (k : Nat) (f : SvFrame) (at_ : Nat) (s : State) : Out := s.onPath <| .next ((s.clockTo at_).svIngest k f)

/-! ## Time conditions (R157, R161, R162) -/

/-- SV_STREAM_LOSS: at the first grid instant at which the stream has had no valid ASDU for loss_time
(R161). -/
def execSvStreamLoss (k : Nat) (s : State) : Out := s.onPath <|
  .next (match s.sv.streams.get? k with
    | some x =>
      if x.state = 2 ∨ x.state = 3 then
        let due := x.rxExt + svLoss (s.svEntry k)
        let t := match s.gridFrom due with
          | some g => ((s.instant g).map (·.2)).getD due
          | none => due
        let s := s.clockTo t
        match x.refused with
        | some (at_, r) =>
          if x.rxExt ≤ at_ ∧ t ≤ at_ + svLoss (s.svEntry k) then s.svTo k 5 r
          else (s.svTo k 4 0).svCount k 15 1
        | none => (s.svTo k 4 0).svCount k 15 1
      else s
    | none => s)

/-- SV_LAN_MISSING: a LAN of a PRP stream has brought no frame past step 3 for loss_time (R162). -/
def execSvLanMissing (k : Nat) (b : Bool) (s : State) : Out := s.onPath <|
  .next (match s.sv.streams.get? k with
    | some x =>
      let e := s.svEntry k
      let l := x.lans
      if (svMode e = 1 ∨ svMode e = 2) ∧ !(if b then l.missB else l.missA) then
        let s := s.clockTo ((if b then l.b else l.a) + svLoss e)
        let s := s.setSv k { x with lans := if b then { l with missB := true } else { l with missA := true } }
        s.lanRecord k b false
      else s
    | none => s)

/-- PRP_WINDOW_TIMEOUT: a duplicate window resets when no frame has been accepted for 400 ms (R157, R223). -/
def execPrpWindowTimeout (k : Nat) (s : State) : Out := s.onPath <|
  .next (
    match s.sv.streams.get? k, s.goose.subs.get? k with
    | some x, _ =>
      if x.prp.high.isSome then
        (s.clockTo (x.prp.last + 400000000)).setSv k { x with prp := {} } else s
    | none, some x =>
      if x.prp.high.isSome then
        let s := s.clockTo (x.prp.last + 400000000)
        { s with goose.subs := s.goose.subs.set k { x with prp := {} } }
      else s
    | none, none => s)

/-! ## Changes bound to a mark (R16, R509) -/

/-- Marks to pass until a change accepted now applies: the cut-off is 200 ms before the next mark. -/
def State.marksToGo (s : State) : Nat := if s.now + 200000000 < s.time.next.ns then 1 else 2

/-- The number the mark that many marks away carries now. -/
def State.markSec (s : State) (n : Nat) : Nat :=
  if n ≤ 1 then s.time.next.sec
  else match s.time.pend with
    | some m => m.sec
    | none => s.time.next.sec + 1

/-- Holds a change back until its mark; and the second it reports. -/
def State.holdChange (s : State) (p : Path) (e : Exec) : State × Nat :=
  let n := s.marksToGo
  ({ s with sv.marks := s.sv.marks ++
      [{ opcode := e.req.opcode, params := padTo 48 e.req.params, region := e.req.region, path := p, marks := n }] },
   s.markSec n)

/-! ## Commands (R164) -/

/-- An SV entry is in range (R150). A free entry has every byte after its stream index 0. -/
def svEntryOk (b : Bytes) : Bool :=
  le16 b 0 < 2048 &&
  (if !(byteAt b 2).testBit 0 then zeroAt b 2 126
   else
    byteAt b 2 < 8 && byteAt b 3 ≤ 6 && ((byteAt b 2).testBit 1 || zeroAt b 10 6) && 0x4000 ≤ le16 b 16 && le16 b 16 ≤ 0x7FFF &&
    le16 b 18 ≤ 4094 && byteAt b 24 ≤ 3 && byteAt b 25 < 16 && (byteAt b 25).testBit (byteAt b 24) &&
    1 ≤ svChans b && svChans b ≤ 24 && byteAt b 27 / 4 % 32 == 0 && svAuth b ≤ 2 &&
    (if svAuth b = 0 then le16 b 28 == 0 else le16 b 28 ≤ 255) && svBase b + svChans b ≤ 16384 &&
    1 ≤ byteAt b 32 && byteAt b 33 ≤ 2 && (if byteAt b 3 = 0 then byteAt b 34 ≤ 5 else byteAt b 34 == 0) &&
    1 ≤ byteAt b 35 && byteAt b 35 ≤ 64 && zeroAt b (36 + byteAt b 35) (64 - byteAt b 35) && zeroAt b 100 28)

/-- SV_STAGE (R164). -/
def cmdSvStage : Cmd where
  opcode := 0x0501
  param _ _ r := 1 ≤ byteAt r.params 0 && byteAt r.params 0 ≤ 32 && restZero r 1 && recsOk 128 (byteAt r.params 0) r svEntryOk
  body _ e s :=
    let recs := regionRecs 128 (byteAt e.req.params 0) e.req
    let t := s.staged
    .done (s.setStaged { t with
      sv := recs.foldl (fun x b => putRec x (le16 b 0) ((byteAt b 2).testBit 0) b) t.sv }) stOK (leBytes 2 recs.length) none

/-- SV_STAGE (R164). -/
def execSvStage (p : Path) (s : State) : Out := .next (s.run cmdSvStage p)

/-- The indices of SV_UNSTAGE. -/
def unstageList (r : Req) : List Nat := (List.range (byteAt r.params 0)).map (fun i => le16 r.params (2 + 2 * i))

/-- SV_UNSTAGE (R164). -/
def cmdSvUnstage : Cmd where
  opcode := 0x0502
  param _ _ r := 1 ≤ byteAt r.params 0 && byteAt r.params 0 ≤ 16 && byteAt r.params 1 == 0 &&
    (unstageList r).all (· < 2048) && restZero r (2 + 2 * byteAt r.params 0)
  body _ e s :=
    let t := s.staged
    .done (s.setStaged { t with sv := (unstageList e.req).foldl (fun x k => x.del k) t.sv }) stOK [] none

/-- SV_UNSTAGE (R164). -/
def execSvUnstage (p : Path) (s : State) : Out := .next (s.run cmdSvUnstage p)

/-- A stored entry of 128 bytes, or a free one with its index. -/
def entryOr (t : Tbl Bytes) (k n : Nat) : Bytes := t.getD k (leBytes 2 k ++ zeros (n - 2))

/-- SV_READ (R164). -/
def cmdSvRead : Cmd where
  opcode := 0x0505
  param _ _ r := le16 r.params 0 < 2048 && byteAt r.params 2 ≤ 1 && restZero r 3
  xpNeed _ _ := 128
  body _ e s :=
    .done s stOK [] (some (padTo 128 (entryOr (s.tablesOf (byteAt e.req.params 2)).sv (le16 e.req.params 0) 128)))

/-- SV_READ (R164). -/
def execSvRead (p : Path) (s : State) : Out := .next (s.run cmdSvRead p)

/-- A stream has a channel in a slab queue of a function (R164, R188). -/
def State.streamBound (s : State) (n k : Nat) : Bool :=
  let b := s.svEntry k
  s.aln.binds.any (fun x => x.1 / 64 == n && x.2.kind ≤ 3 && x.2.items.any (fun c => svBase b ≤ c && c < svBase b + svChans b))

/-- A path may ask about a stream: a VF only about those in its slab queues. -/
def State.mayAsk (s : State) (p : Path) (k : Nat) : Bool :=
  match p with
  | .vf n => s.streamBound n k
  | _ => true

/-- The 16 bytes of SV_STATUS for a stream (R164; outside PRP no LAN is supervised, log 72). -/
def State.svStatusBytes (s : State) (k : Nat) : Bytes :=
  match s.sv.streams.get? k with
  | none => zeros 16
  | some x =>
    let prp := svMode (s.svEntry k) == 1 || svMode (s.svEntry k) == 2
    leBytes 1 x.state ++ leBytes 1 x.reason ++
      leBytes 1 (b2n (prp && !x.lans.missA) + 2 * b2n (prp && !x.lans.missB) + 4 * b2n x.sim + 8 * b2n x.authOk) ++ leBytes 1 x.synch ++
      leBytes 4 x.rate ++ x.rx.bytes ++ leBytes 2 x.cnt

/-- SV_STATUS (R164). -/
def cmdSvStatus : Cmd where
  opcode := 0x0506
  param s p r := 1 ≤ le16 r.params 2 && le16 r.params 0 + le16 r.params 2 ≤ 2048 && restZero r 4 &&
    (List.range (le16 r.params 2)).all (fun i => s.mayAsk p (le16 r.params 0 + i))
  xpNeed _ r := 16 * le16 r.params 2
  body _ e s :=
    .done s stOK [] (some ((List.range (le16 e.req.params 2)).flatMap (fun i => s.svStatusBytes (le16 e.req.params 0 + i))))

/-- SV_STATUS (R164). -/
def execSvStatus (p : Path) (s : State) : Out := .next (s.run cmdSvStatus p)

/-- Sixteen counters as 64 bytes. -/
def counts16 (t : Tbl Nat) : Bytes := (List.range 16).flatMap (fun i => leBytes 4 (t.getD i 0))

/-- A clear-after-read byte: a VF may not clear (R164). -/
def clearOk (p : Path) (v : Nat) : Bool :=
  match p with
  | .vf _ => v == 0
  | _ => v ≤ 1

/-- SV_STATS: read and clear in one step; a removed stream's counters stay (R154, R164). -/
def cmdSvStats : Cmd where
  opcode := 0x0507
  param s p r := le16 r.params 0 < 2048 && clearOk p (byteAt r.params 2) && restZero r 3 && s.mayAsk p (le16 r.params 0)
  xpNeed _ _ := 64
  body _ e s :=
    let k := le16 e.req.params 0
    let clear := byteAt e.req.params 2 = 1
    match s.sv.streams.get? k with
    | some x => .done (if clear then s.setSv k { x with counts := [] } else s) stOK [] (some (counts16 x.counts))
    | none =>
      .done (if clear then { s with sv.frozen := s.sv.frozen.del k } else s) stOK []
        (some (counts16 (s.sv.frozen.getD k [])))

/-- SV_STATS (R164). -/
def execSvStats (p : Path) (s : State) : Out := .next (s.run cmdSvStats p)

/-- SV_SIM_MODE: applies at a mark (R156, R164). -/
def cmdSvSimMode : Cmd where
  opcode := 0x0508
  param _ _ r := byteAt r.params 0 ≤ 1 && restZero r 1
  body p e s :=
    let h := s.holdChange p e
    let s := h.1.firnEv 0x0503 ([0, 0] ++ leBytes 1 (b2n s.sv.simMode) ++ leBytes 1 (byteAt e.req.params 0))
    .done s stOK (leBytes 4 h.2) none

/-- SV_SIM_MODE (R164). -/
def execSvSimMode (p : Path) (s : State) : Out := .next (s.run cmdSvSimMode p)

/-- SIM_MODE takes its new value at its mark: on a change to 0 every simulated source becomes real (R156, R223). -/
def State.simApply (s : State) (on : Bool) : State :=
  let s := { s with sv.simMode := on }
  if on then s
  else
    let s := { s with goose.subs := s.goose.subs.mapV (fun _ x => { x with sim := false }) }
    (s.sv.streams.filter (fun x => x.2.sim)).foldl (fun s x =>
      (s.setSv x.1 { s.sv1 x.1 with sim := false, realDue := true }).historyReset x.1 s.now) s

end Machine
end Sys2Proof
end

