-- ==== Sys2Proof/Machine/Phasor.lean ====
section
/-! DEFINITION. Phasors, frequency buses, sequence components, items, and the phasor commands (chapter 9). -/

namespace Sys2Proof
namespace Machine

/-! ## Aligned values by channel (R176, R194) -/

/-- The stream that a channel is bound to, and its place there. -/
def State.chanStream (s : State) (c : Nat) : Option (Nat × Nat) :=
  s.cfg.tables.sv.findSome? (fun (k, b) =>
    if svBase b ≤ c ∧ c < svBase b + svChans b then some (k, c - svBase b) else none)

/-- The grid instant has passed. -/
def State.passed (s : State) (g : Nat) : Bool :=
  match s.instant g with
  | some d => decide (d.2 ≤ s.now)
  | none => match s.aln.seconds.getLast? with | some d => decide (g < d.g0) | none => false

/-- A value with no samples at an instant. -/
def State.absent (s : State) (g : Nat) : AVal :=
  { val := 0, qual := 0, iflags := 0
    aflags := afINVALID + (match s.secondOf g with | some d => if d.holdover then afHOLDOVER else 0 | none => 0) }

/-- The aligned value of a channel at an instant on a path (0 fine, 1 coarse): none while it is not computed
yet. -/
def State.aligned (s : State) (path c g : Nat) : Option AVal :=
  match s.chanStream c with
  | none => if s.passed g then some (s.absent g) else none
  | some (k, i) =>
    let x := s.alnOf k
    match (if path = 0 then x.fine else x.coarse).find? (·.g == g) with
    | some a => some (a.vals.getD i (s.absent g))
    | none =>
      match (if path = 0 then x.fineNext else x.coarseNext) with
      | some n => if g < n then some (s.absent g) else none
      | none => if s.passed g then some (s.absent g) else none

/-! ## Buses as others read them (R189, R195) -/

/-- The phasor settings of an instant: a change counts from the first instant of its second (R16, R189, R213). -/
def State.phAt (s : State) (g : Nat) : PhCfg :=
  match s.ph.before with
  | some (g0, c) => if g < g0 then c else s.cfg.ph
  | none => s.cfg.ph

/-- A bus's settings at an instant. -/
def State.bus (s : State) (b g : Nat) : PhBus := (s.phAt g).buses.getD b {}

/-- A bus on a path. -/
def State.busRun (s : State) (b path : Nat) : BusRun := s.ph.runs.getD (2 * b + path) {}

/-- f_nom in units of 2⁻⁸⁰ Hz. -/
def PhBus.fx (b : PhBus) : Int := b.fNom * fxOne

/-- f_b of a bus at an instant on a path; none while it is not computed yet (R194, R195). -/
def State.busF (s : State) (b path g : Nat) : Option Int :=
  let r := s.busRun b path
  if ((s.bus b g).track ∧ r.next ≤ g ∧ r.since ≤ g) ∨ (r.restart.isSome = true ∧ r.next ≤ g) then none
  else some (((r.hist.find? (·.g ≤ g)).map (·.f)).getD (s.bus b g).fx)

/-- FREQ_HOLD and FREQ_CLAMP of a bus at an instant (R195). -/
def State.busFlags (s : State) (b path g : Nat) : Nat :=
  let r := s.busRun b path
  let e := r.hist.find? (·.g == g)
  b2n ((e.map (·.hold)).getD false || (r.since ≤ g && g < r.holdTo)) + 2 * b2n ((e.map (·.clamp)).getD false)

/-! ## Phasors (R191 to R193, R198) -/

/-- An item's value at an instant (R198, R199). -/
structure Item where
  re : Int
  im : Int
  iflags : Nat
  aflags : Nat
  pflags : Nat

/-- An item that is 0 with INVALID and a phasor flag (R191, R197, R198). -/
def Item.nil (p : Nat) : Item := { re := 0, im := 0, iflags := 0, aflags := afINVALID, pflags := p }

/-- The protection-grid rate at an instant. -/
def State.rateAt (s : State) (g : Nat) : Nat :=
  match s.secondOf g with
  | some d => d.rate
  | none => gridRate s.aln.rate

/-- Rounds a part of a phasor: within the bound of R193 of the exact value, where the engine's own arithmetic
decides (log 2). -/
def near (exact err : Int) (largest : Nat) : Int :=
  let v := fxRound exact
  let w := v + err
  if (w * fxOne - exact).natAbs ≤ 2 ^ 80 + largest * 2 ^ 56 then w else v

/-- W of R192: cyc in half cycles, f in units of 2⁻⁸⁰ Hz. -/
def windowLen (half rate : Nat) (f : Int) : Nat :=
  let a : Int := rate * half * fxOne
  ((2 * a + 2 * f) / (2 * (2 * f))).toNat

/-- Window weight i of W (R192). -/
def windowWeight (shape i w : Nat) : Int :=
  if shape = 1 then let v := fxSinPi (2 * i + 1 : Nat) (2 * w); fxMul v v else fxOne

/-- X_h of R192 from the values of a window, newest first: real and imaginary parts, unrounded. -/
def phasorExact (xs : List Int) (shape h rate : Nat) (f : Int) : Int × Int :=
  let w := xs.length
  let one (acc : Int × Int × Int) (p : Int × Nat) : Int × Int × Int :=
    let k := windowWeight shape p.2 w
    let ang : Int := 2 * h * f * p.2
    let b := rate * 2 ^ 80
    (acc.1 + k * p.1 * fxCosPi ang b / fxOne, acc.2.1 + k * p.1 * fxSinPi ang b / fxOne, acc.2.2 + k)
  let t := xs.zipIdx.foldl one (0, 0, 0)
  if h = 0 then (fxDiv t.1 t.2.2, 0)
  else
    let r2 := fxSqrt (2 * fxOne)
    (fxMul r2 (fxDiv t.1 t.2.2), fxMul r2 (fxDiv t.2.1 t.2.2))

/-- The window of `w` values that ends at an instant reaches back past an error in the channel's history (R446). -/
def State.windowBad (s : State) (c g w : Nat) : Bool :=
  match s.ph.bad.get? c with
  | some hit => hit ≤ g && g + 1 < hit + w
  | none => false

/-- The phasor of order h of a channel on a bus and path at an instant, with a profile's window: none while
an input is not complete. A bin past the order limit is 0, with the flags of its window and its bus (R191 to
R194, R198). -/
def State.phasor (s : State) (pr : PhProfile) (path bus c h g : Nat) : Option Item :=
  let rate := s.rateAt g
  match s.busF bus path (g - 1) with
  | none => none
  | some f =>
    let w := windowLen (if pr.cyc = 0 then 1 else 2 * pr.cyc) rate f
    let vs := (List.range w).map (fun i => if i ≤ g then s.aligned path c (g - i) else some (s.absent 0))
    if vs.any (·.isNone) then none
    else
      let vs := vs.filterMap id
      let xs := vs.map (·.val)
      let iflags := vs.foldl (fun a v => a ||| v.iflags) 0
      let aflags := vs.foldl (fun a v => a ||| v.aflags) 0 ||| (if s.windowBad c g w then afPOISON ||| afINVALID else 0)
      let pflags := s.busFlags bus path g
      if 9 * rate < 20 * h * (s.bus bus g).fNom then
        some { re := 0, im := 0, iflags := iflags, aflags := aflags ||| afINVALID, pflags := pflags ||| 4 }
      else
        let e := phasorExact xs pr.shape h rate f
        let err := Config.phasorError xs f h pr.shape
        let largest := (xs.map Int.natAbs).foldl max 0
        let re := near e.1 err.1 largest
        let im := if h = 0 then 0 else near e.2 err.2 largest
        let sat := satI32 re != re || satI32 im != im
        some {
          re := satI32 re, im := satI32 im, iflags := iflags, aflags := aflags ||| (if sat then afSAT else 0)
          pflags := pflags }

/-- A channel's map entry at an instant (R189). -/
def State.mapEntry (s : State) (c g : Nat) : Nat × Nat := (s.phAt g).map.getD c (255, 0)

/-- The profile and bus of a channel at an instant: none where it has no phasors (R189, R190). -/
def State.chanMap (s : State) (c g : Nat) : Option (PhProfile × Nat × Nat) :=
  ((s.phAt g).profiles.get? (s.mapEntry c g).1).map (fun x => (x, s.mapEntry c g))

/-- A bin that its channel does not have: 0 with INVALID, UNMAPPED and the FREQ flags of the channel's bus
(R198; a channel with no profile names no path, and its bus is read on the fine one, log 88). -/
def State.unmapped (s : State) (path c g : Nat) : Item := Item.nil (16 ||| s.busFlags (s.mapEntry c g).2 path g)

/-- The phasor of a channel's slot, on its profile's path or the one given (R190, R195). -/
def State.chanItem (s : State) (path : Option Nat) (c slot g : Nat) : Option Item :=
  match s.chanMap c g with
  | none => some (s.unmapped (path.getD 0) c g)
  | some (pr, _, b) =>
    match pr.orders[slot]? with
    | some h => s.phasor pr (path.getD pr.path) b c h g
    | none => some (s.unmapped (path.getD pr.path) c g)

/-! ## Sequence components (R197) -/

/-- √3/2. -/
def fxHalfSqrt3 : Int := fxSqrt (3 * fxOne) / 2

/-- A times, or A² times (`sq`), a phasor, with A = e^(j2π/3). -/
def turn (sq : Bool) (re im : Int) : Int × Int :=
  let s3 := if sq then -fxHalfSqrt3 else fxHalfSqrt3
  (-(re * fxOne) / 2 - im * s3, -(im * fxOne) / 2 + re * s3)

/-- A sequence component from three phasors: which 0 zero, 1 positive, 2 negative. -/
def sequence (which : Nat) (a b c : Item) : Item :=
  let part (sq : Bool) (x : Item) : Int × Int := if which = 0 then (x.re * fxOne, x.im * fxOne) else turn sq x.re x.im
  let pb := part (which == 2) b
  let pc := part (which == 1) c
  let re := fxRound ((a.re * fxOne + pb.1 + pc.1) / 3)
  let im := fxRound ((a.im * fxOne + pb.2 + pc.2) / 3)
  let sat := satI32 re != re || satI32 im != im
  { re := satI32 re, im := satI32 im, iflags := a.iflags ||| b.iflags ||| c.iflags
    aflags := a.aflags ||| b.aflags ||| c.aflags ||| (if sat then afSAT else 0)
    pflags := a.pflags ||| b.pflags ||| c.pflags }

/-- A component of three channels that do not share a profile and a bus: 0, with the flags of their windows and
buses (R197, R198). -/
def mismatched (a b c : Item) : Item :=
  { re := 0, im := 0, iflags := a.iflags ||| b.iflags ||| c.iflags
    aflags := a.aflags ||| b.aflags ||| c.aflags ||| afINVALID
    pflags := 8 ||| (a.pflags ||| b.pflags ||| c.pflags) % 4 }

/-- A triple's component at an instant (R197). -/
def State.tripleItem (s : State) (path : Option Nat) (t which g : Nat) : Option Item :=
  match (s.phAt g).triples.get? t with
  | none => some (Item.nil 16)
  | some x =>
    match s.chanItem path x.a 0 g, s.chanItem path (if x.acb then x.c else x.b) 0 g, s.chanItem path (if x.acb then x.b else x.c) 0 g with
    | some a, some b, some c =>
      some (if s.mapEntry x.a g = s.mapEntry x.b g ∧ s.mapEntry x.a g = s.mapEntry x.c g then sequence which a b c
        else mismatched a b c)
    | _, _, _ => none

/-! ## Frequency tracking (R195, R196) -/

/-- W0 and m of a bus at a rate. -/
def PhBus.w0 (b : PhBus) (rate : Nat) : Nat := (2 * rate + b.fNom) / (2 * b.fNom)
def PhBus.m (b : PhBus) (rate : Nat) : Nat := (2 * b.fNom * b.w0 rate + rate) / (2 * rate)

/-- |re + j·im| rounded down (R199). -/
def magnitude (re im : Int) : Nat := isqrt (re * re + im * im).toNat

/-- A difference of angles in units of π, wrapped into (−1, 1]. -/
def wrapAngle (d : Int) : Int := if fxOne < d then d - 2 * fxOne else if d ≤ -fxOne then d + 2 * fxOne else d

/-- The next instant of a tracked bus from its reference phasor (R195). -/
def busNext (b : PhBus) (r : BusRun) (rate : Nat) (y : Item) : BusAt :=
  let g := r.next
  let w0 := b.w0 rate
  let bad := y.aflags.testBit 0 || magnitude y.re y.im < b.minMag
  let old := r.hist.find? (fun e => e.g + w0 == g && r.since ≤ e.g)
  let meas : Option Int := match old with
    | some o =>
      if bad || o.bad then none
      else
        let d := wrapAngle (fxAtan2 (y.im * fxOne) (y.re * fxOne) - fxAtan2 (o.im * fxOne) (o.re * fxOne))
        some ((b.m rate * fxOne + d / 2) * rate / w0)
    | none => none
  let ms := meas :: (r.hist.takeWhile (fun e => r.since ≤ e.g && g < e.g + w0)).map (·.meas)
  let prev := ((r.hist.head?).map (·.f)).getD b.fx
  if ms.length < w0 ∨ ms.any (·.isNone) then
    { g := g, f := if r.since = g then b.fx else prev, re := y.re, im := y.im, bad := bad, meas := meas, hold := true
      clamp := false, iflags := y.iflags, aflags := y.aflags }
  else
    let mean := (ms.filterMap id).sum / w0
    let lo := 85 * b.fx / 100
    let hi := 115 * b.fx / 100
    { g := g, f := max lo (min hi mean), re := y.re, im := y.im, bad := bad, meas := meas, hold := false
      clamp := mean < lo || hi < mean, iflags := y.iflags, aflags := y.aflags }

/-- A bus's reference phasor on a path. -/
def State.busRef (s : State) (b : PhBus) (path g : Nat) : Option Item :=
  if b.triple then s.tripleItem (some path) b.ref 1 g else s.chanItem (some path) b.ref 0 g

/-- New settings of a bus begin at an instant: f_b becomes f_nom and FREQ_HOLD begins (R195). -/
def State.busBegin (s : State) (bus path g0 : Nat) : State :=
  let b := s.bus bus g0
  let r := s.busRun bus path
  let e : BusAt := { g := g0, f := b.fx, re := 0, im := 0, bad := true, meas := none, hold := true, clamp := false,
                     iflags := 0, aflags := 0 }
  { s with ph.runs := s.ph.runs.set (2 * bus + path) {
      next := g0, since := g0, holdTo := g0 + 2 * b.w0 (s.rateAt g0)
      hist := (if b.track then [] else [e]) ++ r.hist.filter (fun x => x.g < g0) } }

/-- Carries a tracked bus on through every instant whose reference is complete; at most `n`. -/
def State.busSteps (bus path : Nat) : Nat → State → State
  | 0, s => s
  | n + 1, s =>
    let r := s.busRun bus path
    if r.restart = some r.next then State.busSteps bus path n (s.busBegin bus path r.next)
    else
      let b := s.bus bus r.next
      match (if b.track then s.busRef b path r.next else none) with
      | none => s
      | some y =>
        let e := busNext b r (s.rateAt r.next) y
        State.busSteps bus path n { s with
          ph.runs := s.ph.runs.set (2 * bus + path) { r with next := r.next + 1, hist := (e :: r.hist).take 14500 } }

/-- PHASOR_COMPUTE: every tracked bus of a path goes on (R192, R194, R195). -/
def State.busesRun (s : State) (path : Nat) : State :=
  (List.range 64).foldl (fun s b =>
    if ((s.cfg.ph.buses.get? b).getD {}).track || (s.busRun b path).restart.isSome then State.busSteps b path 64 s else s) s

/-- N of R196. -/
def PhBus.n (b : PhBus) (rate : Nat) : Nat := b.cycles * b.w0 rate

/-- A bus's frequency in 10 µHz or ROCOF in mHz/s at an instant (R196, R198). -/
def State.busItem (s : State) (bus path : Nat) (rocof : Bool) (g : Nat) : Option Item :=
  match s.busF bus path g with
  | none => none
  | some f =>
    let b := s.bus bus g
    let rate := s.rateAt g
    let n := b.n rate
    let fl := s.busFlags bus path g
    let old := (s.busF bus path (g - n)).getD b.fx
    let v := if !rocof then fxRound (f * 100000)
      else if fl.testBit 0 then 0 else fxRound ((f - old) * rate * 1000 / n)
    let e := (s.busRun bus path).hist.find? (·.g == g)
    some { re := satI32 v, im := 0, iflags := (e.map (·.iflags)).getD 0, aflags := (e.map (·.aflags)).getD 0, pflags := fl }

/-! ## Items (R199) -/

/-- An item code names something (R199). -/
def itemOk (v : Nat) : Bool :=
  match v / 2 ^ 28 with
  | 0 => v / 2 ^ 18 == 0
  | 1 => v % 2 ^ 28 / 2 ^ 14 == 0 && v / 4096 % 4 != 3
  | 2 => v % 2 ^ 28 / 128 == 0
  | 3 => v % 2 ^ 28 / 128 == 0
  | _ => false

/-- The value of an item at an instant, none while it is not complete (R194, R198). -/
def State.item (s : State) (v g : Nat) : Option Item :=
  let r := match v / 2 ^ 28 with
    | 0 => s.chanItem none (v % 16384) (v / 16384 % 16) g
    | 1 => s.tripleItem none (v % 4096) (v / 4096 % 4) g
    | 2 => s.busItem (v % 64) (v / 64 % 2) false g
    | _ => s.busItem (v % 64) (v / 64 % 2) true g
  r.map (fun x => if x.pflags / 4 % 8 = 0 then x else { x with aflags := x.aflags ||| afINVALID })

/-- An item's magnitude (R199). -/
def itemMag (v : Nat) (x : Item) : Nat := if v / 2 ^ 28 ≤ 1 then magnitude x.re x.im else x.re.natAbs

/-- The 16 bytes of a phasor slab entry (R200). -/
def Item.bytes (x : Item) : Bytes :=
  leInt 4 x.re ++ leInt 4 x.im ++ leBytes 2 x.iflags ++ leBytes 2 x.aflags ++ leBytes 4 x.pflags

/-! ## Commands (R213) -/

/-- The grid rate in force after the changes that wait for the same mark or an earlier one (R166). -/
def State.rateThen (s : State) (marks : Nat) : Nat :=
  (s.sv.marks.filter (fun c => c.opcode == 0x0601 && c.marks ≤ marks)).foldl (fun _ c => byteAt c.params 0) s.aln.rate

/-- P after the changes that wait for the same mark or an earlier one (R166). -/
def State.pThen (s : State) (marks : Nat) : Nat :=
  (s.sv.marks.filter (fun c => c.opcode == 0x0701 && c.marks ≤ marks)).foldl (fun _ c => byteAt c.params 0) s.cfg.ph.p

/-- A command whose whole effect waits for a mark. -/
def atMark (p : Path) (e : Exec) (s : State) : CmdResult :=
  let h := s.holdChange p e
  .done h.1 stOK (leBytes 4 h.2) none

/-- PH_CFG (R166, R213). -/
def cmdPhCfg : Cmd where
  opcode := 0x0701
  param s _ r := 1 ≤ byteAt r.params 0 && byteAt r.params 0 ≤ 64 &&
    gridRate (s.rateThen s.marksToGo) % byteAt r.params 0 == 0 && restZero r 1
  body := atMark

/-- PH_CFG (R213). -/
def execPhCfg (p : Path) (s : State) : Out := .next (s.run cmdPhCfg p)

/-- A profile's orders are in range (R190). -/
def ordersOk (b : Bytes) (bins : Nat) : Bool :=
  byteAt b 8 == 1 && (List.range 16).all (fun i =>
    i == 0 || (if i < bins then byteAt b (8 + i) == 0 || (2 ≤ byteAt b (8 + i) && byteAt b (8 + i) ≤ 31) else byteAt b (8 + i) == 255))

/-- PH_PROFILE_SET (R190, R213). -/
def cmdPhProfileSet : Cmd where
  opcode := 0x0702
  param _ _ r :=
    let b := r.params
    byteAt b 0 ≤ 63 && byteAt b 1 ≤ 2 && byteAt b 2 ≤ 1 && byteAt b 3 ≤ 1 && 1 ≤ byteAt b 4 && byteAt b 4 ≤ 16 &&
      (byteAt b 1 != 0 || byteAt b 4 == 1) && zeroAt b 5 3 && ordersOk b (byteAt b 4) && restZero r 24
  body := atMark

/-- PH_PROFILE_SET (R213). -/
def execPhProfileSet (p : Path) (s : State) : Out := .next (s.run cmdPhProfileSet p)

/-- PH_MAP_SET (R189, R213). -/
def cmdPhMapSet : Cmd where
  opcode := 0x0703
  param _ _ r :=
    let n := le16 r.params 2
    1 ≤ n && n ≤ 2048 && le16 r.params 0 + n ≤ 16384 && restZero r 4 &&
      recsOk 2 n r (fun b => (byteAt b 0 ≤ 63 || byteAt b 0 == 255) && byteAt b 1 ≤ 63)
  body := atMark

/-- PH_MAP_SET (R213). -/
def execPhMapSet (p : Path) (s : State) : Out := .next (s.run cmdPhMapSet p)

/-- PH_BUS_SET (R195, R213). -/
def cmdPhBusSet : Cmd where
  opcode := 0x0704
  param _ _ r :=
    let b := r.params
    byteAt b 0 ≤ 63 && byteAt b 1 ≤ 1 && (byteAt b 2 == 50 || byteAt b 2 == 60) && byteAt b 3 ≤ 1 &&
      le16 b 4 < (if byteAt b 3 = 1 then 4096 else 16384) && 1 ≤ le16 b 6 && le16 b 6 ≤ 50 && restZero r 12
  body := atMark

/-- PH_BUS_SET (R213). -/
def execPhBusSet (p : Path) (s : State) : Out := .next (s.run cmdPhBusSet p)

/-- PH_TRIPLE_SET (R197, R213). -/
def cmdPhTripleSet : Cmd where
  opcode := 0x0705
  param _ _ r :=
    let n := le16 r.params 2
    1 ≤ n && n ≤ 1024 && le16 r.params 0 + n ≤ 4096 && restZero r 4 &&
      recsOk 8 n r (fun b => le16 b 0 < 16384 && le16 b 2 < 16384 && le16 b 4 < 16384 && byteAt b 6 < 4 && byteAt b 7 == 0)
  body := atMark

/-- PH_TRIPLE_SET (R213). -/
def execPhTripleSet (p : Path) (s : State) : Out := .next (s.run cmdPhTripleSet p)

/-- The latest instant a bus has on a path. -/
def State.busLast (s : State) (bus path : Nat) : Nat :=
  let r := s.busRun bus path
  if (s.bus bus r.next).track then r.next - 1
  else match s.gridFrom (s.now + 1) with | some g => g - 1 | none => 0

/-- The 24 bytes of PH_STATUS for a bus. -/
def State.busBytes (s : State) (bus : Nat) : Bytes :=
  let v (path : Nat) (rocof : Bool) : Bytes := leInt 4 (((s.busItem bus path rocof (s.busLast bus path)).map (·.re)).getD 0)
  v 0 false ++ v 1 false ++ v 0 true ++ v 1 true ++ leBytes 2 (s.busFlags bus 0 (s.busLast bus 0)) ++
    leBytes 2 (s.busFlags bus 1 (s.busLast bus 1)) ++ zeros 4

/-- PH_STATUS (R213). -/
def cmdPhStatus : Cmd where
  opcode := 0x070B
  param _ _ r := restZero r 0
  xpNeed _ _ := 1536
  body _ _ s := .done s stOK [] (some ((List.range 64).flatMap s.busBytes))

/-- PH_STATUS (R213). -/
def execPhStatus (p : Path) (s : State) : Out := .next (s.run cmdPhStatus p)

/-! ## Settings taking effect at their mark (R195, R213) -/

/-- A bus's settings change, on both paths: at once, or after the instants a tracked bus still has before the
mark (R195). -/
def State.busRestart (s : State) (bus g0 : Nat) : State :=
  let one (s : State) (path : Nat) : State :=
    let r := s.busRun bus path
    if (s.bus bus (g0 - 1)).track ∧ r.next < g0 then
      { s with ph.runs := s.ph.runs.set (2 * bus + path) { r with restart := some g0 } }
    else s.busBegin bus path g0
  one (one s 0) 1

/-- Replaces the phasor objects, in the copy the module runs with and the stored one (log 16), for the instants
from `g0` on. -/
def State.setPh (s : State) (g0 : Nat) (c : PhCfg) : State :=
  { s with
    cfg.ph := c, stored.ph := c
    ph.before := match s.ph.before with
      | some (g, o) => if g = g0 then some (g, o) else some (g0, s.cfg.ph)
      | none => some (g0, s.cfg.ph) }

/-- Applies a phasor command's settings at the mark that opens the second from index `g0` on. -/
def State.phApply (s : State) (c : MarkChange) (g0 : Nat) : State :=
  let b := c.params
  let ph := s.cfg.ph
  if c.opcode = 0x0701 then s.setPh g0 { ph with p := byteAt b 0 }
  else if c.opcode = 0x0702 then
    let pr : PhProfile := {
      cyc := byteAt b 1, shape := byteAt b 2, path := byteAt b 3
      orders := (List.range (byteAt b 4)).map (fun i => byteAt b (8 + i)) }
    s.setPh g0 { ph with profiles := ph.profiles.set (byteAt b 0) pr }
  else if c.opcode = 0x0703 then
    let recs := chunks 2 (le16 b 2) c.region
    let put (m : Tbl (Nat × Nat)) (x : Bytes × Nat) : Tbl (Nat × Nat) :=
      let k := le16 b 0 + x.2
      if byteAt x.1 0 = 255 ∧ byteAt x.1 1 = 0 then m.del k else m.set k (byteAt x.1 0, byteAt x.1 1)
    s.setPh g0 { ph with map := recs.zipIdx.foldl put ph.map }
  else if c.opcode = 0x0704 then
    let k := byteAt b 0
    let old := ph.buses.getD k {}
    let new : PhBus := { track := byteAt b 1 == 1, fNom := byteAt b 2, triple := byteAt b 3 == 1, ref := le16 b 4, cycles := le16 b 6, minMag := le32 b 8 }
    let s := s.setPh g0 { ph with buses := if new = {} then ph.buses.del k else ph.buses.set k new }
    if old.track = new.track ∧ old.fNom = new.fNom ∧ old.triple = new.triple ∧ old.ref = new.ref then s else s.busRestart k g0
  else
    let recs := chunks 8 (le16 b 2) c.region
    let put (m : Tbl PhTriple) (x : Bytes × Nat) : Tbl PhTriple :=
      let k := le16 b 0 + x.2
      if (byteAt x.1 6).testBit 0 then
        m.set k { a := le16 x.1 0, b := le16 x.1 2, c := le16 x.1 4, acb := (byteAt x.1 6).testBit 1 }
      else m.del k
    s.setPh g0 { ph with triples := recs.zipIdx.foldl put ph.triples }

end Machine
end Sys2Proof
end

