-- ==== Sys2Proof/Machine/Goose.lean ====
section
/-! DEFINITION. GOOSE publications, trip inputs and the trip log, subscriptions, and their commands
(chapter 10). -/

namespace Sys2Proof
namespace Machine

/-! ## Publication records (R214) -/

def pubTrip (b : Bytes) : Bool := (byteAt b 2).testBit 1
def pubAuth (b : Bytes) : Bool := (byteAt b 2).testBit 2
def pubVlan (b : Bytes) : Bool := (byteAt b 2).testBit 3
def pubSim (b : Bytes) : Bool := (byteAt b 2).testBit 4
def pubClass (b : Bytes) : Nat := if pubTrip b then 7 else byteAt b 3
def pubPorts (b : Bytes) : List Nat := (List.range 6).filter (fun i => (le16 b 20).testBit i)
def pubMembers (b : Bytes) : List Nat := (List.range (byteAt b 27)).map (fun j => le32 b (64 + 4 * j))
def pubRef (b : Bytes) : Bytes := slice b 192 (byteAt b 34)
def pubDs (b : Bytes) : Bytes := slice b 256 (byteAt b 35)
def pubId (b : Bytes) : Bytes := slice b 320 (byteAt b 36)

/-- A member entry is in range; `trip` is the record's TRIP (R214, R221). -/
def memberOk (trip : Bool) (m : Nat) : Bool :=
  let kind := m / 2 ^ 28
  let src := m / 2 ^ 24 % 16
  let i := m % 8192
  m / 8192 % 2048 == 0 &&
    (if kind = 3 then i == 0 && src ≤ 3
     else (kind == 1 || kind == 2) &&
      (if src = 0 then trip && i == 0 else if src = 1 then true else if src = 2 then i < 4096
       else src == 3 && i ≤ 1))

/-- A publication record is in range (R214). A free record has every byte after its number 0. -/
def pubRecOk (b : Bytes) : Bool :=
  le16 b 0 ≤ 255 &&
  (if !(byteAt b 2).testBit 0 then zeroAt b 2 382
   else
    byteAt b 2 < 32 && (pubTrip b || byteAt b 3 ≤ 6) && 0x010CCD010000 ≤ macAt b 4 && macAt b 4 ≤ 0x010CCD0101FF &&
    le16 b 16 ≤ 0x3FFF && (if pubVlan b then 1 ≤ le16 b 18 && le16 b 18 ≤ 4094 else le16 b 18 == 0) && le16 b 20 < 64 &&
    1 ≤ le16 b 22 && le16 b 22 ≤ 100 && 100 ≤ le16 b 24 && le16 b 24 ≤ 60000 && 2 * le16 b 22 ≤ le16 b 24 &&
    1 ≤ byteAt b 26 && byteAt b 26 ≤ 8 && 1 ≤ byteAt b 27 && byteAt b 27 ≤ 32 &&
    (if pubAuth b then le16 b 32 ≤ 255 else le16 b 32 == 0) &&
    [34, 35, 36].all (fun i => 1 ≤ byteAt b i && byteAt b i ≤ 64) && zeroAt b 37 27 &&
    (pubMembers b).all (memberOk (pubTrip b)) && zeroAt b (64 + 4 * byteAt b 27) (128 - 4 * byteAt b 27) &&
    zeroAt b (192 + byteAt b 34) (64 - byteAt b 34) && zeroAt b (256 + byteAt b 35) (64 - byteAt b 35) &&
    zeroAt b (320 + byteAt b 36) (64 - byteAt b 36))

/-- A committed publication. -/
def State.pubRec (s : State) (p : Nat) : Option Bytes := s.cfg.tables.pubs.get? p

/-- A publication as it runs. -/
def State.pub (s : State) (p : Nat) : Pub := s.goose.pubs.getD p {}

/-- Replaces it. -/
def State.setPub (s : State) (p : Nat) (x : Pub) : State := { s with goose.pubs := s.goose.pubs.set p x }

/-- The trip state: the OR of the trip inputs (R218). -/
def Pub.trip (x : Pub) : Bool := !x.elems.isEmpty || x.logic || !x.slots.isEmpty

/-- A guard element's output (R209). -/
def State.eBit (s : State) (i : Nat) : Bool := (s.grd.els.getD i {}).out

/-- The value of a member and whether its Quality reads valid (R214, R215). -/
def State.memberValue (s : State) (x : Pub) (m : Nat) : Bool × Bool :=
  let i := m % 8192
  match m / 2 ^ 24 % 16 with
  | 0 => (x.trip, true)
  | 1 => (s.logic.qOut.getLsbD i, true)
  | 2 => (s.eBit i, (s.grd.els.getD i {}).valid)
  | _ => (i == 1, true)

/-- The values of a publication's BOOLEAN members, with Quality where a member has one (R216). -/
def State.pubValues (s : State) (b : Bytes) (x : Pub) : List (Bool × Bool) :=
  (pubMembers b).map (fun m =>
    let v := s.memberValue x m
    match m / 2 ^ 28 with
    | 1 => (v.1, true)
    | 2 => v
    | _ => (false, true))

/-- i(j) of R217, ms. -/
def curveInterval (c : Nat × Nat × Nat) (j : Nat) : Nat :=
  if j ≤ c.2.2 then c.1 else min (c.1 * 2 ^ (j - c.2.2)) c.2.1

/-! ## Encoding (R215; log 21) -/

/-- A BER length. -/
def berLen (n : Nat) : Bytes :=
  if n < 128 then leBytes 1 n
  else if n < 256 then [0x81] ++ leBytes 1 n
  else [0x82] ++ leBytes 1 (n / 256) ++ leBytes 1 (n % 256)

/-- A BER element. -/
def ber (tag : Byte) (b : Bytes) : Bytes := [tag] ++ berLen b.length ++ b

/-- An unsigned number below 2³² as a BER integer's octets. -/
def berNat (n : Nat) : Bytes :=
  (leBytes (if n < 128 then 1 else if n < 32768 then 2 else if n < 8388608 then 3 else if n < 2147483648 then 4 else 5) n).reverse

/-- The UTC time of an instant: seconds, 24-bit fraction, and ClockNotSynchronized (R215). -/
def State.utcTime (s : State) (ext : Nat) (holdover : Bool) : Bytes :=
  let u := ((s.utcAt ext).getD 0).toNat
  (leBytes 4 (u / 1000000000)).reverse ++ (leBytes 3 (u % 1000000000 * 16777216 / 1000000000)).reverse ++
    leBytes 1 (if holdover then 0x20 else 0)

/-- The allData of a publication (R215). -/
def State.pubData (s : State) (b : Bytes) (x : Pub) : Bytes :=
  let t := s.utcTime x.changed x.stamp.holdover
  ((pubMembers b).zip x.values).flatMap (fun (m, v) =>
    let boolean := ber 0x83 (leBytes 1 (b2n v.1))
    match m / 2 ^ 28 with
    | 1 => boolean
    | 2 => boolean ++ ber 0x84 (if v.2 then [3, 0, 0] else [3, 0x40, 0])
    | _ => ber 0x91 t)

/-- The GOOSE APDU of a publication with a timeAllowedtoLive. -/
def State.pubApdu (s : State) (b : Bytes) (x : Pub) (tal : Nat) : Bytes :=
  ber 0x61 (ber 0x80 (pubRef b) ++ ber 0x81 (berNat tal) ++ ber 0x82 (pubDs b) ++ ber 0x83 (pubId b) ++
    ber 0x84 (s.utcTime x.changed x.stamp.holdover) ++ ber 0x85 (berNat x.stNum) ++ ber 0x86 (berNat x.sqNum) ++
    ber 0x87 (leBytes 1 (b2n (pubSim b))) ++ ber 0x88 (berNat (le32 b 28)) ++ ber 0x89 [0] ++
    ber 0x8A (berNat (byteAt b 27)) ++ ber 0xAB (s.pubData b x))

/-- A frame's length around an APDU: addresses, tag, Ethertype, header, extension, trailer and FCS. -/
def pubFrameLen (b : Bytes) (apdu : Nat) (pair : Bool) : Nat :=
  max 64 (14 + (if pubVlan b then 4 else 0) + 8 + apdu + (if pubAuth b then Config.authExtLen else 0) +
    (if pair then 6 else 0) + 4)

/-- The largest frame a record can send: every number at its longest encoding (R221). -/
def pubMaxLen (b : Bytes) : Nat :=
  let data := ((pubMembers b).map (fun m => if m / 2 ^ 28 = 1 then 3 else if m / 2 ^ 28 = 2 then 8 else 10)).sum
  let inner := (ber 0x80 (pubRef b)).length + (ber 0x82 (pubDs b)).length + (ber 0x83 (pubId b)).length + 5 + 10 + 7 + 7 + 3 +
    (ber 0x88 (berNat (le32 b 28))).length + 3 + 3 + (1 + (berLen data).length + data)
  pubFrameLen b (1 + (berLen inner).length + inner) true

/-! ## Sending (R215, R219, R220, R228, R230) -/

/-- The Bridle gate of R13: no publication frame leaves. -/
def State.gated (s : State) : Bool := !s.mod.bridle || s.mod.state == 1

/-- The ports of a publication that may carry its frames now: up, and not at 1 Gbit/s for a trip (R228, R230). -/
def State.pubEgress (s : State) (b : Bytes) : List Nat :=
  (pubPorts b).filter (fun i => (s.port i).up && !(pubTrip b && (s.port i).speed == 1))

/-- A frame of this publication waits at an egress (R219). -/
def State.pubWaits (s : State) (p : Nat) (change : Bool) : Bool :=
  s.sw.queue.any (fun c => match c.origin with | .pub q l => q == p && (!change || l.isSome) | _ => false)

/-- Frames of a publication that wait are replaced (R219). -/
def State.pubDrop (s : State) (p : Nat) : State :=
  let mine (c : Copy) : Bool := match c.origin with | .pub q _ => q == p | _ => false
  let old := s.sw.queue.filter mine
  old.foldl (fun s c => s.loseCopy c) { s with sw.queue := s.sw.queue.filter (fun c => !mine c) }

/-- The signing key of a publication or Longe stream: none where the slot does not suit (R420). -/
def State.signKey (s : State) (slot use auth : Nat) : Option KeyGen :=
  match s.sec.slots.get? slot with
  | some k => if k.type == auth && k.usage.testBit use && !s.sec.zeroised then k.cur else none
  | none => none

/-- A publication's key; its slot's type chooses the tag (R215, R419, R420). -/
def State.pubKey (s : State) (b : Bytes) : Option (Nat × KeyGen) :=
  match s.signKey (le16 b 32) 2 1 with
  | some g => some (1, g)
  | none => (s.signKey (le16 b 32) 2 2).map (fun g => (2, g))

/-- The tag of a signed frame. -/
def makeTag (k : Nat × KeyGen) (raw : Bytes) : AuthTag :=
  { keyId := k.2.keyId, mac := padTo 16 (if k.1 = 1 then Config.gmac k.2.material raw else Config.hmacSha256 k.2.material raw) }

/-- The frame a publication sends, without its trailer. -/
def State.pubFrame (s : State) (b : Bytes) (x : Pub) (tal : Nat) (prp : Option Prp) : Frame :=
  let raw := s.pubApdu b x tal
  { dst := macAt b 4, src := macAt b 10
    tag := if pubVlan b then some (le16 b 18, pubClass b) else none
    len := pubFrameLen b raw.length prp.isSome, fcsOk := true, pcsOk := true, ecn := none
    content := .goose (le16 b 16) {
      port := 11, parses := true, gocbRef := pubRef b, test := pubSim b, prp := prp
      tag := if pubAuth b then (s.pubKey b).map (fun k => makeTag k raw) else none
      raw := raw, confRev := le32 b 28, ndsCom := false, stNum := x.stNum, sqNum := x.sqNum, tal := tal
      vals := ((pubMembers b).zip x.values).flatMap (fun (m, v) =>
        match m / 2 ^ 28 with
        | 1 => [GooseVal.boolean v.1]
        | 2 => [GooseVal.boolean v.1, GooseVal.quality (if v.2 then 0 else 1)]
        | _ => [GooseVal.timestamp]) } }

/-- The ports of a frame in groups that share one frame: PRP pairs with both ports in the mask, and single
ports (R215). -/
def pairGroups (mask : List Nat) : List (Option Nat × List Nat) :=
  let pair (k a b : Nat) : List (Option Nat × List Nat) :=
    if mask.contains a && mask.contains b then [(some k, [a, b])]
    else ((mask.filter (fun i => i == a || i == b)).map (fun i => (none, [i])))
  pair 0 0 2 ++ pair 1 1 3 ++ (mask.filter (fun i => 4 ≤ i)).map (fun i => (none, [i]))

/-- Sends a group's frame; a pair takes the next trailer sequence number (R215). -/
def State.pubGroup (s : State) (p : Nat) (b : Bytes) (tal : Nat) (log : Option Nat) (live : List Nat)
    (g : Option Nat × List Nat) : State :=
  let x := s.pub p
  let ports := g.2.filter live.contains
  match g.1 with
  | some k =>
    let q := s.sw.prpSeq.getD k 0
    let s := { s with sw.prpSeq := s.sw.prpSeq.set k ((q + 1) % 65536) }
    ports.foldl (fun s i =>
      s.modSend [i] (s.pubFrame b x tal (some { seq := q, lanB := lanB i, sizeOk := true })) (pubClass b) (.pub p log)) s
  | none => s.modSend ports (s.pubFrame b x tal none) (pubClass b) (.pub p log)

/-- Sends a publication's present frame unless the Bridle gate holds it back (R13, R219, R220, R420). -/
def State.pubSend (s : State) (p : Nat) (log : Option Nat) : State :=
  match s.pubRec p with
  | none => s
  | some b =>
    if s.gated then s
    else
      let x := s.pub p
      let tal := 2 * curveInterval x.curve x.sent
      let live := s.pubEgress b
      if pubAuth b && (s.pubKey b).isNone then live.foldl (fun s i => s.portCount i 0xCC) s
      else
        let s := s.pubDrop p
        let s := (pairGroups (pubPorts b)).foldl (fun s g => s.pubGroup p b tal log live g) s
        s.setPub p { s.pub p with frames := inc32 x.frames }

/-! ## State changes and the trip log (R216, R218, R219, R226) -/

/-- stNum after a change (R216). -/
def nextSt (n : Nat) : Nat := if (n + 1) % 4294967296 = 0 then 1 else (n + 1) % 4294967296

/-- sqNum after a retransmission (R216). -/
def nextSq (n : Nat) : Nat := if n = 4294967295 then 1 else n + 1

/-- A publication's state change: numbers, values, curve; its frame is queued at once (R216, R217). -/
def State.pubChange (s : State) (p : Nat) (log : Option Nat) : State :=
  match s.pubRec p with
  | none => s
  | some b =>
    let x := s.pub p
    let c := (le16 b 22, le16 b 24, byteAt b 26)
    let x := { x with
      stNum := nextSt x.stNum, sqNum := 0, sent := 1, due := some (s.now + 1000000 * curveInterval c 1), curve := c
      changed := s.now, stamp := s.stamp 17, values := s.pubValues b x }
    (s.setPub p x).pubSend p log

/-- Writes a trip-log entry (R226). -/
def State.tripLog (s : State) (e : TripEntry) : State :=
  let full := s.goose.log.length ≥ 4096
  { s with
    goose.log := (e :: s.goose.log).take 4096
    goose.lost := if full then inc32 s.goose.lost else s.goose.lost
    goose.logNext := s.goose.logNext + 1 }

/-- The entry of a trip input or a takeover, before its frame is sent; `frame` says that one is due. -/
def State.tripEntry (s : State) (p source : Nat) (value : Bool) (index cookie : Nat) (frame : Bool) (src : Stamp)
    (srcExt : Nat) : TripEntry :=
  let b := (s.pubRec p).getD []
  let live := s.pubEgress b
  { num := s.goose.logNext, pub := p, source := source, value := value, index := index, cookie := cookie
    changed := frame, gated := frame && s.gated, skip := frame && live.length != (pubPorts b).length
    peOff := frame && live.any (fun i => !(s.port i).peActive), src := src, srcExt := srcExt
    stNum := if frame then nextSt (s.pub p).stNum else (s.pub p).stNum }

/-- A trip input of a trip publication changes: it is logged, and where the OR changes the publication's
state does (R216, R218, R219). `upd` sets the input; `every` says that it is logged unchanged too (R118). -/
def State.tripInput (s : State) (p source : Nat) (value : Bool) (index cookie : Nat) (src : Stamp) (srcExt : Nat)
    (every : Bool) (upd : Pub → Pub) : State :=
  match s.pubRec p with
  | none => s
  | some b =>
    let x := s.pub p
    let x' := upd x
    if !pubTrip b || !every && x'.elems == x.elems && x'.logic == x.logic && x'.slots == x.slots then s
    else
      let changed := x'.trip != x.trip
      let s := s.setPub p x'
      let e := s.tripEntry p source value index cookie changed src srcExt
      let s := s.tripLog e
      if changed then s.pubChange p (some e.num) else s

/-- A member of a set is added or removed. -/
def toggle (l : List Nat) (k : Nat) (on : Bool) : List Nat :=
  if on then (if l.contains k then l else l ++ [k]) else l.filter (· != k)

/-- A guard element asserts or releases its input of a publication (R209, R218). -/
def State.guardTrip (s : State) (p el : Nat) (on : Bool) (src : Stamp) (srcExt : Nat) : State :=
  s.tripInput p 1 on el 0 src srcExt false (fun x => { x with elems := toggle x.elems el on })

/-- The logic engine asserts or releases trip request p (R218). -/
def State.logicTrip (s : State) (p : Nat) (on : Bool) (src : Stamp) (srcExt : Nat) : State :=
  s.tripInput p 2 on p 0 src srcExt false (fun x => { x with logic := on })

/-- A trip slot's input (R218). -/
def State.slotTrip (s : State) (p key cookie : Nat) (on : Bool) (src : Stamp) (srcExt : Nat) : State :=
  s.tripInput p 3 on key cookie src srcExt false (fun x => { x with slots := toggle x.slots key on })

/-- A doorbell of a bound slot: its stamp and cookie go to the trip log whether it changes the input or repeats it
(R118). -/
def State.doorbell (s : State) (p key cookie : Nat) (on : Bool) : State :=
  s.tripInput p 3 on key cookie (s.stamp 6) s.now true (fun x => { x with slots := toggle x.slots key on })

/-- A write of VF_TRIP (R109, R118, R119): a bound slot takes the value, which its publication follows while the data
path runs (R62); an unbound one rejects it. -/
def State.vfTrip (s : State) (n slot cookie : Nat) (on : Bool) : State :=
  if !s.hostOn || n = 0 || 127 < n || 15 < slot then s
  else
    let f := s.fn n
    let key := 16 * n + slot
    match s.goose.binds.get? key with
    | none => (s.setFn n { f with rejects := (f.rejects + 1) % 65536 }).raiseVf n 2
    | some p =>
      let bit := BitVec.twoPow 16 slot
      let s := s.setFn n { f with trip := if on then f.trip ||| bit else f.trip &&& ~~~bit }
      if s.pathOn then s.doorbell p key cookie on else s

/-- VF_TRIP_ASSERT: VALUE 1 (R118). -/
def execVfTripAssert (n slot cookie at_ : Nat) (s : State) : Out := .next ((s.clockTo at_).vfTrip n slot cookie true)

/-- VF_TRIP_RELEASE: VALUE 0 (R118). -/
def execVfTripRelease (n slot cookie at_ : Nat) (s : State) : Out := .next ((s.clockTo at_).vfTrip n slot cookie false)

/-- GOOSE_RETRANSMISSION: the next frame of a publication's curve; dropped while its change frame waits (R216,
R217, R219). -/
def execGooseRetransmission (p : Nat) (s : State) : Out := s.onPath <|
  .next (match s.pubRec p, (s.pub p).due with
    | some _, some due =>
      let s := s.clockTo due
      let x := s.pub p
      let x' := { x with
        sqNum := nextSq x.sqNum, sent := x.sent + 1, due := some (due + 1000000 * curveInterval x.curve (x.sent + 1)) }
      if s.pubWaits p true then s.setPub p { x with due := some (due + 1000000 * curveInterval x.curve (x.sent + 1)), sent := x.sent + 1 }
      else (s.setPub p x').pubSend p none
    | _, _ => s)

/-- Ordinary publications whose member values differ from the last ones sent change (R216). -/
def State.pubSample (s : State) : State :=
  s.cfg.tables.pubs.foldl (fun s x =>
    if pubTrip x.2 || s.pubValues x.2 (s.pub x.1) == (s.pub x.1).values then s else s.pubChange x.1 none) s

/-- On gaining the Bridle every publication sends one frame with the next sqNum, the curve restarts and the
log notes it (R220). -/
def State.pubTakeover (s : State) : State :=
  s.cfg.tables.pubs.foldl (fun s (p, b) =>
    let x := s.pub p
    let c := (le16 b 22, le16 b 24, byteAt b 26)
    let e := { s.tripEntry p 4 x.trip 0 0 true (s.stamp 17) s.now with changed := false, stNum := x.stNum }
    let s := s.tripLog e
    (s.setPub p { x with
      sqNum := nextSq x.sqNum, sent := 1, due := some (s.now + 1000000 * curveInterval c 1), curve := c }).pubSend p (some e.num)) s

/-! ## Subscriptions (R222 to R225) -/

/-- Fields of a subscription entry (R222). -/
def subMembers (b : Bytes) : Nat := byteAt b 24
def subKind (b : Bytes) (j : Nat) : Nat := byteAt b (40 + j / 2) / 16 ^ (j % 2) % 16
def subSubst (b : Bytes) (j : Nat) : Nat := byteAt b (32 + j / 4) / 4 ^ (j % 4) % 4

/-- I bits a member carries. -/
def kindBits (k : Nat) : Nat := if k = 0 then 1 else if k = 1 then 2 else 0

/-- I bits a subscription takes from in_base. -/
def subBits (b : Bytes) : Nat := ((List.range (subMembers b)).map (fun j => kindBits (subKind b j))).sum

/-- A subscription as it runs. -/
def State.sub (s : State) (g : Nat) : GooseSub := s.goose.subs.getD g {}

/-- Replaces it. -/
def State.setSub (s : State) (g : Nat) (x : GooseSub) : State := { s with goose.subs := s.goose.subs.set g x }

/-- Adds one to a counter of GOOSE_STATS, by its place there (R232, R291). -/
def State.subCount (s : State) (g i : Nat) : State :=
  let x := s.sub g
  let v := inc32 (x.counts.getD i 0)
  (s.setSub g { x with counts := x.counts.set i v }).counted v 0x0808 (4 * i) g

/-- Changes a subscription's state, with the records of R161 (R224). -/
def State.subTo (s : State) (g new reason : Nat) : State :=
  let x := s.sub g
  let s := s.setSub g { x with state := new, reason := if new = 5 then reason else 0 }
  if x.state = new then s
  else
    let s := if x.state < 3 ∧ new < 3 then s else s.firnEv 0x0801 (leBytes 2 g ++ leBytes 1 x.state ++ leBytes 1 new ++ leBytes 1 reason)
    if 4 ≤ new then s.inputFault else s

/-- A value's type matches a member's kind (R222, R223). -/
def kindMatches (k : Nat) : GooseVal → Bool
  | .boolean _ => k == 0
  | .dbpos _ => k == 1
  | .quality _ => k == 2
  | .timestamp => k == 3
  | .other => k == 4

/-- The bits an accepted frame leaves: members in order, each with whether a Quality after it is invalid
(R225). -/
def newHeld (b : Bytes) (vals : List GooseVal) : List (Bool × Bool) :=
  (List.range vals.length).flatMap (fun (j : Nat) =>
    let bad := match vals[j + 1]? with
      | some (GooseVal.quality v) => subKind b (j + 1) == 2 && v == 1
      | _ => false
    match vals[j]? with
    | some (GooseVal.boolean v) => if subKind b j = 0 then [(v, bad)] else []
    | some (GooseVal.dbpos v) => if subKind b j = 1 then [(v.testBit 1, bad), (v.testBit 0, bad)] else []
    | _ => [])

/-- Held bits before any frame: BOOLEAN 0, Dbpos 01 (R225). -/
def firstHeld (b : Bytes) : List (Bool × Bool) :=
  (List.range (subMembers b)).flatMap (fun j =>
    match subKind b j with
    | 0 => [(false, false)]
    | 1 => [(false, false), (true, false)]
    | _ => [])

/-- The subst code and the place within a Dbpos of each I bit of a subscription. -/
def bitSubst (b : Bytes) : List (Nat × Nat) :=
  (List.range (subMembers b)).flatMap (fun j =>
    match subKind b j with
    | 0 => [(subSubst b j, 0)]
    | 1 => [(subSubst b j, 1), (subSubst b j, 2)]
    | _ => [])

/-- A substitute for a bit: place 0 a BOOLEAN, 1 and 2 the bits of a Dbpos (R225). -/
def substBit (code place : Nat) (held : Bool) : Bool :=
  if code = 1 then place == 2 else if code = 2 then place != 2 else held

/-- The I bits a subscription drives now, by index (R225). -/
def State.subInputs (s : State) (g : Nat) (b : Bytes) : List (Nat × Bool) :=
  let x := s.sub g
  let held := if x.held.isEmpty then firstHeld b else x.held
  ((held.zip (bitSubst b)).zipIdx).map (fun ((h, c), i) =>
    (le16 b 28 + i, if x.state = 3 ∧ !h.2 then h.1 else substBit c.1 c.2 h.1))

/-- A frame discarded at step 5 or 6 with its MISMATCH reason (R224). -/
def State.subRefuse (s : State) (g reason : Nat) : State := s.setSub g { s.sub g with refused := some reason }

/-- Steps 6 to 8 of a frame (R223). -/
def State.subJudge (s : State) (g : Nat) (b : Bytes) (f : GooseFrame) : State :=
  let x := s.sub g
  let kindsOk := f.vals.length == subMembers b && f.vals.zipIdx.all (fun (v, j) => kindMatches (subKind b j) v)
  if f.confRev ≠ le32 b 20 then (s.subCount g 9).subRefuse g 1
  else if f.ndsCom then (s.subCount g 11).subRefuse g 6
  else if !kindsOk then (s.subCount g 10).subRefuse g 2
  else if x.last = some (f.stNum, f.sqNum) then s.subCount g 12
  else
    let changed := match x.last with | some l => l.1 != f.stNum | none => false
    let old := if x.held.isEmpty then firstHeld b else x.held
    let held := ((newHeld b f.vals).zip old).map (fun (n, o) => if n.2 then (o.1, true) else n)
    let s := if changed then s.subCount g 14 else s
    let s := s.setSub g { s.sub g with
      last := some (f.stNum, f.sqNum), rx := s.stamp 1, rxExt := s.now, tal := f.tal, refused := none, held := held }
    s.subTo g 3 0

/-- Steps 2 to 5 of a frame that parses and carries the subscription's reference (R223). -/
def State.subFrame (s : State) (g : Nat) (b : Bytes) (f : GooseFrame) : State :=
  let prpMode := svMode b == 1 || svMode b == 2
  let onB := lanB f.port
  let rct := match f.prp with | some p => p.sizeOk | none => false
  let s := if prpMode && !rct then s.subCount g 3 else s
  let s := match f.prp with
    | some p => if prpMode && p.sizeOk && p.lanB != onB then s.subCount g 4 else s
    | none => s
  let auth := byteAt b 25 % 4
  let ok := auth == 0 || s.tagOk (le16 b 26) 1 auth f.tag f.raw
  let s := if ok then s else s.subCount g 5
  let s := s.setSub g { s.sub g with authOk := auth != 0 && ok }
  if !ok && !(byteAt b 25).testBit 7 then s
  else
    let l := if prpMode then s.lanSeen g (s.sub g).lans onB s.now else ((s.sub g).lans, s)
    let s := l.2.setSub g { l.2.sub g with lans := l.1 }
    let j := match f.prp with
      | some p => if prpMode && p.sizeOk then (s.sub g).prp.judge p.seq s.now else (false, (s.sub g).prp)
      | none => (false, (s.sub g).prp)
    if j.1 then s.subCount g 2
    else
      let s := s.setSub g { s.sub g with prp := { j.2 with last := s.now } }
      let x := s.sub g
      if f.test && !s.sv.simMode || !f.test && x.sim then (s.subCount g 6).subRefuse g 4
      else (s.setSub g { x with sim := f.test }).subJudge g b f

/-- GOOSE_FRAME_RECEIVE: a frame that matched a subscription passes the steps of R223. -/
def execGooseFrameReceive (g : Nat) (f : GooseFrame) (at_ : Nat) (s : State) : Out := s.onPath <|
  let s := s.clockTo at_
  .next (match s.cfg.tables.subs.get? g with
    | some b =>
      if (modePorts (svMode b) (byteAt b 31)).contains f.port && (s.injection 0x09 g 0).isNone then
        let s := s.subCount g (if svMode b != 0 && lanB f.port then 1 else 0)
        if !f.parses then s.subCount g 7
        else if f.gocbRef != slice b 64 (byteAt b 56) then s.subCount g 8
        else s.subFrame g b f
      else s
    | none => s)

/-- GOOSE_TAL_EXPIRY: 5 µs past the deadline without a newer accepted frame (R224). -/
def execGooseTalExpiry (g : Nat) (s : State) : Out := s.onPath <|
  .next (match s.cfg.tables.subs.get? g with
    | some b =>
      let x := s.sub g
      if x.state = 3 then
        let s := s.clockTo (x.rxExt + 1000000 * (x.tal + byteAt b 30) + 5000)
        match x.refused with
        | some r => s.subTo g 5 r
        | none => (s.subTo g 4 0).subCount g 13
      else s
    | none => s)

/-! ## Commands (R232) -/

/-- GOOSE_PUB_STAGE (R214, R232). -/
def cmdGoosePubStage : Cmd where
  opcode := 0x0801
  param _ _ r := 1 ≤ byteAt r.params 0 && byteAt r.params 0 ≤ 8 && restZero r 1 && recsOk 384 (byteAt r.params 0) r pubRecOk
  body _ e s :=
    let recs := regionRecs 384 (byteAt e.req.params 0) e.req
    let t := s.staged
    .done (s.setStaged { t with
      pubs := recs.foldl (fun x b => putRec x (le16 b 0) ((byteAt b 2).testBit 0) b) t.pubs }) stOK (leBytes 2 recs.length) none

/-- GOOSE_PUB_STAGE (R232). -/
def execGoosePubStage (p : Path) (s : State) : Out := .next (s.run cmdGoosePubStage p)

/-- GOOSE_PUB_READ (R232). -/
def cmdGoosePubRead : Cmd where
  opcode := 0x0802
  param _ _ r := byteAt r.params 1 ≤ 1 && restZero r 2
  xpNeed _ _ := 384
  body _ e s :=
    .done s stOK [] (some (padTo 384 (entryOr (s.tablesOf (byteAt e.req.params 1)).pubs (byteAt e.req.params 0) 384)))

/-- GOOSE_PUB_READ (R232). -/
def execGoosePubRead (p : Path) (s : State) : Out := .next (s.run cmdGoosePubRead p)

/-- A subscription entry is in range (R222). -/
def subEntryOk (b : Bytes) : Bool :=
  2048 ≤ le16 b 0 && le16 b 0 < 4096 &&
  (if !(byteAt b 2).testBit 0 then zeroAt b 2 126
   else
    byteAt b 2 < 8 && byteAt b 3 ≤ 6 && ((byteAt b 2).testBit 1 || zeroAt b 10 6) && le16 b 16 ≤ 0x3FFF && le16 b 18 ≤ 4094 &&
    1 ≤ subMembers b && subMembers b ≤ 32 && byteAt b 25 / 4 % 32 == 0 && byteAt b 25 % 4 ≤ 2 &&
    (if byteAt b 25 % 4 = 0 then le16 b 26 == 0 else le16 b 26 ≤ 255) && le16 b 28 < 8192 && byteAt b 30 ≤ 10 &&
    (if byteAt b 3 = 0 then byteAt b 31 ≤ 5 else byteAt b 31 == 0) &&
    (List.range 32).all (fun j => subSubst b j ≤ 2 && subKind b j ≤ 4) && 1 ≤ byteAt b 56 && byteAt b 56 ≤ 64 &&
    zeroAt b 57 7 && zeroAt b (64 + byteAt b 56) (64 - byteAt b 56))

/-- GOOSE_SUB_STAGE (R222, R232). -/
def cmdGooseSubStage : Cmd where
  opcode := 0x0803
  param _ _ r := 1 ≤ byteAt r.params 0 && byteAt r.params 0 ≤ 32 && restZero r 1 && recsOk 128 (byteAt r.params 0) r subEntryOk
  body _ e s :=
    let recs := regionRecs 128 (byteAt e.req.params 0) e.req
    let t := s.staged
    .done (s.setStaged { t with
      subs := recs.foldl (fun x b => putRec x (le16 b 0) ((byteAt b 2).testBit 0) b) t.subs }) stOK (leBytes 2 recs.length) none

/-- GOOSE_SUB_STAGE (R232). -/
def execGooseSubStage (p : Path) (s : State) : Out := .next (s.run cmdGooseSubStage p)

/-- GOOSE_SUB_READ (R232). -/
def cmdGooseSubRead : Cmd where
  opcode := 0x0804
  param _ _ r := 2048 ≤ le16 r.params 0 && le16 r.params 0 < 4096 && byteAt r.params 2 ≤ 1 && restZero r 3
  xpNeed _ _ := 128
  body _ e s :=
    .done s stOK [] (some (padTo 128 (entryOr (s.tablesOf (byteAt e.req.params 2)).subs (le16 e.req.params 0) 128)))

/-- GOOSE_SUB_READ (R232). -/
def execGooseSubRead (p : Path) (s : State) : Out := .next (s.run cmdGooseSubRead p)

/-- TRIP_BIND (R232): a bind names a trip publication of the staged copy. -/
def cmdTripBind : Cmd where
  opcode := 0x0805
  param s _ r := 1 ≤ byteAt r.params 0 && byteAt r.params 0 ≤ 127 && byteAt r.params 1 ≤ 15 && byteAt r.params 3 ≤ 1 &&
    restZero r 4 &&
    (byteAt r.params 3 == 0 ||
      match s.staged.pubs.get? (byteAt r.params 2) with | some b => pubTrip b | none => false)
  body _ e s :=
    let b := e.req.params
    let k := 16 * byteAt b 0 + byteAt b 1
    let t := s.staged
    .done (s.setStaged { t with binds := if byteAt b 3 = 1 then t.binds.set k (byteAt b 2) else t.binds.del k }) stOK [] none

/-- TRIP_BIND (R232). -/
def execTripBind (p : Path) (s : State) : Out := .next (s.run cmdTripBind p)

/-- The 16 bytes of GOOSE_SUB_STATUS. -/
def State.subStatusBytes (s : State) (g : Nat) : Bytes :=
  match s.goose.subs.get? g with
  | none => zeros 16
  | some x =>
    leBytes 1 x.state ++ leBytes 1 x.reason ++
      leBytes 1 (b2n (!x.lans.missA) + 2 * b2n (!x.lans.missB) + 4 * b2n x.sim + 8 * b2n x.authOk) ++ [0] ++
      leBytes 4 ((x.last.map (·.1)).getD 0) ++ x.rx.bytes ++ leBytes 2 (min 65535 x.tal)

/-- GOOSE_SUB_STATUS (R232). -/
def cmdGooseSubStatus : Cmd where
  opcode := 0x0806
  param _ _ r := 2048 ≤ le16 r.params 0 && 1 ≤ le16 r.params 2 && le16 r.params 2 ≤ 2048 && le16 r.params 0 + le16 r.params 2 ≤ 4096 &&
    restZero r 4
  xpNeed _ r := 16 * le16 r.params 2
  body _ e s :=
    .done s stOK [] (some ((List.range (le16 e.req.params 2)).flatMap (fun i => s.subStatusBytes (le16 e.req.params 0 + i))))

/-- GOOSE_SUB_STATUS (R232). -/
def execGooseSubStatus (p : Path) (s : State) : Out := .next (s.run cmdGooseSubStatus p)

/-- The 16 bytes of GOOSE_PUB_STATUS. -/
def State.pubStatusBytes (s : State) (p : Nat) : Bytes :=
  match s.pubRec p with
  | none => zeros 16
  | some b =>
    let x := s.pub p
    leBytes 2 (1 + 2 * b2n (pubTrip b) + 4 * b2n (pubTrip b && x.trip) + 8 * b2n s.gated) ++ leBytes 2 (curveInterval x.curve x.sent) ++
      leBytes 4 x.stNum ++ leBytes 4 x.sqNum ++ leBytes 4 x.frames

/-- GOOSE_PUB_STATUS: a VF asks only about publications bound to its slots (R232). -/
def cmdGoosePubStatus : Cmd where
  opcode := 0x0807
  param s p r := 1 ≤ byteAt r.params 1 && byteAt r.params 0 + byteAt r.params 1 ≤ 256 && restZero r 2 &&
    match p with
    | .vf n => (List.range (byteAt r.params 1)).all (fun i =>
        s.goose.binds.any (fun x => x.1 / 16 == n && x.2 == byteAt r.params 0 + i))
    | _ => true
  xpNeed _ r := 16 * byteAt r.params 1
  body _ e s :=
    .done s stOK [] (some ((List.range (byteAt e.req.params 1)).flatMap (fun i => s.pubStatusBytes (byteAt e.req.params 0 + i))))

/-- GOOSE_PUB_STATUS (R232). -/
def execGoosePubStatus (p : Path) (s : State) : Out := .next (s.run cmdGoosePubStatus p)

/-- GOOSE_STATS (R232). -/
def cmdGooseStats : Cmd where
  opcode := 0x0808
  param _ p r := 2048 ≤ le16 r.params 0 && le16 r.params 0 < 4096 && clearOk p (byteAt r.params 2) && restZero r 3
  xpNeed _ _ := 64
  body _ e s :=
    let g := le16 e.req.params 0
    let clear := byteAt e.req.params 2 = 1
    match s.goose.subs.get? g with
    | some x => .done (if clear then s.setSub g { x with counts := [] } else s) stOK [] (some (counts16 x.counts))
    | none =>
      .done (if clear then { s with sv.frozen := s.sv.frozen.del g } else s) stOK []
        (some (counts16 (s.sv.frozen.getD g [])))

/-- GOOSE_STATS (R232). -/
def execGooseStats (p : Path) (s : State) : Out := .next (s.run cmdGooseStats p)

/-- The 32 bytes of a trip-log entry (R226). -/
def TripEntry.bytes (e : TripEntry) : Bytes :=
  leBytes 2 e.pub ++ leBytes 1 e.source ++ leBytes 1 (b2n e.value) ++ leBytes 2 e.index ++ leBytes 1 e.cookie ++
    leBytes 1 (b2n e.changed + 2 * b2n e.gated + 4 * b2n e.exceed + 8 * b2n e.skip + 16 * b2n e.peOff) ++ e.src.bytes ++
    (match e.tx with | some t => t.1.bytes | none => zeros 6) ++ leBytes 4 e.stNum ++
    leBytes 4 (match e.source == 3, e.tx with | true, some t => t.2 - e.srcExt | _, _ => 4294967295) ++ zeros 4

/-- The entries TRIP_LOG_READ returns (R232). -/
def State.tripSlice (s : State) (b : Bytes) : List TripEntry :=
  let l := if byteAt b 2 = 1 then s.goose.log.reverse else s.goose.log
  (l.drop (le16 b 4)).take (le16 b 0)

/-- TRIP_LOG_READ (R226, R232). -/
def cmdTripLogRead : Cmd where
  opcode := 0x0809
  param _ _ r := 1 ≤ le16 r.params 0 && le16 r.params 0 ≤ 2048 && byteAt r.params 2 ≤ 1 && byteAt r.params 3 == 0 &&
    le16 r.params 4 ≤ 4095 && restZero r 6
  xpNeed s r := 32 * (s.tripSlice r.params).length
  body _ e s :=
    let l := s.tripSlice e.req.params
    .done s stOK (leBytes 2 l.length ++ leBytes 4 s.goose.lost) (some (l.flatMap TripEntry.bytes))

/-- TRIP_LOG_READ (R232). -/
def execTripLogRead (p : Path) (s : State) : Out := .next (s.run cmdTripLogRead p)

/-- The 16 bytes of GUAR_STATUS for a port. -/
def State.guarBytes (s : State) (i : Nat) : Bytes :=
  let p := s.port i
  leBytes 4 p.loadExc ++ leBytes 4 p.burstExc ++ leBytes 4 p.g2Exc ++
    leBytes 4 (b2n p.peActive + 2 * b2n p.pauseSeen + 4 * b2n (p.speed == 1))

/-- GUAR_STATUS: read and clear in one step (R230, R232). -/
def cmdGuarStatus : Cmd where
  opcode := 0x080A
  param _ _ r := byteAt r.params 0 ≤ 1 && restZero r 1
  xpNeed _ _ := 96
  body _ e s :=
    let b := (List.range 6).flatMap s.guarBytes
    let clear (s : State) (i : Nat) : State := s.setPort i { s.port i with loadExc := 0, burstExc := 0, g2Exc := 0, pauseSeen := false }
    .done (if byteAt e.req.params 0 = 1 then (List.range 6).foldl clear s else s) stOK [] (some b)

/-- GUAR_STATUS (R232). -/
def execGuarStatus (p : Path) (s : State) : Out := .next (s.run cmdGuarStatus p)

end Machine
end Sys2Proof
end

