-- ==== Sys2Proof/Machine/Guard.lean ====
section
/-! DEFINITION. Guard elements: their evaluation, log and commands (chapter 9). -/

namespace Sys2Proof
namespace Machine

/-! ## Records (R212) -/

def grdType (b : Bytes) : Nat := byteAt b 2
def grdEn (b : Bytes) : Bool := (byteAt b 3).testBit 0
def grdFirn (b : Bytes) : Bool := (byteAt b 3).testBit 1
def grdInvMode (b : Bytes) : Bool := (byteAt b 3).testBit 2
def grdBlock (b : Bytes) : Bool := (byteAt b 3).testBit 3
def grdThr (b : Bytes) : Nat := le32 b 12
def grdDr (b : Bytes) : Nat := le16 b 16
def grdPu (b : Bytes) : Nat := le16 b 18
def grdDo (b : Bytes) : Nat := le16 b 20
def grdTrip (b : Bytes) : Option Nat := if (byteAt b 25).testBit 0 then some (byteAt b 24) else none
def grdRoc (b : Bytes) : Nat := le16 b 26
def grdIn (b : Bytes) (i : Nat) : Nat := le32 b (48 + 4 * i)

/-- The default record of an element (R202, R212). -/
def grdDefault (i : Nat) : Bytes := leBytes 2 i ++ [0, 2] ++ zeros 124

/-- An element's record: OFF where none is set, with LOG_FIRN at its default. -/
def State.grdRec (s : State) (i : Nat) : Bytes := s.cfg.grd.getD i (grdDefault i)

/-- The record that an element follows at an instant: a change counts from the first instant of its second
(R201, R210). -/
def State.grdRecAt (s : State) (i g : Nat) : Bytes :=
  match s.grd.before.get? i with
  | some (g0, b) => if g < g0 then b else s.grdRec i
  | none => s.grdRec i

/-- The record that an element follows until its next change is taken up. -/
def State.grdRun (s : State) (i : Nat) : Bytes :=
  match s.grd.before.get? i with
  | some (_, b) => b
  | none => s.grdRec i

/-- The record reads operands: it is enabled and not OFF (R207). -/
def grdActive (b : Bytes) : Bool := grdEn b && grdType b != 0

/-- An item code of type 0 or 1. -/
def phasorItem (v : Nat) : Bool := itemOk v && v / 2 ^ 28 ≤ 1

/-- A record is in range, with the fields its type does not use 0 (R202, R203, R212). -/
def grdRecOk (b : Bytes) : Bool :=
  let t := grdType b
  let n := byteAt b 44
  le16 b 0 ≤ 4095 && t ≤ 6 && byteAt b 3 < 16 && zeroAt b 104 24 && zeroAt b 45 3 &&
  (if t = 0 then zeroAt b 4 124
   else
    800 ≤ grdDr b && grdDr b ≤ 1000 && le16 b 22 ≤ 4095 && !(grdBlock b && le16 b 22 == le16 b 0) && byteAt b 25 ≤ 1 &&
    (if t = 5 then zeroAt b 4 12 else if t = 4 then phasorItem (le32 b 4) else itemOk (le32 b 4)) &&
    (if t = 3 then itemOk (le32 b 8) else zeroAt b 8 4) &&
    (if t = 4 then 1 ≤ grdRoc b && grdRoc b ≤ 4096 else grdRoc b == 0) &&
    (if t = 6 then 1 ≤ le16 b 28 && le16 b 28 ≤ 3 && 10 ≤ le16 b 30 && le16 b 30 ≤ 10000 else zeroAt b 28 4) &&
    (if t = 5 then
      le16 b 36 ≤ 2000 && le16 b 38 ≤ 2000 && 2 ≤ n && n ≤ 8 &&
      (List.range 8).all (fun i =>
        if i < n then phasorItem (grdIn b i) && byteAt b (96 + i) ≤ 11
        else grdIn b i == 0 && le16 b (80 + 2 * i) == 0 && byteAt b (96 + i) == 0)
     else zeroAt b 32 72))

/-- Item codes an element reads at an instant. -/
def grdOps (b : Bytes) : List Nat :=
  match grdType b with
  | 3 => [le32 b 4, le32 b 8]
  | 5 => (List.range (byteAt b 44)).map (grdIn b)
  | _ => [le32 b 4]

/-! ## Conditions (R202 to R204, R206) -/

/-- Y_i of R203 in units of 2⁻⁸⁰ counts. -/
def diffInput (k : Int) (rot : Nat) (x : Item) : Int × Int :=
  let c := fxCosPi rot 6
  let sn := fxSinPi rot 6
  ((x.re * c - x.im * sn) * k / 4096, (x.re * sn + x.im * c) * k / 4096)

/-- |re + j·im| of parts in units of 2⁻⁸⁰. -/
def fxAbs (p : Int × Int) : Int := (isqrt (p.1 * p.1 + p.2 * p.2).toNat : Nat)

/-- I_diff and I_bias (R203). -/
def diffBias (b : Bytes) (xs : List Item) : Int × Int :=
  let ys := xs.zipIdx.map (fun (x, i) => diffInput (int16 (le16 b (80 + 2 * i))) (byteAt b (96 + i)) x)
  (fxAbs ((ys.map (·.1)).sum, (ys.map (·.2)).sum), ((ys.map fxAbs).sum) / 2)

/-- The differential threshold (R204). -/
def diffThr (b : Bytes) (bias : Int) : Int :=
  let iMin : Int := le32 b 32 * fxOne
  let b2 : Int := le32 b 40 * fxOne
  if bias ≤ b2 then max iMin (le16 b 36 * bias / 1000)
  else max iMin (le16 b 36 * b2 / 1000) + le16 b 38 * (bias - b2) / 1000

/-- Steps 1 and 2 of an element whose operands are present: the condition, held on while the output is 1, and
the level of an INVERSE element (R202, R206). -/
def grdCond (b : Bytes) (e : GrdEl) (rate : Nat) (xs : List Item) : Bool × Nat :=
  let mags := (grdOps b).zip xs |>.map (fun (v, x) => itemMag v x)
  let m := mags.getD 0 0
  let thr := grdThr b
  let dr := grdDr b
  match grdType b with
  | 1 => (if e.out then thr * dr < m * 1000 else thr < m, 0)
  | 2 => (if e.out then m * 1000 < thr * (2000 - dr) else m < thr, 0)
  | 3 =>
    let q := if mags.getD 1 0 = 0 then 4294967295 else 1000 * m / mags.getD 1 0
    (if e.out then thr * dr < q * 1000 else thr < q, 0)
  | 4 =>
    match e.mags[grdRoc b - 1]? with
    | none => (false, 0)
    | some old =>
      let d : Int := ((m : Int) - old.1) * rate
      let t := int32 thr * grdRoc b
      (if e.out then t * dr < d * 1000 else t < d, 0)
  | 5 =>
    let p := diffBias b xs
    let t := diffThr b p.2
    (if e.out then t * dr < p.1 * 1000 else t < p.1, 0)
  | _ => (if e.out then thr * dr < m * 1000 else thr < m, if thr < m then 2 else if m * 1000 ≤ thr * dr then 0 else 1)

/-- The operands of an element's blocker at an instant (R201, R207). -/
def State.blockerOps (s : State) (b : Bytes) (g : Nat) : List Nat :=
  let k := s.grdRecAt (le16 b 22) g
  if grdBlock b && grdActive k then grdOps k else []

/-- Steps 1 to 3 for an element at its next instant, where every operand is complete, its blocker's too (R201,
R202, R207). -/
def State.grdPre (s : State) (b : Bytes) (e : GrdEl) : Option GrdPre :=
  let xs := (grdOps b).map (fun v => s.item v e.next)
  let ys := (s.blockerOps b e.next).map (fun v => s.item v e.next)
  if (xs ++ ys).any (·.isNone) then none
  else
    let xs := xs.filterMap id
    let ys := ys.filterMap id
    let old := if grdType b = 4 then ((e.mags[grdRoc b - 1]?).map (·.2)).getD false else false
    let invalid := old || (xs ++ ys).any (fun x => x.aflags.testBit 0)
    let c := grdCond b e (s.rateAt e.next) xs
    let mag := ((grdOps b).zip xs |>.map (fun (v, x) => itemMag v x)).getD 0 0
    some {
      g := e.next, mag := mag, invalid := invalid
      met := if invalid then !grdInvMode b && e.met else c.1
      level := if invalid then 0 else c.2 }

/-! ## Timers (R205, R206) -/

/-- The largest r with r⁵⁰ ≤ g, from bit `k` − 1 down, in units of 2⁻⁸⁰. -/
def fxRoot50 (g : Int) : Nat → Int → Int
  | 0, r => r
  | k + 1, r =>
    let c := r + 2 ^ k
    let c2 := fxMul c c
    let c4 := fxMul c2 c2
    let c8 := fxMul c4 c4
    let c16 := fxMul c8 c8
    let c32 := fxMul c16 c16
    fxRoot50 g k (if fxMul (fxMul c32 c16) c2 ≤ g then c else r)

/-- What one instant adds to acc (R206). -/
def inverseStep (b : Bytes) (mag rate : Nat) : Int :=
  let thr := grdThr b
  let g : Int := if thr = 0 then 20 * fxOne else min (20 * fxOne) (mag * fxOne / thr)
  -- k in hundredths, and g^α
  let kp : Nat × Int :=
    if le16 b 28 = 1 then (14, fxRoot50 g 80 fxOne) else if le16 b 28 = 2 then (1350, g) else (8000, fxMul g g)
  (kp.2 - fxOne) * 100000 / ((le16 b 30 * kp.1 * rate : Nat) : Int)

/-- Steps 4 and 5 of an element: counters, acc and output, the condition being as blocking left it. -/
def grdAdvance (b : Bytes) (e : GrdEl) (met : Bool) (level mag rate : Nat) : GrdEl :=
  if grdType b = 6 then
    if level = 2 then
      let acc := e.acc + inverseStep b mag rate
      { e with acc := acc, cntDo := 0, out := e.out || fxOne ≤ acc }
    else if level = 1 then e
    else
      let n := min 65536 (e.cntDo + 1)
      if grdDo b + 1 ≤ n then { e with cntDo := n, out := false, acc := 0 } else { e with cntDo := n }
  else if e.out then
    let n := if met then 0 else min 65536 (e.cntDo + 1)
    if !met && grdDo b + 1 ≤ n then { e with out := false, cntDo := 0, cntPu := 0 } else { e with cntDo := n }
  else
    let n := if met then min 65536 (e.cntPu + 1) else 0
    if met && grdPu b + 1 ≤ n then { e with out := true, cntPu := 0, cntDo := 0 } else { e with cntPu := n }

/-! ## Evaluation (R201, R202, R208, R209, R211) -/

/-- An element as it runs. -/
def State.grdEl (s : State) (i : Nat) : GrdEl := s.grd.els.getD i {}

/-- Replaces it. -/
def State.setEl (s : State) (i : Nat) (e : GrdEl) : State := { s with grd.els := s.grd.els.set i e }

/-- Writes a guard-log entry for an instant, and its Firn record (R211). -/
def State.grdLog (s : State) (i event g : Nat) : State :=
  let d := s.instant g
  let ext := (d.map (·.2)).getD s.now
  let sec := (d.map (·.1.sec)).getD 0
  let n := (d.map (fun x => g - x.1.g0)).getD 0
  let entry := leBytes 2 i ++ leBytes 2 event ++ (s.stampOf ext 5 true).bytes ++ leBytes 2 n ++ leBytes 4 sec
  let full := s.grd.log.length ≥ 4096
  let s := { s with
    grd.log := (entry :: s.grd.log).take 4096
    grd.lost := if full then inc32 s.grd.lost else s.grd.lost }
  if grdFirn (s.grdRecAt i g) && (event == 1 || event == 2 || event == 5) then
    s.firnEv 0x0701 (leBytes 2 i ++ leBytes 2 event ++ leBytes 2 n) else s

/-- The element's trip input follows its output (R209). -/
def State.grdDrive (s : State) (i : Nat) (trip : Option Nat) (on : Bool) (g : Nat) : State :=
  match trip with
  | some p =>
    let ext := ((s.instant g).map (·.2)).getD s.now
    s.guardTrip p i on (s.stampOf ext 5 true) ext
  | none => s

/-- An element's mirrored state at its evaluation of the instant after the one it was taken at, in silence
(R475). -/
def State.elMirror (s : State) (i : Nat) : State :=
  match s.grd.mirror.get? i with
  | none => s
  | some (g, m) =>
    let e := s.grdEl i
    if e.next ≤ g then s
    else
      let s := { s with grd.mirror := s.grd.mirror.del i }
      if e.next = g + 1 then
        s.setEl i { e with
          cntPu := m.cntPu, cntDo := m.cntDo, acc := m.acc, out := m.out, valid := m.valid, pre := none
          outs := if e.out = m.out then e.outs else ((g, m.out) :: e.outs).take 64 }
      else s

/-- An element takes a new record up at the first instant of its second: what R210 does to its state. -/
def State.grdTake (s : State) (i g0 : Nat) (old : Bytes) : State :=
  let b := s.grdRec i
  let e := s.grdEl i
  let s := { s with grd.before := s.grd.before.del i }
  let oldTrip := if e.out then grdTrip old else none
  let off := grdEn old && !grdEn b
  let reset := grdType old != grdType b || slice old 4 8 != slice b 4 8 || slice old 44 36 != slice b 44 36 ||
    (!grdEn old && grdEn b)
  if off || reset then
    let s := s.grdDrive i oldTrip false g0
    (s.setEl i { next := g0, conds := e.conds, outs := ((g0, false) :: e.outs).take 64 }).grdLog i 5 g0
  else if e.out ∧ grdTrip old ≠ grdTrip b then (s.grdDrive i (grdTrip old) false g0).grdDrive i (grdTrip b) true g0
  else s

/-- The element takes its waiting record up once every instant before the mark is evaluated. -/
def State.grdTurn (s : State) (i : Nat) : State :=
  match s.grd.before.get? i with
  | some (g0, old) => if g0 ≤ (s.grdEl i).next then s.grdTake i g0 old else s
  | none => s

/-- Steps 1 to 3 of an element whose operands are complete. -/
def State.grdStageA (s : State) (i : Nat) : State :=
  let s := (s.elMirror i).grdTurn i
  let b := s.grdRun i
  let e := s.grdEl i
  if !grdActive b || e.pre.isSome then s
  else match s.grdPre b e with
    | some p => s.setEl i { e with pre := some p, conds := ((p.g, p.met) :: e.conds).take 256 }
    | none => s

/-- The blocker's condition at an instant: none while it is not known (R201, R208). -/
def State.blocked (s : State) (b : Bytes) (g : Nat) : Option Bool :=
  if !grdBlock b then some false
  else
    let k := le16 b 22
    let e := s.grdEl k
    match e.conds.find? (·.1 == g) with
    | some c => some c.2
    | none => if !grdActive (s.grdRecAt k g) || g < e.next then some false else none

/-- Steps 4 to 6 of an element at an instant (R202). -/
def State.grdFinish (s : State) (i : Nat) (p : GrdPre) (blocked : Bool) : State :=
  let b := s.grdRun i
  let e := s.grdEl i
  let was := e.out
  let wasValid := e.valid
  let e1 := if p.invalid && !grdInvMode b then e
    else grdAdvance b e (p.met && !blocked) (if blocked then 0 else p.level) p.mag (s.rateAt p.g)
  let e1 := { e1 with
    next := p.g + 1, met := p.met, valid := !p.invalid, pre := none
    mags := if grdType b = 4 then ((p.mag, p.invalid) :: e.mags).take 4096 else []
    outs := if was = e1.out then e.outs else ((p.g, e1.out) :: e.outs).take 64 }
  let s := s.setEl i e1
  let s := if wasValid != e1.valid then s.grdLog i (if p.invalid then 3 else 4) p.g else s
  if was = e1.out then s else (s.grdLog i (if e1.out then 1 else 2) p.g).grdDrive i (grdTrip b) e1.out p.g

/-- Steps 4 to 6 of an element whose blocker's condition is known. -/
def State.grdStageB (s : State) (i : Nat) : State :=
  match (s.grdEl i).pre with
  | none => s
  | some p =>
    match s.blocked (s.grdRun i) p.g with
    | some v => s.grdFinish i p v
    | none => s

/-- GUARD_EVALUATION: every element whose operands and blocker are complete at its next instant decides it;
then publication values are sampled (R201, R202, R216). -/
def execGuardEvaluation (s : State) : Out := s.onPath <|
  .next (
    if !s.power.on.contains .dsp then s
    else
      let ks := s.grd.els.map (·.1)
      let s := ks.foldl State.grdStageA s
      let s := ks.foldl State.grdStageB s
      s.pubSample)

/-! ## Settings (R210) -/

/-- One record takes effect at the mark that opens the second from index `g0` on: an element that still has
instants before it goes on with its old record through those (R201, R210). -/
def State.grdPut (s : State) (g0 : Nat) (b : Bytes) : State :=
  let i := le16 b 0
  let old := s.grdRec i
  let put (t : Tbl Bytes) : Tbl Bytes := if b = grdDefault i then t.del i else t.set i b
  let earlier := (s.grd.before.get? i).isSome
  let s := { s with cfg.grd := put s.cfg.grd, stored.grd := put s.stored.grd }
  if earlier then s
  else if grdActive old ∧ (s.grdEl i).next < g0 then { s with grd.before := s.grd.before.set i (g0, old) }
  else s.grdTake i g0 old

/-- GRD_SET takes effect (R210). -/
def State.grdApply (s : State) (c : MarkChange) (g0 : Nat) : State :=
  (chunks 128 (byteAt c.params 0) c.region).foldl (fun s b => s.grdPut g0 b) s

/-! ## Commands (R213) -/

/-- GRD_SET (R210, R213). -/
def cmdGrdSet : Cmd where
  opcode := 0x0707
  param _ _ r := 1 ≤ byteAt r.params 0 && byteAt r.params 0 ≤ 64 && restZero r 1 && recsOk 128 (byteAt r.params 0) r grdRecOk
  body := atMark

/-- GRD_SET (R213). -/
def execGrdSet (p : Path) (s : State) : Out := .next (s.run cmdGrdSet p)

/-- The record that waits for the next mark, or the one in force (R213). -/
def State.grdPending (s : State) (i : Nat) : Bytes :=
  (s.sv.marks.filter (fun c => c.opcode == 0x0707 && c.marks == 1)).foldl (fun r c =>
    (chunks 128 (byteAt c.params 0) c.region).foldl (fun r b => if le16 b 0 = i then b else r) r) (s.grdRec i)

/-- GRD_READ (R213). -/
def cmdGrdRead : Cmd where
  opcode := 0x0708
  param _ _ r := le16 r.params 0 ≤ 4095 && byteAt r.params 2 ≤ 1 && restZero r 3
  xpNeed _ _ := 128
  body _ e s :=
    let i := le16 e.req.params 0
    .done s stOK [] (some (padTo 128 (if byteAt e.req.params 2 = 1 then s.grdPending i else s.grdRec i)))

/-- GRD_READ (R213). -/
def execGrdRead (p : Path) (s : State) : Out := .next (s.run cmdGrdRead p)

/-- The latest instant that every element has evaluated. -/
def State.grdLatest (s : State) : Nat :=
  let last := match s.gridFrom (s.now + 1) with | some g => g - 1 | none => 0
  ((s.grd.els.filter (fun x => grdActive (s.grdRun x.1))).map (fun x => x.2.next - 1)).foldl min last

/-- A bit of each element, as 512 bytes. -/
def grdBits (f : Nat → Bool) : Bytes :=
  (List.range 512).map (fun i => (List.range 8).foldl (fun (b : Byte) j => if f (8 * i + j) then b ||| BitVec.twoPow 8 j else b) 0)

/-- GRD_STATUS (R213). -/
def cmdGrdStatus : Cmd where
  opcode := 0x0709
  param _ _ r := restZero r 0
  xpNeed _ _ := 1024
  body _ _ s :=
    let g := s.grdLatest
    let d := s.secondOf g
    .done s stOK (leBytes 4 ((d.map (·.sec)).getD 0) ++ leBytes 2 ((d.map (fun x => g - x.g0)).getD 0))
      (some (grdBits s.eBit ++ grdBits (fun i => (s.grdEl i).valid)))

/-- GRD_STATUS (R213). -/
def execGrdStatus (p : Path) (s : State) : Out := .next (s.run cmdGrdStatus p)

/-- The entries GRD_LOG_READ returns. -/
def State.grdSlice (s : State) (b : Bytes) : List Bytes :=
  (if byteAt b 2 = 1 then s.grd.log.reverse else s.grd.log).take (le16 b 0)

/-- GRD_LOG_READ (R211, R213). -/
def cmdGrdLogRead : Cmd where
  opcode := 0x070A
  param _ _ r := 1 ≤ le16 r.params 0 && le16 r.params 0 ≤ 4096 && byteAt r.params 2 ≤ 1 && restZero r 3
  xpNeed s r := 16 * (s.grdSlice r.params).length
  body _ e s :=
    let l := s.grdSlice e.req.params
    .done s stOK (leBytes 2 l.length ++ leBytes 4 s.grd.lost) (some l.flatten)

/-- GRD_LOG_READ (R213). -/
def execGrdLogRead (p : Path) (s : State) : Out := .next (s.run cmdGrdLogRead p)

end Machine
end Sys2Proof
end

