-- ==== Sys2Proof/Machine/Logic.lean ====
section
/-! DEFINITION. The logic engine's modes, forces, program memory and commands (R247 to R258). The scan itself
is in `LogicScan`. -/

namespace Sys2Proof
namespace Machine

/-- Mode code (R258, R378). -/
def LogicMode.code : LogicMode → Nat
  | .run => 0
  | .stop => 1
  | .hold => 2

/-- Scans run: RUN, in CONFIGURE, OPERATE or MAINTAIN (R248). -/
def State.scanning (s : State) : Bool :=
  s.logic.mode == .run && 1 ≤ s.mod.state && s.mod.state ≤ 3 && s.power.on.contains .logic

/-- The time base, µs: it counts ticks at 250 to the microsecond, and is frozen in STOP and HOLD (R239, R249). -/
def State.tb (s : State) : Nat :=
  if s.logic.frozen then s.logic.tbLast else s.logic.tbRef + (s.time.ticks - s.logic.tickRef) / 250

/-! ## Schedules of whole periods (R243, R262) -/

/-- The first instant of a period that divides 1 s strictly after `x`, inside a second of number `sec` from `m` to
`mn`, with its index; none where it falls after the second. -/
def schedIn (period x m mn sec : Nat) : Option (Nat × Nat × Nat) :=
  let at_ (j : Nat) : Nat := m + (divRoundUp (j * (period * 1000 * (mn - m)) : Nat) 1000000000).toNat
  let j0 := if x < m then 0 else (x - m) * 1000000000 / (period * 1000 * (mn - m))
  let j := if x < at_ j0 then j0 else if x < at_ (j0 + 1) then j0 + 1 else j0 + 2
  if j * period < 1000000 && x < at_ j then some (at_ j, sec, j) else none

/-- The first scheduled instant strictly after `x`, with its second and index, while the grid runs (R243). -/
def TimeBlk.schedAfter (t : TimeBlk) (period x : Nat) : Option (Nat × Nat × Nat) :=
  if !t.running then none
  else
    match schedIn period x t.cur.ns t.next.ns t.cur.sec with
    | some r => some r
    | none => schedIn period x t.next.ns t.after t.next.sec

/-- The last scheduled instant of a period at or before `x`, in the running second. -/
def TimeBlk.schedAt (t : TimeBlk) (period x : Nat) : Option (Nat × Nat × Nat) :=
  if !t.running || x < t.cur.ns then none
  else
    let d := period * 1000 * (t.next.ns - t.cur.ns)
    let at_ (j : Nat) : Nat := t.cur.ns + (divRoundUp (j * d : Nat) 1000000000).toNat
    let j0 := (x - t.cur.ns) * 1000000000 / d + 1
    let j := if at_ j0 ≤ x then j0 else if at_ (j0 - 1) ≤ x then j0 - 1 else j0 - 2
    some (at_ j, t.cur.sec, j)

/-! ## Committed outputs (R244 step 7, R248, R257) -/

/-- Commits Q and Y: trip requests change with their trip inputs, and publications are sampled (R216, R218). -/
def State.commit (s : State) (q : BitVec 8192) (y : BitVec 256) (src : Stamp) (ext : Nat) : State :=
  let old := s.logic.yOut
  let s := { s with logic := { s.logic with qOut := q, yOut := y } }
  let s := if old == y then s else
    (List.range 256).foldl (fun s p =>
      if old.getLsbD p == y.getLsbD p then s else s.logicTrip p (y.getLsbD p) src ext) s
  s.pubSample

/-- The outputs while no scans run: Y released, Q held or cleared with its forces kept; under FAULT all 0 (R248,
R257). -/
def State.commitIdle (s : State) : State :=
  let l := s.logic
  let q := if l.fault then 0 else forced l.forces 1 (if l.qHeld then l.img.q else 0)
  s.commit q 0 (s.stamp 17) s.now

/-! ## Forces (R250) -/

/-- A force entry is orphaned: on a Q, M or Y bit that no instruction of the active program writes. -/
def LogicBlk.orphan (l : LogicBlk) (f : Nat × Nat × Bool) : Bool :=
  [1, 2, 8].contains f.1 && !((l.prog.map (fun p => p.writes f.1 f.2.1)).getD false)

/-- FORCE_ORPHAN evaluated after a change of table or program: setting it raises INT_CAUSE.LOGIC. -/
def State.orphanCheck (s : State) (old : LogicBlk) : State :=
  let was := old.forces.filter old.orphan
  if s.logic.forces.any (fun f => s.logic.orphan f && !was.any (fun g => g.1 == f.1 && g.2.1 == f.2.1)) then
    s.raise intLOGIC
  else s

/-- A force table after LOG_FORCE's parameters. -/
def forceApply (b : Bytes) (fs : List (Nat × Nat × Bool)) : List (Nat × Nat × Bool) :=
  let area := byteAt b 1
  let x := le16 b 2
  let same (f : Nat × Nat × Bool) : Bool := f.1 == area && f.2.1 == x
  let e := (area, x, byteAt b 4 == 1)
  match byteAt b 0 with
  | 0 => if fs.any same then fs.map (fun f => if same f then e else f) else fs ++ [e]
  | 1 => fs.filter (fun f => !same f)
  | _ => []

/-- The force table once every change waiting has applied. -/
def LogicBlk.forcesNext (l : LogicBlk) : List (Nat × Nat × Bool) :=
  l.changes.foldl (fun fs c => match c with | .force b _ => forceApply b fs | _ => fs) l.forces

/-! ## Changes that apply at a scan start (R244 step 2, R252 to R255, R258) -/

/-- Makes a program active, and stores it (R252; log 16). -/
def State.useProg (s : State) (g : Prog) : State :=
  { s with logic.prog := some g, cfg.logProg := some g.raw, stored.logProg := some g.raw }

/-- Applies one change at time base `tb`: the state, and the path that completes with its response. -/
def State.logicApply (s : State) (tb : Nat) (stamp : Stamp) (c : LogicChange) : State × List (Path × Bytes) :=
  let l := s.logic
  match c with
  | .exchange p =>
    match l.staged with
    | none => (s, [(p, stamp.bytes)])
    | some g =>
      let x := exchangeAreas l.prog g l.forces tb l.img
      let s := State.useProg { s with logic := { l with
        staged := none, img := x.1, firstExch := true, exchanges := inc32 l.exchanges } } g
      let s := s.orphanCheck l
      let orphans := (s.logic.forces.filter s.logic.orphan).length
      (s, [(p, stamp.bytes ++ leBytes 2 x.2.1 ++ leBytes 2 x.2.2 ++ leBytes 2 orphans)])
  | .restart cold p =>
    let ret := match l.prog with
      | some g => l.img.retain g 0
      | none => { seq := 0, m := 0, t := [], c := [] }
    let s := { s with logic := { l with
      img := restartAreas l.prog cold ret, first := if cold then 1 else 2, retFix := true } }
    let s := s.firnEv 0x0904 (leBytes 1 2 ++ leBytes 1 (b2n cold) ++ leBytes 1 l.mode.code ++ leBytes 1 0)
    (s, [(p, stamp.bytes)])
  | .force b p =>
    let fs := forceApply b l.forces
    let s := { s with logic := { l with forces := fs } }
    let s := if fs == l.forces then s else
      s.firnEv 0x0903 (leBytes 4 (le16 b 2) ++ leBytes 1 (byteAt b 1) ++ leBytes 1 (byteAt b 0) ++
        leBytes 1 (byteAt b 4))
    let s := s.orphanCheck l
    let mine := s.logic.forces.any (fun f => f.1 == byteAt b 1 && f.2.1 == le16 b 2 && s.logic.orphan f)
    (s, [(p, stamp.bytes ++ leBytes 2 fs.length ++ leBytes 1 (b2n mine))])
  | .period b p => ({ s with logic := { l with period := le32 b 0 } }, [(p, stamp.bytes)])

/-- Applies changes in acceptance order (R17). -/
def State.logicApplyAll (s : State) (tb : Nat) (stamp : Stamp) (cs : List LogicChange) :
    State × List (Path × Bytes) :=
  cs.foldl (fun x c => let r := x.1.logicApply tb stamp c; (r.1, x.2 ++ r.2)) (s, [])

/-- Completes the paths of changes that have applied. -/
def State.logicDone (s : State) (l : List (Path × Bytes)) : State :=
  l.foldl (fun s x => s.complete x.1 stOK x.2) s

/-- A change where no scans run applies when accepted (R252, R255), and every waiting one with it. -/
def State.logicFlush (s : State) : State :=
  let cs := s.logic.changes
  if cs.isEmpty then s
  else
    let r := State.logicApplyAll { s with logic.changes := [] } s.logic.tbLast (s.stamp 17) cs
    r.1.commitIdle.logicDone r.2

/-- Accepts a change: at the next scan start, or at once where no scans run (R16, R252, R255). -/
def State.logicChange (s : State) (c : LogicChange) : State :=
  { s with logic.changes := s.logic.changes ++ [c] }

/-! ## Modes (R248, R249) -/

/-- A change of mode with its record; `cause`: 0 command, 1 module state change, 2 module reset (R378). Leaving RUN
freezes tb and fixes the outputs; entering RUN starts the schedule anew. -/
def State.logicMode (s : State) (m : LogicMode) (cause : Nat) (path : Option Path) : State :=
  let old := s.logic.mode
  let s := if old == m then s else
    let s := if old == .hold then s.finish 11 else s
    let s := if m == .hold then s.begin 11 path else s
    if m == .run then
      { s with logic := { s.logic with mode := m, sched := s.now, schedTick := s.time.ticks } }
    else
      let held := m == .hold || byteAt s.cfg.logCfg 5 = 1
      let s := { s with logic := { s.logic with mode := m, frozen := true, qHeld := held } }
      if s.logic.changes.isEmpty then s.commitIdle else s.logicFlush
  if old == m && cause ≠ 0 then s
  else s.firnEv 0x0904 (leBytes 1 1 ++ leBytes 1 m.code ++ leBytes 1 old.code ++ leBytes 1 cause)

/-- What entering CONFIGURE does to the engine: its start mode, with a stored program (R248). -/
def State.logicConfigure (s : State) (cause : Nat) : State :=
  if s.logic.fault then s
  else s.logicMode (if byteAt s.cfg.logCfg 4 = 1 && s.logic.prog.isSome then .run else .stop) cause none

/-- LOGIC_FAULT: FAULT, STOP, and every output at 0 until a module reset (R257). Which word failed is not an
operand of the row: the record carries a free value (log 2). -/
def State.logicFault (s : State) (word area : Nat) : State :=
  if s.logic.fault then s
  else
    let s := if s.logic.mode == .hold then s.finish 11 else s
    let s := { s with logic := { s.logic with fault := true, mode := .stop, frozen := true } }
    let s := if s.logic.changes.isEmpty then s.commitIdle else s.logicFlush
    (s.firnEv 0x0905 (leBytes 4 word ++ leBytes 1 area)).raise intLOGIC

/-- The engine's own self-check fails (R257). -/
def State.logicFaultNow (s : State) : State :=
  if s.power.on.contains .logic then
    let w := s.draw
    let a := w.2.draw
    a.2.logicFault (w.1 % 65536) (a.1 % 3)
  else s

/-! ## Program memory (R252, R253) -/

/-- The partial image, none once it has been idle for 10 s (R253). -/
def State.partImage (s : State) : Option PartImage :=
  match s.logic.part with
  | some x => if s.now < x.lastAt + 10000000000 then some x else none
  | none => none

/-- LOG_LOAD_IDLE_DISCARD: 10 s without a segment (R253). -/
def execLogLoadIdleDiscard (s : State) : Out :=
  .next (match s.logic.part with
    | some x => { (s.clockTo (x.lastAt + 10000000000)) with logic.part := none }
    | none => s)

/-- An exchange is pending. -/
def LogicBlk.exchanging (l : LogicBlk) : Bool :=
  l.changes.any (fun c => match c with | .exchange _ => true | _ => false)

/-- LOG_LOAD (R253). -/
def cmdLogLoad : Cmd where
  opcode := 0x0901
  param _ _ r :=
    byteAt r.params 0 < 4 && zeroAt r.params 1 3 && restZero r 8 && le32 r.params 4 % 4 == 0 && r.xp &&
      r.region.length % 4 == 0 && !r.region.isEmpty && r.region.length ≤ 65472 &&
      (!(byteAt r.params 0).testBit 0 || le32 r.params 4 == 0)
  busy s p _ :=
    if s.logic.exchanging then stBUSY
    else match s.partImage with
      | some x => if x.path = p then 0 else stBUSY
      | none => 0
  body p e s :=
    let b := e.req.params
    let start : Option Bytes :=
      if (byteAt b 0).testBit 0 then some []
      else match s.partImage with
        | some x => if x.bytes.length = le32 b 4 then some x.bytes else none
        | none => none
    match start with
    | none => .done { s with logic.part := none } stBAD_PARAM [] none
    | some old =>
      let img := old ++ e.req.region
      if !(byteAt b 0).testBit 1 then
        .done { s with logic := { s.logic with part := some { path := p, bytes := img, lastAt := s.now }, staged := none } }
          stOK (leBytes 4 img.length) none
      else
        let s := { s with logic.part := none }
        match checkImage img with
        | .ok g =>
          .done { s with logic.staged := some g } stOK
            (leBytes 4 g.wcet ++ leBytes 1 (b2n (decide (s.logic.period * 1000 < g.wcet)))) none
        | .error f => .done s stBAD_PARAM (zeros 5 ++ leBytes 1 f.1 ++ leBytes 4 f.2) none

/-- LOG_LOAD (R253). -/
def execLogLoad (p : Path) (s : State) : Out := .next (s.run cmdLogLoad p)

/-- A command whose change waits for a scan start, or has applied. -/
def logicAccept (p : Path) (s : State) (c : LogicChange) : CmdResult :=
  if s.scanning then .wait (s.logicChange c)
  else
    let r := s.logicApply s.logic.tbLast (s.stamp 17) c
    .done r.1.commitIdle stOK ((r.2.find? (fun x => x.1 = p)).map (·.2) |>.getD []) none

/-- LOG_EXCHANGE (R252). -/
def cmdLogExchange : Cmd where
  opcode := 0x0902
  param _ _ r := restZero r 0
  state s _ _ := if s.logic.staged.isSome then 0 else stSTATE
  busy s _ _ := if s.logic.exchanging then stBUSY else 0
  body p _ s := logicAccept p { s with logic.part := none } (.exchange p)

/-- LOG_EXCHANGE (R252). -/
def execLogExchange (p : Path) (s : State) : Out := .next (s.run cmdLogExchange p)

/-- LOG_MODE (R248): a scan is one step of the model, so a change never meets a running one. -/
def cmdLogMode : Cmd where
  opcode := 0x0903
  param _ _ r := byteAt r.params 0 ≤ 2 && restZero r 1
  state s _ r :=
    if s.logic.fault then stFAULT
    else match byteAt r.params 0 with
      | 0 => if s.logic.prog.isSome then 0 else stSTATE
      | 1 => 0
      | _ => if s.mod.state = 1 || s.mod.state = 3 then 0 else stSTATE
  body p e s :=
    let m : LogicMode := match byteAt e.req.params 0 with
      | 0 => .run
      | 1 => if s.logic.mode == .hold then .hold else .stop
      | _ => .hold
    .done (s.logicMode m 0 (some p)) stOK (s.stamp 17).bytes none

/-- LOG_MODE (R248). -/
def execLogMode (p : Path) (s : State) : Out := .next (s.run cmdLogMode p)

/-- LOG_FORCE (R250). -/
def cmdLogForce : Cmd where
  opcode := 0x0905
  param _ _ r :=
    byteAt r.params 0 ≤ 2 && restZero r 5 &&
      (byteAt r.params 0 == 2 ||
        [0, 1, 2, 5, 8].contains (byteAt r.params 1) && le16 r.params 2 < areaSize (byteAt r.params 1) &&
          byteAt r.params 4 ≤ 1)
  state s _ r := if (forceApply r.params s.logic.forcesNext).length ≤ 256 then 0 else stNO_RESOURCE
  body p e s := logicAccept p s (.force e.req.params p)

/-- LOG_FORCE (R250). -/
def execLogForce (p : Path) (s : State) : Out := .next (s.run cmdLogForce p)

/-- LOG_CFG (R258). -/
def cmdLogCfg : Cmd where
  opcode := 0x0906
  param _ _ r :=
    50 ≤ le32 r.params 0 && le32 r.params 0 ≤ 100000 && byteAt r.params 4 ≤ 1 && byteAt r.params 5 ≤ 1 &&
      byteAt r.params 6 ≤ 1 && restZero r 7
  body p e s :=
    let b := slice e.req.params 0 8
    logicAccept p { s with cfg.logCfg := b, stored.logCfg := b } (.period b p)

/-- LOG_CFG (R258). -/
def execLogCfg (p : Path) (s : State) : Out := .next (s.run cmdLogCfg p)

/-- LOG_RESTART (R255). -/
def cmdLogRestart : Cmd where
  opcode := 0x0907
  param _ _ r := byteAt r.params 0 ≤ 1 && restZero r 1
  state s _ _ := if s.logic.fault then stFAULT else 0
  body p e s := logicAccept p s (.restart (byteAt e.req.params 0 == 1) p)

/-- LOG_RESTART (R255). -/
def execLogRestart (p : Path) (s : State) : Out := .next (s.run cmdLogRestart p)

/-- LOG_STATUS's 64 bytes (R258). -/
def State.logStatus (s : State) : Bytes :=
  let l := s.logic
  let g (f : Prog → Nat) : Nat := (l.prog.map f).getD 0
  leBytes 1 l.mode.code ++
    leBytes 1 (b2n l.fault + 2 * b2n l.prog.isSome + 4 * b2n l.staged.isSome + 8 * b2n l.exchanging +
      16 * b2n (!l.forces.isEmpty) + 32 * b2n (l.forces.any l.orphan) + 64 * b2n (decide (l.period * 1000 < g Prog.wcet))) ++
    leBytes 2 l.forces.length ++ leBytes 4 (g Prog.progId) ++ leBytes 4 (g Prog.crc) ++ leBytes 4 l.period ++
    leBytes 4 (g Prog.wcet) ++ leBytes 4 l.last ++ leBytes 4 l.longest ++ leBytes 4 l.scans ++ leBytes 4 l.overruns ++
    leBytes 4 l.inFaults ++ leBytes 4 l.users ++ l.start.bytes ++ leBytes 2 l.code ++ leBytes 4 l.exchanges ++ zeros 8

/-- LOG_STATUS (R258): reading and clearing are one step. -/
def cmdLogStatus : Cmd where
  opcode := 0x0908
  param _ p r := clearOk p (byteAt r.params 0) && restZero r 1
  xpNeed _ _ := 64
  body _ e s :=
    .done (if byteAt e.req.params 0 = 1 then
        { s with logic := { s.logic with longest := 0, scans := 0, overruns := 0, inFaults := 0, users := 0 } } else s)
      stOK [] (some s.logStatus)

/-- LOG_STATUS (R258). -/
def execLogStatus (p : Path) (s : State) : Out := .next (s.run cmdLogStatus p)

/-- Bits packed from bit 0 of the first byte. -/
def packBits : Nat → List Bool → Bytes
  | 0, _ => []
  | n + 1, l => BitVec.ofNat 8 (((l.take 8).zipIdx).foldl (fun a x => a + b2n x.1 * 2 ^ x.2) 0) :: packBits n (l.drop 8)

/-- A timer's entry of LOG_READ. -/
def LogicBlk.timerEntry (l : LogicBlk) (k : Nat) : Bytes :=
  let t := l.img.t.getD k {}
  let d := (l.prog.map (fun p => p.insns.any (fun i => definesT i && i.addr == k))).getD false
  leBytes 4 t.el ++ leBytes 4 t.preset ++ leBytes 1 (b2n t.out + 2 * b2n t.p + 4 * b2n t.run + 8 * b2n d) ++ zeros 3

/-- A counter's entry of LOG_READ. -/
def LogicBlk.counterEntry (l : LogicBlk) (k : Nat) : Bytes :=
  let c := l.img.c.getD k {}
  let d := (l.prog.map (fun p => p.insns.any (fun i => definesC i && i.addr == k))).getD false
  leInt 4 c.count ++ leInt 4 c.preset ++ leBytes 1 (b2n c.out + 2 * b2n (c.prev.getD false) + 8 * b2n d) ++ zeros 3

/-- LOG_READ (R258). -/
def cmdLogRead : Cmd where
  opcode := 0x0909
  param _ _ r :=
    let a := byteAt r.params 0
    let n := le16 r.params 4
    a ≤ 9 && byteAt r.params 1 == 0 && restZero r 6 && 1 ≤ n && n ≤ (if a = 3 || a = 4 then 256 else 8192) &&
      le16 r.params 2 + n ≤ areaSize a
  xpNeed _ r :=
    let n := le16 r.params 4
    if byteAt r.params 0 = 3 || byteAt r.params 0 = 4 then 12 * n else ceilDiv n 8
  body _ e s :=
    let a := byteAt e.req.params 0
    let first := le16 e.req.params 2
    let ks := (List.range (le16 e.req.params 4)).map (fun i => first + i)
    let l := s.logic
    .done s stOK [] (some
      (if a = 3 then ks.flatMap l.timerEntry
       else if a = 4 then ks.flatMap l.counterEntry
       else packBits (ceilDiv ks.length 8) (ks.map (fun k => l.img.read l.forces a k))))

/-- LOG_READ (R258). -/
def execLogRead (p : Path) (s : State) : Out := .next (s.run cmdLogRead p)

/-- LOG_FORCE_READ (R258). -/
def cmdLogForceRead : Cmd where
  opcode := 0x090A
  param _ _ r := restZero r 0
  xpNeed _ _ := 2048
  body _ _ s :=
    let l := s.logic
    .done s stOK [] (some (padTo 2048 (l.forces.flatMap (fun f =>
      leBytes 1 (1 + 2 * b2n (l.orphan f)) ++ leBytes 1 f.1 ++ leBytes 2 f.2.1 ++ leBytes 1 (b2n f.2.2) ++ zeros 3))))

/-- LOG_FORCE_READ (R258). -/
def execLogForceRead (p : Path) (s : State) : Out := .next (s.run cmdLogForceRead p)

end Machine
end Sys2Proof
end

