-- ==== Sys2Proof/Machine/Brio.lean ====
section
/-! DEFINITION. Remote I/O on the 10BASE-T1S segment of P8: cycles, frames, stations and their commands
(chapter 12). -/

namespace Sys2Proof
namespace Machine

/-! ## Settings and counters -/

/-- Settings in force: mode, out_wd, segment_id (R272). -/
def State.brioMode (s : State) : Nat := byteAt s.brio.seg 0
def State.brioId (s : State) : Nat := le16 s.brio.seg 2

/-- The segment is on: a segment_id other than 0 is in force (R272). -/
def State.brioOn (s : State) : Bool := s.brioId != 0 && s.power.on.contains .logic

/-- Adds one to a segment counter, by its place in BRIO_SEG_STATUS (R272, R291). -/
def State.segCount (s : State) (i : Nat) : State :=
  let v := inc32 (s.brio.counts.getD i 0)
  State.counted { s with brio.counts := s.brio.counts.set i v } v 0x0A06 (12 + 4 * i) 0

/-- A station as it runs. -/
def State.station (s : State) (k : Nat) : BrioStation := s.brio.stations.getD k {}

/-- Replaces it. -/
def State.setStation (s : State) (k : Nat) (x : BrioStation) : State :=
  { s with brio.stations := s.brio.stations.set k x }

/-- Adds one to a counter of BRIO_STATS, by its place there (R272, R291). -/
def State.stationCount (s : State) (k i : Nat) : State :=
  let x := s.station k
  let v := inc32 (x.counts.getD i 0)
  (s.setStation k { x with counts := x.counts.set i v }).counted v 0x0A05 (4 * i) k

/-- Changes a station's state with its record (R268): into or out of RUN, LOST or MISMATCH. -/
def State.stationTo (s : State) (k new reason : Nat) : State :=
  let x := s.station k
  let s := s.setStation k { x with state := new, reason := if new = 5 then reason else 0 }
  if x.state = new then s
  else
    let s := if 3 ≤ x.state || 3 ≤ new then
        s.firnEv 0x0A01 (leBytes 1 k ++ leBytes 1 x.state ++ leBytes 1 new ++ leBytes 1 reason) else s
    if x.state = 3 && 4 ≤ new then s.inputFault else s

/-! ## Inputs and outputs (R264, R269) -/

/-- Fields of a station record (R271). -/
def stIdent (b : Bytes) : Nat := le32 b 4
def stIn (b : Bytes) : Nat := le16 b 8
def stOut (b : Bytes) : Nat := le16 b 10
def stSubst (b : Bytes) (i : Nat) : Nat := byteAt b (16 + i / 4) / 4 ^ (i % 4) % 4

/-- A station record is in range (R271). -/
def stationRecOk (b : Bytes) : Bool :=
  byteAt b 0 ≤ 7 &&
    (if byteAt b 1 = 0 then zeroAt b 2 30
     else byteAt b 1 == 1 && zeroAt b 2 2 && stIn b % 64 == 0 && stIn b ≤ 8128 && stOut b % 64 == 0 && stOut b ≤ 8128 &&
      zeroAt b 12 4 && (List.range 64).all (fun i => stSubst b i ≤ 2))

/-- The I bits a station drives, by index: its inputs, or the substitute where the station is not in RUN or the
point is faulty (R269). -/
def State.stationInputs (s : State) (k : Nat) (b : Bytes) : List (Nat × Bool) :=
  let x := s.station k
  (List.range 64).map (fun i =>
    let v := x.held.getLsbD i
    let live := x.state == 3 && !x.faults.getLsbD i
    (stIn b + i, if live then v else match stSubst b i with | 1 => false | 2 => true | _ => v))

/-- A 16-bit and a 32-bit field in network order. -/
def be16 (n : Nat) : Bytes := leBytes 1 (n / 256) ++ leBytes 1 n
def be32 (n : Nat) : Bytes := (leBytes 4 n).reverse
def rdBe16 (b : Bytes) (i : Nat) : Nat := 256 * byteAt b i + byteAt b (i + 1)
def rdBe32 (b : Bytes) (i : Nat) : Nat := 65536 * rdBe16 b i + rdBe16 b (i + 2)

/-- The payload of a CYCLE frame: the committed Q bits of every configured station (R263, R264). -/
def State.cyclePayload (s : State) (cycle : Nat) : Bytes :=
  let recs := s.cfg.tables.stations
  let valid := if s.logic.fault then 0 else recs.foldl (fun a x => a + 2 ^ x.1) 0
  let outs (k : Nat) : Bytes := match recs.get? k with
    | some b => leBytes 8 ((s.logic.qOut >>> stOut b).toNat % 2 ^ 64)
    | none => zeros 8
  [1, 1] ++ be16 s.brioId ++ be32 cycle ++ [0xF0] ++ leBytes 1 (byteAt s.brio.seg 1) ++ zeros 6 ++ be16 valid ++ zeros 2 ++
    (List.range 8).flatMap outs

/-- The module transmits a BRIO frame on P8 (R259, R292): 18 bytes of header and FCS around the payload. -/
def State.brioSend (s : State) (b : Bytes) : State :=
  let s := if (s.port 7).up then s.txCount 7 (b.length + 18) 0x034252494F00 0 false else s
  { s with brio.sent := some b }

/-! ## The cycle (R260 to R262, R270) -/

/-- The next cycle start: its instant and its cycle number (R262). -/
def State.nextCycle (s : State) : Option (Nat × Nat) :=
  (s.time.schedAfter 1000 s.brio.sched).map (fun r => (r.1, (r.2.1 * 1000 + r.2.2) % 4294967296))

/-- A cycle begins to be counted: every station's verdict is open. -/
def State.openCycle (s : State) (number start : Nat) : State :=
  let s := { s with brio := { s.brio with
    cur := some (number, start), closed := false, aborted := false, attempts := 0, backoff := none
    stations := s.brio.stations.mapV (fun _ x => { x with got := false, identBad := false }) } }
  s.segCount 0

/-- BRIO_CYCLE_START: the unit that runs the segment sends the CYCLE of the next cycle start (R262). -/
def execBrioCycleStart (seg : Nat) (s : State) : Out := s.onPath <|
  .next (if seg = 0 && s.brioOn && s.brio.running && s.mod.bridle then
      match s.nextCycle with
      | some (due, number) =>
        let s := s.clockTo due
        let s := State.openCycle { s with brio.sched := due } number due
        s.brioSend (s.cyclePayload number)
      | none => s
    else s)

/-- BRIO_CYCLE_ABORT: 400 µs after the cycle start the CYCLE has not gone out (R261). A CYCLE that a station has
answered did go out. -/
def execBrioCycleAbort (seg : Nat) (s : State) : Out :=
  .next (match s.brio.cur with
    | some (_, start) =>
      if seg = 0 && s.brio.running && !s.brio.closed && !s.brio.aborted && !s.brio.stations.any (fun x => x.2.got) then
        let s := s.clockTo (start + 400000)
        State.segCount { s with brio := { s.brio with aborted := true, backoff := none, sent := none } } 1
      else s
    | none => s)

/-- A frame attempt failed: the sixteenth abandons it (R261). -/
def State.collide (s : State) (b : Bytes) : State :=
  let s := { s.segCount 2 with brio.sent := none }
  let n := s.brio.attempts + 1
  if 16 ≤ n then
    State.segCount { s with brio := { s.brio with attempts := n, backoff := none, aborted := true } } 3
  else
    let d := s.draw
    let slots := d.1 % 2 ^ min n 10
    { d.2 with brio := { d.2.brio with attempts := n, backoff := some (d.2.now + 51200 * slots, b) } }

/-- P8_COLLISION: the module's transmission meets a collision in CSMA/CD mode; the back-off is a random number of
slots (R261; log 2). -/
def execP8Collision (seg : Nat) (s : State) : Out :=
  .next (match s.brio.sent with
    | some b =>
      if seg = 0 && s.brioMode = 1 && s.brio.running && !s.brio.closed && s.brio.backoff.isNone then s.collide b else s
    | none => s)

/-- P8_BACKOFF_EXPIRY: the frame is sent again (R261). -/
def execP8BackoffExpiry (seg : Nat) (s : State) : Out :=
  .next (match s.brio.backoff with
    | some (due, b) =>
      if seg = 0 && s.brio.running then
        let s := s.clockTo due
        State.brioSend { s with brio.backoff := none } b
      else s
    | none => s)

/-- BRIO_SEGMENT_TAKE: a unit that holds the Bridle runs the segment from the first cycle start after 2 ms without a
beacon or a CYCLE (R270). -/
def execBrioSegmentTake (seg : Nat) (s : State) : Out := s.onPath <|
  .next (if seg = 0 && s.brioOn && s.mod.bridle && !s.brio.running then
      let quiet := match s.brio.heard with | some t => t + 2000000 | none => 0
      match s.time.schedAfter 1000 (max s.brio.sched (max (quiet - 1) (s.now - 1))) with
      | some r =>
        let s := s.clockTo r.1
        { s with brio := { s.brio with running := true, sched := r.1 - 1 } }
      | none => s
    else s)

/-! ## Received frames (R263, R265, R267, R270) -/

/-- The header's checks: none where the frame is to be judged, else the segment counter of its discard. -/
def State.brioHeader (s : State) (type : Nat) (b : Bytes) (len : Nat) : Option Nat :=
  if b.length < len || byteAt b 0 != 1 || byteAt b 1 != type then some 5
  else if rdBe16 b 2 != s.brioId then some 6
  else none

/-- A valid INPUT: inputs written in one step; points that are faulty keep their last good value (R267, R269). -/
def State.brioApply (s : State) (k : Nat) (b : Bytes) : State :=
  let x := s.station k
  let ins := BitVec.ofNat 64 (le64 b 16)
  let faults := BitVec.ofNat 64 (le64 b 24)
  let status := rdBe16 b 32 % 8
  let s := s.setStation k { x with
    got := true, held := (x.held &&& faults) ||| (ins &&& ~~~faults), faults := faults, status := status
    cycle := rdBe32 b 4, rx := s.stamp 1 }
  let s := s.stationCount k 0
  let s := if faults == 0 then s else s.stationCount k 6
  if status.testBit 1 then s.stationCount k 7 else s

/-- BRIO_INPUT_RECEIVE: an INPUT frame judged by its receive stamp (R267). -/
def execBrioInputReceive (seg dst _src : Nat) (b : Bytes) (at_ : Nat) (s : State) : Out := s.onPath <|
  let s := s.clockTo at_
  .next (if seg != 0 || !s.brioOn || dst != 0x034252494F01 then s
    else match s.brioHeader 2 b 46 with
      | some i => s.segCount i
      | none =>
        let k := byteAt b 8
        match s.cfg.tables.stations.get? k with
        | none => s.segCount 5
        | some r =>
          let j := s.inject 0x0A k 0
          let s := j.2
          if j.1 then s
          else match s.brio.cur with
            | none => s.stationCount k 3
            | some (number, start) =>
              if rdBe32 b 4 != number then s.stationCount k 3
              else if start + 950000 < s.now then s.stationCount k 2
              else if (s.station k).got then s.stationCount k 3
              else if stIdent r != 0 && rdBe32 b 10 != stIdent r then
                (s.setStation k { s.station k with identBad := true }).stationCount k 4
              else s.brioApply k b)

/-- BRIO_CYCLE_RECEIVE: a listener counts the cycle; the unit that runs the segment finds a second master (R267,
R270). -/
def execBrioCycleReceive (seg src : Nat) (b : Bytes) (at_ : Nat) (s : State) : Out := s.onPath <|
  let s := s.clockTo at_
  .next (if seg != 0 || !s.brioOn then s
    else match s.brioHeader 1 b 84 with
      | some i => s.segCount i
      | none =>
        if s.brio.running then
          if src = portMac 7 then s else (s.segCount 7).firnEv 0x0A02 (zeros 8)
        else
          let s := { s with brio.heard := some s.now }
          let number := rdBe32 b 4
          let start := match s.time.schedAt 1000 s.now with | some r => r.1 | none => s.now
          match s.brio.cur with
          | some (n, _) => if n = number then s else State.openCycle { s with brio.sched := start } number start
          | none => State.openCycle { s with brio.sched := start } number start)

/-- BRIO_STATUS's record of a station (R272). -/
def BrioStation.bytes (x : BrioStation) : Bytes :=
  leBytes 1 x.state ++ leBytes 1 x.reason ++ leBytes 1 (min 255 x.misses) ++ leBytes 1 x.status ++ leBytes 4 x.cycle ++
    x.rx.bytes ++ zeros 2

/-- The states of all stations at a cycle end; a station not configured is OFF. -/
def State.brioSnap (s : State) : State :=
  { s with brio.snap := (List.range 8).flatMap (fun k =>
      match s.brio.stations.get? k with | some x => x.bytes | none => zeros 16) }

/-- The verdict on one station as its window closes (R267, R268). -/
def State.judgeStation (s : State) (k : Nat) : State :=
  let x := s.station k
  if x.got then
    let s := s.setStation k { x with misses := 0, good := min 255 (x.good + 1) }
    if 3 ≤ x.good + 1 && x.state != 3 then s.stationTo k 3 0 else s
  else
    let s := s.setStation k { x with misses := min 255 (x.misses + 1), good := 0 }
    let s := s.stationCount k 1
    if x.state = 3 && 3 ≤ x.misses + 1 then
      if x.identBad then s.stationTo k 5 7 else (s.stationCount k 5).stationTo k 4 0
    else s

/-- BRIO_WINDOW_CLOSE: 950 µs after the start of a counted cycle every station is judged (R262, R267, R268). -/
def execBrioWindowClose (seg : Nat) (s : State) : Out := s.onPath <|
  .next (match s.brio.cur with
    | some (_, start) =>
      if seg = 0 && !s.brio.closed then
        let s := s.clockTo (start + 950000)
        let s := { s with brio.closed := true }
        (s.brio.stations.foldl (fun s x => s.judgeStation x.1) s).brioSnap
      else s
    | none => s)

/-! ## Commit and commands (R271, R272) -/

/-- Station changes at a commit, from the records before (R268, R271): a new I range takes substitutes until the
next valid INPUT, as faulty points do. -/
def State.brioCommit (s : State) (old : Tbl Bytes) : State :=
  let s := { s with brio.seg := s.cfg.brioSeg }
  let one (s : State) (k : Nat) : State :=
    match old.get? k, s.cfg.tables.stations.get? k with
    | some _, none =>
      let s := s.stationTo k 0 0
      { s with brio.stations := s.brio.stations.del k }
    | none, some _ => s.setStation k {}
    | some a, some b =>
      let s := if stIn a = stIn b then s else s.setStation k { s.station k with faults := BitVec.allOnes 64 }
      if stIdent a = stIdent b then s
      else
        let s := s.stationTo k 1 0
        s.setStation k { s.station k with misses := 0, good := 0 }
    | none, none => s
  ((List.range 8).foldl one s).brioSnap

/-- BRIO_SEG_CFG (R272): applies at the next commit (R271). -/
def cmdBrioSegCfg : Cmd where
  opcode := 0x0A01
  param _ _ r := byteAt r.params 0 ≤ 1 && 3 ≤ byteAt r.params 1 && byteAt r.params 1 ≤ 100 && restZero r 4
  body _ e s :=
    let b := slice e.req.params 0 4
    .done { s with cfg.brioSeg := b, stored.brioSeg := b } stOK [] none

/-- BRIO_SEG_CFG (R272). -/
def execBrioSegCfg (p : Path) (s : State) : Out := .next (s.run cmdBrioSegCfg p)

/-- BRIO_STAGE (R271). -/
def cmdBrioStage : Cmd where
  opcode := 0x0A02
  param _ _ r := 1 ≤ byteAt r.params 0 && byteAt r.params 0 ≤ 8 && restZero r 1 && recsOk 32 (byteAt r.params 0) r stationRecOk
  body _ e s :=
    let recs := regionRecs 32 (byteAt e.req.params 0) e.req
    let t := s.staged
    .done (s.setStaged { t with
      stations := recs.foldl (fun x b => putRec x (byteAt b 0) (byteAt b 1 == 1) b) t.stations }) stOK (leBytes 2 recs.length) none

/-- BRIO_STAGE (R271). -/
def execBrioStage (p : Path) (s : State) : Out := .next (s.run cmdBrioStage p)

/-- BRIO_READ (R272): a free record has every byte after its station 0. -/
def cmdBrioRead : Cmd where
  opcode := 0x0A03
  param _ _ r := byteAt r.params 0 ≤ 7 && byteAt r.params 1 ≤ 1 && restZero r 2
  xpNeed _ _ := 32
  body _ e s :=
    let k := byteAt e.req.params 0
    let t := (s.tablesOf (byteAt e.req.params 1)).stations
    .done s stOK [] (some ((t.get? k).getD (leBytes 1 k ++ zeros 31)))

/-- BRIO_READ (R272). -/
def execBrioRead (p : Path) (s : State) : Out := .next (s.run cmdBrioRead p)

/-- BRIO_STATUS (R272). -/
def cmdBrioStatus : Cmd where
  opcode := 0x0A04
  param _ _ r := restZero r 0
  xpNeed _ _ := 128
  body _ _ s := .done s stOK [] (some s.brio.snap)

/-- BRIO_STATUS (R272). -/
def execBrioStatus (p : Path) (s : State) : Out := .next (s.run cmdBrioStatus p)

/-- BRIO_STATS (R272): reading and clearing are one step. -/
def cmdBrioStats : Cmd where
  opcode := 0x0A05
  param _ p r := byteAt r.params 0 ≤ 7 && clearOk p (byteAt r.params 1) && restZero r 2
  xpNeed _ _ := 32
  body _ e s :=
    let k := byteAt e.req.params 0
    let x := s.station k
    let s := if byteAt e.req.params 1 = 1 && (s.brio.stations.get? k).isSome then s.setStation k { x with counts := [] } else s
    .done s stOK [] (some ((List.range 8).flatMap (fun i => leBytes 4 (x.counts.getD i 0))))

/-- BRIO_STATS (R272). -/
def execBrioStats (p : Path) (s : State) : Out := .next (s.run cmdBrioStats p)

/-- A beacon is on the wire: this unit coordinates, or a CYCLE was heard within 2 ms (R261, R270). -/
def State.beaconSeen (s : State) : Bool :=
  s.brioMode == 0 && s.brioOn && (s.brio.running || match s.brio.heard with | some t => s.now < t + 2000000 | none => false)

/-- BRIO_SEG_STATUS (R272). -/
def cmdBrioSegStatus : Cmd where
  opcode := 0x0A06
  param _ _ r := byteAt r.params 0 ≤ 1 && restZero r 1
  xpNeed _ _ := 32
  body _ e s :=
    .done (if byteAt e.req.params 0 = 1 then { s with brio.counts := [] } else s) stOK
      (leBytes 1 s.brioMode ++ leBytes 1 (b2n s.brio.running + 2 * b2n s.beaconSeen) ++ leBytes 2 s.brioId)
      (some ((List.range 8).flatMap (fun i => leBytes 4 (s.brio.counts.getD i 0))))

/-- BRIO_SEG_STATUS (R272). -/
def execBrioSegStatus (p : Path) (s : State) : Out := .next (s.run cmdBrioSegStatus p)

end Machine
end Sys2Proof
end

