-- ==== Sys2Proof/Machine/Rtc.lean ====
section
/-! DEFINITION. The real-time clock: counting, loads, alignment, trim, its registers with a read effect,
and its commands (chapter 16). -/

namespace Sys2Proof
namespace Machine

/-! ## Fields of RTC_CFG (R350) -/

def Cfg.trimSrc (c : Cfg) : Nat := byteAt c.rtc 0
def Cfg.rtcAlign (c : Cfg) : Bool := byteAt c.rtc 1 == 1
def Cfg.mainsWindow (c : Cfg) : Nat := byteAt c.rtc 3 * 86400
def Cfg.ptpWindow (c : Cfg) : Nat := le16 c.rtc 4
def Cfg.manualTrim (c : Cfg) : Int := int32 (le32 c.rtc 8)

/-! ## Counting (R338, R339) -/

/-- A leap year (R339). -/
def leapYear (y : Nat) : Bool := y % 4 == 0 && (y % 100 != 0 || y % 400 == 0)

/-- dim(month, year), with year counted from 2000 (R339). -/
def dim (month year : Nat) : Nat :=
  if month = 2 then (if leapYear (2000 + year) then 29 else 28)
  else if month = 4 || month = 6 || month = 9 || month = 11 then 30
  else 31

/-- The day, month and year after a midnight (R339). -/
def Calendar.nextDay (c : Calendar) : Calendar :=
  let d := c.day + 1
  let c := if dim c.month c.year < d then { c with day := 1, month := c.month + 1 } else { c with day := d }
  let c := if c.month = 0 then { c with month := 1 } else c
  if 12 < c.month then { c with month := 1, year := (c.year + 1) % 256 } else c

/-- The counters after a second, and whether a midnight passed (R339). -/
def Calendar.tick (c : Calendar) : Calendar × Bool :=
  if c.sec + 1 < 60 then ({ c with sec := c.sec + 1 }, false)
  else if c.min + 1 < 60 then ({ c with sec := 0, min := c.min + 1 }, false)
  else if c.hour + 1 < 24 then ({ c with sec := 0, min := 0, hour := c.hour + 1 }, false)
  else ({ c with sec := 0, min := 0, hour := 0, wday := (c.wday + 1) % 7 }.nextDay, true)

/-- The trim accumulator and the length of the next second (R338). -/
def trimStep (acc trim : Int) : Int × Nat :=
  let a := acc + trim
  let ext := a / 16777216
  (a - ext * 16777216, (32768 + ext).toNat)

/-- An RTC event with its Firn record (R349, R378). -/
def State.rtcRecord (s : State) (bit : Nat) : State :=
  (s.rtcEvt bit).firnEv 0x1201 (leBytes 4 bit ++ leInt 4 s.rtc.trim)

/-- RTC_INVALID sets, with its event and record (R343, R349). -/
def State.rtcInvalidate (s : State) : State :=
  if s.rtc.invalid then s else { s with rtc.invalid := true }.rtcRecord 4

/-- Abandons a measurement window (R346). -/
def State.trimAbandon (s : State) : State :=
  match s.rtc.window with
  | some _ => { s with rtc.window := none }.rtcRecord 5
  | none => s

/-- Applies one load of RTC_SET to the counters that this boundary already advanced (R340, R344): a
date-and-time load replaces them and any advance of wday; a wday load sets wday. -/
def loadFields (before after : Calendar) (b : Bytes) : Calendar :=
  let flags := byteAt b 7
  let c := if flags.testBit 0 then
      { year := byteAt b 0, month := byteAt b 1, day := byteAt b 2, hour := byteAt b 3, min := byteAt b 4
        sec := byteAt b 5, wday := before.wday }
    else after
  if flags.testBit 1 then { c with wday := byteAt b 6 } else c

/-- A load of RTC_SET that is due is applied and its command completes (R344, R349, R350). -/
def State.rtcLoad (s : State) (before : Calendar) (l : Bytes × Nat × Path) : State :=
  let date := (byteAt l.1 7).testBit 0
  let s := { s with rtc := { s.rtc with
    cal := loadFields before s.rtc.cal l.1, invalid := s.rtc.invalid && !date } }
  (s.rtcRecord 2).complete l.2.2 stOK (s.stamp 17).bytes

/-- A new TRIM applies (R347). -/
def State.trimApply (s : State) (v : Int) : State :=
  { s with rtc := { s.rtc with trim := v, newTrim := none } }.rtcRecord 1

/-- RTC_SECOND_END: the counters advance or load, and the trim sets the next second's length; a new TRIM or
a new RTC_CFG that is at least 10 ms old applies (R338, R339, R344, R346, R347). -/
def execRtcSecondEnd (at_ : Nat) (s : State) : Out :=
  let s := s.clockTo at_
  let before := s.rtc.cal
  let step := before.tick
  let t := trimStep s.rtc.acc s.rtc.trim
  let due (x : Nat) : Bool := x + 10000000 ≤ s.now
  let loads := s.rtc.loads.filter (fun l => due l.2.1)
  let dated := loads.any (fun l => (byteAt l.1 7).testBit 0)
  let s := { s with rtc := { s.rtc with
    cal := step.1, acc := t.1, len := t.2, secStart := s.now
    loads := s.rtc.loads.filter (fun l => !due l.2.1) } }
  let s := if step.2 && !dated then s.rtcEvt 0 else s
  let s := loads.foldl (fun s l => s.rtcLoad before l) s
  let s := match s.rtc.newTrim with
    | some (v, x) => if due x then s.trimApply v else s
    | none => s
  .next (match s.rtc.cfgNew with
    | some (p, x, b) =>
      if due x then
        let s := ({ s with cfg.rtc := b, rtc.cfgNew := none }).trimAbandon
        let s := if byteAt b 0 = 0 then s.trimApply (int32 (le32 b 8)) else s
        s.complete p stOK (s.stamp 17).bytes
      else s
    | none => s)

/-! ## Alignment (R345) -/

/-- Days from 1970-01-01 to a date, for any month and day the counters can hold. -/
def daysOf (year month day : Int) : Int :=
  let y := if month ≤ 2 then year - 1 else year
  let m := if month ≤ 2 then month + 9 else month - 3
  y * 365 + y / 4 - y / 100 + y / 400 + (153 * m + 2) / 5 + day - 1 - 719468

/-- A calendar as UTC seconds since 1970. -/
def Calendar.seconds (c : Calendar) : Int :=
  daysOf (2000 + c.year) c.month c.day * 86400 + c.hour * 3600 + c.min * 60 + c.sec

/-- RTC minus UTC at an instant whose UTC second is `utc`, in microseconds (R345). -/
def RtcBlk.phase (r : RtcBlk) (at_ : Nat) (utc : Int) : Int :=
  (r.cal.seconds - utc) * 1000000 + ((at_ - r.secStart : Nat) : Int) / 1000

/-- RTC_ALIGN_COMPARE: at the second mark after LOCKED was entered, and every 64 s from then on (R345). -/
def execRtcAlignCompare (s : State) : Out :=
  .next (if s.cfg.rtcAlign && s.time.servo == .locked && 2 ≤ s.rtc.marksLocked && (s.rtc.marksLocked - 2) % 64 == 0 then
    let ph := s.rtc.phase s.time.cur.ns ((s.time.cur.sec : Int) - s.time.cur.utc)
    { s with rtc := { s.rtc with alignErr := satI32 ph, alignDue := s.rtc.alignDue || 2000 < ph.natAbs } }
    else s)

/-- The alignment load at a mark: the UTC calendar time of that mark; wday is not touched (R341, R344, R345). -/
def State.alignLoad (s : State) : State :=
  if s.rtc.alignDue then
    let c := (utcCalendar (((s.time.cur.sec : Int) - s.time.cur.utc) * 1000000000)).1
    { s with rtc := { s.rtc with
      cal := { c with wday := s.rtc.cal.wday }, secStart := s.time.cur.ns, len := 32768
      alignDue := false, aligned := true, invalid := false } }.rtcRecord 3
  else s

/-! ## Trim windows (R346) -/

/-- A PTP window opens at a mark. -/
def State.ptpWindowOpen (s : State) : State :=
  if (s.cfg.trimSrc == 1 || s.cfg.trimSrc == 3) && s.time.servo == .locked && s.rtc.window.isNone then
    { s with rtc.window := some { src := 1, opened := s.time.cur.ns, w := s.cfg.ptpWindow } }
  else s

/-- TRIM_WINDOW_CLOSE: `count` raw CLK_RTC periods were counted over the window (R346). -/
def execTrimWindowClose (count : Nat) (s : State) : Out :=
  .next (match s.rtc.window with
    | none => s
    | some w =>
      let t := divRoundAway (((count : Int) - w.w * 32768) * 16777216) w.w
      let v := max (-33554432) (min 33554432 t)
      { s with rtc := { s.rtc with window := none, newTrim := some (v, s.now), trimLimit := v != t } })

/-- The condition of the running window has failed (R346). -/
def State.windowFailed (s : State) (w : TrimWindow) : Bool :=
  if w.src = 1 then s.time.servo != .locked else s.power.mainsAbsent

/-- TRIM_WINDOW_ABANDON (R346). -/
def execTrimWindowAbandon (s : State) : Out :=
  .next (match s.rtc.window with
    | some w => if s.windowFailed w then s.trimAbandon else s
    | none => s)

/-- MAINS_ABSENT_CHANGE (R39). -/
def execMainsAbsentChange (absent : Bool) (s : State) : Out :=
  .next { s with power.mainsAbsent := absent }

/-- MAINS_ZERO_CROSSING: opens a mains window where none runs (R346). -/
def execMainsZeroCrossing (s : State) : Out :=
  .next (if !s.power.mainsAbsent && s.rtc.window.isNone &&
      (s.cfg.trimSrc == 2 || (s.cfg.trimSrc == 3 && s.time.servo != .locked)) then
    { s with rtc.window := some { src := 2, opened := s.now, w := s.cfg.mainsWindow } } else s)

/-! ## Registers with a read effect (R342) -/

/-- RTC_SUBSEC_READ: every counter is copied to its shadow, and FROZEN sets. -/
def execRtcSubsecRead (s : State) : Out :=
  .next (if s.hostOn then
    { s with
      rtc := { s.rtc with shadow := s.rtc.cal, shadowSub := s.rtc.subsec s.now, frozen := true }
      host.rdata := s.rtc.subsec s.now } else s)

/-- RTC_YEAR_READ: while frozen, the shadow, and FROZEN clears. -/
def execRtcYearRead (s : State) : Out :=
  .next (if s.hostOn then
    { s with
      rtc.frozen := false
      host.rdata := if s.rtc.frozen then s.rtc.shadow.year else s.rtc.cal.year } else s)

/-! ## RTC commands (R350) -/

/-- RTC_STATUS [3:0] (R348). -/
def RtcBlk.status (r : RtcBlk) : Nat :=
  b2n r.invalid + 2 * b2n r.frozen + 4 * b2n r.aligned + 8 * b2n r.trimLimit

/-- RTC_READ (R342, R350). -/
def cmdRtcRead : Cmd where
  opcode := 0x1201
  param _ _ r := restZero r 0
  body _ _ s :=
    let c := s.rtc.cal
    .done s stOK ((calBytes c 0).take 6 ++ leBytes 1 c.wday ++ leBytes 1 s.rtc.status ++
      leBytes 2 (s.rtc.subsec s.now)) none

/-- RTC_READ (R350). -/
def execRtcRead (p : Path) (s : State) : Out := .next (s.run cmdRtcRead p)

/-- RTC_SET: loads at the first RTC second at least 10 ms later (R344, R350). -/
def cmdRtcSet : Cmd where
  opcode := 0x1202
  param _ _ r :=
    let b := r.params
    byteAt b 1 ≤ 15 && byteAt b 2 ≤ 31 && byteAt b 3 ≤ 31 && byteAt b 4 ≤ 63 && byteAt b 5 ≤ 63 && byteAt b 6 ≤ 6 &&
      1 ≤ byteAt b 7 && byteAt b 7 ≤ 3 && restZero r 8
  state s _ r :=
    if (byteAt r.params 7).testBit 0 ∧ s.cfg.rtcAlign ∧ s.time.servo = .locked then stSTATE else 0
  body p e s := .wait { s with rtc.loads := s.rtc.loads ++ [(padTo 8 e.req.params, s.now, p)] }

/-- RTC_SET (R344, R350). -/
def execRtcSet (p : Path) (s : State) : Out := .next (s.run cmdRtcSet p)

/-- RTC_CFG: stored in flash; applies at an RTC second (R346, R347, R350). -/
def cmdRtcCfg : Cmd where
  opcode := 0x1203
  param _ _ r :=
    let b := r.params
    byteAt b 0 ≤ 3 && byteAt b 1 ≤ 1 && (byteAt b 2 == 50 || byteAt b 2 == 60) && 1 ≤ byteAt b 3 && byteAt b 3 ≤ 28 &&
      1024 ≤ le16 b 4 && le16 b 6 == 0 && decide ((int32 (le32 b 8)).natAbs ≤ 33554432) && restZero r 12
  busy s _ _ := if s.rtc.cfgNew.isSome then stBUSY else 0
  body p e s :=
    let b := padTo 12 e.req.params
    .wait { s with stored.rtc := b, rtc.cfgNew := some (p, s.now, b) }

/-- RTC_CFG (R350). -/
def execRtcCfg (p : Path) (s : State) : Out := .next (s.run cmdRtcCfg p)

end Machine
end Sys2Proof
end

