-- ==== Sys2Proof/Machine/Island.lean ====
section
/-! DEFINITION. The safety island: inputs, outputs, Halter, the Harness and their commands (chapter 19). -/

namespace Sys2Proof
namespace Machine

/-! ## The configuration blob (R408) -/

def blobTp (b : Bytes) : Nat := le16 b 20
def blobConns (b : Bytes) : Nat := byteAt b 22
def blobIn (b : Bytes) (i : Nat) : Bytes := slice b (64 + 8 * i) 8
def blobOut (b : Bytes) (n : Nat) : Bytes := slice b (128 + 16 * n) 16
def blobConn (b : Bytes) (i : Nat) : Bytes := slice b (192 + 64 * i) 64
def connList (b : Bytes) : List Bytes := (List.range (blobConns b)).map (blobConn b)

def inMode (r : Bytes) : Nat := byteAt r 0
/-- Test-pulse source of a terminal: 0 none, 1 TP0, 2 TP1. -/
def inTp (r : Bytes) (ch : Nat) : Nat := byteAt r 1 / 16 ^ ch % 16
def inNf (r : Bytes) : Nat := byteAt r 2
def inDisc (r : Bytes) : Nat := 4 * le16 r 4

def outEn (r : Bytes) : Bool := (byteAt r 0).testBit 0
def outManual (r : Bytes) : Bool := (byteAt r 0).testBit 1
def outCat1 (r : Bytes) : Bool := (byteAt r 0).testBit 2
def outPar (r : Bytes) : Bool := (byteAt r 0).testBit 3

def cNo (r : Bytes) : Nat := byteAt r 0
def cValid (r : Bytes) : Bool := (byteAt r 1).testBit 0
def cOut (r : Bytes) : Bool := (byteAt r 1).testBit 1
def cDual (r : Bytes) : Bool := (byteAt r 1).testBit 2
def cAuto (r : Bytes) : Bool := (byteAt r 1).testBit 3
def cPorts (r : Bytes) : List Nat := (List.range 6).filter (fun i => (byteAt r 2).testBit i)
def cId (r : Bytes) : Nat := le32 r 4
def cPeriod (r : Bytes) : Nat := le16 r 20
def cWd (r : Bytes) : Nat := 1000000 * le16 r 22

/-- An input record, an output record and a connection record are in range. -/
def inRecOk (r : Bytes) : Bool :=
  inMode r ≤ 2 && inTp r 0 ≤ 2 && inTp r 1 ≤ 2 && 2 ≤ inNf r && inNf r ≤ 80 && byteAt r 3 == 0 && 5 ≤ le16 r 4 && le16 r 4 ≤ 2000 &&
    zeroAt r 6 2

/-- The Harness bits of an output: used ones as connection and bit. -/
def outHbits (r : Bytes) : List (Nat × Nat) :=
  (List.range 4).filterMap (fun i =>
    let h := le16 r (4 + 2 * i)
    if h.testBit 15 then some (h / 16 % 64, h % 16) else none)

def outRecOk (conns : List Bytes) (r : Bytes) : Bool :=
  byteAt r 0 < 16 && le16 r 2 ≤ 30000 && (outCat1 r || le16 r 2 == 0) && zeroAt r 12 4 &&
    (List.range 4).all (fun i => le16 r (4 + 2 * i) / 1024 % 32 == 0) &&
    (outHbits r).all (fun h => conns.any (fun c => cNo c == h.1 && cValid c && !cOut c))

/-- A frame of a connection: header, tag, PDU or padding, FCS and PRP trailer (R403, R407). -/
def connFrameLen (r : Bytes) (prp : Bool) : Nat :=
  64 + (if le16 r 18 = 0 then 0 else 4) + (if prp then 6 else 0)

def srcCodeOk (v : Nat) : Bool :=
  let k := v / 32
  let i := v % 32
  (k == 0 && i == 0) || (k == 1 && i ≤ 7) || (k == 2 && i ≤ 3) || (k == 3 && i == 0)

def connRecOk (r : Bytes) : Bool :=
  cNo r ≤ 63 && byteAt r 1 < 16 && byteAt r 2 < 64 && byteAt r 3 == 0 && zeroAt r 46 18 &&
    (!cDual r || (cNo r ≤ 7 && (byteAt r 2 == 5 || byteAt r 2 == 10))) && le16 r 18 ≤ 4094 &&
    (if cOut r then
      1 ≤ cPeriod r && cPeriod r ≤ 500 && 1000 % cPeriod r == 0 && le16 r 22 == 0 && zeroAt r 40 6 &&
        (List.range 16).all (fun j => srcCodeOk (byteAt r (24 + j)))
    else
      zeroAt r 12 6 && le16 r 20 == 0 && 2 ≤ le16 r 22 && le16 r 22 ≤ 1000 && zeroAt r 24 16)

/-- No two members of a list of numbers are equal. -/
def allDiffer (l : List Nat) : Bool := decide l.Nodup

/-- A blob is valid (R408). -/
def State.safeBlobOk (s : State) (b : Bytes) : Bool :=
  let n := blobConns b
  let cs := connList b
  192 ≤ b.length && le32 b 0 == 0x31464153 && le16 b 4 == 1 && le16 b 6 == 64 && n ≤ 64 && le32 b 8 == 192 + 64 * n &&
    b.length == 192 + 64 * n && crc32c (b.take 12 ++ zeros 4 ++ b.drop 16) == le32 b 12 && 10 ≤ blobTp b && blobTp b ≤ 1000 &&
    zeroAt b 23 41 && (List.range 8).all (fun i => inRecOk (blobIn b i)) &&
    (List.range 4).all (fun i => outRecOk cs (blobOut b i)) && cs.all connRecOk && allDiffer (cs.map cNo) &&
    allDiffer ((cs.filter (fun c => cValid c && !cOut c)).map cId) &&
    cs.all (fun c => (cPorts c).all (fun i => connFrameLen c (!cDual c) ≤ s.maxFrame i))

/-! ## Events and causes (R385, R398, R399, R410) -/

/-- HALTER: a cause stands. -/
def State.halter (s : State) : Bool := s.safe.causes != 0

/-- An island event: its record, and INT_CAUSE.SAFE (R385, R410). -/
def State.safeEvt (s : State) (code : Nat) (data : Bytes) : State := (s.firnEv (0x0D00 + code) data).raise intSAFE

/-- Adds one to a counter of SAFE_STATUS (R291, R411). -/
def State.safeCount (s : State) (i : Nat) : State :=
  let v := inc32 (s.safe.counts.getD i 0)
  State.counted { s with safe.counts := s.safe.counts.set i v } v 0x0D01 (24 + 4 * i) 0

/-- Causes that are hard (R398). -/
def hardCause (c : Nat) : Bool := 1 ≤ c && c ≤ 4

def State.safeOut (s : State) (n : Nat) : SafeOut := s.safe.outs.getD n {}
def State.setSafeOut (s : State) (n : Nat) (x : SafeOut) : State := { s with safe.outs := s.safe.outs.set n x }

/-- Switches an output, with its record and its reason (R410). -/
def State.switchOut (s : State) (n : Nat) (on : Bool) (reason : Nat) : State :=
  let x := s.safeOut n
  if x.on = on then s
  else
    (s.setSafeOut n { x with on := on, delay := if on then x.delay else none, onBad := 0, extBad := 0 }).safeEvt 3
      (leBytes 1 n ++ leBytes 1 (b2n on) ++ leBytes 1 reason)

/-- De-energises all outputs (R394). -/
def State.allOff (s : State) (reason : Nat) : State :=
  (List.range 4).foldl (fun s n => s.switchOut n false reason) s

/-- Raises a Halter cause; the first one enters HALTER (R398, R399). -/
def State.halterCause (s : State) (c : Nat) : State :=
  let was := s.halter
  let s := { s with safe.causes := s.safe.causes ||| BitVec.twoPow 16 c }
  if was then s
  else
    let s := s.allOff 3
    let s := { s with safe := { s.safe with
      halt := s.stamp 17, outs := s.safe.outs.mapV (fun _ x => { x with armed := false, delay := none }) } }
    s.safeEvt 1 (leBytes 1 1 ++ leBytes 1 c ++ leBytes 1 (b2n (hardCause c)) ++ [0xFF])

/-- The condition of a cause still stands, or it is hard (R398). -/
def State.causeStands (s : State) (c : Nat) : Bool :=
  hardCause c ||
    (c == 5 && (2 ≤ s.safe.tp0Bad || 2 ≤ s.safe.tp1Bad)) ||
    (c == 7 && (List.range 4).any (fun n => (s.safeOut n).ext)) ||
    c == 9

/-- HALTER can be left (R399). -/
def State.mayLeave (s : State) : Bool :=
  (List.range 16).all (fun c => !s.safe.causes.getLsbD c || !s.causeStands c)

/-- Leaves HALTER (R399); `how`: 0 SRST, 1 SAFE_RESET. The faults its causes stood for are over. -/
def State.leaveHalter (s : State) (how : Nat) : State :=
  let c := ((List.range 16).find? (fun c => s.safe.causes.getLsbD c)).getD 0
  let s := { s with safe := { s.safe with causes := 0, outs := s.safe.outs.mapV (fun _ x => { x with fault := false }) } }
  s.safeEvt 1 (leBytes 1 0 ++ leBytes 1 c ++ leBytes 1 0 ++ leBytes 1 how)

/-! ## Inputs (R388 to R392) -/

def State.terminal (s : State) (t : Nat) : Terminal := s.safe.terms.getD t {}
def State.setTerminal (s : State) (t : Nat) (x : Terminal) : State := { s with safe.terms := s.safe.terms.set t x }

/-- One regular sample of a terminal with filter Nf (R390). -/
def Terminal.sample (t : Terminal) (v : Bool) (nf : Nat) : Terminal :=
  let run := if v = t.last then t.run + 1 else 1
  { last := v, run := min run 65535, val := if nf ≤ run then v else t.val }

def State.safeIn (s : State) (n : Nat) : SafeInput := s.safe.inputs.getD n {}
def State.setSafeIn (s : State) (n : Nat) (x : SafeInput) : State := { s with safe.inputs := s.safe.inputs.set n x }

/-- The value of an input (R392). -/
def State.inVal (s : State) (n : Nat) : Bool := (s.safeIn n).state == 1

/-- The channel values of an input in its mode: b inverted where antivalent (R388); an injection holds b at
demand (R485). -/
def State.inChans (s : State) (n : Nat) (r : Bytes) : Bool × Bool :=
  let b := (s.terminal (2 * n + 1)).val ^^ (inMode r == 2)
  ((s.terminal (2 * n)).val, b && (s.injection 0x14 n 0).isNone)

/-- Puts an input in FAULT (R392): counted, with its record on entry. -/
def State.inFaulted (s : State) (n kind : Nat) : State :=
  let x := s.safeIn n
  let s := s.safeCount (if kind = 1 then 0 else 1)
  let s := if x.state = 4 then s else s.safeEvt 2 (leBytes 1 n ++ leBytes 1 1 ++ leBytes 1 kind)
  s.setSafeIn n { x with state := 4, kind := kind }

/-- An input's next state where no fault is raised (R392). -/
def State.inStep (s : State) (n : Nat) (a b : Bool) : State :=
  let x := s.safeIn n
  let new := match x.state with
    | 1 => if a && b then 1 else 2
    | 2 => if !a && !b then 3 else 2
    | 3 => if a && b then 1 else 3
    | 4 => if !a && !b then 3 else 4
    | k => k
  let s := s.setSafeIn n { x with state := new }
  if x.state = 4 && new != 4 then s.safeEvt 2 (leBytes 1 n ++ leBytes 1 0 ++ leBytes 1 x.kind) else s

/-- The TP that pulses in a slot: 1 TP0, 2 TP1, 0 none (R389). -/
def tpOf (slot p : Nat) : Nat := if slot % (4 * p) = 0 then 1 else if slot % (4 * p) = 2 * p then 2 else 0

/-- The judgement of a terminal at a pulse: 0 passed, 2 TP_STUCK, 3 WRONG_TP (R389). -/
def tpJudge (pulse src : Nat) (v test : Bool) : Nat :=
  if pulse = 0 || src = 0 || !v then 0
  else if src = pulse then (if test then 2 else 0)
  else if test then 0 else 3

/-- Steps 1 and 2 of a slot for one input (R386, R389 to R392). -/
def State.slotInput (s : State) (i : SlotInput) (b : Bytes) (pulse n : Nat) : State :=
  let r := blobIn b n
  if inMode r = 0 then s
  else
    let one (s : State) (ch : Nat) : State :=
      s.setTerminal (2 * n + ch) ((s.terminal (2 * n + ch)).sample (i.terms.getD (2 * n + ch) false) (inNf r))
    let s := one (one s 0) 1
    let judge (s : State) (ch : Nat) : Nat × State :=
      let own := pulse != 0 && inTp r ch == pulse && !s.safe.fv24Low
      let j := if own then s.inject 0x15 n ch else (false, s)
      let k := if s.safe.fv24Low then 0
        else tpJudge pulse (inTp r ch) (i.terms.getD (2 * n + ch) false) (j.1 || i.tests.getD (2 * n + ch) false)
      (k, j.2)
    let ja := judge s 0
    let jb := judge ja.2 1
    let s := jb.2
    let c := s.inChans n r
    let x := s.safeIn n
    let count := if c.1 = c.2 then 0 else x.count + 1
    let s := s.setSafeIn n { x with count := count }
    let faults := (if count = inDisc r then [1] else []) ++ [ja.1, jb.1].filter (· != 0)
    if faults.isEmpty then s.inStep n c.1 c.2 else faults.foldl (fun s k => s.inFaulted n k) s

/-- INPUT_FILTER_CHANGE: the sample that completes Nf equal ones comes in, and the filtered value changes (R390). -/
def execInputFilterChange (n : Nat) (ch v : Bool) (s : State) : Out :=
  .next (match s.safe.cfg with
    | some b =>
      let t := 2 * n + b2n ch
      let x := s.terminal t
      let nf := inNf (blobIn b n)
      if n < 8 && inMode (blobIn b n) != 0 && x.val != v && x.last = v && nf ≤ x.run + 1 then
        s.setTerminal t { x with run := x.run + 1, val := v }
      else s
    | none => s)

/-- DISCREPANCY_FAULT: the slot that brings the count to N (R391). -/
def execDiscrepancyFault (n : Nat) (s : State) : Out :=
  .next (match s.safe.cfg with
    | some b =>
      let r := blobIn b n
      let x := s.safeIn n
      let c := s.inChans n r
      if n < 8 && inMode r != 0 && c.1 != c.2 && x.count < inDisc r && inDisc r ≤ x.count + 1 then
        (s.setSafeIn n { x with count := inDisc r }).inFaulted n 1
      else s
    | none => s)

/-! ## Harness inputs (R402, R404 to R406) -/

def State.conn (s : State) (c : Nat) : Conn := s.safe.conns.getD c {}
def State.setConn (s : State) (c : Nat) (x : Conn) : State := { s with safe.conns := s.safe.conns.set c x }

/-- A connection's record in force. -/
def State.connRec (s : State) (c : Nat) : Option Bytes :=
  s.safe.cfg.bind (fun b => (connList b).find? (fun r => cNo r == c && cValid r))

/-- Adds one to a counter of a connection (R291, R411). -/
def State.connCount (s : State) (c i : Nat) : State :=
  let x := s.conn c
  let v := inc32 (x.counts.getD i 0)
  (s.setConn c { x with counts := x.counts.set i v }).counted v 0x0D07 (16 + 4 * i) c

/-- Changes a connection's state, with its record (R405); WAIT and FAULT forget the paths' sequence numbers. -/
def State.connTo (s : State) (c new reason : Nat) : State :=
  let x := s.conn c
  let clear (p : ConnPath) : ConnPath := if new = 1 || new = 3 then { p with last := none, alive := false } else p
  let s := s.setConn c { x with
    state := new, reason := reason, acks := 0, differ := 0, degraded := x.degraded && new == 2
    a := clear x.a, b := clear x.b }
  s.safeEvt 6 (leBytes 1 c ++ leBytes 1 x.state ++ leBytes 1 new ++ leBytes 1 reason ++ leBytes 1 (b2n (s.conn c).degraded))

/-- The data of a path, 0 under FS. -/
def ConnPath.bits (p : ConnPath) : Nat := if p.fs then 0 else p.data

/-- The data of a connection: on a dual path the AND of the paths that are alive (R402, R405, R406). -/
def Conn.bits (x : Conn) (dual : Bool) : Nat :=
  if x.state ≠ 2 then 0
  else if !dual then x.a.bits
  else if x.a.alive && x.b.alive then x.a.bits &&& x.b.bits
  else if x.a.alive then x.a.bits
  else if x.b.alive then x.b.bits else 0

/-- A path is lost: with every path lost the connection faults, with one of two it is degraded (R405, R406). -/
def State.pathLost (s : State) (c : Nat) (dual pathB : Bool) : State :=
  let x := s.conn c
  let x := if pathB then { x with b := { x.b with alive := false } } else { x with a := { x.a with alive := false } }
  let s := s.setConn c x
  if x.state ≠ 2 then s
  else if x.a.alive || (dual && x.b.alive) then
    (s.setConn c { x with degraded := true }).safeEvt 6
      (leBytes 1 c ++ leBytes 1 2 ++ leBytes 1 2 ++ leBytes 1 0 ++ leBytes 1 1)
  else s.connTo c 3 1

/-- Step 3 of a slot for one input connection: watchdogs, then the dual comparison (R405, R406). -/
def State.slotConn (s : State) (r : Bytes) : State :=
  let c := cNo r
  let late (p : ConnPath) : Bool := p.alive && p.rxExt + cWd r < s.now
  let s := if late (s.conn c).a then s.pathLost c (cDual r) false else s
  let s := if late (s.conn c).b then s.pathLost c (cDual r) true else s
  let x := s.conn c
  if x.state = 2 && !x.a.alive && !(cDual r && x.b.alive) then s.connTo c 3 1
  else if cDual r && x.state = 2 && x.a.alive && x.b.alive && x.a.bits != x.b.bits then
    let s := s.setConn c { x with differ := x.differ + 1 }
    if 8 < x.differ + 1 then s.connTo c 3 2 else s
  else s.setConn c { x with differ := 0 }

/-- HARNESS_WATCHDOG_EXPIRY: the deadline of a path passes (R405). -/
def execHarnessWatchdogExpiry (c : Nat) (pathB : Bool) (s : State) : Out :=
  .next (match s.connRec c with
    | some r =>
      let p := if pathB then (s.conn c).b else (s.conn c).a
      if !cOut r && p.alive && (cDual r || !pathB) then (s.clockTo (p.rxExt + cWd r + 1)).pathLost c (cDual r) pathB else s
    | none => s)

/-- HARNESS_DUAL_MISMATCH: the ninth consecutive slot in which the paths differ (R406). -/
def execHarnessDualMismatch (c : Nat) (s : State) : Out :=
  .next (match s.connRec c with
    | some r =>
      let x := s.conn c
      if cDual r && !cOut r && x.state = 2 && x.a.alive && x.b.alive && x.a.bits != x.b.bits && 8 ≤ x.differ then s.connTo c 3 2
      else s
    | none => s)

/-- The CRC of a PDU (R403). -/
def pduCrc (r b : Bytes) : Nat := crc32c ((slice r 8 4).reverse ++ b.take 16)

/-- Ports of LAN B of a pair. -/
def harnessLanB (port : Nat) : Bool := port == 2 || port == 3

/-- An accepted PDU (R404 step 6, R405). -/
def State.pduAccept (s : State) (r b : Bytes) (pathB : Bool) : State :=
  let c := cNo r
  let x := s.conn c
  let p : ConnPath :=
    { last := some (rdBe16 b 8), data := rdBe16 b 10, fs := (byteAt b 2).testBit 0, rxExt := s.now, alive := true }
  let x := if pathB then { x with b := p } else { x with a := p }
  let s := s.setConn c { x with
    rx := s.stamp 1, fs := p.fs, acks := x.acks + 1, degraded := x.degraded && !(x.a.alive && x.b.alive) }
  if x.state = 1 then s.connTo c 2 0
  else if x.state = 3 then s.connTo c 4 0
  else if x.state = 4 && cAuto r && 3 ≤ x.acks + 1 then s.connTo c 2 0
  else s

/-- HARNESS_PDU_RECEIVE: a PDU for an input connection is checked and accepted (R402, R404). -/
def execHarnessPduReceive (port src : Nat) (b : Bytes) (at_ : Nat) (s : State) : Out :=
  let s := s.clockTo at_
  .next (match s.safe.cfg.bind (fun g => (connList g).find? (fun r =>
      cValid r && !cOut r && cId r == rdBe32 b 4 && (cPorts r).contains port)) with
    | none => s
    | some r =>
      let c := cNo r
      let pathB := cDual r && harnessLanB port
      let fail (s : State) (i : Nat) : State :=
        let s := s.connCount c i
        if i = 3 then s else s.setConn c { s.conn c with acks := 0 }
      if (s.injection 0x0C c (b2n pathB)).isSome then s
      else if macAt r 40 ≠ 0 ∧ src ≠ macAt r 40 then fail s 0
      else
        let j := s.inject 0x0B c (b2n pathB)
        let s := j.2
        let flags := byteAt b 2
        if j.1 || b.length < 20 || byteAt b 0 != 1 || byteAt b 1 != 1 || 8 ≤ flags || byteAt b 3 != 0 || !zeroAt b 12 4 ||
            pduCrc r b != rdBe32 b 16 then fail s 1
        else if flags.testBit 2 != cDual r || (cDual r && flags.testBit 1 != pathB) then fail s 4
        else
          let p := if pathB then (s.conn c).b else (s.conn c).a
          match p.last with
          | none => s.pduAccept r b pathB
          | some l =>
            let d := (rdBe16 b 8 + 65536 - l) % 65536
            if d = 0 then fail s 3 else if 256 ≤ d then fail s 2 else s.pduAccept r b pathB)

/-! ## Outputs (R394 to R397) -/

/-- Bit j of the H image of connection c. -/
def State.hBit (s : State) (c j : Nat) : Bool :=
  match s.connRec c with
  | some r => (Conn.bits (s.conn c) (cDual r)).testBit j
  | none => false

/-- The condition of an output (R394). -/
def State.outCond (s : State) (r : Bytes) : Bool :=
  (List.range 8).all (fun i => !(byteAt r 1).testBit i || s.inVal i) && (outHbits r).all (fun h => s.hBit h.1 h.2)

/-- The output record in force. -/
def State.outRec (s : State) (n : Nat) : Bytes := (s.safe.cfg.map (fun b => blobOut b n)).getD (zeros 16)

/-- Everything but the condition and the arming that an output needs (R394); the reason code where it fails. -/
def State.outBlocked (s : State) (n : Nat) : Nat :=
  if (s.safeOut n).fault then 6
  else if s.halter then 3
  else if s.safe.fv24Low then 4
  else if s.gated then 5 else 0

/-- Step 6 for one output; `srst`: an SRST was accepted in this slot (R394). -/
def State.slotOut (s : State) (srst : Bool) (n : Nat) : State :=
  let r := s.outRec n
  let x := s.safeOut n
  let cond := outEn r && s.outCond r
  let fell := x.cond && !cond
  let armed := !s.safe.fv24Low && cond && (if outManual r then x.armed || srst else true)
  let delay := if fell && x.on && outCat1 r && x.delay.isNone then some (s.now + 1000000 * le16 r 2) else x.delay
  let expired : Bool := match delay with | some d => decide (d ≤ s.now) | none => false
  let block := s.outBlocked n
  let s := s.setSafeOut n { x with cond := cond, armed := armed, delay := if expired then none else delay }
  if block ≠ 0 then s.switchOut n false block
  else if x.on then
    match delay with
    | some _ => if expired then s.switchOut n false 2 else s
    | none => if cond && armed then s else s.switchOut n false 1
  else if cond && armed then s.switchOut n true (if srst && outManual r then 7 else 1) else s

/-- An output loses what it needs outside a slot: it is off at once (R394). -/
def State.outsCheck (s : State) : State :=
  (List.range 4).foldl (fun s n => if s.outBlocked n = 0 then s else s.switchOut n false (s.outBlocked n)) s

/-- An output fault (R396): the output is off, and its Halter cause is raised. `kind`: 1 switch, 2 overload, 3
external feed. -/
def State.outFault (s : State) (n kind : Nat) : State :=
  let s := s.setSafeOut n { s.safeOut n with fault := true }
  let s := s.switchOut n false 6
  let s := s.safeEvt 8 (leBytes 1 n ++ leBytes 1 kind)
  s.halterCause (if kind = 1 then 4 else if kind = 2 then 6 else 7)

/-- Step 4's part for one output: readback while on, external feed while off, in two consecutive slots (R396). -/
def State.slotReadback (s : State) (i : SlotInput) (n : Nat) : State :=
  let x := s.safeOut n
  if x.on then
    let bad := if i.onOk.getD n true then 0 else x.onBad + 1
    let s := s.setSafeOut n { x with onBad := bad, ext := false }
    if 2 ≤ bad then s.outFault n 1 else s
  else
    let par := outPar (s.outRec n)
    let fed := i.fed.getD n false && !par && s.safe.cfg.isSome
    let bad := if fed then min 2 (x.extBad + 1) else 0
    let s := s.setSafeOut n { x with extBad := bad, ext := fed }
    if bad = 2 && x.extBad < 2 then s.outFault n 3 else s

/-- OFF_DELAY_EXPIRY: a category-1 delay ends (R394). -/
def execOffDelayExpiry (n : Nat) (s : State) : Out :=
  .next (match (s.safeOut n).delay with
    | some d => if n < 4 && (s.safeOut n).on then (s.clockTo d).switchOut n false 2 else s
    | none => s)

/-- OUTPUT_DARK_TEST: one switch of an energised output is opened and judged (R396). -/
def execOutputDarkTest (n : Nat) (high ok : Bool) (s : State) : Out :=
  .next (if n < 4 && (s.safeOut n).on then
      let j := s.inject 0x16 n (b2n (!high))
      if ok && !j.1 then j.2 else j.2.outFault n 1
    else s)

/-- OUTPUT_OVERLOAD: more than 2.6 A for 1 ms (R36, R396). -/
def execOutputOverload (n : Nat) (s : State) : Out :=
  .next (if n < 4 && (s.safeOut n).on then s.outFault n 2 else s)

/-- FV24_LOW_SET: below 18.0 V for 10 ms: every output off and disarmed (R35, R397). -/
def State.fv24Fall (s : State) : State :=
  if s.safe.fv24Low || !s.power.on.contains .safe then s
  else
    let s := s.allOff 4
    let s := { s with safe := { s.safe with
      fv24Low := true, outs := s.safe.outs.mapV (fun _ x => { x with armed := false, delay := none }) } }
    s.safeEvt 4 [1]

/-- FV24_LOW_SET (R397). -/
def execFv24LowSet (s : State) : Out := .next s.fv24Fall

/-- FV24_LOW_CLEAR: at or above 19.2 V for 100 ms; not while an injection holds the comparator low (R397, R485). -/
def execFv24LowClear (s : State) : Out :=
  .next (if s.safe.fv24Low && (s.injection 0x18 0 0).isNone then State.safeEvt { s with safe.fv24Low := false } 4 [0] else s)

/-! ## The slot (R386, R387, R393) -/

/-- Step 4: processor test, test-pulse readback, readbacks, the comparison of the last slots (R387, R389, R396). -/
def State.slotCauses (s : State) (i : SlotInput) (pulse : Nat) : State :=
  let s := if i.selfOk then s else s.halterCause 3
  let bad (ok : Bool) (n : Nat) : Nat := if ok then 0 else min 2 (n + 1)
  let s := if pulse = 1 then { s with safe.tp0Bad := bad i.tp0Ok s.safe.tp0Bad }
    else if pulse = 2 then { s with safe.tp1Bad := bad i.tp1Ok s.safe.tp1Bad } else s
  let s := if (pulse = 1 && s.safe.tp0Bad = 2) || (pulse = 2 && s.safe.tp1Bad = 2) then s.halterCause 5 else s
  (List.range 4).foldl (fun s n => s.slotReadback i n) s

/-- Step 5: SRST's sample; whether a press was accepted (R393, R399). `gap`: no cause was raised in this slot. -/
def State.slotSrst (s : State) (v quiet : Bool) : Bool × State :=
  let t := s.terminal 16
  let t' := t.sample v 2
  let s := s.setTerminal 16 t'
  if t'.val then (false, { s with safe.srstHigh := s.safe.srstHigh + 1 })
  else if t.val then
    let n := s.safe.srstHigh
    let s := { s with safe.srstHigh := 0 }
    let ok := 400 ≤ n && n ≤ 20000 && (!s.halter || (quiet && s.mayLeave))
    let s := s.safeCount (if ok then 2 else 3)
    let s := s.safeEvt 5 (leBytes 1 (b2n ok) ++ leBytes 2 (min n 65535))
    if !ok then (false, s)
    else
      let s := if s.halter then s.leaveHalter 0 else s
      let acks := (s.safe.conns.filter (fun c => c.2.state == 4)).map (·.1)
      (true, acks.foldl (fun s c =>
        match s.connRec c with
        | some r => if cAuto r then s else s.connTo c 2 0
        | none => s) s)
  else (false, s)

/-- The source of a bit of an output connection (R407). -/
def State.outBit (s : State) (v : Nat) : Bool :=
  match v / 32 with
  | 1 => s.inVal (v % 32)
  | 2 => (s.safeOut (v % 32)).on
  | 3 => !s.halter
  | _ => false

/-- Step 7: the H image and the data of the output connections (R233, R402, R407). -/
def State.slotImages (s : State) (b : Bytes) : State :=
  let put (h : BitVec 1024) (r : Bytes) : BitVec 1024 :=
    if cValid r && !cOut r then
      h ||| (BitVec.ofNat 1024 (Conn.bits (s.conn (cNo r)) (cDual r) % 65536) <<< (16 * cNo r)) else h
  let data (r : Bytes) : Nat :=
    (List.range 16).foldl (fun a j => a + b2n (s.outBit (byteAt r (24 + j))) * 2 ^ j) 0
  let outs := (connList b).filter (fun r => cValid r && cOut r)
  let s := { s with safe.h := (connList b).foldl put 0 }
  outs.foldl (fun s r => s.setConn (cNo r) { s.conn (cNo r) with data := data r }) s

/-- The comparison at a slot's end (R387). -/
def State.slotCompare (s : State) (agree : Bool) : State :=
  let j := s.inject 0x13 0 0
  let s := j.2
  let n := if agree && !j.1 then 0 else s.safe.cross + 1
  let s := { s with safe.cross := min 2 n }
  if n = 2 then s.halterCause 1 else s

/-- SAFETY_SLOT: the seven steps of R386 on one slot's samples, then the comparison of R387. Slots follow each other
at 250 µs, taken as local time (log 8). -/
def State.safetySlot (s : State) (i : SlotInput) : State :=
  if !s.power.on.contains .safe || !s.safe.ready then s
  else
    let s := s.clockTo s.safe.due
    let k := s.safe.slot
    let s := { s with safe := { s.safe with slot := k + 1, due := s.now + 250000 } }
    match s.safe.cfg with
    | none =>
      let before := s.safe.causes
      let s := s.slotCauses i 0
      (s.slotSrst i.srst (before == s.safe.causes)).2.slotCompare i.agree
    | some b =>
      let pulse := tpOf k (blobTp b)
      let s := (List.range 8).foldl (fun s n => s.slotInput i b pulse n) s
      let s := ((connList b).filter (fun r => cValid r && !cOut r)).foldl (fun s r => s.slotConn r) s
      let before := s.safe.causes
      let s := s.slotCauses i pulse
      let r := s.slotSrst i.srst (before == s.safe.causes)
      let s := (List.range 4).foldl (fun s n => s.slotOut r.1 n) r.2
      (s.slotImages b).slotCompare i.agree

/-- SAFETY_BACKGROUND_TEST: the 8 h march and CRC tests end (R387). -/
def execSafetyBackgroundTest (pass : Bool) (s : State) : Out :=
  .next (if pass || !s.power.on.contains .safe then s else s.halterCause 3)

/-- CLOCK_MONITOR_FAULT: a count out of range, or CLK_RTC stopped (R61): the outputs are off and HALTER is entered
with cause CLOCK; a stopped CLK_RTC makes the RTC invalid. -/
def execClockMonitorFault (stopped : Bool) (count : Nat) (s : State) : Out :=
  .next (if !s.power.on.contains .safe then s
    else
      let j := if stopped then (false, s) else s.inject 0x17 0 0
      let count := if j.1 then 0 else count
      if stopped || count < 95703 || 99609 < count then
        let s := j.2.halterCause 2
        if stopped then s.rtcInvalidate else s
      else j.2)

/-! ## Harness outputs (R403, R407) -/

/-- A PDU with its CRC. -/
def mkPdu (r : Bytes) (pathB fs : Bool) (seq data : Nat) : Bytes :=
  let flags := b2n fs + 2 * b2n pathB + 4 * b2n (cDual r)
  let head := [1, 1] ++ leBytes 1 flags ++ [0] ++ be32 (cId r) ++ be16 seq ++ be16 (if fs then 0 else data) ++ zeros 4
  head ++ be32 (pduCrc r head)

/-- The frame of a PDU on a port. -/
def pduFrame (r b : Bytes) (port : Nat) (prp : Bool) : Frame :=
  { dst := macAt r 12, src := portMac port, tag := if le16 r 18 = 0 then none else some (le16 r 18, 6)
    len := connFrameLen r prp, fcsOk := true, pcsOk := true, ecn := none, content := .harness b }

/-- Sends one PDU of a single-path connection on a group of ports, with a trailer on a pair. -/
def State.pduGroup (s : State) (r b : Bytes) (g : Option Nat × List Nat) : State :=
  match g.1 with
  | some k =>
    let q := s.sw.prpSeq.getD k 0
    let s := { s with sw.prpSeq := s.sw.prpSeq.set k ((q + 1) % 65536) }
    s.modSend g.2 (pduFrame r b (g.2.headD 0) true) 6 .fwd
  | none => s.modSend g.2 (pduFrame r b (g.2.headD 0) false) 6 .fwd

/-- Sends the PDUs of one output connection with a sequence number; not past the Bridle gate (R13, R407). -/
def State.sendConn (s : State) (r : Bytes) (seq : Nat) : State :=
  let c := cNo r
  let x := s.conn c
  if s.gated then s
  else if cDual r then
    let a := mkPdu r false s.halter seq x.data
    let b := mkPdu r true s.halter seq x.data
    let s := s.setConn c { x with sent := [a, b] }
    (cPorts r).foldl (fun s i =>
      let y := if harnessLanB i then b else a
      s.modSend [i] (pduFrame r y i false) 6 .fwd) s
  else
    let a := mkPdu r false s.halter seq x.data
    (pairGroups (cPorts r)).foldl (fun s g => s.pduGroup r a g) (s.setConn c { x with sent := [a] })

/-- The next cycle start of an output connection, with its sequence number (R407). -/
def State.connCycle (s : State) (r : Bytes) : Option (Nat × Nat) :=
  (s.time.schedAfter (1000 * cPeriod r) (s.conn (cNo r)).sched).map (fun t =>
    (t.1, (t.2.1 * (1000 / cPeriod r) + t.2.2) % 65536))

/-- HARNESS_OUTPUT_CYCLE: the earliest cycle start due: every output connection whose cycle starts then sends (R407). -/
def execHarnessOutputCycle (s : State) : Out :=
  .next (match s.safe.cfg with
    | none => s
    | some b =>
      let dues := ((connList b).filter (fun r => cValid r && cOut r)).filterMap (fun r =>
        (s.connCycle r).map (fun d => (r, d)))
      match (dues.map (·.2.1)).min? with
      | none => s
      | some due =>
        let s := s.clockTo due
        (dues.filter (fun x => x.2.1 == due)).foldl (fun s x =>
          let c := cNo x.1
          (s.setConn c { s.conn c with sched := due }).sendConn x.1 x.2.2) s)

/-! ## Start and commit of a configuration (R392, R409) -/

/-- Inputs restart in SEQ_WAIT and connections in WAIT under the configuration in force (R392, R405, R409). -/
def State.safeRestart (s : State) (was : Option Bytes) : State :=
  let b := s.safe.cfg.getD []
  let ins : Tbl SafeInput := (List.range 8).map (fun n => (n, { state := if inMode (blobIn b n) = 0 then 0 else 3 }))
  let cs := (connList b).filter cValid
  let gone := (((was.map connList).getD []).filter (fun r => cValid r && !cs.any (fun d => cNo d == cNo r))).map cNo
  let s := gone.foldl (fun s c => s.connTo c 0 0) s
  let s := { s with safe := { s.safe with inputs := ins, conns := s.safe.conns.delIf (fun c => gone.contains c) } }
  cs.foldl (fun s r =>
    let c := cNo r
    if (s.safe.conns.get? c).isSome && !cOut r then s.connTo c 1 0 else s.setConn c {}) s

/-- Both channels load the stored configuration at a start (R409). -/
def State.safeStart (s : State) : State :=
  let s := { s with safe := { s.safe with ready := true, due := s.now } }
  match s.flash.safeCfg with
  | some b =>
    if s.safeBlobOk b then State.safeRestart { s with safe.cfg := some b } none
    else (s.safeEvt 7 ([3, 0, 0, 0] ++ slice b 12 4)).halterCause 9
  | none => (s.safeEvt 7 [3]).halterCause 9

/-! ## Commands (R411) -/

/-- SAFE_STATUS's 64 bytes. -/
def State.safeStatusBytes (s : State) : Bytes :=
  let f := s.safe
  let b := f.cfg.getD []
  let hard := (List.range 5).any (fun c => hardCause c && f.causes.getLsbD c)
  leBytes 1 (b2n s.halter) ++
    leBytes 1 (b2n hard + 2 * b2n f.fv24Low + 4 * b2n (s.power.seals.getD 0 false) + 8 * b2n (s.power.seals.getD 1 false) +
      16 * b2n f.staged.isSome) ++ leBytes 2 f.causes.toNat ++ slice b 16 4 ++ slice b 12 4 ++
    (List.range 8).flatMap (fun n => leBytes 1 ((s.safeIn n).state + 16 * (s.safeIn n).kind)) ++
    (List.range 4).flatMap (fun n =>
      let x := s.safeOut n
      leBytes 1 (b2n x.on + 2 * b2n x.armed + 4 * b2n x.cond + 8 * b2n x.delay.isSome + 16 * b2n x.fault)) ++
    (List.range 4).flatMap (fun i => leBytes 4 (f.counts.getD i 0)) ++ f.halt.bytes ++ zeros 18

/-- SAFE_STATUS (R411). -/
def cmdSafeStatus : Cmd where
  opcode := 0x0D01
  param _ _ r := restZero r 0
  xpNeed _ _ := 64
  body _ _ s := .done s stOK [] (some s.safeStatusBytes)

/-- SAFE_STATUS (R411). -/
def execSafeStatus (p : Path) (s : State) : Out := .next (s.run cmdSafeStatus p)

/-- SAFE_CFG_LOAD (R409). -/
def cmdSafeCfgLoad : Cmd where
  opcode := 0x0D02
  param s _ r := restZero r 0 && r.xp && s.safeBlobOk r.region
  body _ e s :=
    let b := e.req.region
    .done (State.safeEvt { s with safe.staged := some b } 7 ([1, 0, 0, 0] ++ slice b 12 4)) stOK (slice b 12 4) none

/-- SAFE_CFG_LOAD (R409). -/
def execSafeCfgLoad (p : Path) (s : State) : Out := .next (s.run cmdSafeCfgLoad p)

/-- SAFE_CFG_COMMIT (R409). -/
def cmdSafeCfgCommit : Cmd where
  opcode := 0x0D03
  param s _ r :=
    restZero r 4 && match s.safe.staged with | some b => slice b 12 4 == slice r.params 0 4 | none => true
  state s _ _ := if s.safe.staged.isSome then 0 else stSTATE
  body _ _ s :=
    match s.safe.staged with
    | none => .done s stSTATE [] none
    | some b =>
      let was := s.safe.cfg
      let s := s.allOff 3
      let s := { s with safe := { s.safe with cfg := some b, staged := none, causes := s.safe.causes &&& ~~~BitVec.twoPow 16 9 }
                        flash.safeCfg := some b }
      let s := if s.halter then { s with safe.causes := s.safe.causes ||| BitVec.twoPow 16 8 } else s.halterCause 8
      let s := s.safeRestart was
      .done (s.safeEvt 7 ([2, 0, 0, 0] ++ slice b 12 4)) stOK (s.stamp 17).bytes none

/-- SAFE_CFG_COMMIT (R409). -/
def execSafeCfgCommit (p : Path) (s : State) : Out := .next (s.run cmdSafeCfgCommit p)

/-- SAFE_CFG_READ (R411): STATE where there is no such blob. -/
def cmdSafeCfgRead : Cmd where
  opcode := 0x0D04
  param _ _ r := byteAt r.params 0 ≤ 1 && restZero r 1
  xpNeed s r := ((if byteAt r.params 0 = 1 then s.safe.staged else s.safe.cfg).map List.length).getD 0
  state s _ r := if (if byteAt r.params 0 = 1 then s.safe.staged else s.safe.cfg).isSome then 0 else stSTATE
  body _ e s := .done s stOK [] (if byteAt e.req.params 0 = 1 then s.safe.staged else s.safe.cfg)

/-- SAFE_CFG_READ (R411). -/
def execSafeCfgRead (p : Path) (s : State) : Out := .next (s.run cmdSafeCfgRead p)

/-- SAFE_HALTER: adds cause CMD (R399, R411). -/
def cmdSafeHalter : Cmd where
  opcode := 0x0D05
  param _ _ r := restZero r 0
  body _ _ s :=
    let s := s.halterCause 10
    .done s stOK s.safe.halt.bytes none

/-- SAFE_HALTER (R411). -/
def execSafeHalter (p : Path) (s : State) : Out := .next (s.run cmdSafeHalter p)

/-- SAFE_RESET: leaves HALTER and arms nothing (R399). -/
def cmdSafeReset : Cmd where
  opcode := 0x0D06
  param _ _ r := restZero r 0
  state s _ _ := if s.mayLeave then 0 else stSTATE
  body _ _ s := .done (if s.halter then s.leaveHalter 1 else s) stOK (s.stamp 17).bytes none

/-- SAFE_RESET (R411). -/
def execSafeReset (p : Path) (s : State) : Out := .next (s.run cmdSafeReset p)

/-- SAFE_HARNESS_STATUS's record of a connection. -/
def State.harnessRecord (s : State) (c : Nat) : Bytes :=
  match s.connRec c with
  | none => zeros 32
  | some r =>
    let x := s.conn c
    leBytes 1 x.state ++ leBytes 1 x.reason ++
      leBytes 1 (b2n x.degraded + 2 * b2n x.a.alive + 4 * b2n x.b.alive + 8 * b2n x.fs) ++ [0] ++
      leBytes 2 (if cOut r then x.data else Conn.bits x (cDual r)) ++ leBytes 2 (x.a.last.getD 0) ++ leBytes 2 (x.b.last.getD 0) ++
      x.rx.bytes ++ (List.range 4).flatMap (fun i => leBytes 4 (x.counts.getD i 0))

/-- SAFE_HARNESS_STATUS (R411): reading and clearing are one step. -/
def cmdSafeHarnessStatus : Cmd where
  opcode := 0x0D07
  param _ _ r :=
    let n := byteAt r.params 1
    1 ≤ n && byteAt r.params 0 + n ≤ 64 && byteAt r.params 2 ≤ 1 && restZero r 3
  xpNeed _ r := 32 * byteAt r.params 1
  body _ e s :=
    let cs := (List.range (byteAt e.req.params 1)).map (fun i => byteAt e.req.params 0 + i)
    let out := cs.flatMap s.harnessRecord
    let wipe (s : State) (c : Nat) : State :=
      if (s.safe.conns.get? c).isSome then s.setConn c { s.conn c with counts := [] } else s
    .done (if byteAt e.req.params 2 = 1 then cs.foldl wipe s else s) stOK [] (some out)

/-- SAFE_HARNESS_STATUS (R411). -/
def execSafeHarnessStatus (p : Path) (s : State) : Out := .next (s.run cmdSafeHarnessStatus p)

end Machine
end Sys2Proof
end

