-- ==== Sys2Proof/Machine/Memory.lean ====
section
/-! DEFINITION. On-module DRAM, its error-correcting code, the merge buffer, the error registers and the
memory commands (chapter 21). -/

namespace Sys2Proof
namespace Machine

/-! ## Cells -/

/-- The byte stored at an address, if one has been written. -/
def cellAt : List Host.Cell → Nat → Option Byte
  | [], _ => none
  | (a, b) :: t, k => if a = k then some b else cellAt t k

/-- Stores a byte, keeping the addresses strictly rising. -/
def cellSet : List Host.Cell → Nat → Byte → List Host.Cell
  | [], k, v => [(k, v)]
  | (a, b) :: t, k, v =>
    if k < a then (k, v) :: (a, b) :: t
    else if a = k then (k, v) :: t
    else (a, b) :: cellSet t k v

/-- The canonical form of the DRAM's cells: addresses strictly rising. An address not listed has never
been written and reads as no fixed value (R447), so no entry can equal it. -/
def Memory.wf (m : List Host.Cell) : Bool := decide ((m.map Prod.fst).Pairwise (· < ·))

/-- The canonical form of memory. -/
def MemBlk.wf (m : MemBlk) : Bool := Memory.wf m.data && m.err.wf

/-! ## The code (R440, R444, R445) -/

/-- The bits set in a 72-bit word. -/
def bits72 (e : Nat) : List Nat := (List.range 72).filter (fun i => e.testBit i)

/-- The column of a bit: a check bit has a column of its own; the data columns are open (log 11). -/
def eccCol (i : Nat) : Nat := if i < 64 then (Config.eccColumn i).toNat else 2 ^ (i - 64)

/-- The syndrome of a difference from a valid codeword. -/
def syndrome (e : Nat) : Nat := (bits72 e).foldl (fun a i => a ^^^ eccCol i) 0

/-- What a read finds in a word (R444, R445). -/
inductive WordState where
  | clean
  | corrected (bit : Nat)
  | poison
  | uncorrectable
  deriving DecidableEq, Repr

/-- The difference that marks a poisoned word: the check byte XORed with 0xFF (R445). -/
def poisonErr : Nat := 255 * 2 ^ 64

/-- R440, R445: no error, a single one, poison, or an uncorrectable one. Three errors or more show as
whatever their syndrome shows. -/
def classify (e : Nat) : WordState :=
  match bits72 e with
  | [] => .clean
  | [i] => .corrected i
  | bs =>
    let y := syndrome e
    if y = 255 then .poison
    else if bs.length = 2 then .uncorrectable
    else if y = 0 then .clean
    else match (List.range 72).find? (fun i => eccCol i == y) with
      | some i => .corrected i
      | none => .uncorrectable

/-- A DRAM word as stored: its 64 data bits and its difference from a valid codeword. -/
def MemBlk.stored (m : MemBlk) (a : Nat) : Nat × Nat :=
  match cellAt m.data a with
  | none => let c := Config.dramCells a; (c.1.toNat, c.2.toNat)
  | some _ =>
    (le64 ((List.range 8).map (fun i => (cellAt m.data (a + i)).getD 0)) 0, m.err.getD a 0)

/-- Sets a bit of ECC_EVT and raises INT_CAUSE.ECC where an unmasked one goes from 0 to 1 (R453). -/
def State.eccEvt (s : State) (bit : Nat) : State :=
  let was := s.mem.evt.getLsbD bit
  let s := { s with mem.evt := s.mem.evt ||| BitVec.twoPow 7 bit }
  if was || s.mem.evtMask.getLsbD bit then s else s.raise intECC

/-- Adds a detection to the error log: a further one at the same address counts as a repeat (R451). -/
def MemBlk.logAdd (m : MemBlk) (e : EccLog) : MemBlk :=
  match m.log with
  | n :: rest =>
    if n.kind = e.kind ∧ n.source = e.source ∧ n.address = e.address then
      { m with log := { n with repeats := inc32 n.repeats } :: rest }
    else if m.log.length ≥ 256 then
      { m with log := e :: m.log.take 255, overwritten := inc32 m.overwritten }
    else { m with log := e :: m.log }
  | [] => { m with log := [e] }

/-- Puts back the memory block with a detection added to its log. -/
def State.logEcc (s : State) (m : MemBlk) (e : EccLog) : State := { s with mem := m.logAdd e }

/-- The Firn record of a corrected DRAM word, at most one a second (R454). -/
def State.ceRecord (s : State) (a : Nat) : State :=
  if s.mem.ceFirn.all (fun t => t + 1000000000 ≤ s.now) then
    let s' := s.firnEv 0x1101 (leBytes 4 (a / 16) ++ leBytes 4 s.mem.ceMore)
    { s' with mem := { s'.mem with ceFirn := some s.now, ceMore := 0 } }
  else { s with mem.ceMore := inc32 s.mem.ceMore }

/-- The Firn record of an uncorrectable or poisoned DRAM word, at most one a second (R454). -/
def State.ueRecord (s : State) (a kind : Nat) : State :=
  if s.mem.ueFirn.all (fun t => t + 1000000000 ≤ s.now) then
    let s' := s.firnEv 0x1102 (leBytes 4 (a / 16) ++ leBytes 3 (min 0xFFFFFF s.mem.ueMore) ++ leBytes 1 kind)
    { s' with mem := { s'.mem with ueFirn := some s.now, ueMore := 0 } }
  else { s with mem.ueMore := inc32 s.mem.ueMore }

/-- What detecting a word's state does (R444, R445): counts, registers, log, event and Firn record. -/
def State.detect (s : State) (a src e : Nat) : State :=
  match classify e with
  | .clean => s
  | .corrected bit =>
    let r : EccReg := { address := a, syndrome := syndrome e, bit := bit, source := src, stamp := s.stamp 17 }
    let n := inc32 s.mem.ceCnt
    let m := { s.mem with ceCnt := n, ce := r }
    let s := s.logEcc m
      { stamp := r.stamp, kind := 1, source := src, address := a, syndrome := r.syndrome, bit := bit }
    ((s.eccEvt 0).counted n 0x1104 0x10 0).ceRecord a
  | .poison =>
    let n := inc32 s.mem.poisonCnt
    let m := { s.mem with poisonCnt := n }
    let s := s.logEcc m
      { stamp := s.stamp 17, kind := 3, source := src, address := a, syndrome := 255, bit := 255 }
    ((s.eccEvt 2).counted n 0x1104 0x18 0).ueRecord a 3
  | .uncorrectable =>
    let r : EccReg := { address := a, syndrome := syndrome e, bit := 255, source := src, stamp := s.stamp 17 }
    let n := inc32 s.mem.ueCnt
    let m := { s.mem with ueCnt := n, ue := r }
    let s := s.logEcc m
      { stamp := r.stamp, kind := 2, source := src, address := a, syndrome := r.syndrome, bit := 255 }
    ((s.eccEvt 1).counted n 0x1104 0x14 0).ueRecord a 2

/-- A word's data after correction, and whether it is marked. -/
def corrected (d e : Nat) : Nat × Bool :=
  match classify e with
  | .clean => (d, false)
  | .corrected i => (if i < 64 then d ^^^ 2 ^ i else d, false)
  | .poison => (d, true)
  | .uncorrectable => (d, true)

/-- Reads a DRAM word for a requester: data, mark, and the state after what was found. -/
def State.wordRead (s : State) (a src : Nat) : Nat × Bool × State :=
  let w := s.mem.stored a
  let c := corrected w.1 w.2
  (c.1, c.2, s.detect a src w.2)

/-- Stores a whole word with fresh check bits, poisoned or not; an armed flip mask for it is applied
(R443, R445, R450). -/
def State.wordWrite (s : State) (a data : Nat) (poisoned : Bool) : State :=
  let e := if poisoned then poisonErr else 0
  let hit := s.mem.flipArmed && s.mem.flipAddr == a
  let d := if hit then data ^^^ (s.mem.flipMask % 2 ^ 64) else data
  let e := if hit then e ^^^ s.mem.flipMask else e
  let cells := (List.range 8).foldl (fun m i => cellSet m (a + i) (BitVec.ofNat 8 (d / 256 ^ i))) s.mem.data
  let errs := if e = 0 then s.mem.err.del a else s.mem.err.set a e
  let log := s.mem.log.map (fun l => if l.address = a ∧ l.kind ≤ 3 then { l with rewritten := true } else l)
  let s := { s with mem := { s.mem with data := cells, err := errs, log := log } }
  if hit then
    ({ s with mem.flipArmed := false }.eccEvt 5).firnEv 0x1106 ([1] ++ leBytes 4 (a / 16))
  else s

/-! ## Merge buffer (R443) -/

/-- The bytes of word `i` of a line that an entry holds. -/
def MergeLine.word (l : MergeLine) (i : Nat) : List (Option Byte) :=
  (List.range 8).map (fun j => l.bytes.get? (8 * i + j))

/-- Word `i` is complete in an entry. -/
def MergeLine.full (l : MergeLine) (i : Nat) : Bool := (l.word i).all (·.isSome)

/-- Word `i` is untouched in an entry. -/
def MergeLine.untouched (l : MergeLine) (i : Nat) : Bool := (l.word i).all (·.isNone)

/-- A word's data with an entry's bytes laid over it. -/
def overlay (d : Nat) (bs : List (Option Byte)) : Nat :=
  le64 ((bs.zip (leBytes 8 d)).map (fun p => p.1.getD p.2)) 0

/-- Every touched word is complete. -/
def MergeLine.complete (l : MergeLine) : Bool :=
  (List.range 8).all (fun i => l.untouched i || l.full i)

/-- Writes an entry whose touched words are complete, without a read. -/
def State.lineStore (s : State) (l : MergeLine) : State :=
  (List.range 8).foldl (fun s i =>
    if l.untouched i then s
    else s.wordWrite (l.line + 8 * i) (overlay 0 (l.word i)) (l.poisoned.contains i)) s

/-- Writes a partial entry by read-modify-write of its line. -/
def State.lineMerge (s : State) (l : MergeLine) : State :=
  (List.range 8).foldl (fun s i =>
    let a := l.line + 8 * i
    if l.full i then s.wordWrite a (overlay 0 (l.word i)) (l.poisoned.contains i)
    else
      let r := s.wordRead a 6
      r.2.2.wordWrite a (overlay r.1 (l.word i)) (r.2.1 || l.poisoned.contains i)) s

/-- Takes an entry out of the buffer and writes it. -/
def State.evict (s : State) (l : MergeLine) : State :=
  let s := { s with mem.merge := s.mem.merge.filter (fun x => x.line != l.line) }
  if l.complete then s.lineStore l else s.lineMerge l

/-- The entry of a line. -/
def MemBlk.entry (m : MemBlk) (line : Nat) : Option MergeLine := m.merge.find? (·.line == line)

/-- A write of a whole line finds no entry of it left in the buffer (R443). -/
def State.linePre (s : State) (line : Nat) (whole : Bool) : State :=
  match s.mem.entry line with
  | some l => if whole then s.evict l else s
  | none => s

/-- An entry with bytes added from an offset: words they touch are marked with them, words they cover whole are fresh
(R443, R445). -/
def MergeLine.put (l : MergeLine) (off : Nat) (bytes : Bytes) (poisoned : Bool) (now : Nat) : MergeLine :=
  { l with
    bytes := (List.range bytes.length).foldl (fun t i => t.set (off + i) (bytes.getD i 0)) l.bytes
    poisoned := if poisoned then
        (List.range 8).filter (fun i => l.poisoned.contains i ||
          (off < 8 * i + 8 && 8 * i < off + bytes.length))
      else l.poisoned.filter (fun i => !(off ≤ 8 * i && 8 * i + 8 ≤ off + bytes.length))
    touched := now }

/-- A full buffer writes its oldest entry (R443). -/
def State.mergeRoom (s : State) : State :=
  if s.mem.merge.length ≥ 16 then
    match s.mem.merge with
    | o :: _ => s.evict o
    | [] => s
  else s

/-- A new entry: its whole words are stored at once, the rest waits in the buffer (R443). -/
def State.lineNew (s : State) (l : MergeLine) : State :=
  let s := s.lineStore { l with bytes := l.bytes.delIf (fun k => !l.full (k / 8)) }
  let rest := { l with bytes := l.bytes.delIf (fun k => l.full (k / 8)) }
  if rest.bytes.isEmpty then s
  else
    let s := s.mergeRoom
    { s with mem.merge := s.mem.merge ++ [rest] }

/-- Writes bytes that lie in one 64-byte line (R443). -/
def State.lineWrite (s : State) (addr : Nat) (bytes : Bytes) (poisoned : Bool) : State :=
  let line := addr / 64 * 64
  let off := addr % 64
  let s := s.linePre line (off = 0 && bytes.length = 64)
  match s.mem.entry line with
  | some l =>
    let l := l.put off bytes poisoned s.now
    if l.complete then s.evict l
    else { s with mem.merge := s.mem.merge.map (fun x => if x.line = line then l else x) }
  | none => s.lineNew (MergeLine.put { line := line } off bytes poisoned s.now)

/-- The pieces of a write, line by line: address and bytes. `n` bounds the number of lines. -/
def linePieces : Nat → Nat → Bytes → List (Nat × Bytes)
  | 0, _, _ => []
  | n + 1, a, b =>
    let k := 64 - a % 64
    if b.isEmpty then [] else (a, b.take k) :: linePieces n (a + k) (b.drop k)

/-- A write to DRAM by a requester (R442, R443, R445). -/
def State.memWrite (s : State) (addr : Nat) (bytes : Bytes) (poisoned : Bool) : State :=
  (linePieces (bytes.length + 1) addr bytes).foldl (fun s p => s.lineWrite p.1 p.2 poisoned) s

/-- Reads word `a` for a requester, with the merge buffer's bytes over it (R443). -/
def State.wordFetch (s : State) (a src : Nat) : Nat × Bool × State :=
  match s.mem.entry (a / 64 * 64) with
  | some l =>
    let i := a % 64 / 8
    if l.full i then (overlay 0 (l.word i), l.poisoned.contains i, s)
    else
      let r := s.wordRead a src
      (overlay r.1 (l.word i), r.2.1 || l.poisoned.contains i, r.2.2)
  | none => s.wordRead a src

/-- Reads `n` words from word address `a`: bytes with their marks. -/
def State.wordsFetch (src : Nat) : Nat → Nat → State → List (Byte × Bool) × State
  | 0, _, s => ([], s)
  | n + 1, a, s =>
    let r := s.wordFetch a src
    let t := State.wordsFetch src n (a + 8) r.2.2
    ((leBytes 8 r.1).map (fun b => (b, r.2.1)) ++ t.1, t.2)

/-- A read of DRAM by a requester: bytes with their marks (R444, R445). -/
def State.memRead (s : State) (addr len src : Nat) : List (Byte × Bool) × State :=
  let a := addr / 8 * 8
  let n := (addr + len - a + 7) / 8
  let r := State.wordsFetch src (if len = 0 then 0 else n) a s
  ((r.1.drop (addr - a)).take len, r.2)

/-! ## BAR2 (R85) -/

/-- The end of the firmware region (R441). -/
def firmwareEnd : Nat := 2147483648

/-- BAR2_READ (R5, R85, R445). -/
def execBar2Read (off len : Nat) (s : State) : Out :=
  .next (if s.hostOn && off + len ≤ 1073741824 then
    let a := 1073741824 * s.host.window + off
    if a < firmwareEnd then { s with host.bar2 := some (zeros len, false) }
    else
      let r := s.memRead a len 1
      { r.2 with host.bar2 := some (r.1.map (·.1), r.1.any (·.2)) }
    else s)

/-- BAR2_WRITE (R85, R443, R445). -/
def execBar2Write (off : Nat) (data : Bytes) (poisoned : Bool) (s : State) : Out :=
  .next (if s.hostOn && off + data.length ≤ 1073741824 then
    let a := 1073741824 * s.host.window + off
    if a < firmwareEnd then s else s.memWrite a data poisoned
    else s)

/-- MERGE_BUFFER_EVICT: an entry idle for 1 µs is written (R443). -/
def execMergeBufferEvict (s : State) : Out :=
  .next (match s.mem.merge with
    | l :: _ => (s.clockTo (l.touched + 1000)).evict l
    | [] => s)

/-! ## ECC registers (R450, R452) -/

/-- ECC_CE_ADDR_READ: the capturing read (R452). -/
def execEccCeAddrRead (s : State) : Out :=
  .next (if s.hostOn then
    { s with mem.ceCap := s.mem.ce, host.rdata := s.mem.ce.address % 4294967296 / 8 * 8 } else s)

/-- ECC_UE_ADDR_READ: the capturing read (R452). -/
def execEccUeAddrRead (s : State) : Out :=
  .next (if s.hostOn then
    { s with mem.ueCap := s.mem.ue, host.rdata := s.mem.ue.address % 4294967296 / 8 * 8 } else s)

/-- ECC_FLIP_ARM (R450). -/
def execEccFlipArm (s : State) : Out :=
  .next (if s.hostOn then
    if (s.mod.state == 1 || s.mod.state == 3) && firmwareEnd ≤ s.mem.flipAddr && !s.mem.flipArmed then
      { s with mem.flipArmed := true }
    else (s.eccEvt 6).firnEv 0x1106 ([0] ++ leBytes 4 (s.mem.flipAddr / 16))
    else s)

/-- ECC_FLIP_DISARM: no effect in the cycle of the write that the flip meets (R450, R452). -/
def execEccFlipDisarm (sameCycle : Bool) (s : State) : Out :=
  .next (if s.hostOn && !sameCycle then { s with mem.flipArmed := false } else s)

/-! ## Memory commands (R455) -/

/-- A range of R455: 64-byte aligned, not empty, inside DRAM and outside the firmware region. -/
def rangeOk (lo len : Nat) : Bool :=
  lo % 64 == 0 && len % 64 == 0 && len != 0 && lo + len ≤ 68719476736 && firmwareEnd ≤ lo

/-- MEM_FILL (R448, R455): posted at the end. -/
def cmdMemFill : Cmd where
  opcode := 0x1101
  param _ _ r := rangeOk (le64 r.params 0) (le64 r.params 8) && restZero r 24
  busy s _ r :=
    let lo := le64 r.params 0
    let hi := lo + le64 r.params 8
    if s.active 3 || s.activeIn [1, 2] lo hi || s.acqBusy lo hi then stCONFLICT else 0
  body p e s :=
    let lo := le64 e.req.params 0
    let hi := lo + le64 e.req.params 8
    let s := s.begin 3 (some p) lo hi
    .wait { s with mem.fill := some { lo := lo, hi := hi, start := s.now, pattern := le64 e.req.params 16 } }

/-- MEM_FILL (R448, R455). -/
def execMemFill (p : Path) (s : State) : Out := .next (s.run cmdMemFill p)

/-- Stores a pattern in every word of a range, line by line, as whole-word writes (R448). -/
def State.fillWords (s : State) (lo hi pattern : Nat) : State :=
  (List.range ((hi - lo) / 64)).foldl (fun s i =>
    s.lineWrite (lo + 64 * i) ((List.replicate 8 (leBytes 8 pattern)).flatten) false) s

/-- FILL_COMPLETE: 16 bytes a nanosecond after its start the fill has ended (R448, R454, R455). -/
def execFillComplete (s : State) : Out :=
  .next (match s.mem.fill with
    | none => s
    | some j =>
      let s := (s.clockTo (j.start + (j.hi - j.lo) / 16)).fillWords j.lo j.hi j.pattern
      let s := ({ s with mem.fill := none }.finish 3).firnEv 0x1105 (leBytes 4 ((j.hi - j.lo) / 64) ++ [1])
      s.completeWaiting 0x1101 stOK (s.stamp 17).bytes)

/-- A scrub of `n` words from `a` (R449): corrected, marked and found counts. -/
def State.scrubWords : Nat → Nat → Nat × Nat × Nat → State → (Nat × Nat × Nat) × State
  | 0, _, k, s => (k, s)
  | n + 1, a, k, s =>
    let w := s.mem.stored a
    let s := s.detect a 5 w.2
    match classify w.2 with
    | .clean => State.scrubWords n (a + 8) k s
    | .corrected _ => State.scrubWords n (a + 8) (k.1 + 1, k.2.1, k.2.2)
        (s.wordWrite a (corrected w.1 w.2).1 false)
    | .uncorrectable => State.scrubWords n (a + 8) (k.1, k.2.1 + 1, k.2.2) (s.wordWrite a w.1 true)
    | .poison => State.scrubWords n (a + 8) (k.1, k.2.1, k.2.2 + 1) s

/-- The bytes a job has done by now at a rate in bytes a nanosecond (log 12). -/
def MemJob.progress (j : MemJob) (now rate : Nat) : Nat :=
  min (j.hi - j.lo) ((now - j.start) * rate / 64 * 64)

/-- Ends the running scrub after `len` bytes: its counts, and the state with its Firn record. -/
def State.scrubEnd (s : State) (j : MemJob) (len : Nat) : Bytes × State :=
  let r := State.scrubWords (len / 8) j.lo (0, 0, 0) s
  let s := ({ r.2 with mem.scrub := none }.finish 1).firnEv 0x1104 (leBytes 4 r.1.1 ++ leBytes 4 r.1.2.1)
  (leBytes 4 r.1.1 ++ leBytes 4 r.1.2.1 ++ leBytes 4 r.1.2.2, s)

/-- MEM_SCRUB (R449, R455): a start waits for its end; a stop ends the running one and returns its counts. -/
def cmdMemScrub : Cmd where
  opcode := 0x1102
  param _ _ r := restZero r 17 &&
    (byteAt r.params 16 == 1 || (byteAt r.params 16 == 0 && rangeOk (le64 r.params 0) (le64 r.params 8)))
  state s _ r := if byteAt r.params 16 = 1 ∧ s.mem.scrub.isNone then stSTATE else 0
  busy s _ r :=
    let lo := le64 r.params 0
    if byteAt r.params 16 = 0 ∧ (s.active 1 || s.activeIn [2, 3] lo (lo + le64 r.params 8)) then stCONFLICT else 0
  body p e s :=
    let lo := le64 e.req.params 0
    match byteAt e.req.params 16, s.mem.scrub with
    | 0, _ =>
      let s := s.begin 1 (some p) lo (lo + le64 e.req.params 8)
      .wait { s with mem.scrub := some { lo := lo, hi := lo + le64 e.req.params 8, start := s.now, pattern := 0 } }
    | _, some j =>
      let r := s.scrubEnd j (j.progress s.now 4)
      .done (r.2.completeWaiting 0x1102 stABORTED r.1) stOK r.1 none
    | _, none => .done s stSTATE [] none

/-- MEM_SCRUB (R449, R455). -/
def execMemScrub (p : Path) (s : State) : Out := .next (s.run cmdMemScrub p)

/-- SCRUB_COMPLETE: the scrub has gone through its range (R449). -/
def execScrubComplete (s : State) : Out :=
  .next (match s.mem.scrub with
    | none => s
    | some j =>
      let s := s.clockTo (j.start + (j.hi - j.lo) / 4)
      let r := s.scrubEnd j (j.hi - j.lo)
      r.2.completeWaiting 0x1102 stOK r.1)

/-- MEM_STATUS (R455). -/
def cmdMemStatus : Cmd where
  opcode := 0x1103
  param _ _ r := restZero r 0
  xpNeed _ _ := 32
  body _ _ s :=
    let doneOf (j : Option MemJob) (rate : Nat) : Nat := (j.map (fun j => j.progress s.now rate)).getD 0
    .done s stOK [] (some
      (leBytes 4 (b2n s.mem.fill.isSome + 2 * b2n s.mem.scrub.isSome + 4 * b2n s.mem.flipArmed) ++
        leBytes 8 (doneOf s.mem.fill 16) ++ leBytes 8 (doneOf s.mem.scrub 4) ++ leBytes 4 s.mem.sramUe ++
        leBytes 2 s.mem.log.length ++ zeros 6))

/-- MEM_STATUS (R455). -/
def execMemStatus (p : Path) (s : State) : Out := .next (s.run cmdMemStatus p)

/-- An error log entry's 32 bytes (R451). -/
def EccLog.bytes (l : EccLog) : Bytes :=
  l.stamp.bytes ++ leBytes 1 l.kind ++ leBytes 1 l.source ++ leBytes 8 l.address ++ leBytes 1 l.syndrome ++
    leBytes 1 l.bit ++ leBytes 2 (b2n l.rewritten) ++ leBytes 4 l.repeats ++ zeros 8

/-- MEM_ECC_LOG_READ (R451, R452, R455). -/
def cmdMemEccLogRead : Cmd where
  opcode := 0x1104
  param _ _ r := 1 ≤ le16 r.params 0 && le16 r.params 0 ≤ 256 && byteAt r.params 2 < 4 && restZero r 3
  xpNeed s r := 32 * min (le16 r.params 0) s.mem.log.length
  body _ e s :=
    let ls := if (byteAt e.req.params 2).testBit 0 then s.mem.log.reverse else s.mem.log
    let ls := ls.take (le16 e.req.params 0)
    let s' := if (byteAt e.req.params 2).testBit 1 then
        { s with mem := { s.mem with
            log := [], overwritten := 0, ceCnt := 0, ueCnt := 0, poisonCnt := 0, sramCeCnt := 0 } }
      else s
    .done s' stOK (leBytes 2 ls.length ++ leBytes 4 s.mem.overwritten) (some ((ls.map EccLog.bytes).flatten))

/-- MEM_ECC_LOG_READ (R451, R455). -/
def execMemEccLogRead (p : Path) (s : State) : Out := .next (s.run cmdMemEccLogRead p)

end Machine
end Sys2Proof
end

