-- ==== Sys2Proof/Machine/Security.lean ====
section
/-! DEFINITION. Key store, attestation and the security commands (chapter 20). The tamper response is in
ModState.lean. -/

namespace Sys2Proof
namespace Config

/-- The octets of a stored configuration in flash, whose layout the spec does not give (R428; log 14). -/
opaque storedBytes : Machine.Cfg → Bytes

end Config

namespace Machine

/-! ## Keys (R417 to R423) -/

/-- The root secret in use (R414). -/
def State.root (s : State) : Bytes := if s.sec.rootBank = 0 then s.flash.rootASecret else s.flash.rootBSecret

/-- The KDF of R417: key, label and context. -/
def kdf (key label ctx : Bytes) : Bytes :=
  padTo 32 (Config.hmacSha256 key ([0, 0, 0, 1] ++ label ++ [0] ++ ctx ++ [0, 0, 1, 0]))

/-- The serial number in network order. -/
def serialBe : Bytes := (leBytes 8 Config.serial.toNat).reverse

/-- KEK_BACKUP: label BNK-BACKUP. -/
def State.kekBackup (s : State) : Bytes :=
  kdf s.root [0x42, 0x4E, 0x4B, 0x2D, 0x42, 0x41, 0x43, 0x4B, 0x55, 0x50] serialBe

/-- K_CFG: label BNK-CFG. -/
def State.kCfg (s : State) : Bytes := kdf s.root [0x42, 0x4E, 0x4B, 0x2D, 0x43, 0x46, 0x47] serialBe

/-- KEK_IMP of an import session: label BNK-IMPORT, context the module nonce (R421). -/
def ImportSession.kek (i : ImportSession) (hostKey : Bytes) : Bytes :=
  kdf (Config.ecdh i.draw hostKey) [0x42, 0x4E, 0x4B, 0x2D, 0x49, 0x4D, 0x50, 0x4F, 0x52, 0x54] i.nonce

/-- Material bytes of a slot type, 0 for a type that does not exist (R419). -/
def keyMaterial (type : Nat) : Nat :=
  if type = 1 then 16 else if type = 2 ∨ type = 3 then 32 else if type = 4 then 64 else 0

/-- The usage bits a type permits (R419). -/
def keyUsage (type : Nat) : Nat :=
  if type = 1 then 0x0F else if type = 2 then 0x1F else if type = 3 then 0xA0 else if type = 4 then 0x40 else 0

/-- A slot's key, or an empty one. -/
def State.slotEmpty (s : State) (n : Nat) : Bool :=
  match s.sec.slots.get? n with
  | some k => k.cur.isNone && k.prev.isNone
  | none => true

/-- Writes a slot in key-store SRAM and its wrapped copy in retention RAM (R423, R425). -/
def State.setSlot (s : State) (n : Nat) (k : KeySlot) : State :=
  { s with sec.slots := s.sec.slots.set n k, ao.keys := s.ao.keys.set n k }

/-- Empties a slot in both. -/
def State.clearSlot (s : State) (n : Nat) : State :=
  { s with sec.slots := s.sec.slots.del n, ao.keys := s.ao.keys.del n }

/-- Type, usage and key_id are valid for an import into a slot (R418, R419). -/
def State.importOk (s : State) (n type usage keyId : Nat) : Bool :=
  keyMaterial type != 0 && Nat.land usage (keyUsage type) == usage && (type != 3 || usage.testBit 5) &&
    keyId != 0 && keyId != 0xFFFFFFFF && (findKey s.sec.slots keyId).isNone &&
    (s.slotEmpty n ||
      match s.sec.slots.get? n with
      | some k => k.type == type && k.usage == usage
      | none => true)

/-- Puts new material in a slot as its current generation (R423). -/
def State.putKey (s : State) (n type usage keyId : Nat) (m : Bytes) : State × Nat :=
  let old := (s.sec.slots.get? n).bind (·.cur)
  let gen := match old with | some g => (g.gen + 1) % 4294967296 | none => 1
  (s.setSlot n { type := type, usage := usage, prev := old,
                 cur := some { gen := gen, keyId := keyId, material := m, stamp := s.stamp 17 } }, gen)

/-- The path's import session, while it lasts and serves (R421). -/
def State.session (s : State) (p : Path) : Option ImportSession :=
  match s.sec.sessions.get? (chanKey p) with
  | some i => if s.now < i.since + 60000000000 && i.uses < 64 then some i else none
  | none => none

/-- IMPORT_SESSION_EXPIRY: 60 s after it was opened (R421). -/
def execImportSessionExpiry (p : Path) (s : State) : Out :=
  .next (match s.sec.sessions.get? (chanKey p) with
    | some i => { s.clockTo (i.since + 60000000000) with sec.sessions := s.sec.sessions.del (chanKey p) }
    | none => s)

/-- Parameters of an import: slot, type, usage, key_id, the session's public key and the wrapped material
after the block (R439). -/
def importParam (s : State) (r : Req) (type usage keyId : Nat) : Bool :=
  s.importOk (byteAt r.params 0) type usage keyId && r.xp && 64 + keyMaterial type + 8 ≤ r.region.length &&
    restZero r 8

/-- The effect of an import: AUTH where the material does not unwrap, nothing being changed; the new
generation otherwise (R421, R423). -/
def importBody (type usage : Nat) (p : Path) (e : Exec) (s : State) : CmdResult :=
  let r := e.req
  let n := byteAt r.params 0
  let id := le32 r.params 4
  match s.session p with
  | none => .done s stSTATE [] none
  | some i =>
    match Config.keyUnwrap (i.kek (slice r.region 0 64)) (slice r.region 64 (keyMaterial type + 8)) with
    | none => .done s stAUTH [] none
    | some m =>
      let s := { s with sec.sessions := s.sec.sessions.set (chanKey p) { i with uses := i.uses + 1 } }
      let k := s.putKey n type usage id (padTo (keyMaterial type) m)
      let s := k.1.firnEv 0x0E03 (leBytes 2 n ++ [1, 0] ++ leBytes 4 id)
      .done s.secSettle stOK (leBytes 4 k.2) none

/-! ## Commands (R439) -/

/-- AUTH_NONCE: a new nonce replaces the path's old one; FAULT without randomness (R101, R415). -/
def cmdAuthNonce : Cmd where
  opcode := 0x0E01
  param _ _ r := restZero r 0
  xpNeed _ _ := 16
  body p _ s :=
    if s.sec.entropyFail || s.sec.zeroised then .done s stFAULT [] none
    else
      let d := s.random 16
      .done (d.2.setNonce p (some (d.1, d.2.now))) stOK (s.stamp 17).bytes (some d.1)

/-- AUTH_NONCE (R101). -/
def execAuthNonce (p : Path) (s : State) : Out := .next (s.run cmdAuthNonce p)

/-- Seconds of a lock-out left: of a started second the spec does not say which way it counts (log 2). -/
def State.lockoutLeft (s : State) : Nat × State :=
  match s.sec.lockout with
  | some t =>
    let left := t + 60000000000 - s.now
    if left % 1000000000 = 0 then (left / 1000000000, s)
    else let d := s.draw; (left / 1000000000 + d.1 % 2, d.2)
  | none => (0, s)

/-- SEC_STATUS (R439). -/
def cmdSecStatus : Cmd where
  opcode := 0x0E02
  param _ _ r := restZero r 0
  xpNeed _ _ := 32
  body _ _ s :=
    let l := s.lockoutLeft
    let s := l.2
    let flags := b2n s.ao.tampAo + 2 * b2n s.sec.loopOpen + 4 * b2n s.sec.entropyFail + 8 * b2n s.ao.tamperEn +
      16 * b2n (s.sec.sessions.any (fun x => decide (s.now < x.2.since + 60000000000))) + 32 * b2n s.sec.zeroised
    let used := (List.range 256).countP (fun n => !s.slotEmpty n)
    .done s stOK [] (some (leBytes 1 s.secureFlags ++ leBytes 1 flags ++ leBytes 1 s.sec.rootBank ++
      leBytes 1 s.flash.rollback ++ leBytes 4 s.ao.tamperCount ++ leBytes 1 s.sec.tamperSrc ++ zeros 3 ++
      s.sec.tamperStamp.bytes ++ leBytes 2 used ++ leBytes 2 l.1 ++ zeros 10))

/-- SEC_STATUS (R439). -/
def execSecStatus (p : Path) (s : State) : Out := .next (s.run cmdSecStatus p)

/-- The 16 bytes of a slot in slot_digest (R428). -/
def State.slotDigest (s : State) (n : Nat) : Bytes :=
  match s.sec.slots.get? n with
  | some k => leBytes 1 k.type ++ [0] ++ leBytes 2 k.usage ++
      (match k.cur with | some g => leBytes 4 g.gen ++ leBytes 4 g.keyId | none => zeros 8) ++
      (match k.prev with | some g => leBytes 4 g.keyId | none => zeros 4)
  | none => zeros 16

/-- Bytes 0 to 191 of the attestation statement (R428). -/
def State.attest (s : State) (challenge : Bytes) : Bytes :=
  let im := s.runImage
  leBytes 4 0x31545441 ++ leBytes 2 1 ++ leBytes 2 256 ++ leBytes 8 Config.serial.toNat ++
  leBytes 1 Config.hwRev.toNat ++ leBytes 1 im.major ++ leBytes 1 im.minor ++ leBytes 1 7 ++ leBytes 2 im.build ++
  leBytes 1 (s.mod.slot + 2 * b2n s.mod.fallback) ++ leBytes 1 im.svn ++ leBytes 1 s.flash.rollback ++
  leBytes 1 s.mod.state ++ leBytes 1 s.mod.role ++ leBytes 1 s.secureFlags ++ leBytes 4 s.ao.tamperCount ++
  padTo 32 challenge ++ padTo 32 im.digest ++
  padTo 32 (Config.sha256 (((List.range 256).map s.slotDigest).flatten)) ++
  padTo 32 (Config.sha256 (Config.storedBytes s.stored)) ++ (s.stamp 17).bytes ++ s.calendarOf s.now ++ zeros 18

/-- SEC_ATTEST: bytes 0 to 191 signed with the identity key, which a failed entropy source does not stop, but blocked
fuse banks do (R415, R428, R431). -/
def cmdSecAttest : Cmd where
  opcode := 0x0E03
  param _ _ r := r.xp && 32 ≤ r.region.length && restZero r 0
  xpNeed _ _ := 256
  body _ e s :=
    if s.sec.zeroised then .done s stFAULT [] none
    else
      let b := s.attest (slice e.req.region 0 32)
      .done { s with sec.draws := s.sec.draws + 1 } stOK []
        (some (b ++ padTo 64 (Config.identitySign s.sec.draws b)))

/-- SEC_ATTEST (R428). -/
def execSecAttest (p : Path) (s : State) : Out := .next (s.run cmdSecAttest p)

/-- SEC_IMPORT_SESSION: a new session ends the path's old one (R421). -/
def cmdSecImportSession : Cmd where
  opcode := 0x0E04
  param _ _ r := restZero r 0
  xpNeed _ _ := 144
  body p _ s :=
    if s.sec.entropyFail || s.sec.zeroised then .done s stFAULT [] none
    else
      let draw := s.sec.draws
      let d := { s with sec.draws := draw + 1 }.random 16
      let pub := padTo 64 (Config.ecPublic draw)
      let s := { d.2 with sec := { d.2.sec with
        sessions := d.2.sec.sessions.set (chanKey p) { since := d.2.now, nonce := d.1, draw := draw }
        draws := d.2.sec.draws + 1 } }
      .done s stOK [] (some (pub ++ d.1 ++ padTo 64 (Config.identitySign (draw + 2) (pub ++ d.1))))

/-- SEC_IMPORT_SESSION (R421). -/
def execSecImportSession (p : Path) (s : State) : Out := .next (s.run cmdSecImportSession p)

/-- SEC_KEY_IMPORT: SEAL_SEC for types 3 and 4 (R423, R439). -/
def cmdSecKeyImport : Cmd where
  opcode := 0x0E05
  seals _ r := if byteAt r.params 1 = 3 ∨ byteAt r.params 1 = 4 then 8 else 0
  param s _ r := importParam s r (byteAt r.params 1) (le16 r.params 2) (le32 r.params 4)
  state s p _ := if (s.session p).isSome then 0 else stSTATE
  body p e s := importBody (byteAt e.req.params 1) (le16 e.req.params 2) p e s

/-- SEC_KEY_IMPORT (R423). -/
def execSecKeyImport (p : Path) (s : State) : Out := .next (s.run cmdSecKeyImport p)

/-- A slot holds a valid operator key with SEC_ADMIN. -/
def KeySlot.admin (k : KeySlot) : Bool :=
  k.type == 3 && k.usage.testBit 7 && (k.cur.isSome || k.prev.isSome)

/-- SEC_KEY_REMOVE would leave no type-3 key with SEC_ADMIN (R439). -/
def State.lastAdmin (s : State) (n : Nat) (both : Bool) : Bool :=
  match s.sec.slots.get? n with
  | some k =>
    k.admin && (both || k.cur.isNone) && !s.sec.slots.any (fun x => x.1 != n && x.2.admin)
  | none => false

/-- SEC_KEY_REMOVE (R418, R439). -/
def cmdSecKeyRemove : Cmd where
  opcode := 0x0E06
  seals s r := match s.sec.slots.get? (byteAt r.params 0) with
    | some k => if k.type = 3 ∨ k.type = 4 then 8 else 0
    | none => 0
  param _ _ r := byteAt r.params 1 ≤ 1 && restZero r 2
  state s _ r := if s.lastAdmin (byteAt r.params 0) (byteAt r.params 1 == 0) then stSTATE else 0
  body _ e s :=
    let n := byteAt e.req.params 0
    match s.sec.slots.get? n with
    | none => .done s stOK [] none
    | some k =>
      let gone := if byteAt e.req.params 1 = 1 then k.prev else k.cur.or k.prev
      let s :=
        if byteAt e.req.params 1 = 0 ∨ k.cur.isNone then s.clearSlot n else s.setSlot n { k with prev := none }
      .done (match gone with
        | some g => (s.firnEv 0x0E03 (leBytes 2 n ++ [3, 0] ++ leBytes 4 g.keyId)).secSettle
        | none => s) stOK [] none

/-- SEC_KEY_REMOVE (R439). -/
def execSecKeyRemove (p : Path) (s : State) : Out := .next (s.run cmdSecKeyRemove p)

/-- The 32 bytes of a slot in SEC_KEY_INFO (R439). -/
def State.slotInfo (s : State) (n : Nat) : Bytes :=
  match s.sec.slots.get? n with
  | some k =>
    let gen (g : Option KeyGen) : Bytes :=
      match g with | some g => leBytes 4 g.gen ++ leBytes 4 g.keyId | none => zeros 8
    leBytes 1 k.type ++ [0] ++ leBytes 2 k.usage ++ leBytes 4 (b2n k.cur.isSome + 2 * b2n k.prev.isSome) ++
      gen k.cur ++ gen k.prev ++ (match k.cur with | some g => g.stamp.bytes | none => zeros 6) ++ zeros 2
  | none => zeros 32

/-- The slots SEC_KEY_INFO names. -/
def infoCount (r : Req) : Nat := if byteAt r.params 1 = 0 then 256 else byteAt r.params 1

/-- SEC_KEY_INFO (R439). -/
def cmdSecKeyInfo : Cmd where
  opcode := 0x0E07
  param _ _ r := byteAt r.params 0 + infoCount r ≤ 256 && restZero r 2
  xpNeed _ r := 32 * infoCount r
  body _ e s :=
    .done s stOK []
      (some (((List.range (infoCount e.req)).map (fun i => s.slotInfo (byteAt e.req.params 0 + i))).flatten))

/-- SEC_KEY_INFO (R439). -/
def execSecKeyInfo (p : Path) (s : State) : Out := .next (s.run cmdSecKeyInfo p)

/-- SEC_OPERATOR_ENROL: the first operator key, with CMD_AUTH and SEC_ADMIN (R422). -/
def cmdSecOperatorEnrol : Cmd where
  opcode := 0x0E08
  param s _ r := byteAt r.params 1 == 3 && importParam s r 3 (Nat.lor (le16 r.params 2) 0xA0) (le32 r.params 4)
  state s p _ := if s.sec.slots.any (fun x => x.2.type == 3) || (s.session p).isNone then stSTATE else 0
  body p e s := importBody 3 0xA0 p e s

/-- SEC_OPERATOR_ENROL (R422). -/
def execSecOperatorEnrol (p : Path) (s : State) : Out := .next (s.run cmdSecOperatorEnrol p)

/-! ## Backup and restore (R427) -/

/-- The valid generations of a slot, the current one last (R427), each with whether it is current. -/
def KeySlot.gens (k : KeySlot) : List (Bool × KeyGen) :=
  (match k.prev with | some g => [(false, g)] | none => []) ++ (match k.cur with | some g => [(true, g)] | none => [])

/-- An entry of a backup. -/
def State.backupEntry (s : State) (n : Nat) (k : KeySlot) (g : Bool × KeyGen) : Bytes :=
  leBytes 2 n ++ leBytes 1 k.type ++ leBytes 1 (b2n g.1) ++ leBytes 2 k.usage ++ zeros 2 ++ leBytes 4 g.2.gen ++
    leBytes 4 g.2.keyId ++ padTo 80 (padTo (keyMaterial k.type + 8) (Config.keyWrap s.kekBackup g.2.material))

/-- The entries of a backup, in slot order. -/
def State.backupEntries (s : State) : List Bytes :=
  (s.sec.slots.map (fun (n, k) => k.gens.map (s.backupEntry n k))).flatten

/-- The backup blob (R427). -/
def State.backup (s : State) : Bytes :=
  let es := s.backupEntries
  let b := leBytes 4 0x314B4242 ++ leBytes 2 1 ++ leBytes 2 es.length ++ leBytes 8 Config.serial.toNat ++
    (s.stamp 17).bytes ++ zeros 42 ++ es.flatten
  b ++ padTo 32 (Config.hmacSha256 s.kCfg b)

/-- A firmware update runs, which a key-store backup conflicts with (R491). -/
def State.backupBusy (s : State) : Nat := if s.active 8 || s.active 9 then stCONFLICT else 0

/-- SEC_BACKUP (R427). -/
def cmdSecBackup : Cmd where
  opcode := 0x0E09
  param _ _ r := restZero r 0
  xpNeed s _ := 96 + 96 * s.backupEntries.length
  busy s _ _ := s.backupBusy
  body _ _ s :=
    .done (s.firnEv 0x0E09 (leBytes 4 1 ++ leBytes 4 s.backupEntries.length)) stOK [] (some s.backup)

/-- SEC_BACKUP (R427). -/
def execSecBackup (p : Path) (s : State) : Out := .next (s.run cmdSecBackup p)

/-- A restored generation: slot, type, usage, current, generation. -/
def State.restoreEntry (s : State) (e : Bytes) : Option (Nat × Nat × Nat × Bool × KeyGen) :=
  let type := byteAt e 2
  match Config.keyUnwrap s.kekBackup (slice e 16 (keyMaterial type + 8)) with
  | none => none
  | some m =>
    some (le16 e 0, type, le16 e 4, (byteAt e 3).testBit 0,
      { gen := le32 e 8, keyId := le32 e 12, material := padTo (keyMaterial type) m, stamp := s.stamp 17 })

/-- The entries of a blob, none where one does not unwrap. -/
def State.restoreEntries (s : State) (b : Bytes) :
    Option (List (Nat × Nat × Nat × Bool × KeyGen)) :=
  (chunks 96 (le16 b 6) (b.drop 64)).mapM s.restoreEntry

/-- The blob is this module's and its HMAC verifies (R427). -/
def State.blobOk (s : State) (b : Bytes) : Bool :=
  let n := 64 + 96 * le16 b 6
  le32 b 0 == 0x314B4242 && le16 b 4 == 1 && le64 b 8 == Config.serial.toNat && n + 32 ≤ b.length &&
    slice b n 32 == padTo 32 (Config.hmacSha256 s.kCfg (b.take n)) && (s.restoreEntries b).isSome

/-- Writes one restored generation; the slot's old generations are gone (R427). -/
def State.restoreOne (s : State) (x : Nat × Nat × Nat × Bool × KeyGen) : State :=
  let (n, type, usage, cur, g) := x
  let old : KeySlot := (s.sec.slots.get? n).getD { type := type, usage := usage, cur := none, prev := none }
  let k := if cur then { old with cur := some g } else { old with prev := some g }
  (s.setSlot n { k with type := type, usage := usage }).firnEv 0x0E03 (leBytes 2 n ++ [2, 0] ++ leBytes 4 g.keyId)

/-- SEC_RESTORE: every slot named in the blob is replaced, current generations last (R427). -/
def cmdSecRestore : Cmd where
  opcode := 0x0E0A
  param s _ r := r.xp && restZero r 0 && s.blobOk r.region
  busy s _ _ := s.backupBusy
  body _ e s :=
    let xs := (s.restoreEntries e.req.region).getD []
    let s := xs.foldl (fun s x => s.clearSlot x.1) s
    let s := (xs.filter (fun x => !x.2.2.2.1)).foldl State.restoreOne s
    let s := (xs.filter (fun x => x.2.2.2.1)).foldl State.restoreOne s
    .done (s.firnEv 0x0E09 (leBytes 4 2 ++ leBytes 4 xs.length)).secSettle stOK (leBytes 2 xs.length) none

/-- SEC_RESTORE (R427). -/
def execSecRestore (p : Path) (s : State) : Out := .next (s.run cmdSecRestore p)

/-! ## Settings and fuses (R434 to R439) -/

/-- SEC_CFG: tamper_en, stored in PD_AO and flash at once (R429, R439). -/
def cmdSecCfg : Cmd where
  opcode := 0x0E0B
  param _ _ r := byteAt r.params 0 ≤ 1 && restZero r 1
  body _ e s :=
    let v := byteAt e.req.params 0 == 1
    .done { s with ao.tamperEn := v, cfg.tamperEn := v, stored.tamperEn := v }.secSettle stOK [] none

/-- SEC_CFG (R439). -/
def execSecCfg (p : Path) (s : State) : Out := .next (s.run cmdSecCfg p)

/-- SEC_DEBUG_DISABLE: the debug fuse is blown (R43, R436). -/
def cmdSecDebugDisable : Cmd where
  opcode := 0x0E0C
  param _ _ r := restZero r 0
  body _ _ s := .done ({ s with flash.debugFuse := true }.firnEv 0x0E07 []).secSettle stOK [] none

/-- SEC_DEBUG_DISABLE (R436). -/
def execSecDebugDisable (p : Path) (s : State) : Out := .next (s.run cmdSecDebugDisable p)

/-- A firmware update runs (R491). -/
def State.updateBusy (s : State) : Nat := if s.active 8 then stCONFLICT else 0

/-- SEC_ROLLBACK_COMMIT: the counter rises to the running image's svn; STATE with FALLBACK set (R435). -/
def cmdSecRollbackCommit : Cmd where
  opcode := 0x0E0D
  param _ _ r := restZero r 0
  state s _ _ := if s.mod.fallback then stSTATE else 0
  busy s _ _ := s.updateBusy
  body _ _ s :=
    let old := s.flash.rollback
    let new := max old (min 64 s.runImage.svn)
    let s := { s with flash.rollback := new }.firnEv 0x0E06 (leBytes 1 old ++ leBytes 1 new ++ [0])
    .done s.secSettle stOK (leBytes 1 new) none

/-- SEC_ROLLBACK_COMMIT (R435). -/
def execSecRollbackCommit (p : Path) (s : State) : Out := .next (s.run cmdSecRollbackCommit p)

/-- SEC_KEYREV: key 1 is revoked, while the running image is signed with key 2 (R434). -/
def cmdSecKeyrev : Cmd where
  opcode := 0x0E0E
  param _ _ r := restZero r 0
  state s _ _ := if s.runImage.keyIdx = 2 then 0 else stSTATE
  busy s _ _ := s.updateBusy
  body _ _ s :=
    let s := { s with flash.key1Revoked := true }
    .done (s.firnEv 0x0E06 (leBytes 1 s.flash.rollback ++ leBytes 1 s.flash.rollback ++ [1])).secSettle stOK [] none

/-- SEC_KEYREV (R434). -/
def execSecKeyrev (p : Path) (s : State) : Out := .next (s.run cmdSecKeyrev p)

/-- The record of a slot that is emptied, as SEC_KEY_REMOVE writes it (R438). -/
def State.removeRecord (s : State) (n : Nat) (k : KeySlot) : State :=
  match k.cur.or k.prev with
  | some g => s.firnEv 0x0E03 (leBytes 2 n ++ [3, 0] ++ leBytes 4 g.keyId)
  | none => s

/-- SEC_ZEROISE: every imported slot is emptied as by SEC_KEY_REMOVE, the derived keys are kept (R439). -/
def cmdSecZeroise : Cmd where
  opcode := 0x0E0F
  param _ _ r := restZero r 0
  body _ _ s :=
    let t := { s with sec.slots := [], ao.keys := [] }
    let t := s.sec.slots.foldl (fun t x => t.removeRecord x.1 x.2) t
    .done (t.firnEv 0x0E02 [2]).secSettle stOK [] none

/-- SEC_ZEROISE (R439). -/
def execSecZeroise (p : Path) (s : State) : Out := .next (s.run cmdSecZeroise p)

/-- SEC_TAMPER_CLEAR: a reset with cause TAMPER_CLEAR 10 ms after its completion; STATE while the loop is
open (R432). -/
def cmdSecTamperClear : Cmd where
  opcode := 0x0E10
  param _ _ r := restZero r 0
  state s _ _ := if s.sec.loopOpen then stSTATE else 0
  body _ _ s :=
    .done ({ s with mod.resetReq := some .tamperClear, mod.resetAt := s.now + 10000000 }.firnEv 0x0E0B [2]) stOK [] none

/-- SEC_TAMPER_CLEAR (R432). -/
def execSecTamperClear (p : Path) (s : State) : Out := .next (s.run cmdSecTamperClear p)

/-- SEC_CERT_READ (R416). -/
def cmdSecCertRead : Cmd where
  opcode := 0x0E11
  param _ _ r := restZero r 0
  xpNeed _ _ := Config.certChain.length
  body _ _ s := .done s stOK (leBytes 2 Config.certChain.length) (some Config.certChain)

/-- SEC_CERT_READ (R416). -/
def execSecCertRead (p : Path) (s : State) : Out := .next (s.run cmdSecCertRead p)

/-! ## Re-masking and the entropy source (R415, R426) -/

/-- A path holds a key command (R424). -/
def State.keyCommand (s : State) : Bool :=
  ((List.range 4).map Path.mb ++ s.p7.map (fun x => Path.p7 x.1)).any (fun p =>
    match s.execOf p with | some e => e.req.opcode / 256 == 0x0E | none => false)

/-- KEY_REMASK: a fresh mask, deferred while a key command runs; slots that SRAM lost come back from
retention (R424, R426, R446). -/
def execKeyRemask (s : State) : Out :=
  .next (if s.sec.derived && !s.sec.zeroised && !s.sec.entropyFail && !s.keyCommand then
    { s with ao.keyMask := some s.sec.draws, sec.draws := s.sec.draws + 1, sec.slots := s.ao.keys }
    else s)

/-- ENTROPY_FAIL and its record; the failing test's code is not given (R415, R438; log 2). -/
def State.entropyFail (s : State) : State :=
  let d := s.draw
  ({ d.2 with sec.entropyFail := true }.firnEv 0x0E0A (leBytes 1 d.1)).secSettle

/-- ENTROPY_HEALTH_FAIL: the source restarts; three failures in a row set ENTROPY_FAIL (R415). -/
def State.healthFail (s : State) : State :=
  let n := s.sec.healthFails + 1
  let s := { s with sec.healthFails := min 3 n }
  if n ≥ 3 && !s.sec.entropyFail then s.entropyFail else s

/-- ENTROPY_HEALTH_FAIL (R415). -/
def execEntropyHealthFail (s : State) : Out := .next s.healthFail

end Machine
end Sys2Proof
end

