-- ==== Sys2Proof/Machine/Bist.lean ====
section
/-! DEFINITION. Built-in self-tests, alone and as a deep test (R479, R488, R489). -/

namespace Sys2Proof
namespace Machine

/-- How long a test takes, ns: DRAM_PATTERN at 2 GB/s (R488). -/
def bistTime (test len : Nat) : Nat :=
  match test with
  | 1 => 40000000
  | 2 => 300000000
  | 3 => 1200000000
  | 4 => len / 2
  | _ => 2000000000

/-- Leaves a range at 0, line by line, but for the lines a deep test may not touch (R488, R489). -/
def State.marchZero (s : State) (lo hi : Nat) (deep : Bool) : State :=
  (List.range ((hi - lo) / 64)).foldl (fun s i =>
    let a := lo + 64 * i
    if deep && (s.acqBusy a (a + 64) || s.activeIn [1, 3] a (a + 64)) then s else s.lineWrite a (zeros 64) false) s

/-- A test ends: its result and detail, which the spec leaves to what it finds (log 2), its record, and what its
failure does (R488, R489, R494). -/
def State.bistEnd (s : State) (test lo hi : Nat) (deep : Bool) : (Bool × Nat) × State :=
  let a := s.draw
  let b := a.2.draw
  let fail := a.1 % 2 == 1
  let detail := b.1 % 4294967296
  let s := if test = 4 then b.2.marchZero lo hi deep else b.2
  let s := s.firnEv 0x1108 ([BitVec.ofNat 8 test, BitVec.ofNat 8 (b2n fail), 0, 0] ++ leBytes 4 detail)
  let s := if fail && test = 1 && !s.sec.entropyFail then s.entropyFail
    else if fail && test = 5 then s.halterCause 3 else s
  ((fail, detail), s)

/-- DIAG_BIST (R488, R489, R491, R495): the test runs from here on; `bistSweep` ends it. -/
def cmdDiagBist : Cmd where
  opcode := 0x1112
  param _ _ r :=
    1 ≤ byteAt r.params 0 && byteAt r.params 0 ≤ 5 && zeroAt r.params 1 7 && restZero r 24 &&
      (if byteAt r.params 0 = 4 then rangeOk (le64 r.params 8) (le64 r.params 16) else zeroAt r.params 8 16)
  busy s _ r :=
    let lo := le64 r.params 8
    let hi := lo + le64 r.params 16
    if byteAt r.params 0 = 4 then
      if s.active 2 || s.active 6 || s.activeIn [1, 3] lo hi || s.acqBusy lo hi then stCONFLICT else 0
    else if s.active 13 then stCONFLICT else 0
  body p e s :=
    let t := byteAt e.req.params 0
    let lo := le64 e.req.params 8
    let len := le64 e.req.params 16
    let s := if t = 4 then s.begin 2 (some p) lo (lo + len) else s.begin 13 (some p) t t
    .wait (s.setProg p [s.now + bistTime t len])

/-- DIAG_BIST (R495). -/
def execDiagBist (p : Path) (s : State) : Out := .next (s.run cmdDiagBist p)

/-- The range of the areas outside the firmware region, which a deep test marches over (R441, R488). -/
def deepLo : Nat := firmwareEnd
def deepHi : Nat := 68719476736

/-- Ends the deep test with a status: its activity and the command that started it (R479). -/
def State.deepStop (s : State) (status : Nat) : State :=
  (s.finish 6).completeWaiting 0x0F07 status (s.stamp 17).bytes

/-- Self-tests whose time has come end: DIAG_BIST's test, and a deep test with tests 1 to 4 in order (R479,
R488; log 24). -/
def State.bistSweep (s : State) : State :=
  let s := match s.waiting 0x1112 with
    | some (p, e) =>
      let t := byteAt e.req.params 0
      let lo := le64 e.req.params 8
      if s.now < e.prog.getD 0 0 then s
      else
        let r := (s.finish (if t = 4 then 2 else 13)).bistEnd t lo (lo + le64 e.req.params 16) false
        r.2.complete p stOK (leBytes 4 (b2n r.1.1) ++ leBytes 4 r.1.2)
    | none => s
  match s.waiting 0x0F07 with
  | some (_, e) =>
    if s.now < e.prog.getD 0 0 then s
    else
      let s := [1, 2, 3, 4].foldl (fun s t => (s.bistEnd t deepLo deepHi true).2) s
      s.deepStop stOK
  | none => s

end Machine
end Sys2Proof
end

