-- ==== Sys2Proof/Machine/Firn.lean ====
section
/-! DEFINITION. The Firn event recorder: records, programming, freeze and clear, and its commands
(chapter 18). -/

namespace Sys2Proof
namespace Machine

/-- One byte of CRC-16, polynomial 0x1021, no reflection (R375). -/
def crc16Byte (c : Nat) (b : Byte) : Nat :=
  (List.range 8).foldl (fun c _ => if c.testBit 15 then (c * 2 % 65536) ^^^ 0x1021 else c * 2 % 65536)
    (c ^^^ (b.toNat * 256))

/-- CRC-16 with initial value 0xFFFF (R375). -/
def crc16 (b : Bytes) : Nat := b.foldl crc16Byte 0xFFFF

/-- Bytes 0 to 29 of a record (R375). -/
def FirnEv.body (e : FirnEv) : Bytes :=
  padTo 8 e.calendar ++ e.stamp.bytes ++ leBytes 1 (e.code / 256) ++ leBytes 1 (e.code % 256) ++ leBytes 4 e.seq ++
    leBytes 2 (8 * b2n e.boot + 4 * b2n e.held + 2 * b2n e.calInvalid + b2n e.calFree) ++ padTo 8 e.data

/-- A record with its crc (R375). -/
def FirnEv.record (e : FirnEv) : Bytes := e.body ++ leBytes 2 (crc16 e.body)

/-- A record whose crc does not match is torn (R379). -/
def tornRecord (b : Bytes) : Bool := le16 b 30 != crc16 (b.take 30)

/-- The seq of a record. -/
def recordSeq (b : Bytes) : Nat := le32 b 16

/-- Programs a record in the next slot, and raises INT_CAUSE.FIRN (R374, R379). -/
def State.firnStore (s : State) (e : FirnEv) : State :=
  State.raise { s with flash.firn := e.record :: s.flash.firn } intFIRN

/-- The queue-loss record, once the queue has room again (R379). -/
def State.firnLoss (s : State) : State :=
  match s.firn.lost with
  | some l => ({ s with firn.lost := none }).firnEv 0x0C05 (leBytes 4 l.1 ++ leBytes 4 l.2)
  | none => s

/-- Takes the oldest queued record out of the queue and programs it. -/
def State.firnNext (s : State) : State :=
  match s.firn.queue with
  | [] => s
  | e :: rest => { s with firn.queue := rest }.firnStore e

/-- The full record, in the last slot: what is still queued is discarded (R380). -/
def State.firnFull (s : State) : State :=
  let k := s.firn.queue.length
  let s := ({ s with firn.queue := [] }.firnEv 0x0C03 []).firnNext
  let d := (s.firn.discarded + k) % 4294967296
  let u : State := { s with firn := { s.firn with full := true, discarded := d } }
  if !s.firn.discarded.testBit 31 && d.testBit 31 then u.raise intFIRN else u

/-- Programs the oldest queued record; then the queue-loss, near-full and full records that are due
(R379, R380). -/
def State.firnProgram (s : State) : State :=
  if s.firn.queue.isEmpty then s
  else
    let s := s.firnNext.firnLoss
    let n := s.flash.firn.length
    if n == 245760 then { s with firn.nearFull := true }.firnEv 0x0C04 []
    else if n == 262143 then s.firnFull
    else s

/-- Codes of a source are 1 to this (R378; R410, R437 and the event tables of chapters 21 and 22). -/
def firnCodes : Nat → Nat
  | 0x01 => 10
  | 0x02 => 6
  | 0x03 => 3
  | 0x05 => 3
  | 0x07 => 1
  | 0x08 => 2
  | 0x09 => 5
  | 0x0A => 2
  | 0x0B => 2
  | 0x0C => 6
  | 0x0D => 8
  | 0x0E => 11
  | 0x0F => 9
  | 0x11 => 9
  | 0x12 => 1
  | _ => 0

/-- An event that R378 has a record for. -/
def firnKnown (code : Nat) : Bool := 1 ≤ code % 256 && code % 256 ≤ firnCodes (code / 256)

/-- FIRN_EVENT: an event R378 does not list is not written (R377 to R379). -/
def execFirnEvent (code : Nat) (data : Bytes) (s : State) : Out :=
  .next (if firnKnown code then s.firnEv code data else s)

/-- FIRN_RECORD_PROGRAMMED: nothing is programmed during a freeze or a clear (R379, R381, R382). -/
def execFirnRecordProgrammed (s : State) : Out :=
  .next (if s.power.on.contains .mgmt && s.firn.frozen.isNone && s.firn.clear.isNone && !s.firn.full then
    s.firnProgram else s)

/-- Ends a freeze: the release event joins the held ones (R381). -/
def State.firnRelease (s : State) (timeout : Nat) : State :=
  let s := s.firnEv 0x0C02 (leBytes 1 0 ++ leBytes 1 timeout)
  { s with firn.frozen := none }.finish 4

/-- FIRN_AUTO_RELEASE: 600 s after the freeze (R381). -/
def execFirnAutoRelease (s : State) : Out :=
  .next (match s.firn.frozen with
    | some t => (s.clockTo (t + 600000000000)).firnRelease 1
    | none => s)

/-- FIRN_STATUS (R384). -/
def cmdFirnStatus : Cmd where
  opcode := 0x0C01
  param _ _ r := restZero r 0
  xpNeed _ _ := 32
  body _ _ s :=
    .done s stOK [] (some (
      leBytes 4 s.flash.firn.length ++ leBytes 4 s.ao.firnSeq ++ leBytes 4 s.firn.discarded ++
      leBytes 2 s.firn.queue.length ++ leBytes 2 s.firn.qMax ++
      leBytes 16 (b2n s.firn.frozen.isSome + 2 * b2n s.firn.nearFull + 4 * b2n s.firn.full +
        8 * b2n s.firn.clear.isSome)))

/-- FIRN_STATUS (R384). -/
def execFirnStatus (p : Path) (s : State) : Out := .next (s.run cmdFirnStatus p)

/-- The records from an index on, at most `count` (R384). -/
def State.firnSlice (s : State) (first count : Nat) : List Bytes :=
  (s.flash.firn.reverse.drop first).take count

/-- FIRN_READ: only committed slots; a torn record is marked (R379, R384). -/
def cmdFirnRead : Cmd where
  opcode := 0x0C02
  param _ _ r := 1 ≤ le16 r.params 4 && le16 r.params 4 ≤ 2048 && restZero r 6
  xpNeed s r := 32 * (s.firnSlice (le32 r.params 0) (le16 r.params 4)).length
  busy s _ _ := if s.firn.clear.isSome then stBUSY else 0
  body _ e s :=
    let rs := s.firnSlice (le32 e.req.params 0) (le16 e.req.params 4)
    .done s stOK (leBytes 4 rs.length ++ leBytes 4 (le32 e.req.params 0 + rs.length) ++
      leBytes 1 (rs.countP tornRecord))
      (some ((rs.map (fun b => if tornRecord b then b.take 30 ++ leBytes 2 0xDEAD else b)).flatten))

/-- FIRN_READ (R384). -/
def execFirnRead (p : Path) (s : State) : Out := .next (s.run cmdFirnRead p)

/-- FIRN_FREEZE: freeze or release (R381, R383, R384). -/
def cmdFirnFreeze : Cmd where
  opcode := 0x0C03
  param _ _ r := byteAt r.params 0 ≤ 1 && restZero r 1
  state s _ r := if byteAt r.params 0 = 0 ∧ s.firn.frozen.isNone then stSTATE else 0
  busy s _ r := if byteAt r.params 0 = 1 ∧ (s.active 4 || s.active 5) then stCONFLICT else 0
  body p e s :=
    let at_ := (s.stamp 17).bytes
    if byteAt e.req.params 0 = 1 then
      let s := { s with firn.frozen := some s.now }.begin 4 (some p)
      .done (s.firnEv 0x0C02 [1]) stOK at_ none
    else .done (s.firnRelease 0) stOK at_ none

/-- FIRN_FREEZE (R384). -/
def execFirnFreeze (p : Path) (s : State) : Out := .next (s.run cmdFirnFreeze p)

/-- Programs queued records, oldest first; programming may add a queue-loss, a near-full or a full record. -/
def State.firnDrain : Nat → State → State
  | 0, s => s
  | n + 1, s => State.firnDrain n s.firnProgram

/-- FIRN_CLEAR: the queued records are programmed, the clear event takes its seq, and the erase starts
(R382, R383). -/
def cmdFirnClear : Cmd where
  opcode := 0x0C04
  param _ _ r := restZero r 0
  busy s _ _ := if s.active 4 || s.active 5 then stCONFLICT else 0
  body p e s :=
    let s := State.firnDrain (s.firn.queue.length + 3) s
    let erased := s.flash.firn.length
    let last := (s.flash.firn.head?.map recordSeq).getD ((s.ao.firnSeq + 4294967295) % 4294967296)
    let keyId := le32 e.req.block 0
    let ev : FirnEv :=
      { seq := s.ao.firnSeq, code := 0x0C01, stamp := s.stamp 11, calendar := s.calendarOf s.now, boot := false
        held := false, calInvalid := s.rtc.invalid && !s.time.wasLocked, calFree := !s.time.wasLocked
        data := leBytes 4 last ++ leBytes 4 keyId }
    let s := { s with
      ao.firnSeq := (s.ao.firnSeq + 1) % 4294967296
      firn.clear := some { path := some p, seq := ev.seq, lastSeq := last, keyId := keyId, erased := erased, ev := ev }
      flash.clearMark := some (ev.seq, last) }
    .wait (s.begin 5 (some p))

/-- FIRN_CLEAR (R382, R384). -/
def execFirnClear (p : Path) (s : State) : Out := .next (s.run cmdFirnClear p)

/-- FIRN_ERASE_COMPLETE: the clear record is written at index 0, the held records follow, and the command
completes (R382). -/
def execFirnEraseComplete (s : State) : Out :=
  .next (match s.firn.clear with
    | none => s
    | some c =>
      let s := { s with
        flash.firn := [], flash.clearMark := none, firn := { s.firn with
          clear := none, discarded := 0, nearFull := false, full := false } }
      let s := (s.firnStore c.ev).finish 5
      s.completeWaiting 0x0C04 stOK (leBytes 4 c.erased ++ leBytes 4 c.seq))

end Machine
end Sys2Proof
end

