-- ==== Sys2Proof/Machine/Clock.lean ====
section
/-! DEFINITION. The TIME window's capturing reads, the servo's states, pending marks, the 1PPS signals, and
the time commands (chapter 15). -/

namespace Sys2Proof
namespace Machine

/-! ## Fields of TIME_CFG (R336) -/

def Cfg.ptpProfile (c : Cfg) : Nat := byteAt c.time 0
def Cfg.ptpRole (c : Cfg) : Nat := byteAt c.time 1
def Cfg.ptpMask (c : Cfg) (port : Nat) : Bool := port < 6 && (byteAt c.time 3).testBit port
def Cfg.slaveOnly (c : Cfg) : Bool := (byteAt c.time 6).testBit 0
def Cfg.ptpAuth (c : Cfg) : Bool := (byteAt c.time 6).testBit 1
def Cfg.ptpMon (c : Cfg) : Bool := (byteAt c.time 6).testBit 2
def Cfg.ptpKey (c : Cfg) : Nat := le16 c.time 8
def Cfg.holdoverLimit (c : Cfg) : Nat := le16 c.time 10
def Cfg.ppsOutMode (c : Cfg) : Nat := byteAt c.time 12
def Cfg.ppsInMode (c : Cfg) : Nat := byteAt c.time 13
def Cfg.ppsWidth (c : Cfg) : Nat := le16 c.time 14
def Cfg.ppsThr (c : Cfg) : Nat := le32 c.time 16
def Cfg.utcDefault (c : Cfg) : Nat := byteAt c.time 20

/-! ## Capturing reads (R334, R335) -/

/-- TIME_NS_READ: TIME_WRAP and TIME_EPOCH are captured in the same tick. -/
def execTimeNsRead (s : State) : Out :=
  .next (if s.hostOn then
    { s with
      time.wrapCap := (s.time.acc >>> 64).toNat
      host.rdata := s.now % 4294967296 } else s)

/-- TIME_MARK_CUR_READ: the marks and the second number are captured. -/
def execTimeMarkCurRead (s : State) : Out :=
  .next (if s.hostOn then
    let pend := (s.time.pend.map (·.ns)).getD 0
    { s with
      time.markCap := [s.time.cur.ns / 4294967296, s.time.next.ns % 4294967296, s.time.next.ns / 4294967296,
        pend % 4294967296, pend / 4294967296, s.time.cur.sec % 4294967296]
      host.rdata := s.time.cur.ns % 4294967296 } else s)

/-- TIME_PPS_NS_READ: the rest of the PPS stamp and its offset are captured. -/
def execTimePpsNsRead (s : State) : Out :=
  .next (if s.hostOn then
    { s with
      time.ppsCap := (s.time.ppsExt / 4294967296 % 4294967296, (s.time.ppsOfs % 4294967296).toNat)
      host.rdata := s.time.ppsExt % 4294967296 } else s)

/-! ## Servo (R328, R329, R331) -/

/-- A servo state's code (R328). -/
def Servo.code : Servo → Nat
  | .free => 0 | .acquire => 1 | .locked => 2 | .holdover => 3

/-- TIME_STATUS.HOLDOVER (R328). -/
def TimeBlk.holdoverFlag (t : TimeBlk) : Bool := t.servo == .holdover || (t.servo == .acquire && t.wasLocked)

/-- The mean increment over the last 600 s of LOCKED up to `now` (R331), from the increments set, newest
first: their weighted sum and the time it covers. -/
def meanIncr (stop now : Nat) : List (Nat × Nat) → Nat × Nat
  | [] => (0, 0)
  | (t, v) :: rest =>
    let from_ := max t stop
    if now ≤ from_ then meanIncr stop now rest
    else
      let r := if t ≤ stop then (0, 0) else meanIncr stop from_ rest
      (v * (now - from_) + r.1, now - from_ + r.2)

/-- Changes the servo's state: the SERVO event and its Firn record; on entry to HOLDOVER the increment
freezes at its mean (R329, R331). -/
def State.servoTo (s : State) (v : Servo) : State :=
  if s.time.servo = v then s
  else
    let old := s.time.servo
    let m := meanIncr (s.now - 600000000000) s.now s.time.lockedIncr
    let t := { s.time with
      servo := v, servoSince := s.now, syncCount := 0, goodSyncs := 0, badSyncs := 0
      wasLocked := s.time.wasLocked || v == Servo.locked, holdExpired := false
      incr := if v = Servo.holdover ∧ m.2 ≠ 0 then BitVec.ofNat 40 (m.1 / m.2) else s.time.incr
      lockedIncr := if v = Servo.locked then [(s.now, s.time.incr.toNat)] else if v = Servo.holdover then [] else s.time.lockedIncr }
    let s := { s with
      time := t
      rtc.marksLocked := if v = Servo.locked then 0 else s.rtc.marksLocked }
    (s.timeEvt 1).firnEv 0x0201 (leBytes 1 old.code ++ leBytes 1 v.code)

/-- HOLDOVER_EXPIRED (R331). -/
def execHoldoverExpired (s : State) : Out :=
  .next (if s.time.servo = Servo.holdover ∧ !s.time.holdExpired then
    let s := s.clockTo (s.time.servoSince + 1000000000 * s.cfg.holdoverLimit)
    { s with time.holdExpired := true }.firnEv 0x0204 (leBytes 1 1)
    else s)

/-! ## Marks (R318 to R320, R330) -/

/-- Where the last valid Sync puts the second nearest to a local instant: its number, and its distance from that
instant, ns (R330). -/
def TimeBlk.secondNear (t : TimeBlk) (x num : Nat) : Nat × Int :=
  match t.sync with
  | some (at_, tai) =>
    let here : Int := tai + ((x : Int) - at_)
    let sec := divRoundUp here 1000000000
    (sec.toNat, 1000000000 * sec - here)
  | none => (num, 0)

/-- The mark Nyming writes after `prev` (R319, R320, R330): a second on; while the servo corrects, moved towards
the second the source gives, whole and with its number where the offset is above 1,000,000 ns, by at most
10,000 ns otherwise. -/
def TimeBlk.nymingMark (t : TimeBlk) (prev : Mark) : Mark :=
  let base := prev.ns + 1000000000
  let num := prev.sec + 1
  let near := if t.servo == .acquire || t.servo == .locked then t.secondNear base num else (num, 0)
  let big := near.1 != num || 1000000 < near.2.natAbs
  let adj : Int := if big then near.2 else max (-10000) (min 10000 near.2)
  let sec := t.manualSec.getD (if big then near.1 else num)
  { ns := ((base : Int) + adj).toNat, sec := sec, holdover := t.holdoverFlag, renumbered := sec != num
    gridStep := big || sec != num, utc := t.utc }

/-- PENDING_MARK_WRITE: Nyming writes the mark that follows number `sec` − 1 of the marks held. A write for a
mark that has passed or been extrapolated is late; one out of range is refused; an armed injection holds
it back until it is late (R318, R485). -/
def execPendingMarkWrite (sec : Nat) (s : State) : Out :=
  .next (
    if !s.time.running then s
    else if sec ≤ s.time.next.sec then
      let n := inc32 s.time.lateCnt
      ({ s with time.lateCnt := n }.timeEvt 3).counted n 0 0x40 0
    else if (s.injection 0x0D 0 0).isSome then s
    else
      let m := s.time.nymingMark s.time.next
      let gap := m.ns - s.time.next.ns
      if gap < 500000000 || 1500000000 < gap then s
      else { s with time := { s.time with
        pend := some m, manualSec := none
        goodSyncs := if m.gridStep then 0 else s.time.goodSyncs } })

/-! ## 1PPS (R332, R333) -/

/-- PPS_OUT_FALL: after the configured width. -/
def execPpsOutFall (s : State) : Out :=
  .next (if s.time.ppsOut then
    { s.clockTo (s.time.cur.ns + 1000000 * s.cfg.ppsWidth) with time.ppsOut := false } else s)

/-- Distance of an instant from the nearest mark, ns (R333). -/
def TimeBlk.nearestOffset (t : TimeBlk) (x : Nat) : Int :=
  let a : Int := (x : Int) - t.cur.ns
  let b : Int := (x : Int) - t.next.ns
  if a.natAbs ≤ b.natAbs then a else b

/-- PPS_IN_EDGE: stamped with 11 ns removed, judged against the nearest mark (R333). -/
def execPpsInEdge (at_ : Nat) (s : State) : Out :=
  let s := s.clockTo at_
  .next (
    let x := at_ - 11
    if s.cfg.ppsInMode = 0 || (s.time.ppsSeen && x < s.time.ppsExt + 500000000) then s
    else
      let add := (s.injection 0x0F 0 0).map (·.value)
      let s := (s.inject 0x0F 0 0).2
      let o := s.time.nearestOffset x + add.getD 0
      let bad := s.cfg.ppsThr < o.natAbs
      let nb := if bad then min 3 (s.time.ppsBad + 1) else 0
      let ng := if bad then 0 else min 3 (s.time.ppsGood + 1)
      let alarm := if nb = 3 then true else if ng = 3 then false else s.time.ppsAlarm
      let changed := alarm != s.time.ppsAlarm
      let s := { s with time := { s.time with
        ppsExt := x, ppsOfs := satI32 o, ppsSeen := true, ppsBad := nb, ppsGood := ng, ppsAlarm := alarm } }
      let s := s.timeEvt 4
      if changed then
        let s := s.timeEvt 5
        if alarm then s.firnEv 0x0205 (leBytes 1 1) else s
      else s)

/-! ## Time commands (R336) -/

/-- Parameters of TIME_CFG are in range (R336). -/
def timeCfgOk (b : Bytes) : Bool :=
  byteAt b 0 ≤ 2 && byteAt b 1 ≤ 2 && !(byteAt b 1 == 2 && byteAt b 0 == 2) && byteAt b 3 < 64 && byteAt b 6 < 8 &&
    le16 b 8 ≤ 255 && ((byteAt b 6).testBit 1 || le16 b 8 == 0) && 60 ≤ le16 b 10 && byteAt b 12 ≤ 2 &&
    byteAt b 13 ≤ 1 && 1 ≤ le16 b 14 && le16 b 14 ≤ 500 && 100 ≤ le32 b 16 && le32 b 16 ≤ 100000 &&
    (byteAt b 21 == 0 || 253 ≤ byteAt b 21) && zeroAt b 22 26

/-- TIME_CFG: stored; the PTP ports restart; LOCKED goes to HOLDOVER (R329, R336, R506). -/
def cmdTimeCfg : Cmd where
  opcode := 0x0201
  param _ _ r := timeCfgOk (padTo 48 r.params)
  body _ e s :=
    let b := padTo 48 e.req.params
    let s := { s with cfg.time := b, stored.time := b }
    let keep (x : PtpPort) : PtpPort :=
      { syncs := x.syncs, announces := x.announces, pdFail := x.pdFail, authFail := x.authFail }
    let s := { s with time := { s.time with
      ports := s.time.ports.mapV (fun _ x => keep x), slavePort := 255, parent := 0
      utc := if s.time.utcValid then s.time.utc else byteAt b 20 } }
    .done (if s.time.servo = .locked then s.servoTo .holdover else s) stOK [] none

/-- TIME_CFG (R336). -/
def execTimeCfg (p : Path) (s : State) : Out := .next (s.run cmdTimeCfg p)

/-- TIME_CFG_READ (R336). -/
def cmdTimeCfgRead : Cmd where
  opcode := 0x0202
  param _ _ r := restZero r 0
  xpNeed _ _ := 48
  body _ _ s := .done s stOK [] (some (padTo 48 s.cfg.time))

/-- TIME_CFG_READ (R336). -/
def execTimeCfgRead (p : Path) (s : State) : Out := .next (s.run cmdTimeCfgRead p)

/-- TIME_STATUS [15:8] (R334). -/
def TimeBlk.statusHigh (t : TimeBlk) : Nat :=
  b2n t.leap59 + 2 * b2n t.leap61 + 4 * b2n t.utcValid + 8 * b2n t.pend.isSome + 16 * b2n t.ppsAlarm +
    32 * b2n t.holdExpired

/-- The 32 bytes of TIME_STATUS (R336). -/
def State.timeStatusBytes (s : State) : Bytes :=
  let t := s.time
  leBytes 1 t.servo.code ++ leBytes 1 t.statusHigh ++ leBytes 2 t.utc ++ leBytes 6 t.cur.sec ++ leInt 4 t.offset ++
    leBytes 4 t.pathDelay ++ leBytes 8 t.gmId ++ leBytes 1 t.gmClass ++ leBytes 1 t.slavePort ++
    leBytes 4 (min 4294967295 ((s.now - t.servoSince) / 1000000000))

/-- TIME_STATUS (R336). -/
def cmdTimeStatus : Cmd where
  opcode := 0x0203
  param _ _ r := restZero r 0
  xpNeed _ _ := 32
  body _ _ s := .done s stOK [] (some s.timeStatusBytes)

/-- TIME_STATUS (R336). -/
def execTimeStatus (p : Path) (s : State) : Out := .next (s.run cmdTimeStatus p)

/-- A map entry's 16 bytes (R321). -/
def Mark.bytes (m : Mark) : Bytes :=
  leBytes 8 m.ns ++ leBytes 6 m.sec ++
    leBytes 1 (b2n m.holdover + 2 * b2n m.extrapolated + 4 * b2n m.gridStep + 8 * b2n m.renumbered) ++ leBytes 1 m.utc

/-- The entries TIME_MAP_READ returns, oldest first (R336). -/
def State.mapSlice (s : State) (first count : Nat) : List Mark :=
  if first = 0 then (s.time.map.take count).reverse
  else (s.time.map.filter (fun m => first ≤ m.sec && m.sec < first + count)).reverse

/-- TIME_MAP_READ (R321, R336). -/
def cmdTimeMapRead : Cmd where
  opcode := 0x0204
  param _ _ r := 1 ≤ le16 r.params 6 && le16 r.params 6 ≤ 4096 && restZero r 8
  xpNeed s r := 16 * (s.mapSlice (le48 r.params 0) (le16 r.params 6)).length
  body _ e s :=
    let ms := s.mapSlice (le48 e.req.params 0) (le16 e.req.params 6)
    .done s stOK (leBytes 2 ms.length) (some ((ms.map Mark.bytes).flatten))

/-- TIME_MAP_READ (R336). -/
def execTimeMapRead (p : Path) (s : State) : Out := .next (s.run cmdTimeMapRead p)

/-- A PTP port. -/
def State.ptpPort (s : State) (i : Nat) : PtpPort := s.time.ports.getD i {}

/-- Replaces a PTP port. -/
def State.setPtp (s : State) (i : Nat) (x : PtpPort) : State :=
  { s with time.ports := s.time.ports.set i x }

/-- meanLinkDelay: the mean of the last 8 valid exchanges (R325). -/
def PtpPort.meanDelay (x : PtpPort) : Nat := if x.delays.isEmpty then 0 else x.delays.sum / x.delays.length

/-- A valid exchange in the last 8 s (R325). -/
def PtpPort.delayValid (x : PtpPort) (now : Nat) : Bool :=
  match x.lastValid with
  | some t => now ≤ t + 8000000000
  | none => false

/-- TIME_PORT_STATUS: read and clear in one step (R291, R336). -/
def cmdTimePortStatus : Cmd where
  opcode := 0x0205
  param _ _ r := byteAt r.params 0 ≤ 5 && byteAt r.params 1 ≤ 1 && restZero r 2
  xpNeed _ _ := 32
  body _ e s :=
    let i := byteAt e.req.params 0
    let x := s.ptpPort i
    let out := leBytes 1 (if s.cfg.ptpMask i then x.state else 0) ++
      leBytes 3 (b2n (x.delayValid s.now) + 2 * b2n x.authOk) ++ leBytes 4 x.meanDelay ++ leInt 4 x.ratioErr ++
      leBytes 4 x.syncs ++ leBytes 4 x.announces ++ leBytes 4 x.pdFail ++ leBytes 4 x.authFail ++ zeros 4
    let s := if byteAt e.req.params 1 = 1 then
        s.setPtp i { x with syncs := 0, announces := 0, pdFail := 0, authFail := 0 } else s
    .done s stOK [] (some out)

/-- TIME_PORT_STATUS (R336). -/
def execTimePortStatus (p : Path) (s : State) : Out := .next (s.run cmdTimePortStatus p)

/-- TIME_MANUAL_SET (R319, R336, R506, R509). -/
def cmdTimeManualSet : Cmd where
  opcode := 0x0206
  param _ _ r := 1 ≤ byteAt r.params 0 && byteAt r.params 0 ≤ 3 && zeroAt r.params 2 6 && restZero r 14
  state s _ r := if (byteAt r.params 0).testBit 0 ∧ s.time.servo ≠ .free then stSTATE else 0
  body _ e s :=
    let b := e.req.params
    let setSec := (byteAt b 0).testBit 0
    let setUtc := (byteAt b 0).testBit 1
    let s := if setSec then { s with time.manualSec := some (le48 b 8) } else s
    let s := if setUtc then
        { s with
          cfg.time := s.cfg.time.set 20 (BitVec.ofNat 8 (byteAt b 1))
          time.utc := if s.time.utcValid then s.time.utc else byteAt b 1 } else s
    let s := s.firnEv 0x0206 ((if setSec then leBytes 6 (le48 b 8) else zeros 6) ++
      leBytes 1 (byteAt b 0) ++ leBytes 1 (byteAt b 1))
    let number := (match s.time.pend with | some m => m.sec | none => s.time.next.sec) + 1
    .done s stOK (leBytes 6 number) none

/-- TIME_MANUAL_SET (R336). -/
def execTimeManualSet (p : Path) (s : State) : Out := .next (s.run cmdTimeManualSet p)

end Machine
end Sys2Proof
end

