-- ==== Sys2Proof/Machine/Red.lean ====
section
/-! DEFINITION. The redundant pair: the Bridle arbiter, heartbeats, roles, mirroring, Farrier and their commands
(chapter 22). -/

namespace Sys2Proof
namespace Machine

/-! ## Settings in force (R456, R483) -/

/-- Pair mode. -/
def State.pairMode (s : State) : Bool := byteAt s.red.cfg 0 == 1
/-- pair_pos B. -/
def State.posB (s : State) : Bool := byteAt s.red.cfg 1 == 1
def State.home (s : State) : Bool := (byteAt s.red.cfg 2).testBit 0
def State.revert (s : State) : Bool := (byteAt s.red.cfg 2).testBit 1
def State.h2Mask (s : State) : Nat := byteAt s.red.cfg 3
def State.pairId (s : State) : Nat := le16 s.red.cfg 4
/-- holdoff and start_wait, ns. -/
def State.redHoldoff (s : State) : Nat := 1000000000 * le16 s.red.cfg 6
def State.startWait (s : State) : Nat := 1000000 * le16 s.red.cfg 8
/-- The yield mask lets a cause of codes 7 to 10 act. -/
def State.yieldOn (s : State) (c : Nat) : Bool := (byteAt s.red.cfg 10).testBit (c - 7)
def State.healthDeficit (s : State) : Nat := byteAt s.red.cfg 11

/-- A redundancy event: its record, and INT_CAUSE.RED (R482). -/
def State.redRec (s : State) (code : Nat) (data : Bytes) : State := (s.firnEv (0x0F00 + code) data).raise intRED

/-- Adds to a counter of RED_STATUS or RED_HEALTH (R291, R483): the new value's event. -/
def State.redCounted (s : State) (v opcode pos : Nat) : State := s.counted v opcode pos 0

/-! ## What the peer reports (R464, R468) -/

/-- Flags of a heartbeat. -/
def hbFlag (b : Bytes) (i : Nat) : Bool := (byteAt b 12).testBit i

/-- The latest valid heartbeat, received within the last 3 ms. -/
def State.recent (s : State) : Option Bytes :=
  match s.red.peer with
  | some (b, t) => if s.now ≤ t + 3000000 then some b else none
  | none => none

/-- The latest valid heartbeat. -/
def State.peerHb (s : State) : Option Bytes := s.red.peer.map (·.1)

/-- A recent heartbeat meets a test. -/
def State.recentIs (s : State) (f : Bytes → Bool) : Bool :=
  match s.recent with | some b => f b | none => false

/-- The peer is STANDBY and READY (R469, R480). -/
def State.peerReady (s : State) : Bool := s.recentIs (fun b => byteAt b 13 == 1 && hbFlag b 4)

/-- Both heartbeat paths are lost (R465). -/
def State.bothLost (s : State) : Bool := !s.red.h1.alive && !s.red.h2.alive

/-- What the heartbeats have to say for the take condition (R468). -/
def State.takeHb (s : State) : Bool := s.bothLost || s.recentIs (fun b => !hbFlag b 2)

/-- The override of R463, but for the lines. -/
def State.override (s : State) : Bool :=
  s.red.brdDisc && ((s.red.hbwQuiet && s.bothLost) || s.recentIs (fun b => !hbFlag b 2))

/-! ## Digests (R477) -/

/-- A table of records as bytes. -/
def tblBytes (t : Tbl Bytes) : Bytes := t.flatMap (fun x => leBytes 2 x.1 ++ x.2)

/-- The phasor objects as bytes. -/
def phBytes (c : PhCfg) : Bytes :=
  leBytes 2 c.p ++
    c.profiles.flatMap (fun x => leBytes 1 x.1 ++ leBytes 1 x.2.cyc ++ leBytes 1 x.2.shape ++ leBytes 1 x.2.path ++
      x.2.orders.flatMap (leBytes 1)) ++
    c.map.flatMap (fun x => leBytes 2 x.1 ++ leBytes 2 x.2.1 ++ leBytes 2 x.2.2) ++
    c.buses.flatMap (fun x => leBytes 1 x.1 ++ leBytes 1 (b2n x.2.track) ++ leBytes 1 x.2.fNom ++
      leBytes 1 (b2n x.2.triple) ++ leBytes 4 x.2.ref ++ leBytes 1 x.2.cycles ++ leBytes 4 x.2.minMag) ++
    c.triples.flatMap (fun x => leBytes 2 x.1 ++ leBytes 2 x.2.a ++ leBytes 2 x.2.b ++ leBytes 2 x.2.c ++
      leBytes 1 (b2n x.2.acb))

/-- The alignment settings as bytes. -/
def State.alnBytes (s : State) : Bytes :=
  let own (x : AlnStream) : Bool :=
    x.kind != 2 || x.noSnow || x.stepEn || x.srcOffset != 0 || x.fixedDelay != 0 || x.stepThr != 0
  s.cfg.aln ++ (s.aln.streams.filter (fun x => own x.2)).flatMap (fun x => leBytes 2 x.1 ++ leBytes 1 x.2.kind ++ leBytes 1 (b2n x.2.noSnow) ++
    leBytes 1 (b2n x.2.stepEn) ++ leInt 4 x.2.srcOffset ++ leBytes 4 x.2.fixedDelay ++ leBytes 4 x.2.stepThr)

/-- The eight part digests. How the first six are taken over their settings is not given (log 25). -/
def State.partDigests (s : State) : List Nat :=
  let t := s.cfg.tables
  let sw := t.sw ++ t.classes ++ tblBytes t.ports ++ tblBytes t.filters ++ tblBytes t.pcp ++ tblBytes t.vlans ++ tblBytes t.fdb
  let six := [tblBytes t.sv, tblBytes t.pubs, tblBytes t.stations, sw, s.alnBytes, phBytes s.cfg.ph ++ tblBytes s.cfg.grd]
  six.zipIdx.map (fun (b, i) => (Config.partDigest i b).toNat) ++
    [(s.logic.prog.map Prog.crc).getD 0, match s.safe.cfg with | some b => le32 b 12 | none => 0]

/-- cfg_digest. -/
def State.cfgDigest (s : State) : Nat := crc32c (s.partDigests.flatMap (leBytes 4))

/-! ## Heartbeats sent (R464, R467) -/

/-- The safety bytes of a heartbeat. -/
def State.safetyBits (s : State) : Nat :=
  b2n s.halter + (List.range 4).foldl (fun a n =>
    a + b2n (s.safeOut n).armed * 2 ^ (1 + n) + b2n (s.safeOut n).cond * 2 ^ (5 + n)) 0

/-- PTP_LOCK and HOLDOVER. -/
def State.timeBits (s : State) : Nat := b2n (s.time.servo == .locked) + 2 * b2n (s.time.servo == .holdover)

/-- The causes of a yield that stand and may act, lowest code first (R469). -/
def State.yields (s : State) : List Nat :=
  let live (c : Nat) : Bool := match c with
    | 7 => s.red.fwStall
    | 8 => s.logic.fault
    | 9 => (List.range 16).any (fun i => s.safe.causes.getLsbD i && hardCause i)
    | _ => s.red.portsDown
  [7, 8, 9, 10].filter (fun c => s.yieldOn c && live c)

/-- A 48-bit stamp in network order. -/
def Stamp.wire (t : Stamp) : Bytes := be32 (le32 t.bytes 0) ++ be16 (le16 t.bytes 4)

/-- A heartbeat's payload; `final` the reason of a final one. -/
def State.heartbeat (s : State) (seq : Nat) (final : Option Nat) : Bytes :=
  let r := s.red
  let holds := s.mod.bridle && final.isNone
  let flags := b2n s.posB + 2 * b2n s.home + 4 * b2n holds + 8 * b2n (r.fault || final.isSome) + 16 * b2n r.ready +
    32 * b2n r.takeback + 64 * b2n (r.handover.isSome && holds) + 128 * b2n final.isSome
  let reason := match final with
    | some c => c
    | none => if holds then s.yields.headD 0 else r.reason
  [1, 3] ++ be16 s.pairId ++ be32 (Config.serial.toNat / 4294967296) ++ be32 (Config.serial.toNat % 4294967296) ++
    leBytes 1 flags ++ leBytes 1 s.mod.role ++ leBytes 1 s.mod.state ++ leBytes 1 reason ++ be32 seq ++
    (s.stamp 12).wire ++ be32 s.cfgDigest ++ be32 ((r.handover.map (·.2.1)).getD 0) ++ be16 s.safetyBits ++
    leBytes 1 s.timeBits ++ zeros 3 ++ be16 r.failMask ++ zeros 2

/-- The frame of a heartbeat. -/
def hbEth (b : Bytes) (port : Nat) : Frame :=
  { dst := 0x034252494F02, src := portMac port, tag := none, len := 68, fcsOk := true, pcsOk := true, ecn := none
    content := .heartbeat b }

/-- Ports of the pairs named in h2_ports, with the pair (R464). -/
def h2Groups (mask : Nat) : List (Nat × List Nat) :=
  (if mask.testBit 0 then [(0, [0, 2])] else []) ++ (if mask.testBit 1 then [(1, [1, 3])] else [])

/-- Puts a heartbeat on a path. The path's number advances; an injection keeps it off the lanes (R464, R485). -/
def State.hbSend (s : State) (h2 : Bool) (final : Option Nat) : State :=
  let x := if h2 then s.red.h2 else s.red.h1
  let seq := (x.seq + 1) % 4294967296
  let b := s.heartbeat seq final
  let x := { x with seq := seq, sentAt := s.now, last := some b }
  let s := if h2 then { s with red.h2 := x, red.genFail := false } else { s with red.h1 := x, red.genFail := false }
  if (s.injection 0x1B 0 (if h2 then 2 else 1)).isSome then s
  else if !h2 then
    [8, 9].foldl (fun s i => if (s.port i).up then s.txCount i 64 0x034252494F02 6 false else s) s
  else
    (h2Groups s.h2Mask).foldl (fun s g =>
      let q := s.sw.prpSeq.getD g.1 0
      let s := { s with sw.prpSeq := s.sw.prpSeq.set g.1 ((q + 1) % 65536) }
      s.modSend g.2 (hbEth b (g.2.headD 0)) 6 .heartbeat) s

/-- HEARTBEAT_H1_SEND (R464). -/
def execHeartbeatH1Send (s : State) : Out :=
  .next (if s.pairMode && s.power.on.contains .neta then (s.clockTo (s.red.h1.sentAt + 100000)).hbSend false none else s)

/-- HEARTBEAT_H2_SEND (R464). -/
def execHeartbeatH2Send (s : State) : Out :=
  .next (if s.pairMode && s.power.on.contains .neta then (s.clockTo (s.red.h2.sentAt + 1000000)).hbSend true none else s)

/-- The final heartbeat on every path (R467), with the reason of the release (R472). -/
def State.finalHeartbeat (s : State) (reason : Nat) : State :=
  if s.pairMode && s.power.on.contains .neta then (s.hbSend false (some reason)).hbSend true (some reason) else s

/-! ## Roles, release and gain (R468 to R470) -/

/-- A role change: its record, and INT_CAUSE.STATE (R468). -/
def State.roleTo (s : State) (r reason : Nat) : State :=
  if s.mod.role = r then s
  else
    let old := s.mod.role
    let s := { s with mod.role := r, red.roleStamp := s.stamp 17, red.roleAt := s.now }
    (s.redRec 1 (leBytes 1 old ++ leBytes 1 r ++ leBytes 1 reason)).raise intSTATE

/-- A handover event (R482). -/
def State.handoverRec (s : State) (code sec : Nat) : State := s.redRec 8 (leBytes 4 code ++ leBytes 4 sec)

/-- The second of the handover mark. -/
def State.handoverSec (s : State) : Nat := (s.red.handover.map (·.2.1)).getD 0

/-- A takeback or handover is over: what is left of it goes, with a record where it did not come about
(R481). -/
def State.handoverEnd (s : State) (code : Option Nat) : State :=
  if s.red.handover.isNone && !s.red.takeback && s.red.released.isNone then s
  else
    let sec := s.handoverSec
    let s := { s with red := { s.red with handover := none, takeback := false, released := none } }
    let s := s.finish 7
    match code with | some c => s.handoverRec c sec | none => s

/-- One more Bridle change, with its record and INT_CAUSE.STATE (R89, R483). -/
def State.bridleChanged (s : State) (gain : Bool) (reason : Nat) (ovr : Bool) : State :=
  let v := inc32 s.red.changes
  let s := State.redCounted { s with red.changes := v } v 0x0F03 16
  (s.redRec 2 (leBytes 1 (b2n gain) ++ leBytes 1 reason ++ leBytes 1 (b2n ovr))).raise intSTATE

/-- The lowest code of a yield keeps the module a standby; a planned handover too (R468). -/
def keepsStandby (reason : Nat) : Bool := 7 ≤ reason && reason ≤ 11

/-- The Bridle is let go (R461, R469, R470): the gate closes, the lines are released, and what passes the gate
stops. -/
def State.letGo (s : State) (reason : Nat) : State :=
  if !s.mod.bridle then s
  else
    let planned := reason == 11
    let sec := s.handoverSec
    let s := if planned then s else s.handoverEnd (some 5)
    let s := { s with
      mod.bridle := false, brio.running := false
      red := { s.red with
        out1 := false, out2 := false, claim := none, reason := reason, fault := !planned
        released := if planned then some s.now else none } }
    let s := s.bridleChanged false reason false
    let s := s.outsCheck
    let s := if planned then { s with red.handover := some (0, sec, true) } else s
    s.roleTo (if keepsStandby reason then 1 else 2) reason

/-- The Bridle is gained (R459, R470). -/
def State.gain (s : State) (ovr : Bool) : State :=
  let asked := s.red.takeback
  let s := { s with
    mod.bridle := true
    red := { s.red with out1 := s.pairMode, out2 := s.pairMode, claim := none, again := false, wait := 0, fault := false } }
  let s := s.handoverEnd (if asked then some 3 else none)
  let s := s.bridleChanged true 0 ovr
  (s.roleTo 0 0).pubTakeover

/-! ## Farrier (R477, R478) -/

/-- SV streams in RUN on the holder and not here. -/
def State.streamDeficit (s : State) : Nat :=
  if s.mod.bridle then 0
  else ((List.range 2048).filter (fun k => s.red.health.testBit k && (s.sv.streams.getD k {}).state != 3)).length

/-- The fail mask. -/
def State.failChecks (s : State) : Nat :=
  let r := s.red
  let within (t : Option Nat) (d : Nat) : Bool := match t with | some t => s.now < t + d | none => false
  let peer (f : Bytes → Bool) : Bool := match s.peerHb with | some b => f b | none => false
  let fails := [
    !r.h1.alive, !r.h2.alive, !s.mod.bridle && within r.missAt 1000000000,
    within (r.mismatch.map (·.2.2.2)) 10000000000, !peer (fun b => rdBe32 b 26 == s.cfgDigest), r.pairCfg,
    !s.power.cable || r.brdDisc || r.hbwQuiet,
    s.mod.state != 2 || s.logic.mode != .run || s.logic.fault,
    match r.diffSince with | some t => decide (t + 100000000 < s.now) | none => false,
    decide (s.healthDeficit < s.streamDeficit), !peer (fun b => byteAt b 36 == s.timeBits), s.active 6]
  (fails.zipIdx).foldl (fun a x => a + b2n x.1 * 2 ^ x.2) 0

/-- READY changes, with its record; losing it ends a takeback or handover that was to come (R477, R481). -/
def State.readyTo (s : State) (v : Bool) : State :=
  if s.red.ready = v then s
  else
    let s := { s with red := { s.red with ready := v, readySince := if v then some s.now else none } }
    let s := s.redRec 6 ([BitVec.ofNat 8 (b2n v), 0] ++ leBytes 2 s.red.failMask)
    if !v && s.red.takeback then s.handoverEnd (some 5) else s

/-- The checks are made anew: since when all pass, and READY lost where one fails. -/
def State.farrier (s : State) : State :=
  if !s.pairMode then s
  else
    let m := s.failChecks
    let s := { s with red := { s.red with
      failMask := m, cleanSince := if m = 0 then some (s.red.cleanSince.getD s.now) else none } }
    if m = 0 then s else s.readyTo false

/-- When the checks of bits 2 and 3 pass again by the time that goes by (R477). -/
def State.lapse (s : State) : Nat :=
  max ((s.red.missAt.map (· + 1000000000)).getD 0) ((s.red.mismatch.map (·.2.2.2 + 10000000000)).getD 0)

/-- The checks as they stand, or, where only the time of a miss or a mismatch has still to go by, as they stand
then (R477). -/
def State.farrierOnward (s : State) : State :=
  let s := s.farrier
  if s.red.cleanSince.isSome then s
  else
    let u := (s.clockTo s.lapse).farrier
    if u.red.cleanSince.isSome then u else s

/-- FARRIER_READY: every check has passed for 1 s (R477). -/
def execFarrierReady (s : State) : Out :=
  .next (
    let s := s.farrierOnward
    match s.red.cleanSince with
    | some t =>
      if !s.pairMode || s.red.ready then s
      else
        let s := (s.clockTo (t + 1000000000)).farrier
        if s.red.cleanSince.isSome then s.readyTo true else s
    | none => s)

/-! ## Arming and roles as conditions change (R456, R463, R468, R469) -/

/-- Module in OPERATE or MAINTAIN, and not on its way down (R53). -/
def State.acting (s : State) : Bool := (s.mod.state == 2 || s.mod.state == 3) && s.power.phase == .run

/-- ARM_TAKE's condition (R468). -/
def State.mayArm (s : State) : Bool :=
  s.pairMode && s.acting && !s.red.isolated && !s.red.genFail && s.yields.isEmpty

/-- The reason of a release because the unit does not act: the module goes down, for a supply or a reset, or it has left
OPERATE and MAINTAIN (R469). -/
def State.idleReason (s : State) : Nat :=
  match s.power.phase with
  | .down _ byReset _ => if byReset then 2 else 1
  | _ => 4

/-- The lines read released. -/
def State.linesReleased (s : State) : Bool := !s.red.in1 && !s.red.in2

/-- Mode 0: the unit holds whenever it is in OPERATE or MAINTAIN, and arms no claim (R456, R458, R468; log 26). -/
def State.singleSettle (s : State) : State :=
  let s := { s with red := { s.red with armTake := false, claim := none } }
  let s := if s.acting && !s.mod.bridle then s.gain false
    else if !s.acting then s.letGo s.idleReason else s
  s.roleTo (if s.mod.bridle && !s.red.isolated then 0 else 2)
    (if s.red.isolated then 5 else if s.mod.bridle then 0 else s.idleReason)

/-- Mode 1: releases that have come due, ARM_TAKE, the roles without a claim, and since when the take condition
holds (R468, R469). -/
def State.pairSettle (s : State) : State :=
  let s := if !s.acting then s.letGo s.idleReason
    else if s.red.isolated then s.letGo 5
    else if s.red.genFail then s.letGo 6
    else match s.yields with
      | c :: _ => if s.peerReady then s.letGo c else s
      | [] => s
  let arm := s.mayArm
  let s := { s with red.armTake := arm }
  let s := if arm || s.mod.bridle || s.red.claim.isNone then s
    else { s with red := { s.red with claim := none, out1 := false } }
  let s := if !s.acting || s.red.isolated then s.roleTo 2 (if s.red.isolated then 5 else s.idleReason)
    else if s.mod.role = 2 && arm && !s.mod.bridle &&
        (s.red.in1 || s.red.in2 || s.recentIs (fun b => hbFlag b 2)) then s.roleTo 1 0
    else s
  let s := if s.mod.role = 2 && s.red.takeback then s.handoverEnd (some 5) else s
  let take := arm && s.takeHb && s.linesReleased && !s.mod.bridle
  let s := { s with red.takeSince := if take then some (s.red.takeSince.getD s.now) else none }
  s.farrier

/-- What follows from the conditions as they stand. -/
def State.redSettle (s : State) : State := if s.pairMode then s.pairSettle else s.singleSettle

/-! ## The lines (R458 to R463) -/

/-- A BRD_OUT line as driven: an injection asserts it (R458, R485). -/
def State.brdOut (s : State) (line : Nat) : Bool :=
  (if line = 1 then s.red.out1 else s.red.out2) || (s.injection 0x1E 0 line).isSome

/-- The role of pair_pos B in step 3 of a claim (R459). -/
def State.claimB (s : State) : Bool :=
  match s.recent with
  | some b =>
    if hbFlag b 0 == s.posB then decide (4294967296 * rdBe32 b 4 + rdBe32 b 8 < Config.serial.toNat) else s.posB
  | none => !s.red.again && s.posB

/-- An IN line asserts while the unit claims (R459 step 3): B abandons; A restarts when the lines are free. -/
def State.claimMet (s : State) : State :=
  match s.red.claim with
  | some (_, false) => { s with red := { s.red with claim := none, out1 := false, again := true, wait := 0 } }
  | _ => s

/-- The lines become free: the further wait of a round whose role is not from the pair's settings (R459;
log 2). -/
def State.roundWait (s : State) : State :=
  if s.red.again && s.recent.isNone then
    let d := s.draw
    { d.2 with red.wait := 20000 * (1 + d.1 % 16) }
  else { s with red.wait := 0 }

/-- An IN line changes. -/
def State.brdIn (s : State) (line : Nat) (v : Bool) : State :=
  let r := s.red
  let r' := if line = 0 then { r with in1 := v } else { r with in2 := v }
  if (r.in1, r.in2) = (r'.in1, r'.in2) then s
  else
    let free := !r'.in1 && !r'.in2
    let s := { s with red := { r' with
      freeSince := if free then some s.now else none
      bothSince := if r'.in1 && r'.in2 then some s.now else none
      discSince := s.now } }
    if free then s.roundWait else s.claimMet

/-- BRIDLE_LINE_CHANGE: a filtered line changes: 0 BRD1_IN, 1 BRD2_IN, 2 HBW_IN (R458, R462). -/
def execBridleLineChange (line : Nat) (v : Bool) (s : State) : Out :=
  .next (if !s.power.on.contains .safe then s
    else if line ≤ 1 then (s.brdIn line v).redSettle
    else if line = 2 && s.red.hbw != v then
      let was := s.red.hbwQuiet
      let s := { s with red := { s.red with hbw := v, hbwAt := s.now, hbwQuiet := false } }
      (if was then s.redRec 4 [2, 0] else s).redSettle
    else s)

/-- HBW_QUIET: no edge for 300 µs (R462). -/
def execHbwQuiet (s : State) : Out :=
  .next (if s.red.hbwQuiet || !s.power.on.contains .safe then s
    else
      let s := s.clockTo (s.red.hbwAt + 300000)
      (State.redRec { s with red.hbwQuiet := true } 4 [2, 1]).redSettle)

/-- BRD_DISC: exactly one line asserted for 1 ms sets it, agreement for 1 ms clears it (R462). -/
def execBrdDisc (set : Bool) (s : State) : Out :=
  .next (if s.red.brdDisc = set || (s.red.in1 != s.red.in2) != set || !s.power.on.contains .safe then s
    else
      let s := s.clockTo (s.red.discSince + 1000000)
      (State.redRec { s with red.brdDisc := set } 4 ([1] ++ leBytes 1 (b2n set))).redSettle)

/-- The unit may begin a claim: armed, not holding, none in hand, not waiting for a taker (R459, R481). -/
def State.mayClaim (s : State) : Bool :=
  s.pairMode && s.power.on.contains .safe && s.red.armTake && !s.mod.bridle && s.red.claim.isNone && s.red.released.isNone

/-- Step 1 of a claim. A deep test that runs is aborted (R459, R479). -/
def State.claimStart (s : State) (ovr : Bool) : State :=
  let s := if s.active 6 then s.deepStop stABORTED else s
  { s with red := { s.red with claim := some (s.now, ovr), out1 := true } }

/-- BRIDLE_CLAIM (R459, R463, R468): at the first instant the take condition, and a non-home unit's start_wait, are
met; with lines that are not free, under the override. -/
def execBridleClaim (s : State) : Out :=
  .next (
    let s := s.redSettle
    if !s.mayClaim then s
    else
      let startWait := if s.mod.role = 2 && !s.home then s.startWait else 0
      match s.red.freeSince with
      | some f =>
        let free := f + 20000 + s.red.wait
        let due := match s.red.takeSince with
          | some t => max free (max t (f + 20000) + startWait)
          | none => free
        let t := s.clockTo due
        if t.takeHb && s.red.takeSince.isSome then t.claimStart false
        else if s.override && startWait = 0 && s.takeHb then s.claimStart true else s
      | none => if s.override && s.takeHb && startWait = 0 then s.claimStart true else s)

/-- BRIDLE_CLAIM_COMPLETE: 20 µs after step 1 the unit holds (R459, R470). -/
def execBridleClaimComplete (s : State) : Out :=
  .next (match s.red.claim with
    | some (t, ovr) =>
      if s.red.armTake && s.acting && (ovr || s.linesReleased) then (s.clockTo (t + 20000)).gain ovr else s
    | none => s)

/-- BRIDLE_CONTENTION: a holder has read both lines asserted for 20 µs (R460). -/
def execBridleContention (s : State) : Out :=
  .next (match s.red.bothSince with
    | some t =>
      if s.mod.bridle && s.pairMode then
        let s := s.clockTo (t + 20000)
        let s := State.redRec { s with red.bothSince := none } 4 [3, 1]
        let lets := match s.peerHb with
          | some b =>
            if hbFlag b 0 == s.posB then decide (4294967296 * rdBe32 b 4 + rdBe32 b 8 < Config.serial.toNat) else s.posB
          | none => s.posB
        if lets then (s.letGo 12).redSettle else s
      else s
    | none => s)

/-- BRIDLE_RELEASE: a release decision with its reason (R461, R469). A yield needs its mask and a peer that is
STANDBY and READY; a planned one a handover. -/
def execBridleRelease (reason : Nat) (s : State) : Out :=
  .next (
    let ok := if reason ≤ 6 || reason = 12 then reason != 0
      else if reason ≤ 10 then s.pairMode && s.yieldOn reason && s.peerReady
      else reason == 11 && s.red.handover.isSome
    if ok then s.letGo reason else s)

/-! ## Heartbeats received (R457, R464, R465, R480, R481) -/

/-- A heartbeat is valid on a path (R464): its seq is newer than the path's last, modulo 2³². -/
def State.hbValid (s : State) (x : HbPath) (b : Bytes) : Bool :=
  44 ≤ b.length && byteAt b 0 == 1 && byteAt b 1 == 3 && rdBe16 b 2 == s.pairId &&
    4294967296 * rdBe32 b 4 + rdBe32 b 8 != Config.serial.toNat &&
    match x.peerSeq with
    | some q => 0 < (rdBe32 b 16 + 4294967296 - q) % 4294967296 && (rdBe32 b 16 + 4294967296 - q) % 4294967296 < 2147483648
    | none => true

/-- Marks to pass until the first one at least 100 ms away (R480). -/
def State.handoverMarks (s : State) : Nat := if s.now + 100000000 ≤ s.time.next.ns then 1 else 2

/-- The holder schedules a handover (R480). -/
def State.schedule (s : State) (byPeer : Bool) (code : Nat) : State :=
  let n := s.handoverMarks
  let s := { s with red.handover := some (n, s.markSec n, byPeer) }
  let s := if s.active 7 then s else s.begin 7 none
  s.handoverRec code s.handoverSec

/-- What a heartbeat says about a takeback or handover (R480, R481). -/
def State.handoverHb (s : State) (b : Bytes) : State :=
  let asks := hbFlag b 5 && byteAt b 13 == 1 && hbFlag b 4
  if s.mod.bridle then
    match s.red.handover with
    | none => if asks then s.schedule true 2 else s
    | some (_, _, byPeer) => if (byPeer && !asks) || !(byteAt b 13 == 1 && hbFlag b 4) then s.handoverEnd (some 5) else s
  else if s.red.released.isSome then
    if hbFlag b 2 then s.handoverEnd (some 3) else s
  else if hbFlag b 6 then
    if s.red.handover.isNone then
      let s := { s with red.handover := some (0, rdBe32 b 30, false) }
      s.handoverRec 2 (rdBe32 b 30)
    else s
  else if s.red.takeback && !hbFlag b 2 then s
  else { s with red.handover := none }

/-- PAIR_CFG and the configuration digests as a heartbeat shows them (R457, R477, R482; log 26). -/
def State.pairCheck (s : State) (b : Bytes) : State :=
  let bad := hbFlag b 0 == s.posB || hbFlag b 1 == s.home
  let same := rdBe32 b 26 == s.cfgDigest
  let was := match s.peerHb with | some p => rdBe32 p 26 == s.cfgDigest | none => true
  let first := ((List.range 8).find? (fun i => s.red.parts[i]? != s.partDigests[i]?)).getD 0
  let news := (bad && !s.red.pairCfg) || (!same && was)
  let s := { s with red.pairCfg := bad }
  if news then s.redRec 9 (leBytes 1 (if same then 0 else first) ++ leBytes 1 (b2n bad)) else s

/-- Since when the safety bytes differ (R477). -/
def State.safetyDiff (s : State) (b : Bytes) : State :=
  { s with red.diffSince := if rdBe16 b 34 = s.safetyBits then none else some (s.red.diffSince.getD s.now) }

/-- HEARTBEAT_RECEIVE: a heartbeat on path 1 H1 or 2 H2 (R464). -/
def execHeartbeatReceive (path : Nat) (b : Bytes) (at_ : Nat) (s : State) : Out :=
  let s := s.clockTo at_
  .next (
    let h2 := path == 2
    let x := if h2 then s.red.h2 else s.red.h1
    if !s.pairMode || !(path == 1 || h2) || !s.hbValid x b then s
    else
      let x := { x with peerSeq := some (rdBe32 b 16), got := true }
      let s := if h2 then { s with red.h2 := x } else { s with red.h1 := x }
      let s := (s.pairCheck b).safetyDiff b
      let s := { s with red.peer := some (padTo 44 b, s.now) }
      (s.handoverHb b).redSettle)

/-- HEARTBEAT_WINDOW: a window of a path ends (R465). -/
def execHeartbeatWindow (path : Nat) (s : State) : Out :=
  .next (
    let h2 := path == 2
    let x := if h2 then s.red.h2 else s.red.h1
    if !s.pairMode || !(path == 1 || h2) || !s.power.on.contains .neta then s
    else
      let due := x.winAt + (if h2 then 1000000 else 100000)
      let s := s.clockTo due
      let missed := if x.got then 0 else min 3 (x.missed + 1)
      let received := if x.got then min 3 (x.received + 1) else 0
      let alive := if x.alive then missed < 3 else decide (3 ≤ received)
      let x' := { x with winAt := due, got := false, missed := missed, received := received, alive := alive }
      let s := if h2 then { s with red.h2 := x' } else { s with red.h1 := x' }
      let s := if h2 || x.got then s
        else
          let v := inc32 s.red.h1Missed
          State.redCounted { s with red.h1Missed := v } v 0x0F03 28
      let s := if alive = x.alive then s else s.redRec 3 (leBytes 1 path ++ leBytes 1 (b2n (!alive)))
      s.redSettle)

/-- FW_STALL: the health word is 3 ms old (R466, R469). -/
def execFwStall (s : State) : Out :=
  .next (if s.power.on.contains .neta then State.redSettle { s with red.fwStall := true } else s)

/-- HB_GEN_FAIL: no heartbeat has left for 300 µs (R466, R469). -/
def execHbGenFail (s : State) : Out :=
  .next (if s.pairMode then
      let s := s.clockTo (max s.red.h1.sentAt s.red.h2.sentAt + 300000)
      State.redSettle { s with red.genFail := true }
    else s)

/-- PORTS_DOWN: P1 to P4 have all been down for 10 ms (R469). -/
def execPortsDown (s : State) : Out :=
  .next (if (List.range 4).any (fun i => (s.port i).up) then s else State.redSettle { s with red.portsDown := true })

/-- PRES_IN_CHANGE: PRES_IN reads high (`true`: no cable) or low (R41, R477, R482). -/
def execPresInChange (v : Bool) (s : State) : Out :=
  .next (if s.power.cable = !v then s
    else (State.redRec { s with power.cable := !v } 4 ([4] ++ leBytes 1 (b2n v))).redSettle)

/-- LOGIC_FAULT, with the yield it may bring (R257, R469). -/
def execLogicFault (s : State) : Out := .next (s.logicFaultNow.redSettle)

/-- SAFETY_SLOT, with the yield a hard cause may bring (R386, R469). -/
def execSafetySlot (i : SlotInput) (s : State) : Out :=
  .next (
    let t := s.safetySlot i
    if (List.range 5).any (fun c => hardCause c && t.safe.causes.getLsbD c) then t.redSettle else t)

/-! ## Phasor cross-check (R478) -/

/-- The index of the instant of a second's number and index. -/
def State.indexOf (s : State) (sec n : Nat) : Option Nat :=
  (s.placed.find? (fun d => d.sec = sec && n < d.rate)).map (fun d => d.g0 + n)

/-- One channel of a group against the unit's own phasor. -/
def State.compareOne (s : State) (g : PhasorGroup) (at_ : Option Nat) (v : GroupVal) : State :=
  let own := at_.bind (fun k => (s.chanItem none v.chan 0 k))
  let clean (a p : Nat) : Bool := (a == 0 || a == afHOLDOVER) && p == 0
  let basis := match s.chanStream v.chan with | some (k, _) => (s.alnOf k).basis == 0 | none => false
  let skip (s : State) : State :=
    let n := inc32 s.red.skipped
    State.redCounted { s with red.skipped := n } n 0x0F04 16
  match own with
  | none => skip s
  | some x =>
    if !basis || !clean v.aflags v.pflags || !clean x.aflags x.pflags then skip s
    else
      let n := inc32 s.red.compared
      let s := State.redCounted { s with red.compared := n } n 0x0F04 8
      if x.re = v.re ∧ x.im = v.im then s
      else
        let m := inc32 s.red.mismatches
        let s := State.redCounted { s with red.mismatches := m } m 0x0F04 12
        let s := { s with red := { s.red with
          mismatch := some (v.chan, g.sec, g.n, s.now)
          misTimes := s.now :: s.red.misTimes.filter (fun t => decide (s.now < t + 1000000000)) } }
        let quiet := match s.red.misFirn with | some t => decide (s.now < t + 1000000000) | none => false
        if quiet then s
        else
          let s := s.redRec 7 (leBytes 2 v.chan ++ zeros 2 ++ leBytes 4 s.red.misTimes.length)
          { s with red.misFirn := some s.now }

/-- PHASOR_GROUP_RECEIVE: the standby compares a channel group with its own (R478). -/
def execPhasorGroupReceive (g : PhasorGroup) (at_ : Nat) (s : State) : Out :=
  let s := s.clockTo at_
  .next (if s.pairMode && !s.mod.bridle then
      let k := s.indexOf g.sec g.n
      let mapped (c : Nat) : Bool := match k with
        | some i => (s.chanMap c i).isSome
        | none => (s.cfg.ph.profiles.get? (s.cfg.ph.map.getD c (255, 0)).1).isSome
      let mine := g.vals.filter (fun v => v.chan / 256 = g.group && mapped v.chan)
      (mine.foldl (fun s v => s.compareOne g k v) s).farrier
    else s)

/-- The holder sends channel groups for every instant that is complete, at most `n` (R478). -/
def State.groupsSend : Nat → State → State
  | 0, s => s
  | n + 1, s =>
    if !(s.pairMode && s.mod.bridle) then { s with red.groupNext := none }
    else
      let k := match s.red.groupNext with
        | some k => some k
        | none => (s.placed.head?).bind (fun _ => s.gridFrom s.now)
      match k with
      | none => s
      | some k =>
        match s.instant k with
        | none => { s with red.groupNext := if s.placed.any (fun d => k < d.g0) then none else some k }
        | some (d, _) =>
          let i := (k - d.g0) % 64
          let chans := (List.range 256).map (fun j => 256 * i + j) |>.filter (fun c => (s.chanMap c k).isSome)
          let items := chans.map (fun c => (c, s.chanItem none c 0 k))
          if items.any (fun x => x.2.isNone) then { s with red.groupNext := some k }
          else
            let one (s : State) (c : Nat) (x : Item) : GroupVal × State :=
              let j := s.inject 0x1D c 0
              ({ chan := c, re := x.re, im := x.im + b2n j.1, aflags := x.aflags, pflags := x.pflags }, j.2)
            let r := items.foldl (fun (a : List GroupVal × State) x =>
              match x.2 with
              | some y => let v := one a.2 x.1 y; (a.1 ++ [v.1], v.2)
              | none => a) ([], s)
            let g : PhasorGroup := { group := i, sec := d.sec, n := k - d.g0, vals := r.1 }
            State.groupsSend n { r.2 with red := { r.2.red with groupNext := some (k + 1), sentGroup := some g } }

/-! ## Mirroring (R473 to R476) -/

/-- The mirror image of the scan that has ended (R473). -/
def State.mirrorImage (s : State) : MirrorImage :=
  let l := s.logic
  let id := l.scanId.getD (0, 0)
  let elAt (e : GrdEl) : Nat × Nat :=
    match s.secondOf (e.next - 1) with
    | some d => (d.sec, e.next - 1 - d.g0)
    | none => (0, 0)
  { sec := id.1, scan := id.2, start := l.sched, tb := l.tbLast, progId := (l.prog.map Prog.progId).getD 0
    digests := s.partDigests, m := l.img.m.toNat, q := l.qOut.toNat, y := l.yOut.toNat
    f := l.img.f
    t := l.img.t.map (fun (k, t) =>
      { idx := k, el := t.el, tLast := t.tLast, preset := t.preset, p := t.p, run := t.run, out := t.out })
    c := l.img.c.map (fun (k, c) => { idx := k, count := c.count, preset := c.preset, prev := c.prev, out := c.out })
    e := (s.grd.els.filter (fun x => 0 < x.2.next && grdActive (s.grdRun x.1))).map (fun (k, e) =>
      { idx := k, cntPu := e.cntPu, cntDo := e.cntDo, acc := e.acc, out := e.out, valid := e.valid
        sec := (elAt e).1, n := (elAt e).2 })
    pubs := s.goose.pubs.map (fun (k, x) =>
      { idx := k, stNum := x.stNum, sqNum := x.sqNum, sent := x.sent, changed := x.changed
        holdover := x.stamp.holdover, lock := x.stamp.lock, elems := x.elems, logic := x.logic, slots := x.slots })
    recs := (List.range 16).map (fun i => let r := s.acq.inst.getD i {}; (r.state, r.record))
    health := l.img.st.toNat % 2 ^ 4096, crcOk := true }

/-- After a scan the holder sends its image (R473, R485). -/
def State.mirrorSend (s : State) : State :=
  if s.pairMode && s.mod.bridle then
    let j := s.inject 0x1C 0 0
    { j.2 with red.sentImage := some { s.mirrorImage with crcOk := !j.1 } }
  else s

/-- MIRROR_IMAGE_RECEIVE: the newest complete image is kept (R473, R474). -/
def execMirrorImageReceive (link : Nat) (i : MirrorImage) (at_ : Nat) (s : State) : Out :=
  let s := s.clockTo at_
  .next (
    let newer (x : Nat × Nat) : Bool := decide (x.1 < i.sec || (x.1 = i.sec && x.2 < i.scan))
    let fresh := (match s.red.image with | some o => newer (o.sec, o.scan) | none => true) &&
      (match s.red.applied with | some a => newer a | none => true)
    if s.pairMode && !s.mod.bridle && link ≤ 1 && i.crcOk && fresh then
      { s with red := { s.red with image := some i, parts := i.digests } }
    else s)

/-- The standby's own time base at the start of the mirrored scan (R474). -/
def State.tbThen (s : State) (i : MirrorImage) : Nat :=
  match s.logic.tbs.find? (fun x => x.1 == (i.sec, i.scan)) with
  | some x => x.2
  | none => s.tb

/-- Where this unit's own time puts the start of the mirrored scan; `now` where its second is no longer held. -/
def State.scanAt (s : State) (i : MirrorImage) (now : Nat) : Nat :=
  match s.placed.find? (fun d => d.sec == i.sec) with
  | some d => d.m0 + (divRoundUp (i.scan * s.logic.period * 1000 * (d.m1 - d.m0) : Nat) 1000000000).toNat
  | none => now

/-- A publication takes its mirrored state; its stamps move to this unit's time. -/
def State.mirrorPub (s : State) (off : Int) (m : MirrorPub) : State :=
  let x := s.pub m.idx
  s.setPub m.idx { x with
    stNum := m.stNum, sqNum := m.sqNum, sent := m.sent, changed := (m.changed + off).toNat
    stamp := { s.stampOf (m.changed + off).toNat 17 with holdover := m.holdover, lock := m.lock }
    elems := m.elems, logic := m.logic, slots := m.slots }

/-- A guard element's mirrored state waits for the evaluation it applies at, or is passed over (R475). -/
def State.mirrorEl (s : State) (m : MirrorEl) : State :=
  let skip (s : State) : State :=
    let n := inc32 s.red.elementSkip
    State.redCounted { s with red.elementSkip := n } n 0x0F04 20
  match s.indexOf m.sec m.n with
  | some g =>
    if (s.grdEl m.idx).next ≤ g + 1 then { s with grd.mirror := s.grd.mirror.set m.idx (g, m) } else skip s
  | none => skip s

/-- A recorder instance whose arming differs from the mirrored one changes at the next mark (R358, R474). -/
def State.mirrorArm (s : State) (i state : Nat) : State :=
  let armed (x : Nat) : Bool := x == 2 || x == 3 || x == 4
  let own := (s.acq.inst.getD i {}).state
  if own = 0 || state = 0 || armed own = armed state then s
  else if s.sv.marks.any (fun c => c.opcode == 0x0B02 && (le16 c.params 0).testBit i) then s
  else { s with sv.marks := s.sv.marks ++
      [{ opcode := 0x0B02, params := padTo 48 (leBytes 2 (2 ^ i) ++ leBytes 1 (b2n (armed state))), region := [], path := .mb 0, marks := 1 }] }

/-- The standby applies the newest image at a scan start (R474, R475). -/
def State.mirrorTake (s : State) (i : MirrorImage) (start : Nat) : State :=
  let dtb : Int := (s.tbThen i : Int) - i.tb
  let off : Int := (s.scanAt i start : Int) - i.start
  let t := i.t.map (fun m => (m.idx, ({ el := m.el, tLast := (m.tLast + dtb).toNat, p := m.p, run := m.run
                                        out := m.out, preset := m.preset } : Timer)))
  let c := i.c.map (fun m => (m.idx, ({ count := m.count, preset := m.preset, prev := m.prev, out := m.out } : Counter)))
  let l := s.logic
  let s := { s with logic := { l with
    img := { l.img with m := BitVec.ofNat 32768 i.m, q := BitVec.ofNat 8192 i.q, y := BitVec.ofNat 256 i.y, f := i.f, t := t, c := c }
    qOut := BitVec.ofNat 8192 i.q, yOut := BitVec.ofNat 256 i.y } }
  let s := i.pubs.foldl (fun s m => s.mirrorPub off m) s
  let s := i.e.foldl (fun s m => s.mirrorEl m) s
  let s := i.recs.zipIdx.foldl (fun s r => s.mirrorArm r.2 r.1.1) s
  let n := inc32 s.red.images
  State.redCounted { s with red := { s.red with
    image := none, applied := some (i.sec, i.scan), images := n, health := i.health, parts := i.digests } } n 0x0F03 20

/-- MIRROR_LOST changes, with its record (R476, R482). -/
def State.mirrorLostTo (s : State) (v : Bool) : State :=
  if s.red.mirrorLost = v then s else State.redRec { s with red.mirrorLost := v } 5 (leBytes 1 (b2n v))

/-- Step 2 of a scan start on the standby: an image applies, or one is missed (R474, R476). -/
def State.mirrorApply (s : State) (start : Nat) : State :=
  if !(s.pairMode && !s.mod.bridle && s.mod.role = 1) then s
  else match s.red.image with
    | some i =>
      let s := s.mirrorTake i start
      let ok := min 3 (s.red.okRun + 1)
      let s := { s with red := { s.red with okRun := ok, missRun := 0 } }
      if ok = 3 then s.mirrorLostTo false else s
    | none =>
      let n := inc32 s.red.misses
      let s := State.redCounted { s with red.misses := n } n 0x0F03 24
      let miss := min 3 (s.red.missRun + 1)
      let s := { s with red := { s.red with missRun := miss, okRun := 0, missAt := some s.now } }
      if miss = 3 then s.mirrorLostTo true else s

/-! ## Takeback and handover (R480, R481) -/

/-- TAKEBACK_REQUEST: the home unit has been STANDBY and READY for holdoff (R480). -/
def execTakebackRequest (s : State) : Out :=
  .next (match s.red.readySince with
    | some t =>
      if s.pairMode && s.revert && s.home && s.mod.role = 1 && s.red.ready && !s.red.takeback && !s.active 6 then
        let s := s.clockTo (max t s.red.roleAt + s.redHoldoff)
        let s := State.begin { s with red.takeback := true } 7 none
        s.handoverRec 1 0
      else s
    | none => s)

/-- ARM_TAKE is clear, and both lines are released with whatever claim was in hand: what step 1 of R53 leaves of a unit
that did not hold. -/
def State.linesDrop (s : State) : State :=
  { s with red := { s.red with armTake := false, claim := none, out1 := false, out2 := false } }

/-- The holder releases for the handover (R480). -/
def State.handoverGo (s : State) : State := (s.letGo 11).redSettle

/-- A handover's mark has passed. -/
def State.handoverDue (s : State) : Bool :=
  s.mod.bridle && match s.red.handover with | some (0, _, _) => true | _ => false

/-- HANDOVER_RELEASE: at the holder's first scan start at or after the mark, or at once where no scans run (R480). -/
def execHandoverRelease (s : State) : Out :=
  .next (if s.handoverDue then
      let due := if s.scanning then ((s.time.schedAfter s.logic.period s.logic.sched).map (·.1)).getD s.now else s.now
      (s.clockTo due).handoverGo
    else s)

/-- HANDOVER_ABORT: the taker does not hold 1 ms after the release (R481). -/
def execHandoverAbort (s : State) : Out :=
  .next (match s.red.released with
    | some t =>
      let s := s.clockTo (t + 1000000)
      if s.recentIs (fun b => hbFlag b 2) then s.handoverEnd (some 3) else (s.handoverEnd (some 4)).redSettle
    | none => s)

/-! ## Commands (R483) -/

/-- RED_CFG's parameters are in range. -/
def redCfgOk (b : Bytes) : Bool :=
  byteAt b 0 ≤ 1 && byteAt b 1 ≤ 1 && byteAt b 2 ≤ 3 && byteAt b 3 ≤ 3 && (byteAt b 0 == 0 || byteAt b 3 != 0) &&
    1 ≤ le16 b 4 && 10 ≤ le16 b 6 && le16 b 6 ≤ 3600 && 100 ≤ le16 b 8 && le16 b 8 ≤ 60000 && byteAt b 10 ≤ 15

/-- RED_CFG (R483): stored; in force at the next entry into OPERATE. -/
def cmdRedCfg : Cmd where
  opcode := 0x0F01
  param _ _ r := redCfgOk r.params && restZero r 12
  body _ e s :=
    let b := slice e.req.params 0 12
    .done { s with cfg.red := b, stored.red := b } stOK [] none

/-- RED_CFG (R483). -/
def execRedCfg (p : Path) (s : State) : Out := .next (s.run cmdRedCfg p)

/-- RED_CFG_READ (R483). -/
def cmdRedCfgRead : Cmd where
  opcode := 0x0F02
  param _ _ r := restZero r 0
  body _ _ s := .done s stOK (padTo 12 s.cfg.red) none

/-- RED_CFG_READ (R483). -/
def execRedCfgRead (p : Path) (s : State) : Out := .next (s.run cmdRedCfgRead p)

/-- Bits as a byte, lowest first. -/
def bitsByte (l : List Bool) : Bytes := leBytes 1 ((l.zipIdx).foldl (fun a x => a + b2n x.1 * 2 ^ x.2) 0)

/-- RED_STATUS's 32 bytes. -/
def State.redStatusBytes (s : State) : Bytes :=
  let r := s.red
  let asked := s.recentIs (fun b => hbFlag b 5)
  leBytes 1 s.mod.role ++
    bitsByte [s.mod.bridle, r.armTake, r.ready, s.recentIs (fun b => hbFlag b 4), r.h1.alive, r.h2.alive, r.mirrorLost, s.power.cable] ++
    bitsByte [r.in1, r.in2, s.brdOut 1, s.brdOut 2, !r.hbwQuiet, r.brdDisc, r.takeback || asked, r.handover.isSome] ++
    leBytes 1 r.reason ++
    (match s.peerHb with | some b => leBytes 1 (byteAt b 13) ++ leBytes 1 (byteAt b 14) | none => [255, 255]) ++
    r.roleStamp.bytes ++ leBytes 4 s.handoverSec ++ leBytes 4 r.changes ++ leBytes 4 r.images ++ leBytes 4 r.misses ++
    leBytes 4 r.h1Missed

/-- RED_STATUS (R483): reading and clearing are one step. -/
def cmdRedStatus : Cmd where
  opcode := 0x0F03
  param _ p r := clearOk p (byteAt r.params 0) && restZero r 1
  xpNeed _ _ := 32
  body _ e s :=
    .done (if byteAt e.req.params 0 = 1 then
        { s with red := { s.red with changes := 0, images := 0, misses := 0, h1Missed := 0 } } else s)
      stOK [] (some s.redStatusBytes)

/-- RED_STATUS (R483). -/
def execRedStatus (p : Path) (s : State) : Out := .next (s.run cmdRedStatus p)

/-- RED_HEALTH's 80 bytes. -/
def State.redHealthBytes (s : State) : Bytes :=
  let r := s.red
  let secs := match r.readySince with | some t => (s.now - t) / 1000000000 | none => 0
  leBytes 2 r.failMask ++ zeros 2 ++ leBytes 4 secs ++ leBytes 4 r.compared ++ leBytes 4 r.mismatches ++
    leBytes 4 r.skipped ++ leBytes 4 r.elementSkip ++
    (match r.mismatch with
     | some (c, sec, n, _) => leBytes 2 c ++ leBytes 4 sec ++ leBytes 2 n
     | none => zeros 8) ++
    leBytes 2 s.streamDeficit ++ leBytes 4 s.cfgDigest ++
    leBytes 4 ((s.peerHb.map (fun b => rdBe32 b 26)).getD 0) ++ s.partDigests.flatMap (leBytes 4) ++ zeros 6

/-- RED_HEALTH (R483). -/
def cmdRedHealth : Cmd where
  opcode := 0x0F04
  param _ _ r := restZero r 0
  xpNeed _ _ := 80
  body _ _ s := .done s.farrier stOK [] (some s.farrier.redHealthBytes)

/-- RED_HEALTH (R483). -/
def execRedHealth (p : Path) (s : State) : Out := .next (s.run cmdRedHealth p)

/-- RED_SWITCH (R480, R481, R503): the holder schedules a handover; the standby asks for one. -/
def cmdRedSwitch : Cmd where
  opcode := 0x0F05
  param _ _ r := restZero r 0
  state s _ _ :=
    if s.pairMode && (if s.mod.bridle then s.peerReady else s.mod.role == 1 && s.red.ready) then 0 else stSTATE
  busy s _ _ := if s.active 6 || s.active 7 || s.red.handover.isSome then stCONFLICT else 0
  body _ _ s :=
    if s.mod.bridle then
      let s := s.schedule false 1
      .done s stOK (leBytes 4 s.handoverSec) none
    else
      let sec := s.markSec s.handoverMarks
      .done ((State.begin { s with red.takeback := true } 7 none).handoverRec 1 sec) stOK (leBytes 4 sec) none

/-- RED_SWITCH (R483). -/
def execRedSwitch (p : Path) (s : State) : Out := .next (s.run cmdRedSwitch p)

/-- RED_ISOLATE (R483, R503). -/
def cmdRedIsolate : Cmd where
  opcode := 0x0F06
  param _ _ r := byteAt r.params 0 ≤ 1 && byteAt r.params 1 ≤ 1 && restZero r 2
  state s _ r :=
    if byteAt r.params 0 = 1 then
      if s.red.isolated || (s.mod.role = 0 && !s.peerReady && byteAt r.params 1 = 0) then stSTATE else 0
    else if s.red.isolated then 0 else stSTATE
  body _ e s :=
    let s := State.redSettle { s with red.isolated := byteAt e.req.params 0 == 1 }
    .done s stOK s.red.roleStamp.bytes none

/-- RED_ISOLATE (R483). -/
def execRedIsolate (p : Path) (s : State) : Out := .next (s.run cmdRedIsolate p)

/-- RED_DEEP_TEST (R479, R481, R491, R503): a start runs tests 1 to 4 and is posted at their end; a stop ends it. -/
def cmdRedDeepTest : Cmd where
  opcode := 0x0F07
  param _ _ r := byteAt r.params 0 ≤ 1 && restZero r 1
  state s _ _ := if s.mod.role = 1 then 0 else stSTATE
  busy s _ r :=
    if byteAt r.params 0 = 1 && (s.active 6 || s.active 7 || s.red.handover.isSome || s.active 10 || s.active 2) then stCONFLICT else 0
  body p e s :=
    if byteAt e.req.params 0 = 0 then .done (s.deepStop stABORTED) stOK (s.stamp 17).bytes none
    else
      let time := bistTime 1 0 + bistTime 2 0 + bistTime 3 0 + bistTime 4 (deepHi - deepLo)
      let s := s.begin 6 (some p) s.now s.now
      .wait (s.setProg p [s.now + time]).farrier

/-- RED_DEEP_TEST (R483). -/
def execRedDeepTest (p : Path) (s : State) : Out := .next (s.run cmdRedDeepTest p)

end Machine
end Sys2Proof
end

