-- ==== Sys2Proof/Machine/Slab.lean ====
section
/-! DEFINITION. Measurement values, slab bindings and slab delivery, and the alignment commands (chapters 8
and 9). -/

namespace Sys2Proof
namespace Machine

/-! ## Measurement values (R182) -/

/-- The value of a channel at a measurement instant (R182): none while a fine value it needs is not computed.
Its rounding is that of R175 (log 22). -/
def State.measured (s : State) (c g : Nat) (d : GridSecond) : Option AVal :=
  if d.mode = 0 then s.aligned 0 c g
  else
    let js : List Int := (List.range (2 * d.d - 1)).map (fun i => (i : Int) - (d.d - 1 : Nat))
    let vs := js.map (fun j => if (g : Int) + j < 0 then some (s.absent 0) else s.aligned 0 c ((g : Int) + j).toNat)
    if vs.any (·.isNone) then none
    else
      let vs := vs.filterMap id
      let sum := ((js.zip vs).map (fun x => ((d.d - x.1.natAbs : Nat) : Int) * x.2.val)).sum
      some {
        val := satI32 (divRoundAway sum (d.d * d.d)), qual := (vs.getLast?.map (·.qual)).getD 0
        iflags := vs.foldl (fun a v => a ||| v.iflags) 0, aflags := vs.foldl (fun a v => a ||| v.aflags) 0 }

/-- The 12 bytes of a slab entry (R185). -/
def AVal.bytes (v : AVal) : Bytes := leInt 4 v.val ++ leBytes 4 v.qual ++ leBytes 2 v.iflags ++ leBytes 2 v.aflags

/-! ## Slabs (R184 to R186, R200) -/

/-- Grid instants from one instant of a binding to the next. -/
def SlabBind.stepIn (b : SlabBind) (d : GridSecond) : Nat := if b.kind = 3 then d.d else if b.kind = 4 then d.p else 1

/-- Up to `n` instants of a slab from index `g` on, with their seconds, cut where the grid rate changes
(R166): none where a second cannot be placed yet. -/
def State.slabInstants (s : State) (b : SlabBind) (rate : Nat) : Nat → Nat → Option (List (GridSecond × Nat))
  | 0, _ => some []
  | n + 1, g =>
    match s.secondOf g with
    | none => none
    | some d =>
      if d.rate ≠ rate then some []
      else (State.slabInstants s b rate n (g + b.stepIn d)).map (fun r => (d, g) :: r)

/-- The entry of an item at an instant: none while it is not computed. -/
def State.slabEntry (s : State) (b : SlabBind) (d : GridSecond) (g item : Nat) : Option Bytes :=
  if b.kind = 4 then (s.item item g).map Item.bytes
  else if b.kind = 3 then (s.measured item g d).map AVal.bytes
  else (s.aligned (b.kind - 1) item g).map AVal.bytes

/-- Bytes of an entry. -/
def SlabBind.entry (b : SlabBind) : Nat := if b.kind = 4 then 16 else 12

/-- The grid rate code of a rate. -/
def rateCode (rate : Nat) : Nat := if rate = 4000 then 0 else if rate = 4800 then 1 else if rate = 9600 then 2 else 3

/-- The slab that is due for a binding (R186): its instants and its bytes. -/
def State.dueSlab (s : State) (b : SlabBind) : Option (List (GridSecond × Nat) × Bytes) :=
  match s.secondOf b.next with
  | none => none
  | some d =>
    match s.slabInstants b d.rate b.count b.next with
    | none => none
    | some is =>
      match is.getLast? with
      | none => none
      | some (dl, gl) =>
        if b.items.any (fun c => (s.slabEntry b dl gl c).isNone) then none
        else
          let zero := zeros b.entry
          let payload := is.flatMap (fun x => b.items.flatMap (fun c => (s.slabEntry b x.1 x.2 c).getD zero))
          let t := d.at_ (b.next - d.g0)
          let flags := b2n b.gap + 2 * b2n (is.any (·.1.holdover)) + 4 * b2n s.sv.simMode + 8 * b2n b.fresh +
            16 * b2n (is.any (fun x => x.1.step && x.2 == x.1.g0))
          let head := leBytes 2 b.kind ++ leBytes 2 64 ++ leBytes 4 (64 + payload.length) ++ leBytes 4 b.seq ++
            leBytes 4 d.sec ++ leBytes 2 ((b.next - d.g0) / (if b.kind = 3 then d.d else 1)) ++ leBytes 1 is.length ++
            leBytes 1 (rateCode d.rate) ++ leBytes 2 b.items.length ++ leBytes 2 flags ++ (s.stampOf t 4 true).bytes ++
            leBytes 2 (if b.kind = 3 then d.d else 1) ++ leBytes 4 d.snow ++ leBytes 4 (min 4294967295 b.missed) ++
            leBytes 4 b.gen ++ leBytes 4 (if s.sv.genAt ≤ t then s.sv.gen else s.sv.genPrev) ++ zeros 16
          some (is, head ++ payload)

/-- A binding after its due slab: the next slab begins where this one ends, a new generation where the grid
rate changes there (R166). -/
def State.slabDone (s : State) (k : Nat) (b : SlabBind) (is : List (GridSecond × Nat)) (delivered : Bool) : State :=
  match is.getLast? with
  | none => s
  | some (d, g) =>
    let nextG := g + b.stepIn d
    let turn := match s.secondOf nextG with | some e => e.rate != d.rate | none => false
    let gen := if turn then s.aln.gens.getD k 0 + 1 else b.gen
    let b := { b with
      seq := (b.seq + 1) % 4294967296, next := nextG, gen := gen
      missed := if delivered then 0 else b.missed + 1, gap := !delivered
      fresh := turn || (b.fresh && !delivered) }
    { s with aln.binds := s.aln.binds.set k b, aln.gens := if turn then s.aln.gens.set k gen else s.aln.gens }

/-- A due slab is dropped for want of a descriptor (R117). -/
def State.slabDrop (s : State) (n q k : Nat) (b : SlabBind) (is : List (GridSecond × Nat)) : State :=
  let f := s.fn n
  let v := inc32 f.rxNobuf
  let s := s.setFn n { f with rxNobuf := v }
  let s := s.setQueue n q { (s.fn n).queue q with noBuf := true }
  (s.counted v 0x1004 4 n).slabDone k b is false

/-- Takes the next receive descriptor of a queue, with its write-back (R111). -/
def State.slabBack (s : State) (n q : Nat) (back : Bytes) : State :=
  let x := (s.fn n).queue q
  let s := s.setQueue n q { x with rxHead := (x.rxHead + 1) % x.rxSize, rxEvt := true, rxBack := [back] }
  (s.logWrite n (x.rxBase + 32 * x.rxHead) 32).queueMsg n x.rxVec x.rxEvt

/-- SLAB_DELIVERY: the due slab of a queue goes to its next posted descriptor, as fetched, or is dropped
(R111, R114, R117, R120, R123, R126, R186). -/
def execSlabDelivery (n q : Nat) (desc : Fetch Bytes) (s : State) : Out := s.onPath <|
  .next (
    let k := 64 * n + q
    let x := (s.fn n).queue q
    match s.aln.binds.get? k with
    | none => s
    | some b =>
      if !s.queueOk n q || !x.slab then s
      else
        match s.dueSlab b with
        | none =>
          match s.aln.seconds.getLast? with
          | some d =>
            if b.next < d.g0 then
              { s with aln.binds := s.aln.binds.set k { b with
                  next := d.g0, seq := (b.seq + 1) % 4294967296, missed := b.missed + 1, gap := true } }
            else s
          | none => s
        | some (is, slab) =>
          if (s.fn n).frozen then s.slabDone k b is false
          else if !x.rxEn || x.posted = 0 then s.slabDrop n q k b is
          else
            let first := match is.head? with
              | some (d, g) => s.stampOf (d.at_ (g - d.g0)) 4 true
              | none => {}
            let bad := rxBack first (s.stamp 8) 0 0 0 255 b.seq (32768 + 4096)
            match desc with
            | .ok d =>
              if !rxDescOk d then s.slabBack n q bad
              else if le32 d 8 < slab.length then (s.slabBack n q bad).slabDrop n q k b is
              else
                let back := rxBack first (s.stamp 8) slab.length slab.length 0 255 b.seq (32768 + 16384 + 8192)
                let s := (s.logWrite n (le64 d 0) slab.length).slabBack n q back
                let s := { s with sched.slabBytes := s.sched.slabBytes + slab.length }
                s.slabDone k b is true
            | _ => s.queueStop n q true)

/-! ## Binding (R184, R186, R188, R200) -/

/-- Bytes a second of slabs of an entry size, step, count and number of channels at a grid rate. -/
def slabRate (rate entry step count items : Nat) : Rat := ((64 + entry * count * items) * rate : Nat) / (count * step : Nat)

/-- Bytes a second of a binding at the settings in force. -/
def State.bindRate (s : State) (b : SlabBind) : Rat :=
  slabRate (gridRate s.aln.rate) b.entry
    (if b.kind = 3 then s.aln.d else if b.kind = 4 then s.cfg.ph.p else 1) b.count b.items.length

/-- A slab-binding command's content: key, kind (0 unbinds), count and items. -/
def bindOf (c : MarkChange) : Nat × SlabBind :=
  let b := c.params
  let ph := c.opcode == 0x0706
  let n := le16 b 4
  (64 * byteAt b 0 + byteAt b 1,
   { kind := if ph then (if byteAt b 2 = 1 then 4 else 0) else byteAt b 2, count := byteAt b 3
     items := if byteAt b 2 = 0 then [] else (List.range n).map (fun i => if ph then le32 c.region (4 * i) else le16 c.region (2 * i))
     gen := le32 b 44, next := 0 })

/-- The bindings that will be in force, those that wait for a mark among them. -/
def State.bindsThen (s : State) : Tbl SlabBind :=
  (s.sv.marks.filter (fun c => c.opcode == 0x0603 || c.opcode == 0x0706)).foldl (fun t c =>
    let b := bindOf c
    if b.2.kind = 0 then t.del b.1 else t.set b.1 b.2) s.aln.binds

/-- The slab byte rate would exceed 20 GB/s with a binding at a key (R186). -/
def State.slabsFull (s : State) (k : Nat) (b : SlabBind) : Bool :=
  decide (20000000000 < ((s.bindsThen.set k b).map (fun x => s.bindRate x.2)).sum)

/-- Binds or unbinds a slab queue at a mark: its generation waits with it (log 22). -/
def bindBody (p : Path) (e : Exec) (s : State) : CmdResult :=
  let k := 64 * byteAt e.req.params 0 + byteAt e.req.params 1
  let gen := if byteAt e.req.params 2 = 0 then s.aln.gens.getD k 0 else s.aln.gens.getD k 0 + 1
  let e := { e with req.params := padTo 44 e.req.params ++ leBytes 4 gen }
  let c : MarkChange := { opcode := e.req.opcode, params := e.req.params, region := e.req.region, path := p, marks := 0 }
  if byteAt e.req.params 2 ≠ 0 ∧ s.slabsFull k (bindOf c).2 then .done s stNO_RESOURCE [] none
  else
    let h := { s with aln.gens := s.aln.gens.set k gen }.holdChange p e
    .done h.1 stOK (leBytes 4 h.2 ++ leBytes 4 gen) none

/-- The queue of a binding command is a slab queue (R110). -/
def State.slabQueue (s : State) (b : Bytes) : Bool :=
  byteAt b 0 ≤ 127 && byteAt b 1 < (s.fn (byteAt b 0)).qp && ((s.fn (byteAt b 0)).queue (byteAt b 1)).slab

/-- ALN_SLAB_BIND (R184, R186, R188). -/
def cmdAlnSlabBind : Cmd where
  opcode := 0x0603
  param s _ r :=
    let b := r.params
    s.slabQueue b && byteAt b 2 ≤ 3 && restZero r 6 &&
      (byteAt b 2 == 0 ||
        (1 ≤ byteAt b 3 && byteAt b 3 ≤ 8 && 1 ≤ le16 b 4 && le16 b 4 ≤ 5456 &&
          64 + 12 * byteAt b 3 * le16 b 4 ≤ 65536 && recsOk 2 (le16 b 4) r (fun x => le16 x 0 < 16384)))
  body := bindBody

/-- ALN_SLAB_BIND (R188). -/
def execAlnSlabBind (p : Path) (s : State) : Out := .next (s.run cmdAlnSlabBind p)

/-- PH_SLAB_BIND (R199, R200, R213). -/
def cmdPhSlabBind : Cmd where
  opcode := 0x0706
  param s _ r :=
    let b := r.params
    s.slabQueue b && byteAt b 2 ≤ 1 && restZero r 6 &&
      (byteAt b 2 == 0 ||
        (1 ≤ byteAt b 3 && byteAt b 3 ≤ 8 && 1 ≤ le16 b 4 && le16 b 4 ≤ 4092 &&
          64 + 16 * byteAt b 3 * le16 b 4 ≤ 65536 && recsOk 4 (le16 b 4) r (fun x => itemOk (le32 x 0))))
  body := bindBody

/-- PH_SLAB_BIND (R213). -/
def execPhSlabBind (p : Path) (s : State) : Out := .next (s.run cmdPhSlabBind p)

/-- A binding takes effect at the mark that opens the second from index `g0` on. -/
def State.bindApply (s : State) (c : MarkChange) (g0 : Nat) : State :=
  let b := bindOf c
  { s with aln.binds := if b.2.kind = 0 then s.aln.binds.del b.1 else s.aln.binds.set b.1 { b.2 with next := g0 } }

/-! ## Alignment settings (R165, R166, R188) -/

/-- ALN_CFG (R165, R166, R188). -/
def cmdAlnCfg : Cmd where
  opcode := 0x0601
  param s _ r :=
    let b := r.params
    byteAt b 0 ≤ 3 && byteAt b 1 ≤ 1 && 50 ≤ le16 b 2 && le16 b 2 ≤ le16 b 4 && le16 b 4 ≤ 4000 && le16 b 6 ≤ 1000 &&
      2 ≤ byteAt b 8 && byteAt b 8 ≤ 64 && gridRate (byteAt b 0) % byteAt b 8 == 0 && byteAt b 9 ≤ 1 && restZero r 10 &&
      (byteAt b 0 == s.rateThen s.marksToGo || gridRate (byteAt b 0) % s.pThen s.marksToGo == 0)
  state s _ r := if byteAt r.params 0 ≠ s.rateThen s.marksToGo ∧ s.mod.state ≠ 1 then stSTATE else 0
  body p e s :=
    if 4800 < gridRate (byteAt e.req.params 0) ∧ s.mod.slotCap then .done s stNO_RESOURCE [] none else atMark p e s

/-- ALN_CFG (R188). -/
def execAlnCfg (p : Path) (s : State) : Out := .next (s.run cmdAlnCfg p)

/-- A fine kind the module's default changes is a history-reset event of the streams that follow it (log 22). -/
def State.alnKind (s : State) (kind at_ : Nat) : State :=
  let ks := (s.aln.streams.filter (fun x => x.2.kind == 2)).map (·.1)
  let s' := { s with aln.kind := kind }
  if kind = s.aln.kind then s' else ks.foldl (fun s k => s.historyReset k at_) s'

/-- ALN_CFG takes effect, in the copy the module runs with and the stored one (log 16). -/
def State.alnApply (s : State) (b : Bytes) : State :=
  let s := s.alnKind (byteAt b 1) s.now
  { s with
    aln.rate := byteAt b 0, aln.sMin := le16 b 2, aln.sMax := le16 b 4, aln.margin := le16 b 6, aln.d := byteAt b 8
    aln.mode := byteAt b 9, cfg.aln := padTo 12 b, stored.aln := padTo 12 b }

/-- ALN_STREAM_CFG (R188). -/
def cmdAlnStreamCfg : Cmd where
  opcode := 0x0602
  param _ _ r :=
    let b := r.params
    let o := int32 (le32 b 4)
    le16 b 0 < 2048 && byteAt b 2 ≤ 2 && byteAt b 3 ≤ 3 && decide (-1000000 ≤ o) && decide (o ≤ 1000000) &&
      le32 b 8 ≤ 4000000 &&
      (if (byteAt b 3).testBit 1 then 1 ≤ le32 b 12 && le32 b 12 < 2147483648 else le32 b 12 == 0) && restZero r 16
  body := atMark

/-- ALN_STREAM_CFG (R188). -/
def execAlnStreamCfg (p : Path) (s : State) : Out := .next (s.run cmdAlnStreamCfg p)

/-- ALN_STREAM_CFG takes effect (R187, R188). -/
def State.alnStreamApply (s : State) (b : Bytes) : State :=
  let k := le16 b 0
  let x := s.alnOf k
  let new := { x with
    kind := byteAt b 2, noSnow := (byteAt b 3).testBit 0, stepEn := (byteAt b 3).testBit 1, srcOffset := int32 (le32 b 4)
    fixedDelay := le32 b 8, stepThr := le32 b 12 }
  let changed := s.fineKind x != s.fineKind new
  let s := s.setAln k new
  if changed then s.historyReset k s.now else s

/-! ## Status (R188) -/

/-- The 64 bytes of ALN_STATUS. -/
def State.alnStatusBytes (s : State) : Bytes :=
  let d := s.aln.seconds.head?
  leBytes 1 s.aln.rate ++ leBytes 1 s.aln.d ++ leBytes 1 s.aln.mode ++
    leBytes 1 (b2n ((d.map (·.holdover)).getD false) + 2 * b2n s.mod.slotCap + 4 * b2n ((d.map (·.extrap)).getD false)) ++
    leBytes 4 s.time.cur.sec ++ leBytes 2 s.aln.snow ++ leBytes 2 s.aln.target ++ leBytes 2 s.aln.sMin ++
    leBytes 2 s.aln.sMax ++ leBytes 2 s.aln.margin ++ leBytes 2 s.aln.setter ++ leBytes 4 s.aln.steps ++
    leBytes 4 s.time.extrapCnt ++ zeros 36

/-- ALN_STATUS (R188). -/
def cmdAlnStatus : Cmd where
  opcode := 0x0604
  param _ _ r := restZero r 0
  xpNeed _ _ := 64
  body _ _ s := .done s stOK [] (some s.alnStatusBytes)

/-- ALN_STATUS (R188). -/
def execAlnStatus (p : Path) (s : State) : Out := .next (s.run cmdAlnStatus p)

/-- A channel of a stream settles (R181). -/
def State.settling (s : State) (k : Nat) : Bool :=
  let x := s.alnOf k
  let n := settleFine (s.svRateOf k)
  s.delivers k && (x.fresh < n || x.settle.any (· < n))

/-- The 64 bytes of ALN_STREAM_STATUS. -/
def State.alnStreamBytes (s : State) (k : Nat) : Bytes :=
  let x := s.alnOf k
  let t0 : Rat := 1000000000 / s.svRateOf k
  let err : Int := if x.basis = 1 ∧ x.seeded then ((x.per - t0) / t0 * 1000000000 + 1 / 2).floor else 0
  leBytes 1 x.basis ++ leBytes 1 (s.fineKind x) ++
    leBytes 1 (b2n (x.basis == 1 && x.seeded && decide (x.untracked ≤ (s.now : Rat))) + 2 * b2n x.noSnow + 4 * b2n (s.settling k)) ++ [0] ++
    leBytes 2 (if x.noSnow then 65535 else x.p.getD 65535) ++ leBytes 2 x.lastMax ++ leInt 4 err ++
    (List.range 7).flatMap (fun i => leBytes 4 (x.counts.getD i 0)) ++ zeros 24

/-- ALN_STREAM_STATUS (R188). -/
def cmdAlnStreamStatus : Cmd where
  opcode := 0x0605
  param s p r := le16 r.params 0 < 2048 && clearOk p (byteAt r.params 2) && s.mayAsk p (le16 r.params 0) && restZero r 3
  xpNeed _ _ := 64
  body _ e s :=
    let k := le16 e.req.params 0
    let out := s.alnStreamBytes k
    let s := if byteAt e.req.params 2 = 1 then s.setAln k { s.alnOf k with counts := [] } else s
    .done s stOK [] (some out)

/-- ALN_STREAM_STATUS (R188). -/
def execAlnStreamStatus (p : Path) (s : State) : Out := .next (s.run cmdAlnStreamStatus p)

end Machine
end Sys2Proof
end

