-- ==== Sys2Proof/Machine/Recorder.lean ====
section
/-! DEFINITION. The disturbance recorder: instances, frames, triggers, segments, the event log and their commands
(R351 to R363, R372, R373). -/

namespace Sys2Proof
namespace Machine

/-! ## Configuration (R351 to R355, R373) -/

def RecInst.kind (r : RecInst) : Nat := byteAt r.head 1
def RecInst.retrig (r : RecInst) : Bool := (byteAt r.head 2).testBit 0
def RecInst.overwrite (r : RecInst) : Bool := (byteAt r.head 2).testBit 1
def RecInst.vfTrig (r : RecInst) : Bool := (byteAt r.head 2).testBit 2
def RecInst.outX1 (r : RecInst) : Bool := (byteAt r.head 2).testBit 3
def RecInst.outJ4 (r : RecInst) : Bool := (byteAt r.head 2).testBit 4
def RecInst.slotCount (r : RecInst) : Nat := le16 r.head 18
def RecInst.preMax (r : RecInst) : Nat := le32 r.head 20
def RecInst.post (r : RecInst) : Nat := le32 r.head 24
def RecInst.holdoffMs (r : RecInst) : Nat := le16 r.head 28

/-- Bytes of an entry of a capture list, and of a frame's entry. -/
def listEntry (kind : Nat) : Nat := if kind = 4 then 4 else 2
def frameEntry (kind : Nat) : Nat := if kind = 4 then 16 else 12

/-- n rounded up to a multiple of m. -/
def roundUp (n m : Nat) : Nat := ceilDiv n m * m

/-- frame_len (R355). -/
def frameLen (kind count nDig : Nat) : Nat := roundUp (8 + 8 * ceilDiv nDig 64 + frameEntry kind * count) 8

/-- Bytes of the capture list area (R354). -/
def listLen (kind count nDig : Nat) : Nat := roundUp (listEntry kind * count + 4 * nDig) 4096

def RecInst.frameLen (r : RecInst) : Nat := Machine.frameLen r.kind (le16 r.head 4) (le16 r.head 6)
def RecInst.listLen (r : RecInst) : Nat := Machine.listLen r.kind (le16 r.head 4) (le16 r.head 6)

/-- Frames a slot holds (R354). -/
def RecInst.capacity (r : RecInst) : Nat := (r.slotBytes - 4096 - r.listLen) / r.frameLen

/-- Where a slot begins, and where frame of ordinal `ord` of a ring begun at `ringOrd` lies. -/
def RecInst.slotAt (r : RecInst) (slot : Nat) : Nat := r.lo + slot * r.slotBytes
def RecInst.frameAt (r : RecInst) (slot ringOrd ord : Nat) : Nat :=
  r.slotAt slot + 4096 + r.listLen + (ord - ringOrd) % max 1 r.capacity * r.frameLen

/-- An instance. -/
def State.recInst (s : State) (i : Nat) : RecInst := s.acq.inst.getD i {}

/-- Replaces it. -/
def State.setRec (s : State) (i : Nat) (r : RecInst) : State := { s with acq.inst := s.acq.inst.set i r }

/-- Capture instants of a kind lie this many grid instants apart, now (R351). -/
def State.recStep (s : State) (kind : Nat) : Nat := if kind = 3 then s.aln.d else if kind = 4 then s.cfg.ph.p else 1

/-- Bytes a second that an instance writes (R353). -/
def State.recRate (s : State) (kind count nDig : Nat) : Rat :=
  (frameLen kind count nDig * gridRate s.aln.rate : Nat) / (max 1 (s.recStep kind) : Nat)

/-- An instance writes frames. -/
def RecInst.on (r : RecInst) : Bool := r.state == 2 || r.state == 3 || r.state == 4

/-! ## Event log (R372) -/

/-- An entry of the event log: INT_CAUSE.ACQ, and the Firn record of events 3 to 7. -/
def State.acqLog (s : State) (inst event slot rec_ source term : Nat) : State :=
  let e := leBytes 1 inst ++ leBytes 1 event ++ leBytes 2 slot ++ (s.stamp 17).bytes ++ leBytes 4 rec_ ++ leBytes 1 source ++
    leBytes 1 term
  let full := s.acq.log.length ≥ 1024
  let s := State.raise { s with
    acq.log := (e :: s.acq.log).take 1024
    acq.lost := if full then inc32 s.acq.lost else s.acq.lost } intACQ
  if 3 ≤ event then s.firnEv 0x0B02 (leBytes 1 inst ++ leBytes 1 event ++ leBytes 2 slot ++ leBytes 4 rec_) else s

/-! ## Headers (R356, R357) -/

/-- A trigger list entry. -/
def trigEntry (x : Stamp × Nat × Nat × Int) : Bytes :=
  x.1.bytes ++ leBytes 1 x.2.1 ++ leBytes 1 x.2.2.1 ++ leInt 4 x.2.2.2 ++ zeros 4

/-- The two map entries that bracket an instant. -/
def State.mapAround (s : State) (t : Nat) : Bytes :=
  let before := s.time.map.find? (fun m => m.ns ≤ t)
  let after := (s.time.map.filter (fun m => t < m.ns)).getLast?
  let after := match after with | some m => some m | none => some s.time.next
  ((before.map Mark.bytes).getD (zeros 16)) ++ ((after.map Mark.bytes).getD (zeros 16))

/-- The configuration a cfg_crc covers: head, terms and capture list. -/
def RecInst.cfgBytes (r : RecInst) : Bytes :=
  r.head ++ padTo 256 r.terms.flatten ++ r.items.flatMap (leBytes (listEntry r.kind)) ++ r.digs.flatMap (leBytes 4)

/-- The header of a segment (R356). -/
def State.recHeader (s : State) (i : Nat) (r : RecInst) (g : RecSeg) : Bytes :=
  let first := (g.trigs.headD ({}, 0, 0, 0))
  let a := leBytes 4 0x31434552 ++ leBytes 2 1 ++ leBytes 2 4096 ++ leBytes 4 r.listLen ++ leBytes 1 i ++ leBytes 1 r.kind ++
    leBytes 1 s.aln.rate ++ [0] ++ leBytes 2 (s.recStep r.kind) ++ leBytes 2 r.digs.length ++ leBytes 4 r.items.length ++
    leBytes 4 r.frameLen ++ leBytes 4 r.capacity ++ leBytes 4 g.record ++ leBytes 2 g.segment ++
    leBytes 2 (g.flags + if g.closed then 0 else 256) ++ leBytes 4 g.firstPos ++ leBytes 4 g.frames ++ leBytes 4 g.pre ++
    leBytes 4 g.first.sec ++ leBytes 2 g.first.n ++ zeros 2 ++ leBytes 4 g.trig.sec ++ leBytes 2 g.trig.n ++
    leBytes 2 g.trigs.length ++ first.1.bytes ++ leBytes 1 first.2.1 ++ leBytes 1 first.2.2.1 ++ g.close.bytes ++
    leBytes 2 g.trigsMore ++ g.calendar ++ leBytes 4 g.tblGen ++ leBytes 4 (crc32c r.cfgBytes) ++
    leBytes 4 (Config.serial.toNat / 4294967296) ++ leBytes 4 (Config.serial.toNat % 4294967296) ++ zeros 4 ++ g.map ++
    zeros 108
  let rest := padTo 3840 (g.trigs.flatMap trigEntry)
  padTo 252 a ++ leBytes 4 (crc32c (padTo 252 a ++ zeros 4 ++ rest)) ++ rest

/-- Writes a segment's header and capture list area into its slot. -/
def State.writeHeader (s : State) (i slot : Nat) : State :=
  let r := s.recInst i
  match r.slots.get? slot with
  | some g =>
    let list := padTo r.listLen (r.items.flatMap (leBytes (listEntry r.kind)) ++ r.digs.flatMap (leBytes 4))
    (s.memWrite (r.slotAt slot) (s.recHeader i r g) false).memWrite (r.slotAt slot + 4096) list false
  | none => s

/-- Replaces a segment. -/
def State.setSeg (s : State) (i slot : Nat) (g : RecSeg) : State :=
  let r := s.recInst i
  s.setRec i { r with slots := r.slots.set slot g }

/-! ## Slots (R358, R362) -/

/-- Free slots. -/
def RecInst.freeSlots (r : RecInst) : List Nat :=
  (List.range r.slotCount).filter (fun k => (r.slots.get? k).isNone && r.slot != some k)

/-- The free slot that comes next: the first one after the slot in use (log 27). -/
def RecInst.nextFree (r : RecInst) : Option Nat :=
  let free := r.freeSlots
  match r.slot with
  | some k => match free.find? (k < ·) with | some x => some x | none => free.head?
  | none => free.head?

/-- The slots of the oldest closed record that is not under replay. -/
def State.oldest (s : State) (i : Nat) : List Nat :=
  let r := s.recInst i
  let shut := r.slots.filter (fun x => x.2.closed && !s.acq.replay.contains (256 * i + x.1) &&
    r.slots.all (fun y => y.2.record != x.2.record || y.2.closed))
  match (shut.map (·.2.record)).min? with
  | some n => (shut.filter (fun x => x.2.record = n)).map (·.1)
  | none => []

/-- The slot that receives the following frames: a free one, or one that OVERWRITE reclaims with event 5. -/
def State.takeSlot (s : State) (i : Nat) : Option Nat × State :=
  let r := s.recInst i
  match r.nextFree with
  | some k => (some k, s)
  | none =>
    if r.overwrite then
      match s.oldest i with
      | [] => (none, s)
      | k :: ks =>
        let n := (r.slots.get? k).map (·.record) |>.getD 0
        let s := s.setRec i { r with slots := r.slots.delIf (fun x => x == k || ks.contains x) }
        (some k, s.acqLog i 5 k n 0 0)
    else (none, s)

/-! ## Starting and stopping (R353, R358) -/

/-- An instance stops: its open segment keeps the frames written and closes with a flag (R353, R358). -/
def State.recStop (s : State) (i reason flag : Nat) : State :=
  let r := s.recInst i
  if !r.on then s
  else
    let cut (g : RecSeg) : RecSeg :=
      if g.closed || g.closeAt.isSome then g
      else { g with lastOrd := r.ord - 1, frames := r.ord - g.firstOrd, flags := g.flags ||| flag, closeAt := some (s.now + 5000000) }
    s.setRec i { r with
      state := 5, reason := reason, slots := r.slots.mapV (fun _ g => cut g), slot := none, next := none, trigs := r.trigs }

/-- REC_ARM's arming at the mark that opens a second at index `g0` (R358). With no slot to fill, the instance stops
as REARM does. -/
def State.recArmNow (s : State) (i g0 : Nat) : State :=
  let r := s.recInst i
  if r.state != 1 && r.state != 5 then s
  else
    let t := s.takeSlot i
    let s := t.2
    let r := s.recInst i
    match t.1 with
    | none => (s.setRec i { r with state := 5, reason := 2 }).acqLog i 4 0 r.record 0 0
    | some k =>
      s.setRec i { r with
        state := 2, reason := 0, slot := some k, inSlot := 0, armOrd := r.ord, ringOrd := r.ord, ring := [], lastOrd := none
        next := some g0, prevDigs := none, prevVals := [], trigs := [] }

/-- REC_ARM at its mark (R358). -/
def State.recArmApply (s : State) (b : Bytes) (g0 : Nat) : State :=
  (List.range 16).foldl (fun s i =>
    if !(le16 b 0).testBit i then s
    else if byteAt b 2 = 1 then s.recArmNow i g0
    else s.recStop i 1 8) s

/-- Every instance that runs stops (R20, R358). -/
def State.recStopAll (s : State) (reason : Nat) : State := (List.range 16).foldl (fun s i => s.recStop i reason 8) s

/-! ## Digital points (R352) -/

/-- A digital point code is valid. -/
def digOk (v : Nat) : Bool :=
  v / 2 ^ 28 ≤ 8 && v / 65536 % 4096 == 0 && addrOk (v / 2 ^ 28) (v % 65536)

/-- The points an instance follows: its list, then those of its digital-edge terms. -/
def RecInst.points (r : RecInst) : List Nat :=
  r.digs ++ (r.terms.filter (fun t => byteAt t 0 = 1)).map (fun t => le32 t 4)

/-- A point's value now: the image of its area as the last scan left it. -/
def State.pointNow (s : State) (v : Nat) : Bool := s.logic.img.read s.logic.forces (v / 2 ^ 28) (v % 65536)

/-- A scan has ended: every instance notes its points' values (R352). -/
def State.recScan (s : State) (end_ : Nat) : State :=
  { s with acq.inst := s.acq.inst.mapV (fun _ r =>
      if r.on && !r.points.isEmpty then { r with scans := ((end_, r.points.map s.pointNow) :: r.scans).take 512 } else r) }

/-- An element's output at an instant: none while it is not evaluated there. -/
def State.outAt (s : State) (el g : Nat) : Option Bool :=
  let e := s.grdEl el
  if grdActive (s.grdRecAt el g) && e.next ≤ g then none
  else match e.outs.find? (fun x => x.1 ≤ g) with
    | some x => some x.2
    | none => some false

/-- The values of an instance's points at an instant (R352): E points at the instant itself, the others after the
latest scan end at or before it. -/
def State.pointsAt (s : State) (r : RecInst) (g t : Nat) : List (Option Bool) :=
  let held := (r.scans.find? (fun x => x.1 ≤ t)).map (·.2)
  r.points.zipIdx.map (fun (v, j) =>
    if v / 2 ^ 28 = 5 then s.outAt (v % 65536) g
    else match held with
      | some l => some (l.getD j false)
      | none => some (s.pointNow v))

/-! ## Frames (R351, R355, R359) -/

/-- The first capture instant at or after index `g` (R351). -/
def State.capture (s : State) (kind g : Nat) : Option (GridSecond × Nat) :=
  match s.secondOf g with
  | none => none
  | some d =>
    let step := max 1 (SlabBind.stepIn { kind := kind, count := 0, items := [], gen := 0, next := 0 } d)
    let n := roundUp (g - d.g0) step
    if n < d.rate then some (d, d.g0 + n)
    else (s.secondOf (d.g0 + d.rate)).map (fun e => (e, e.g0))

/-- The value and INVALID of a list entry for a level crossing (R359). -/
def State.crossing (s : State) (r : RecInst) (entry : Bytes) (pos g : Nat) : Option (Int × Bool) :=
  if r.kind = 4 then
    let v := r.items.getD pos 0
    (s.item v g).map (fun x => ((itemMag v x : Nat), x.aflags.testBit 0))
  else some (int32 (le32 entry 0), (le16 entry 10).testBit 0)

/-- Triggers of digital edges and level crossings between two frames, in term order (R359). -/
def termTrigs (r : RecInst) (digs : List Bool) (vals : List (Option (Int × Nat))) (t : Nat) : List RecTrig :=
  let dIdx (j : Nat) : Nat := r.digs.length + ((r.terms.take j).filter (fun x => byteAt x 0 = 1)).length
  let vIdx (j : Nat) : Nat := ((r.terms.take j).filter (fun x => byteAt x 0 = 2)).length
  let wants (b : Bytes) (rise fall : Bool) : Bool := (rise && (byteAt b 1).testBit 0) || (fall && (byteAt b 1).testBit 1)
  r.terms.zipIdx.filterMap (fun (b, j) =>
    if byteAt b 0 = 1 then
      match r.prevDigs with
      | some p =>
        let was := p.getD (dIdx j) false
        let is := digs.getD (dIdx j) false
        if wants b (!was && is) (was && !is) then
          some { at_ := t, source := 1, term := j, cls := 4, interp := false } else none
      | none => none
    else if byteAt b 0 = 2 then
      match (r.prevVals[vIdx j]?).join, (vals[vIdx j]?).join with
      | some (x0, t0), some (x1, _) =>
        let thr := int32 (le32 b 8)
        if wants b (decide (x0 < thr ∧ thr ≤ x1)) (decide (thr < x0 ∧ x1 ≤ thr)) then
          let num := (thr - x0) * ((t : Int) - t0)
          let q := if x1 < x0 then divRoundUp (-num) (x0 - x1).toNat else divRoundUp num (x1 - x0).toNat
          some { at_ := ((t0 : Int) + q).toNat, source := 2, term := j, cls := 4, interp := true }
        else none
      | _, _ => none
    else none)

/-- A frame as built: its bytes, flags, point values and the values of crossing terms. -/
structure Built where
  bytes : Bytes
  flags : Nat
  digs : List Bool
  vals : List (Option (Int × Nat))

/-- Builds the frame of an instant, none while something in it is not computed (R351, R355). -/
def State.buildFrame (s : State) (r : RecInst) (d : GridSecond) (g : Nat) : Option Built :=
  let t := d.at_ (g - d.g0)
  let b : SlabBind := { kind := r.kind, count := 0, items := [], gen := 0, next := 0 }
  let entries := r.items.map (fun x => s.slabEntry b d g x)
  let pts := s.pointsAt r g t
  if s.now < t || entries.any (·.isNone) || pts.any (·.isNone) then none
  else
    let es := entries.filterMap id
    let digs := pts.filterMap id
    let poison := es.any (fun e => (le16 e 10).testBit 6)
    let flags := 2 * b2n d.holdover + 4 * b2n s.sv.simMode + 8 * b2n poison
    let n := if r.kind = 3 then (g - d.g0) / max 1 d.d else g - d.g0
    let vals := (r.terms.filter (fun x => byteAt x 0 = 2)).map (fun x =>
      match s.crossing r (es.getD (le32 x 4) []) (le32 x 4) g with
      | some (v, bad) => if bad then none else some (v, t)
      | none => none)
    some {
      flags := flags, digs := digs, vals := vals
      bytes := padTo r.frameLen (leBytes 4 d.sec ++ leBytes 2 n ++ leBytes 2 flags ++
        packBits (8 * ceilDiv r.digs.length 64) (digs.take r.digs.length) ++ es.flatten) }

/-- Frames of holdoff at the rate in force (R358). -/
def State.holdFrames (s : State) (r : RecInst) : Nat :=
  ceilDiv (r.holdoffMs * gridRate s.aln.rate) (1000 * max 1 (s.recStep r.kind))

/-- The segment in POST, with its slot. -/
def RecInst.postSeg (r : RecInst) : Option (Nat × RecSeg) :=
  r.slots.find? (fun x => !x.2.closed && x.2.closeAt.isNone)

/-- POST is over: the segment closes 5 ms later, and the following frames go to the next slot (R358, R360). -/
def State.recPostEnd (s : State) (i : Nat) : State :=
  let r := s.recInst i
  match r.postSeg with
  | none => s
  | some (k, g) =>
    let s := s.setSeg i k { g with frames := g.lastOrd + 1 - g.firstOrd, closeAt := some (s.now + 5000000) }
    let t := s.takeSlot i
    let s := t.2
    let r := s.recInst i
    match t.1 with
    | some k' =>
      s.setRec i { r with state := 4, slot := some k', ringOrd := r.ord, inSlot := 0, lastOrd := some g.lastOrd, lastSlot := k }
    | none =>
      (s.setRec i { r with state := 5, reason := 2, slot := none, next := none }).acqLog i 4 k g.record 0 0

/-- Writes a frame where the ring stands, and goes on to the next instant (R354, R355, R358). -/
def State.putFrame (s : State) (i : Nat) (d : GridSecond) (g : Nat) (b : Built) : State :=
  let r := s.recInst i
  let t := d.at_ (g - d.g0)
  let s := s.memWrite (r.frameAt (r.slot.getD 0) r.ringOrd r.ord) b.bytes false
  let f : RecFrame := { ord := r.ord, g := g, t := t, sec := d.sec
                        n := if r.kind = 3 then (g - d.g0) / max 1 d.d else g - d.g0, flags := b.flags }
  let hits := termTrigs r b.digs b.vals t
  let s := s.setRec i { r with
    ord := r.ord + 1, inSlot := r.inSlot + 1, ring := (f :: r.ring).take (r.capacity + 128), next := some (g + 1)
    prevDigs := some b.digs, prevVals := b.vals, trigs := r.trigs ++ hits
    slots := r.slots.mapV (fun _ x =>
      if x.closed || x.closeAt.isSome then x
      else { x with frames := r.ord + 1 - x.firstOrd, flags := x.flags ||| (32 * b2n (b.flags.testBit 3)) ||| (64 * b2n (b.flags.testBit 1)) |||
                      (128 * b2n (b.flags.testBit 2)) }) }
  match r.postSeg with
  | some (_, x) => if x.lastOrd ≤ r.ord then s.recPostEnd i else s
  | none => s

/-- RECORDER_FRAME: the frame of the next capture instant (R351). -/
def execRecorderFrame (inst : Nat) (s : State) : Out := s.onPath <|
  .next (
    let r := s.recInst inst
    if !r.on || !s.power.on.contains .acq then s
    else match r.next.bind (fun g => s.capture r.kind g) with
      | none => s
      | some (d, g) =>
        match s.buildFrame r d g with
        | some b => s.putFrame inst d g b
        | none => s)

/-! ## Triggers (R359 to R361) -/

/-- A new record drives the lines its settings name (R361). -/
def State.recPulse (s : State) (r : RecInst) (source : Nat) : State :=
  if source = 4 then s
  else
    let s := if r.outX1 then { s with acq.x1 := some (s.now, none) } else s
    if r.outJ4 then { s with acq.j4 := some (s.now, none) } else s

/-- A trigger reaches every instance with a term of its type and operand that writes frames (R359). -/
def State.recSpread (s : State) (type operand : Nat) (edge : Nat) (t : RecTrig) : State :=
  { s with acq.inst := s.acq.inst.mapV (fun _ r =>
      if !r.on then r
      else { r with trigs := r.trigs ++ (r.terms.zipIdx.filter (fun (b, _) =>
          byteAt b 0 = type && le32 b 4 = operand && (edge == 0 || byteAt b 1 &&& edge != 0))).map (fun (_, j) =>
            { t with term := j }) }) }

/-- The TRIG bit of a frame already written (R355). -/
def State.markTrig (s : State) (r : RecInst) (slot ringOrd : Nat) (f : RecFrame) : State :=
  s.memWrite (r.frameAt slot ringOrd f.ord + 6) (leBytes 2 (f.flags + 1)) false

/-- A trigger enters a segment's list (R357, R360). -/
def State.listTrig (s : State) (i k : Nat) (g : RecSeg) (st : Stamp) (x : RecTrig) (o : Nat) : State :=
  let e := (st, x.source, x.term, (o : Int) - g.trigOrd)
  let g := if g.trigs.length < 32 then { g with trigs := g.trigs ++ [e] } else { g with trigsMore := min 65535 (g.trigsMore + 1) }
  (s.setSeg i k g).writeHeader i k

/-- Opens a segment in the instance's slot (R358, R360). -/
def State.openSeg (s : State) (i k : Nat) (x : RecTrig) (st : Stamp) (f first : RecFrame) (record segment flags ringOrd : Nat) :
    State :=
  let r := s.recInst i
  let pre := f.ord - first.ord
  let fits := first.ord + r.capacity - 1
  let want := f.ord + r.post
  let held := r.ring.filter (fun y => first.ord ≤ y.ord && y.ord ≤ want)
  let any (b : Nat) : Nat := b2n (held.any (fun y => y.flags.testBit b))
  let g : RecSeg := {
    record := record, segment := segment
    flags := flags ||| (2 * b2n (decide (fits < want))) ||| (32 * any 3) ||| (64 * any 1) ||| (128 * any 2)
    firstPos := (first.ord - ringOrd) % max 1 r.capacity, frames := r.ord - first.ord, pre := pre, first := first, trig := f
    firstOrd := first.ord, trigOrd := f.ord, lastOrd := min want fits, trigs := [(st, x.source, x.term, 0)], trigExt := x.at_
    calendar := s.calendarOf x.at_, tblGen := s.sv.gen, map := s.mapAround x.at_ }
  let s := s.setRec i { r with state := 3, slots := r.slots.set k g }
  let s := (s.markTrig r k ringOrd f).writeHeader i k
  if g.lastOrd < r.ord then s.recPostEnd i else s

/-- A trigger in ARMED: a new record (R360). -/
def State.newRecord (s : State) (i : Nat) (x : RecTrig) (st : Stamp) (f : RecFrame) : State :=
  let r := s.recInst i
  match r.slot with
  | none => s
  | some k =>
    let oldest := max (max r.armOrd r.ringOrd) (r.ord - r.capacity)
    let pre := min r.preMax (f.ord - oldest)
    match r.ring.find? (fun y => y.ord = f.ord - pre) with
    | none => s
    | some first =>
      let n := r.record
      let s := s.setRec i { r with record := n + 1 }
      let s := s.openSeg i k x st f first n 0 (b2n (decide (pre < r.preMax))) r.ringOrd
      let s := s.recPulse r x.source
      s.recSpread 5 i 0 { at_ := x.at_, source := 5, term := 0, cls := x.cls, interp := x.interp }

/-- A trigger in REARM with RETRIG: the record goes on in the slot that holds the REARM frames (R360). -/
def State.contRecord (s : State) (i : Nat) (x : RecTrig) (st : Stamp) (f : RecFrame) (last : Nat) : State :=
  let r := s.recInst i
  match r.slot, r.slots.get? r.lastSlot, r.ring.find? (fun y => y.ord = last + 1) with
  | some k, some g, some first =>
    let s := (s.setSeg i r.lastSlot { g with flags := g.flags ||| 16 }).writeHeader i r.lastSlot
    s.openSeg i k x st f first g.record (g.segment + 1) 0 r.ringOrd
  | _, _, _ => s

/-- A trigger is judged by the instance's state at its frame, which the ordinals of the frames give (R360). -/
def State.judgeTrig (s : State) (i : Nat) (x : RecTrig) (f : RecFrame) : State :=
  let r := s.recInst i
  let st := s.stampOf x.at_ x.cls x.interp
  let mine := r.slots.find? (fun y => !y.2.closed && y.2.firstOrd ≤ f.ord && f.ord ≤ y.2.lastOrd)
  match mine with
  | some (k, g) =>
    let open_ := g.closeAt.isNone
    let g' := if r.retrig && open_ && g.trigOrd ≤ f.ord then
        let fits := g.firstOrd + r.capacity - 1
        let want := max g.lastOrd (f.ord + r.post)
        { g with lastOrd := min want fits, flags := g.flags ||| (2 * b2n (decide (fits < want))) } else g
    s.listTrig i k g' st x f.ord
  | none =>
    if !r.on then s
    else match r.postSeg with
      | some (k, g) => s.listTrig i k g st x f.ord
      | none =>
        match r.lastOrd with
        | some last =>
          if f.ord ≤ last then s
          else if f.ord ≤ last + s.holdFrames r then
            if r.retrig then s.contRecord i x st f last
            else
              let v := inc32 r.missed
              let s := State.counted (s.setRec i { r with missed := v }) v 0x0B04 8 i
              let e := leBytes 1 i ++ [2] ++ leBytes 2 (r.slot.getD 0) ++ st.bytes ++ leBytes 4 (r.record - 1) ++ leBytes 1 x.source ++
                leBytes 1 x.term
              State.raise { s with
                acq.log := (e :: s.acq.log).take 1024
                acq.lost := if s.acq.log.length ≥ 1024 then inc32 s.acq.lost else s.acq.lost } intACQ
          else s.newRecord i x st f
        | none => s.newRecord i x st f

/-- The frame of a trigger: the first one at or after its time (R360); `none` while it is not written, and `some
none` where the trigger came before arming. -/
def State.trigFrame (s : State) (r : RecInst) (t : Nat) : Option (Option RecFrame) :=
  match (r.ring.filter (fun y => t ≤ y.t)).getLast? with
  | none => if r.on then none else some none
  | some f =>
    let gap := 1000000000 * max 1 (s.recStep r.kind) / gridRate s.aln.rate
    if f.ord = r.armOrd && t + gap ≤ f.t then some none else some (some f)

/-- RECORDER_TRIGGER: the oldest trigger of a source that an instance has not judged (R360). -/
def execRecorderTrigger (inst src : Nat) (s : State) : Out := s.onPath <|
  .next (
    let r := s.recInst inst
    match r.trigs.find? (fun x => x.source = src) with
    | none => s
    | some x =>
      match s.trigFrame r x.at_ with
      | none => s
      | some f =>
        let s := s.setRec inst { r with trigs := r.trigs.erase x }
        match f with
        | some f => s.judgeTrig inst x f
        | none => s)

/-- An edge on a line is seen: the module does not drive it, nor released it in the last 100 µs (R361). -/
def lineSeen (d : Option (Nat × Option Nat)) (t : Nat) : Bool :=
  match d with
  | none => true
  | some (_, none) => false
  | some (_, some r) => r + 100000 ≤ t

/-- XTRIG_EDGE: a falling edge that has stayed low for 20 µs, its path delay removed (R361). -/
def execXtrigEdge (p : Bool) (at_ : Nat) (s : State) : Out :=
  .next (
    let s := s.clockTo (at_ + 20000)
    if lineSeen (if p then s.acq.j4 else s.acq.x1) at_ then
      s.recSpread 4 (b2n p) 0 { at_ := at_ - (if p then 50 else 400), source := 4, term := 0, cls := 16, interp := false }
    else s)

/-- TRIG_INPUT_EDGE: an edge whose level has held for 50 µs, the 1.8 µs of the input removed (R36, R359). -/
def execTrigInputEdge (n : Nat) (rising : Bool) (at_ : Nat) (s : State) : Out :=
  .next (
    let s := s.clockTo (at_ + 50000)
    if n ≤ 1 then
      s.recSpread 3 n (if rising then 1 else 2) { at_ := at_ - 1800, source := 3, term := 0, cls := 15, interp := false }
    else s)

/-- XTRIG_PULSE_END: the pulse that began first ends 1 ms after its start (R361). -/
def execXtrigPulseEnd (s : State) : Out :=
  .next (
    let due (d : Option (Nat × Option Nat)) : Option Nat := match d with | some (t, none) => some (t + 1000000) | _ => none
    let ends (d : Option (Nat × Option Nat)) (t : Nat) : Option (Nat × Option Nat) :=
      match d with | some (a, none) => if a + 1000000 ≤ t then some (a, some t) else d | _ => d
    match ((due s.acq.x1).toList ++ (due s.acq.j4).toList).min? with
    | some t => { s.clockTo t with acq.x1 := ends s.acq.x1 t, acq.j4 := ends s.acq.j4 t }
    | none => s)

/-- SEGMENT_CLOSE: 5 ms after its last frame the oldest segment that waits closes (R356, R360). -/
def execSegmentClose (inst : Nat) (s : State) : Out :=
  .next (
    let r := s.recInst inst
    let due := r.slots.filterMap (fun x => if x.2.closed then none else x.2.closeAt.map (fun t => (t, x.1)))
    match (due.map (·.1)).min? with
    | none => s
    | some t =>
      match due.find? (fun x => x.1 = t) with
      | none => s
      | some (_, k) =>
        match r.slots.get? k with
        | none => s
        | some g =>
          let s := s.clockTo t
          let v := inc32 r.closed
          let s := State.counted (s.setRec inst { r with closed := v }) v 0x0B04 16 inst
          let s := (s.setSeg inst k { g with closed := true, close := s.stamp 17 }).writeHeader inst k
          let tr := g.trigs.headD ({}, 0, 0, 0)
          let s := s.acqLog inst 1 k g.record tr.2.1 tr.2.2.1
          s.firnEv 0x0B01 (leBytes 1 inst ++ [1] ++ leBytes 2 k ++ leBytes 4 g.record))

/-- RECORDER_OVERFLOW: a frame found no room (R353). -/
def execRecorderOverflow (inst : Nat) (s : State) : Out :=
  .next (
    let r := s.recInst inst
    if r.on then
      let v := inc32 r.overflows
      let k := (r.postSeg.map (·.1)).getD (r.slot.getD 0)
      let n := (r.postSeg.map (·.2.record)).getD r.record
      let s := s.recStop inst 3 4
      let s := State.counted (s.setRec inst { s.recInst inst with overflows := v }) v 0x0B04 12 inst
      s.acqLog inst 3 k n 0 0
    else s)

/-- REARM_HOLDOFF_END: holdoff frames are written: ARMED (R358). -/
def execRearmHoldoffEnd (inst : Nat) (s : State) : Out :=
  .next (
    let r := s.recInst inst
    match r.lastOrd with
    | some last => if r.state = 4 && last + 1 + s.holdFrames r ≤ r.ord then s.setRec inst { r with state := 2 } else s
    | none => s)

/-! ## Commands (R373) -/

/-- PD_ACQ follows what is configured (R52). -/
def State.acqPower (s : State) : State :=
  let want := s.acq.inst.any (fun x => x.2.state != 0) || !s.acq.longe.isEmpty
  let on := s.power.on.contains .acq
  if want && !on then { s with power.on := s.power.on ++ [.acq] }
  else if !want && on then { s with power.on := s.power.on.filter (· != .acq) }
  else s

/-- A trigger term is valid in an instance of `count` entries (R359). -/
def termOk (inst count : Nat) (b : Bytes) : Bool :=
  let op := le32 b 4
  let edge := 1 ≤ byteAt b 1 && byteAt b 1 ≤ 3
  zeroAt b 2 2 && zeroAt b 12 4 &&
    match byteAt b 0 with
    | 0 => zeroAt b 1 15
    | 1 => edge && digOk op && le32 b 8 == 0
    | 2 => edge && op < count
    | 3 => edge && op ≤ 1 && le32 b 8 == 0
    | 4 => byteAt b 1 ≤ 3 && op ≤ 1 && le32 b 8 == 0
    | 5 => byteAt b 1 ≤ 3 && op ≤ 15 && op != inst && le32 b 8 == 0
    | _ => false

/-- The instance a REC_CFG describes. -/
def recOf (r : Req) : RecInst :=
  let b := r.region
  let kind := byteAt b 1
  let e := listEntry kind
  let count := le16 b 4
  { head := slice b 0 64
    terms := (List.range (byteAt b 3)).map (fun j => slice b (64 + 16 * j) 16)
    items := (List.range count).map (fun j => if kind = 4 then le32 b (320 + e * j) else le16 b (320 + e * j))
    digs := (List.range (le16 b 6)).map (fun j => le32 b (320 + e * count + 4 * j))
    state := 1 }

/-- REC_CFG's region is in range (R351, R352, R354, R359): no overlap with another region or a Longe buffer. -/
def State.recCfgOk (s : State) (i : Nat) (r : Req) : Bool :=
  let b := r.region
  let x := recOf r
  let kind := byteAt b 1
  if kind = 0 then 64 ≤ b.length && byteAt b 0 == 0 && zeroAt b 2 62
  else
    kind ≤ 4 && byteAt b 0 == 0 && byteAt b 2 < 32 && byteAt b 3 ≤ 16 && zeroAt b 30 34 && 1 ≤ le16 b 4 &&
      le16 b 4 ≤ (if kind = 4 then 4096 else 16384) && le16 b 6 ≤ 1024 && x.lo % 2097152 == 0 && 1 ≤ le16 b 16 &&
      1 ≤ le16 b 18 && le16 b 18 ≤ 256 && 1 ≤ le32 b 24 && 1 ≤ le16 b 28 && le16 b 28 ≤ 10000 &&
      320 + listEntry kind * le16 b 4 + 4 * le16 b 6 ≤ b.length &&
      x.items.all (fun v => if kind = 4 then itemOk v else v < 16384) && x.digs.all digOk &&
      x.terms.all (termOk i (le16 b 4)) && zeroAt b (64 + 16 * byteAt b 3) (256 - 16 * byteAt b 3) &&
      8589934592 ≤ x.lo && x.hi ≤ 68719476736 && 4096 + x.listLen < x.slotBytes && x.preMax + 1 + x.post ≤ x.capacity &&
      s.acq.inst.all (fun y => y.1 == i || y.2.state == 0 || x.hi ≤ y.2.lo || y.2.hi ≤ x.lo) &&
      s.acq.longe.all (fun y => x.hi ≤ bufLo y.2.rec_ || bufHi y.2.rec_ ≤ x.lo)

/-- Bytes a second that the configured Longe streams read (R353, R367). -/
def State.longeRead (s : State) (b : Bytes) : Rat :=
  match byteAt b 30 with
  | 1 =>
    let r := s.recInst (byteAt b 144)
    s.recRate r.kind r.items.length r.digs.length
  | 2 => (le32 b 164 * byteAt b 168 * 4 : Nat)
  | _ => 0

/-- The DRAM budget of R353 with other instances `inst` and streams `longe`. -/
def State.acqFits (s : State) (inst : Tbl RecInst) (longe : Tbl LongeCfg) : Bool :=
  let w := inst.foldl (fun (a : Rat) x =>
    if x.2.state = 0 then a else a + s.recRate x.2.kind x.2.items.length x.2.digs.length) 0
  let r := longe.foldl (fun (a : Rat) x => a + s.longeRead x.2.rec_) 0
  w + r ≤ 6000000000

/-- REC_CFG (R353, R354, R358, R373). -/
def cmdRecCfg : Cmd where
  opcode := 0x0B01
  param s _ r := byteAt r.params 0 ≤ 15 && restZero r 1 && r.xp && s.recCfgOk (byteAt r.params 0) r
  state s _ r :=
    let i := byteAt r.params 0
    if [0, 1, 5].contains (s.recInst i).state then
      if byteAt r.region 1 = 0 || s.acqFits (s.acq.inst.set i (recOf r)) s.acq.longe then 0 else stNO_RESOURCE
    else stSTATE
  body _ e s :=
    let i := byteAt e.req.params 0
    let s := if byteAt e.req.region 1 = 0 then { s with acq.inst := s.acq.inst.del i }
      else s.setRec i (recOf e.req)
    .done s.acqPower stOK [] none

/-- REC_CFG (R373). -/
def execRecCfg (p : Path) (s : State) : Out := .next (s.run cmdRecCfg p)

/-- Instances of a mask. -/
def maskInsts (b : Bytes) : List Nat := (List.range 16).filter (fun i => (le16 b 0).testBit i)

/-- REC_ARM (R16, R358, R373). -/
def cmdRecArm : Cmd where
  opcode := 0x0B02
  param s _ r := byteAt r.params 2 ≤ 1 && restZero r 3 && (maskInsts r.params).all (fun i => (s.recInst i).state != 0)
  body := atMark

/-- REC_ARM (R373). -/
def execRecArm (p : Path) (s : State) : Out := .next (s.run cmdRecArm p)

/-- The extended local time of a recent stamp. -/
def State.extOf (s : State) (t : Stamp) : Nat :=
  s.now - (s.now + 1099511627776 - (4294967296 * t.tag + t.ns) % 1099511627776) % 1099511627776

/-- REC_TRIGGER (R359, R360, R373): at the command's rx_stamp; from a VF only instances with VF_TRIG take it. -/
def cmdRecTrigger : Cmd where
  opcode := 0x0B03
  param _ _ r := restZero r 2
  body p e s :=
    let vf := match p with | .vf _ => true | _ => false
    let t : RecTrig := { at_ := s.extOf e.rx, source := 6, term := 255, cls := e.rx.src, interp := false }
    let s := { s with acq.inst := s.acq.inst.mapV (fun i r =>
      if (le16 e.req.params 0).testBit i && r.on && (!vf || r.vfTrig) then { r with trigs := r.trigs ++ [t] } else r) }
    .done s stOK e.rx.bytes none

/-- REC_TRIGGER (R373). -/
def execRecTrigger (p : Path) (s : State) : Out := .next (s.run cmdRecTrigger p)

/-- REC_STATUS (R373). -/
def cmdRecStatus : Cmd where
  opcode := 0x0B04
  param _ _ r := restZero r 0
  xpNeed _ _ := 512
  body _ _ s :=
    .done s stOK [] (some ((List.range 16).flatMap (fun i =>
      let r := s.recInst i
      leBytes 1 r.state ++ leBytes 1 r.reason ++ leBytes 2 r.freeSlots.length ++ leBytes 4 (if r.state = 0 then 0 else r.record) ++
        leBytes 4 r.missed ++ leBytes 4 r.overflows ++ leBytes 4 r.closed ++ zeros 12)))

/-- REC_STATUS (R373). -/
def execRecStatus (p : Path) (s : State) : Out := .next (s.run cmdRecStatus p)

/-- REC_SLOTS (R362, R373). -/
def cmdRecSlots : Cmd where
  opcode := 0x0B05
  param _ _ r := byteAt r.params 0 ≤ 15 && restZero r 1
  xpNeed s r := 16 * (s.recInst (byteAt r.params 0)).slotCount
  body _ e s :=
    let r := s.recInst (byteAt e.req.params 0)
    .done s stOK [] (some ((List.range r.slotCount).flatMap (fun k =>
      match r.slots.get? k with
      | some g => leBytes 1 (if g.closed then 2 else 1) ++ [0] ++ leBytes 2 g.segment ++ leBytes 4 g.record ++ leBytes 8 (r.slotAt k)
      | none => leBytes 1 (b2n (r.slot == some k)) ++ zeros 7 ++ leBytes 8 (r.slotAt k))))

/-- REC_SLOTS (R373). -/
def execRecSlots (p : Path) (s : State) : Out := .next (s.run cmdRecSlots p)

/-- REC_RELEASE (R358, R362, R367, R373). -/
def cmdRecRelease : Cmd where
  opcode := 0x0B06
  param s _ r :=
    byteAt r.params 0 ≤ 15 && byteAt r.params 1 == 0 && restZero r 4 &&
      ((s.recInst (byteAt r.params 0)).state == 0 || le16 r.params 2 < (s.recInst (byteAt r.params 0)).slotCount)
  state s _ r :=
    let i := byteAt r.params 0
    let k := le16 r.params 2
    match (s.recInst i).slots.get? k with
    | some g => if g.closed && !s.acq.replay.contains (256 * i + k) then 0 else stSTATE
    | none => stSTATE
  body _ e s :=
    let i := byteAt e.req.params 0
    let r := s.recInst i
    let r := { r with slots := r.slots.del (le16 e.req.params 2) }
    .done (s.setRec i { r with state := if r.slots.isEmpty && r.state = 5 then 1 else r.state }) stOK [] none

/-- REC_RELEASE (R373). -/
def execRecRelease (p : Path) (s : State) : Out := .next (s.run cmdRecRelease p)

/-- REC_LOG_READ (R372, R373). -/
def cmdRecLogRead : Cmd where
  opcode := 0x0B07
  param _ _ r := 1 ≤ le16 r.params 0 && le16 r.params 0 ≤ 1024 && byteAt r.params 2 ≤ 1 && restZero r 3
  xpNeed s r := 16 * min (le16 r.params 0) s.acq.log.length
  body _ e s :=
    let l := (if byteAt e.req.params 2 = 1 then s.acq.log.reverse else s.acq.log).take (le16 e.req.params 0)
    .done s stOK (leBytes 2 l.length ++ leBytes 4 s.acq.lost) (some l.flatten)

/-- REC_LOG_READ (R373). -/
def execRecLogRead (p : Path) (s : State) : Out := .next (s.run cmdRecLogRead p)

end Machine
end Sys2Proof
end

