-- ==== Sys2Proof/Machine/Longe.lean ====
section
/-! DEFINITION. Longe: synthetic sampled-value streams from states, records and buffers (R366 to R371, R373). -/

namespace Sys2Proof
namespace Machine

/-! ## Records (R367, R370) -/

def lgStream (b : Bytes) : Nat := byteAt b 0
def lgValid (b : Bytes) : Bool := (byteAt b 1).testBit 0
def lgVlan (b : Bytes) : Bool := (byteAt b 1).testBit 1
def lgAuth (b : Bytes) : Bool := (byteAt b 1).testBit 2
def lgInt (b : Bytes) : Bool := (byteAt b 1).testBit 3
def lgLoop (b : Bytes) : Bool := (byteAt b 1).testBit 4
def lgRate (b : Bytes) : Nat := if byteAt b 2 = 0 then 4000 else if byteAt b 2 = 1 then 4800 else 14400
def lgAsdus (b : Bytes) : Nat := byteAt b 3
def lgChans (b : Bytes) : Nat := byteAt b 24
def lgPorts (b : Bytes) : List Nat := (List.range 6).filter (fun i => (byteAt b 25).testBit i)
def lgDelay (b : Bytes) : Nat := le16 b 28 * 1000
def lgSource (b : Bytes) : Nat := byteAt b 30
def lgSvid (b : Bytes) : Bytes := slice b 32 (byteAt b 31)
def lgMap (b : Bytes) (c : Nat) : Nat := le16 b (96 + 2 * c)

/-- Fields of a state (R370): its header, then 24 bytes a channel. -/
def stateBytes (chans : Nat) : Nat := 16 + 24 * chans
def stDur (b : Bytes) : Nat := le32 b 0 * 1000
def stFreq (b : Bytes) : Nat := le32 b 4
def stChan (b : Bytes) (c : Nat) : Bytes := slice b (16 + 24 * c) 24

/-- A state is in range. -/
def stateOk (chans : Nat) (b : Bytes) : Bool :=
  b.length == stateBytes chans && zeroAt b 8 8 &&
    (List.range chans).all (fun c =>
      let x := stChan b c
      byteAt x 6 ≤ 31 && byteAt x 6 != 1 && byteAt x 7 == 0 && zeroAt x 14 2)

/-- A stream record is in range (R367): the part no other object bears on. -/
def lgRecOk (b : Bytes) : Bool :=
  lgStream b ≤ 63 &&
  (if !lgValid b then zeroAt b 1 191
   else
    byteAt b 1 < 32 && byteAt b 2 ≤ 2 && 1 ≤ lgAsdus b && lgAsdus b ≤ 8 && 0x4000 ≤ le16 b 16 && le16 b 16 ≤ 0x7FFF &&
    (if lgVlan b then 1 ≤ le16 b 18 && le16 b 18 ≤ 4094 else le16 b 18 == 0) && 1 ≤ lgChans b && lgChans b ≤ 24 && byteAt b 25 < 64 &&
    (if lgAuth b then le16 b 26 ≤ 255 else le16 b 26 == 0) && le16 b 28 ≤ 2000 && lgSource b ≤ 2 && 1 ≤ byteAt b 31 && byteAt b 31 ≤ 64 &&
    zeroAt b (32 + byteAt b 31) (64 - byteAt b 31) && zeroAt b (96 + 2 * lgChans b) (48 - 2 * lgChans b) && zeroAt b 169 23 &&
    (match lgSource b with
     | 0 => zeroAt b 96 73
     | 1 => byteAt b 144 ≤ 15 && byteAt b 145 == 0 && zeroAt b 152 17
     | _ => zeroAt b 144 4 && le64 b 152 % 4096 == 0 && 1 ≤ le32 b 160 && le32 b 148 < le32 b 160 && 1000 ≤ le32 b 164 &&
        le32 b 164 ≤ 96000 && 1 ≤ byteAt b 168 && byteAt b 168 ≤ 24 && (List.range (lgChans b)).all (fun c => lgMap b c < byteAt b 168)))

/-- The streams of a region of `n` records, the whole region being used. Nothing says how many states follow a
synthetic record: the fewest that let the rest be read (log 28). -/
def lgParse : Nat → Bytes → Option (List LongeCfg)
  | 0, b => if b.isEmpty then some [] else none
  | n + 1, b =>
    let r := b.take 192
    let rest := b.drop 192
    if r.length < 192 || !lgRecOk r then none
    else if lgValid r && lgSource r = 0 then
      let w := stateBytes (lgChans r)
      [1, 2, 3, 4].findSome? (fun k =>
        let states := (List.range k).map (fun j => slice rest (w * j) w)
        if w * k ≤ rest.length && states.all (stateOk (lgChans r)) then
          (lgParse n (rest.drop (w * k))).map (fun l => { rec_ := r, states := states } :: l) else none)
    else (lgParse n rest).map (fun l => { rec_ := r, states := [] } :: l)

/-! ## Budgets (R19, R353, R366) -/

/-- The highest rate an SV entry's rate_mask allows (R19). -/
def svTopRate (b : Bytes) : Nat := ((List.range 4).filter (fun i => (byteAt b 25).testBit i)).foldl (fun a i => max a (svRate i)) 0

/-- The conditions of R19 for a stream table with the Longe streams given. -/
def State.streamsFit (s : State) (sv : Tbl Bytes) (longe : Tbl LongeCfg) : Bool :=
  let samples := sv.foldl (fun a x => a + svTopRate x.2) 0 + longe.foldl (fun a x => a + lgRate x.2.rec_) 0
  let chanSamples := sv.foldl (fun a x => a + svTopRate x.2 * svChans x.2) 0 +
    longe.foldl (fun a x => a + lgRate x.2.rec_ * lgChans x.2.rec_) 0
  sv.length ≤ (if s.mod.slotCap then 1024 else 2048) && samples ≤ 29491200 && chanSamples ≤ 235929600 &&
    sv.foldl (fun a x => a + svChans x.2) 0 ≤ 16384

/-- The slots of the record a replay begins with, in segment order (R367, R369). -/
def State.replaySlots (s : State) (b : Bytes) : List Nat :=
  let r := s.recInst (byteAt b 144)
  match r.slots.get? (le16 b 146) with
  | some g =>
    (List.range 256).filterMap (fun j =>
      (r.slots.find? (fun x => x.2.closed && x.2.record == g.record && x.2.segment == j)).map (·.1)) |>.take (r.slots.length)
  | none => []

/-- Frames of a record. -/
def State.replayFrames (s : State) (b : Bytes) : Nat :=
  let r := s.recInst (byteAt b 144)
  (s.replaySlots b).foldl (fun a k => a + ((r.slots.get? k).map (·.frames)).getD 0) 0

/-- A replay's record, and a buffer's place, suit (R351, R367). -/
def State.lgSourceOk (s : State) (b : Bytes) : Bool :=
  match lgSource b with
  | 0 => true
  | 1 =>
    let r := s.recInst (byteAt b 144)
    1 ≤ r.kind && r.kind ≤ 3 && (List.range (lgChans b)).all (fun c => lgMap b c < r.items.length) &&
      (match r.slots.get? (le16 b 146) with | some g => g.closed && g.segment == 0 | none => false) &&
      le32 b 148 < s.replayFrames b
  | _ => bufHi b ≤ 68719476736 && s.acq.inst.all (fun y => y.2.state == 0 || bufHi b ≤ y.2.lo || y.2.hi ≤ bufLo b)

/-- The configured streams after LONGE_CFG. -/
def lgTable (t : Tbl LongeCfg) (l : List LongeCfg) : Tbl LongeCfg :=
  l.foldl (fun t c => if lgValid c.rec_ then t.set (lgStream c.rec_) c else t.del (lgStream c.rec_)) t

/-- No two buffers of a table overlap (R351). -/
def buffersOk (t : Tbl LongeCfg) : Bool :=
  t.all (fun x => t.all (fun y => x.1 == y.1 || bufHi x.2.rec_ ≤ bufLo y.2.rec_ || bufHi y.2.rec_ ≤ bufLo x.2.rec_))

/-- LONGE_CFG (R19, R353, R367, R373). -/
def cmdLongeCfg : Cmd where
  opcode := 0x0B10
  param s _ r :=
    1 ≤ byteAt r.params 0 && byteAt r.params 0 ≤ 8 && restZero r 1 && r.xp &&
      match lgParse (byteAt r.params 0) r.region with
      | some l => l.all (fun c => !lgValid c.rec_ || s.lgSourceOk c.rec_) && buffersOk (lgTable s.acq.longe l)
      | none => false
  state s _ r :=
    if s.active 12 then stSTATE
    else match lgParse (byteAt r.params 0) r.region with
      | some l =>
        let t := lgTable s.acq.longe l
        if s.acqFits s.acq.inst t && s.streamsFit s.cfg.tables.sv t then 0 else stNO_RESOURCE
      | none => 0
  body _ e s :=
    let t := lgTable s.acq.longe ((lgParse (byteAt e.req.params 0) e.req.region).getD [])
    .done (State.acqPower { s with acq.longe := t }) stOK [] none

/-- LONGE_CFG (R373). -/
def execLongeCfg (p : Path) (s : State) : Out := .next (s.run cmdLongeCfg p)

/-! ## Start and stop (R366, R368, R371) -/

/-- LONGE_START (R16, R366, R368, R373). -/
def cmdLongeStart : Cmd where
  opcode := 0x0B11
  param _ _ r := restZero r 0
  state s _ _ := if s.active 12 || s.acq.longe.isEmpty then stSTATE else 0
  body p e s := atMark p e (s.begin 12 (some p))

/-- LONGE_START (R373). -/
def execLongeStart (p : Path) (s : State) : Out := .next (s.run cmdLongeStart p)

/-- LONGE_START at its mark T0, which opens the second of ordinal `ord` (R368). -/
def State.longeBegin (s : State) (ord at_ : Nat) : State :=
  { s with acq := { s.acq with
    running := true
    runs := s.acq.longe.mapV (fun _ _ => { running := true, ord := ord, t0 := at_, stateAt := at_ })
    replay := s.acq.longe.flatMap (fun x =>
      if lgSource x.2.rec_ = 1 then (s.replaySlots x.2.rec_).map (fun k => 256 * byteAt x.2.rec_ 144 + k) else []) } }

/-- Longe is over when no stream runs. -/
def State.longeSettle (s : State) : State :=
  if s.acq.running && !s.acq.runs.any (fun x => x.2.running) then
    State.finish { s with acq := { s.acq with running := false, replay := [] } } 12 else s

/-- Every stream stops, and a start that waits for its mark is dropped (R371). -/
def State.longeStopAll (s : State) : State :=
  let s := { s with
    acq.runs := s.acq.runs.mapV (fun _ x => { x with running := false })
    sv.marks := s.sv.marks.filter (fun c => c.opcode != 0x0B11) }
  if s.acq.running then s.longeSettle else s.finish 12

/-- LONGE_STOP (R371, R373): the stamp of the last sample sent. -/
def cmdLongeStop : Cmd where
  opcode := 0x0B12
  param _ _ r := restZero r 0
  body _ _ s :=
    let last := s.acq.runs.foldl (fun (a : Stamp) x =>
      if s.extOf a < s.extOf x.2.last && x.2.last.src != 0 || a.src == 0 then x.2.last else a) {}
    .done s.longeStopAll stOK last.bytes none

/-- LONGE_STOP (R373). -/
def execLongeStop (p : Path) (s : State) : Out := .next (s.run cmdLongeStop p)

/-- LONGE_STATUS (R373). -/
def cmdLongeStatus : Cmd where
  opcode := 0x0B13
  param _ _ r := restZero r 0
  xpNeed _ _ := 1024
  body _ _ s :=
    .done s stOK [] (some ((List.range 64).flatMap (fun k =>
      let x := s.acq.runs.getD k {}
      leBytes 1 (b2n x.running) ++ [0] ++ leBytes 4 x.frames ++ leBytes 2 x.smpCnt ++ leBytes 4 x.pos ++ zeros 4)))

/-- LONGE_STATUS (R373). -/
def execLongeStatus (p : Path) (s : State) : Out := .next (s.run cmdLongeStatus p)

/-! ## Sources (R369, R370) -/

/-- A sample of one channel: value and quality word. -/
abbrev LgVal := Int × Nat

/-- Advances a synthetic source to time `t`: state, start and phase; none where the states have run out (R370,
R371). At most `n` states pass. -/
def lgStates (states : List Bytes) (loop : Bool) (t : Nat) : Nat → LongeRun → Option LongeRun
  | 0, _ => none
  | n + 1, x =>
    let b := states.getD x.state []
    if stDur b = 0 || t < x.stateAt + stDur b then some x
    else
      let phase := (x.phase + stFreq b * stDur b) % 100000000000000
      if x.state + 1 < states.length then
        lgStates states loop t n { x with state := x.state + 1, stateAt := x.stateAt + stDur b, phase := phase }
      else if loop then lgStates states loop t n { x with state := 0, stateAt := x.stateAt + stDur b, phase := phase }
      else none

/-- The value of a channel of a synthetic source (R370), in units of 2⁻⁸⁰ before it is rounded: φ in 10⁻¹⁴ turns. -/
def lgSynth (b : Bytes) (phi since : Nat) : Int :=
  let wave (mag h : Nat) (theta : Int) : Int :=
    fxMul (fxSqrt (2 * fxOne)) (mag * fxCosPi (2 * (9 * (h * phi % 100000000000000 : Nat) + 25000000000 * theta)) 900000000000000)
  let h := byteAt b 6
  let tau := le32 b 20
  wave (le32 b 0) 1 (int16 (le16 b 4)) +
    (if h = 0 then 0 else wave (le32 b 8) h (int16 (le16 b 12))) +
    int32 (le32 b 16) * (if tau = 0 then fxOne else fxExpNeg (fxRat since (1000 * tau)))

/-- Reads one entry of a stored source: value, quality and flags of each channel mapped; none for a missing tap
(R369). -/
def State.lgTap (s : State) (b : Bytes) (i : Int) : List (Option (Int × Nat)) × State :=
  let chans := List.range (lgChans b)
  let none_ : List (Option (Int × Nat)) := chans.map (fun _ => none)
  if i < 0 then (none_, s)
  else if lgSource b = 2 then
    let a := bufLo b + i.toNat * byteAt b 168 * 4
    let r := s.memRead a (byteAt b 168 * 4) 4
    (chans.map (fun c =>
      let cells := (r.1.drop (4 * lgMap b c)).take 4
      if cells.any (·.2) then none else some (int32 (le32 (cells.map (·.1)) 0), 0)), r.2)
  else
    let inst := s.recInst (byteAt b 144)
    let find (l : List Nat) : Option (Nat × RecSeg × Nat) :=
      (l.foldl (fun (a : Nat × Option (Nat × RecSeg × Nat)) k =>
        match a.2, inst.slots.get? k with
        | none, some g => if i.toNat < a.1 + g.frames then (a.1, some (k, g, i.toNat - a.1)) else (a.1 + g.frames, none)
        | _, _ => a) (0, none)).2
    match find (s.replaySlots b) with
    | none => (none_, s)
    | some (k, g, j) =>
      let at_ := inst.slotAt k + 4096 + inst.listLen + (g.firstPos + j) % max 1 inst.capacity * inst.frameLen + 8 +
        8 * ceilDiv inst.digs.length 64
      let r := s.memRead at_ (12 * inst.items.length) 4
      (chans.map (fun c =>
        let cells := (r.1.drop (12 * lgMap b c)).take 12
        let e := cells.map (·.1)
        if cells.any (·.2) || (le16 e 10).testBit 0 then none else some (int32 (le32 e 0), le32 e 4)), r.2)

/-- Rate of a stored source: samples per second, as a fraction. -/
def State.lgSrcRate (s : State) (b : Bytes) : Nat × Nat :=
  if lgSource b = 2 then (le32 b 164, 1)
  else
    let r := s.recInst (byteAt b 144)
    let h := (s.memRead (r.slotAt (le16 b 146)) 18 4).1.map (·.1)
    (gridRate (byteAt h 14), max 1 (if byteAt h 13 = 3 then le16 h 16 else 1))

/-- Samples a stored source holds. -/
def State.lgLength (s : State) (b : Bytes) : Nat := if lgSource b = 2 then le32 b 160 else s.replayFrames b

/-- The newest tap and phase of a stored source at a time after T0 (R173, R369), and the whole part of its
position. -/
def lgPlace (b : Bytes) (rate : Nat × Nat) (since : Nat) : Int × Nat × Nat :=
  let x : Rat := le32 b 148 + (since * rate.1 : Nat) / ((1000000000 * rate.2 : Nat) : Rat)
  let n := (x + 15 / 2).floor
  let phi := (256 * (15 / 2 - (n - x)) + 1 / 2).floor.toNat
  if phi = 256 then (n + 1, 0, x.floor.toNat) else (n, phi, x.floor.toNat)

/-- The 16 taps from position `n` down. -/
def State.lgTaps (b : Bytes) : Nat → Int → State → List (List (Option (Int × Nat))) × State
  | 0, _, s => ([], s)
  | k + 1, n, s =>
    let r := s.lgTap b n
    let rest := State.lgTaps b k (n - 1) r.2
    (r.1 :: rest.1, rest.2)

/-- A channel's value from its taps (R175, R177, R369). -/
def lgWeigh (coefs : List Int) (replay : Bool) (taps : List (Option (Int × Nat))) : LgVal :=
  let miss := taps.countP (·.isNone)
  let xs := fillTaps (taps.map (fun t => t.map (·.1)))
  let v := divRoundAway ((coefs.zip xs).map (fun c => c.1 * c.2.1)).sum 131072
  let q := if replay then (((taps.filterMap id).head?).map (·.2)).getD 0 else 0
  (satI32 v, if miss = 0 then q else q / 4 * 4 + (if miss ≤ 2 then 3 else 1))

/-- A stream's values at time `t`, and the stream as it then stands; none where the source has run out (R369 to
R371). -/
def State.lgValues (s : State) (c : LongeCfg) (x : LongeRun) (t : Nat) : Option (List LgVal × LongeRun) × State :=
  let b := c.rec_
  if lgSource b = 0 then
    match lgStates c.states (lgLoop b) t 1000000 x with
    | none => (none, s)
    | some y =>
      let st := c.states.getD y.state []
      let phi := (y.phase + stFreq st * (t - y.stateAt)) % 100000000000000
      (some ((List.range (lgChans b)).map (fun k => (satI32 (fxRound (lgSynth (stChan st k) phi (t - y.stateAt))), 0)), y), s)
  else
    let rate := s.lgSrcRate b
    let len := s.lgLength b
    let out (since : Nat) : Bool := decide ((len : Int) ≤ (lgPlace b rate since).1)
    let y := if out (t - x.t0) && lgLoop b && t != x.t0 then { x with t0 := t } else x
    if out (t - y.t0) then (none, s)
    else
      let p := lgPlace b rate (t - y.t0)
      let taps := State.lgTaps b 16 p.1 s
      let coefs := fineCoefs false (lgRate b * rate.2) rate.1 p.2.1
      (some ((List.range (lgChans b)).map (fun k =>
        lgWeigh coefs (lgSource b == 1) (taps.1.map (fun l => (l[k]?).join))), { y with pos := p.2.2 }), taps.2)

/-! ## Frames (R368; log 21) -/

/-- An ASDU's BER octets (IEC 61850-9-2). -/
def asduBytes (b : Bytes) (a : Asdu) : Bytes :=
  ber 0x30 (ber 0x80 (lgSvid b) ++ ber 0x82 (be16 a.smpCnt) ++ ber 0x83 (be32 a.confRev) ++ ber 0x85 (leBytes 1 a.smpSynch) ++
    ber 0x87 ((a.values.zip a.quality).flatMap (fun v => (leInt 4 v.1).reverse ++ be32 v.2)))

/-- A stream's SV APDU. -/
def svApdu (b : Bytes) (l : List Asdu) : Bytes :=
  ber 0x60 (ber 0x80 (berNat l.length) ++ ber 0xA2 (l.flatMap (asduBytes b)))

/-- A stream's key, its slot's type choosing the tag (R215, R420). -/
def State.lgKey (s : State) (b : Bytes) : Option (Nat × KeyGen) :=
  match s.signKey (le16 b 26) 3 1 with
  | some g => some (1, g)
  | none => (s.signKey (le16 b 26) 3 2).map (fun g => (2, g))

/-- The frame of a stream. -/
def State.lgFrame (s : State) (b : Bytes) (l : List Asdu) (port : Nat) (prp : Option Prp) : Frame :=
  let raw := svApdu b l
  { dst := macAt b 4, src := macAt b 10, tag := if lgVlan b then some (le16 b 18, 5) else none
    len := max 64 (14 + (if lgVlan b then 4 else 0) + 8 + raw.length + (if lgAuth b then Config.authExtLen else 0) +
      (if prp.isSome then 6 else 0) + 4)
    fcsOk := true, pcsOk := true, ecn := none
    content := .sv (le16 b 16) {
      port := port, parses := true, svid := lgSvid b, sim := true, prp := prp
      tag := if lgAuth b then (s.lgKey b).map (fun k => makeTag k raw) else none, raw := raw, asdus := l } }

/-- Sends a group's frame; a pair takes the next trailer sequence number (R215). -/
def State.lgGroup (s : State) (k : Nat) (b : Bytes) (l : List Asdu) (g : Option Nat × List Nat) : State :=
  match g.1 with
  | some pair =>
    let q := s.sw.prpSeq.getD pair 0
    let s := { s with sw.prpSeq := s.sw.prpSeq.set pair ((q + 1) % 65536) }
    g.2.foldl (fun s i => s.modSend [i] (s.lgFrame b l i (some { seq := q, lanB := lanB i, sizeOk := true })) 5 (.longe k)) s
  | none => s.modSend g.2 (s.lgFrame b l (g.2.headD 0) none) 5 (.longe k)

/-- Queues a frame, and offers it to the module's own stream table where INT is set (R368). -/
def State.lgSend (s : State) (k : Nat) (b : Bytes) (l : List Asdu) : State :=
  if lgAuth b && (s.lgKey b).isNone then (lgPorts b).foldl (fun s i => s.portCount i 0xCC) s
  else
    let s := (pairGroups (lgPorts b)).foldl (fun s g => s.lgGroup k b l g) s
    if !lgInt b then s
    else
      let port := (lgPorts b).headD 0
      let prp := if (pairGroups (lgPorts b)).any (fun g => g.1.isSome && g.2.contains port) then
          some { seq := (s.sw.prpSeq.getD (port % 2) 0 + 65535) % 65536, lanB := lanB port, sizeOk := true } else none
      let f := s.lgFrame b l port prp
      match f.content with
      | .sv appid v =>
        match findEntry 34 s.cfg.tables.sv f port appid with
        | some e => s.svIngest e v
        | none => s
      | _ => s

/-- The time of a stream's next sample, and the number of the sample after it (R368). -/
def State.lgTime (s : State) (b : Bytes) (x : LongeRun) : Option (Nat × LongeRun) :=
  (s.placed.find? (fun d => d.ord = x.ord)).map (fun d =>
    (d.m0 + (divRoundUp (x.c * (d.m1 - d.m0) : Nat) (lgRate b)).toNat,
     if x.c + 1 = lgRate b then { x with ord := x.ord + 1, c := 0 } else { x with c := x.c + 1 }))

/-- The samples of a stream's next frame: `n` of them, with the time of the last; `none` where one cannot be placed
yet or the source has run out. -/
def State.lgNext (c : LongeCfg) : Nat → LongeRun → State → Option (List Asdu × Nat × LongeRun) × State
  | 0, x, s => (some ([], 0, x), s)
  | n + 1, x, s =>
    match s.lgTime c.rec_ x with
    | none => (none, s)
    | some (t, y) =>
      let v := s.lgValues c y t
      match v.1 with
      | none => (none, v.2)
      | some (vals, z) =>
        let synch := if s.time.servo == .locked then 2 else if s.time.servo == .holdover then 1 else 0
        let a : Asdu := {
          smpCnt := x.c, confRev := le32 c.rec_ 20, smpSynch := synch, smpRate := none, dataLen := 8 * lgChans c.rec_
          values := vals.map (·.1), quality := vals.map (·.2) }
        let r := State.lgNext c n { z with smpCnt := x.c, last := s.stampOf t 3 } v.2
        (r.1.map (fun l => (a :: l.1, if n = 0 then t else l.2.1, l.2.2)), r.2)

/-- LONGE_SAMPLE: a stream's next frame, queued pub_delay after its last sample (R368). -/
def execLongeSample (k : Nat) (s : State) : Out := s.onPath <|
  .next (match s.acq.longe.get? k, s.acq.runs.get? k with
    | some c, some x =>
      if !x.running || !s.acq.running then s
      else
        let r := State.lgNext c (lgAsdus c.rec_) x s
        match r.1 with
        | none => s
        | some (l, t, y) =>
          let s := r.2.clockTo (t + lgDelay c.rec_)
          let s := { s with acq.runs := s.acq.runs.set k { y with frames := inc32 x.frames } }
          s.lgSend k c.rec_ l
    | _, _ => s)

/-- LONGE_SOURCE_END: the source of a stream has nothing for its next frame: it stops, with event 7, or starts
again (R371). -/
def execLongeSourceEnd (k : Nat) (s : State) : Out :=
  .next (match s.acq.longe.get? k, s.acq.runs.get? k with
    | some c, some x =>
      match s.lgTime c.rec_ x with
      | none => s
      | some (t, _) =>
        if !x.running || (State.lgNext c (lgAsdus c.rec_) x s).1.isSome then s
        else if lgLoop c.rec_ && (s.lgValues c { x with t0 := t } t).1.isSome then
          { s.clockTo t with acq.runs := s.acq.runs.set k { x with t0 := t } }
        else
          let s := s.clockTo t
          let s := { s with acq.runs := s.acq.runs.set k { x with running := false } }
          (s.acqLog (Config.eventCode 0x0B02 k).toNat 7 0 0 0 0).longeSettle
    | _, _ => s)

end Machine
end Sys2Proof
end

