-- ==== Sys2Proof/Machine/Commit.lean ====
section
/-! DEFINITION. The table commit: the checks of the staging copy, and what a new set of tables does to streams,
subscriptions, publications, ports, the switch and the remote I/O (R19, R151, R154, R214, R218, R221, R222, R271,
R290, R311, R312). -/

namespace Sys2Proof
namespace Machine

/-! ## Checks (R154) -/

/-- No two of a list are related. -/
def noPair {α : Type} (f : α → α → Bool) : List α → Bool
  | [] => true
  | x :: xs => xs.all (fun y => !f x y) && noPair f xs

/-- Two entries can match one frame (R151). -/
def keysMeet (portAt : Nat) (a b : Bytes) : Bool :=
  let pb := modePorts (byteAt b 3) (byteAt b portAt)
  (modePorts (byteAt a 3) (byteAt a portAt)).any pb.contains && macAt a 4 == macAt b 4 && le16 a 16 == le16 b 16 &&
    ((byteAt a 2).testBit 2 || (byteAt b 2).testBit 2 || le16 a 18 == le16 b 18) &&
    (!(byteAt a 2).testBit 1 || !(byteAt b 2).testBit 1 || macAt a 10 == macAt b 10)

/-- Two ranges of a start and a length overlap. -/
def rangesMeet (a b : Nat × Nat) : Bool := a.1 < b.1 + b.2 && b.1 < a.1 + a.2

/-- The I ranges that subscriptions and stations drive (R222, R271). -/
def Tables.iRanges (t : Tables) : List (Nat × Nat) :=
  t.subs.map (fun x => (le16 x.2 28, subBits x.2)) ++ t.stations.map (fun x => (stIn x.2, 64))

/-- A publication fits the ports of its mask (R221). -/
def Tables.pubFits (t : Tables) (b : Bytes) : Bool := (pubPorts b).all (fun i => pubMaxLen b ≤ le16 (t.port i) 4)

/-- Static entries of each bucket stay within its four ways (R311). -/
def Tables.fdbFits (t : Tables) : Bool :=
  let bs := t.fdb.map (fun x => fdbBucket (macAt x.2 0) (le16 x.2 6))
  bs.all (fun b => bs.count b ≤ 4)

/-- The reserves' sum (R313). -/
def Tables.reserves (t : Tables) : Nat := ((List.range 8).map (fun c => le16 t.classes (16 * c))).sum

/-- Every rule but admission: a breach is BAD_PARAM (R151, R154, R221, R222, R271, R311, R313). -/
def Tables.sound (t : Tables) : Bool :=
  noPair (keysMeet 34) (t.sv.map (·.2)) && noPair (keysMeet 31) (t.subs.map (·.2)) &&
    noPair rangesMeet (t.sv.map (fun x => (svBase x.2, svChans x.2))) &&
    t.iRanges.all (fun r => r.1 + r.2 ≤ 8192) && noPair rangesMeet t.iRanges &&
    noPair rangesMeet (t.stations.map (fun x => (stOut x.2, 64))) &&
    t.pubs.all (fun x => pubRecOk x.2 && t.pubFits x.2) && t.fdbFits && t.reserves ≤ 16384

/-! ## Streams and subscriptions (R154) -/

/-- What of an SV entry sends its stream to WAIT when it changes: the key, source_mode with its port, and svid. -/
def svKeyOf (b : Bytes) : Bytes := slice b 2 1 ++ slice b 3 17 ++ slice b 34 66

/-- What of a GOOSE entry does: the key, source_mode with its port, and gocbRef. -/
def subKeyOf (b : Bytes) : Bytes := slice b 2 1 ++ slice b 3 17 ++ slice b 31 1 ++ slice b 56 72

/-- A stream at the start of a new subscription. -/
def State.freshStream (s : State) (b : Bytes) : SvStream :=
  { rate := svRate (byteAt b 24), lans := { a := s.now, b := s.now }, levelAt := s.now }

/-- A removed stream's channels are switched off: its alignment keeps its settings only. -/
def State.alnUnbind (s : State) (k : Nat) : State :=
  let x := s.alnOf k
  s.setAln k {
    kind := x.kind, noSnow := x.noSnow, stepEn := x.stepEn, srcOffset := x.srcOffset, fixedDelay := x.fixedDelay
    stepThr := x.stepThr, counts := x.counts }

/-- One SV entry at a commit. -/
def State.svChange (s : State) (k : Nat) (old new : Option Bytes) : State :=
  match old, new with
  | none, none => s
  | none, some b =>
    (State.setSv { s with sv.frozen := s.sv.frozen.del k } k (s.freshStream b)).alnBind k
  | some _, none =>
    let s := s.svTo k 0 0
    State.alnUnbind { s with
      sv.frozen := s.sv.frozen.set k (s.sv1 k).counts, sv.streams := s.sv.streams.del k } k
  | some a, some b =>
    let rebound := svBase a != svBase b || svChans a != svChans b
    let s := if svKeyOf a = svKeyOf b then s
      else
        let was := (s.sv1 k).sim
        let s := (s.svTo k 1 0).setSv k (s.freshStream b)
        if was && !rebound then s.historyReset k s.now else s
    if rebound then s.alnBind k else s

/-- One GOOSE entry at a commit (R222, R224). -/
def State.subChange (s : State) (k : Nat) (old new : Option Bytes) : State :=
  let lans : Lans := { a := s.now, b := s.now }
  match old, new with
  | none, none => s
  | none, some _ => State.setSub { s with sv.frozen := s.sv.frozen.del k } k { lans := lans }
  | some _, none =>
    let s := s.subTo k 0 0
    { s with sv.frozen := s.sv.frozen.set k (s.sub k).counts, goose.subs := s.goose.subs.del k }
  | some a, some b =>
    if subKeyOf a ≠ subKeyOf b then (s.subTo k 1 0).setSub k { lans := lans }
    else if slice a 24 1 = slice b 24 1 && slice a 40 16 = slice b 40 16 then s
    else s.setSub k { s.sub k with held := [] }

/-- The keys of two tables. -/
def bothKeys {α : Type} (a b : Tbl α) : List Nat := a.map (·.1) ++ (b.filter (fun x => (a.get? x.1).isNone)).map (·.1)

/-! ## Publications and trip slots (R216, R218, R221) -/

/-- Whether anything but t_min, t_max and reps differs (R221). -/
def pubDiffers (a b : Bytes) : Bool := slice a 0 22 ++ a.drop 27 != slice b 0 22 ++ b.drop 27

/-- The trip inputs of a publication as its sources stand: elements that drive it and the logic's request. -/
def State.pubInputs (s : State) (p : Nat) (x : Pub) : Pub :=
  let drives (e : Nat × GrdEl) : Bool := grdTrip (s.grdRun e.1) == some p && e.2.out
  { x with elems := (s.grd.els.filter drives).map (·.1), logic := s.logic.yOut.getLsbD p, slots := [] }

/-- One publication at a commit. -/
def State.pubCommit (s : State) (p : Nat) (old new : Option Bytes) : State :=
  match old, new with
  | none, none => s
  | none, some b =>
    let x : Pub := { stNum := 0 }
    (s.setPub p (if pubTrip b then s.pubInputs p x else x)).pubChange p none
  | some _, none => State.pubDrop { s with goose.pubs := s.goose.pubs.del p } p
  | some a, some b =>
    if !pubDiffers a b then s
    else
      let s := if pubTrip b && !pubTrip a then s.setPub p (s.pubInputs p (s.pub p)) else s
      s.pubChange p none

/-- A slot that is no longer bound to a publication releases its input of it (R218). -/
def State.slotFree (s : State) (key p : Nat) : State :=
  let n := key / 16
  let f := s.fn n
  let s := s.setFn n { f with trip := f.trip &&& ~~~BitVec.twoPow 16 (key % 16) }
  s.slotTrip p key 0 false (s.stamp 17) s.now

/-- The bindings at a commit: those whose publication is gone go too (R218, R221). -/
def State.bindsCommit (s : State) : State :=
  let new : Tbl Nat := s.cfg.tables.binds.filter (fun x => (s.cfg.tables.pubs.get? x.2).isSome)
  let gone : Tbl Nat := s.goose.binds.filter (fun x => new.get? x.1 != some x.2)
  let s := { s with cfg.tables.binds := new, stored.tables.binds := new, goose.binds := new }
  gone.foldl (fun s x => s.slotFree x.1 x.2) s

/-! ## Ports and the switch (R290, R311, R312) -/

/-- A port record's change restarts the link (R290). -/
def portRestarts (a b : Bytes) : Bool :=
  recEn a != recEn b || byteAt a 2 != byteAt b 2 || byteAt a 3 != byteAt b 3 || recPe a != recPe b ||
    recPeVerify a != recPeVerify b || byteAt a 12 != byteAt b 12 || byteAt a 13 != byteAt b 13

/-- Ports at a commit. -/
def State.portsCommit (s : State) (old : Tables) : State :=
  (List.range 8).foldl (fun s i =>
    if portRestarts (old.port i) (s.cfg.tables.port i) then s.linkDown i 7 else s) s

/-- The way a static entry takes: that of its key, a free one, or that of the oldest dynamic entry, the lowest
on ties (R311). -/
def SwBlk.wayFor (w : SwBlk) (mac vid : Nat) : Nat :=
  match w.fdbFind mac vid with
  | some k => k
  | none =>
    let b := fdbBucket mac vid
    match w.freeWay b with
    | some k => k
    | none =>
      let age (k : Nat) : Option Nat := (w.fdb.get? k).bind (fun e => if e.static then none else some e.age)
      let ways := (List.range 4).map (4 * b + ·)
      ways.foldl (fun best k =>
        match age k, age best with
        | some x, some y => if y < x then k else best
        | some _, none => k
        | none, _ => best) (4 * b)

/-- Places one static entry. -/
def SwBlk.place (w : SwBlk) (b : Bytes) : SwBlk :=
  let mac := macAt b 0
  let vid := le16 b 6
  let e : FdbEntry := { mac := mac, vid := vid, dest := byteAt b 8, static := true, drop := (byteAt b 9).testBit 2, age := 0 }
  { w with fdb := w.fdb.set (w.wayFor mac vid) e }

/-- The FDB at a commit: static entries no longer staged go, the others are placed. -/
def State.fdbCommit (s : State) : State :=
  let keep (e : FdbEntry) : Bool := !e.static || (s.cfg.tables.fdb.get? (e.mac * 4096 + e.vid)).isSome
  let w := { s.sw with fdb := s.sw.fdb.filter (fun x => keep x.2) }
  { s with sw := s.cfg.tables.fdb.foldl (fun w x => w.place x.2) w }

/-! ## The commit point (R154) -/

/-- The generation after another: 0 is skipped (R154). -/
def nextGen (g : Nat) : Nat := if (g + 1) % 4294967296 = 0 then 1 else (g + 1) % 4294967296

/-- The tables in force become those of `cfg`, from `old`. -/
def State.tablesTake (s : State) (old : Tables) : State :=
  let t := s.cfg.tables
  let s := s.portsCommit old
  let s := s.fdbCommit
  let s := (bothKeys old.sv t.sv).foldl (fun s k => s.svChange k (old.sv.get? k) (t.sv.get? k)) s
  let s := (bothKeys old.subs t.subs).foldl (fun s k => s.subChange k (old.subs.get? k) (t.subs.get? k)) s
  let s := s.brioCommit old.stations
  let s := s.bindsCommit
  let s := (bothKeys old.pubs t.pubs).foldl (fun s k => s.pubCommit k (old.pubs.get? k) (t.pubs.get? k)) s
  { s with sv := { s.sv with gen := nextGen s.sv.gen, genPrev := s.sv.gen, genAt := s.now } }

/-- TBL_COMMIT (R19, R154, R164). -/
def cmdTblCommit : Cmd where
  opcode := 0x0503
  param s _ r := restZero r 0 && s.staged.sound
  body _ _ s :=
    let t := s.staged
    if !s.streamsFit t.sv s.acq.longe then .done s stNO_RESOURCE [] none
    else
      let old := s.cfg.tables
      let s := { s with
        cfg.tables := t, stored.tables := t, stg := none, cfg.committed := true, stored.committed := true }
      let at_ := s.stamp 17
      let s := s.tablesTake old
      .done s stOK (at_.bytes ++ leBytes 4 s.sv.gen) none

/-- TBL_COMMIT (R164). -/
def execTblCommit (p : Path) (s : State) : Out := .next (s.run cmdTblCommit p)

/-- TBL_DISCARD (R164). -/
def cmdTblDiscard : Cmd where
  opcode := 0x0504
  param _ _ r := restZero r 0
  body _ _ s := .done { s with stg := none } stOK [] none

/-- TBL_DISCARD (R164). -/
def execTblDiscard (p : Path) (s : State) : Out := .next (s.run cmdTblDiscard p)

/-- SV_LOAD: the committed totals of R19 (R164). -/
def cmdSvLoad : Cmd where
  opcode := 0x0509
  param _ _ r := restZero r 0
  xpNeed _ _ := 12
  body _ _ s :=
    let sv := s.cfg.tables.sv
    let lg := s.acq.longe
    let samples := sv.foldl (fun a x => a + svTopRate x.2) 0 + lg.foldl (fun a x => a + lgRate x.2.rec_) 0
    let chans := sv.foldl (fun a x => a + svTopRate x.2 * svChans x.2) 0 +
      lg.foldl (fun a x => a + lgRate x.2.rec_ * lgChans x.2.rec_) 0
    .done s stOK
      (leBytes 2 sv.length ++ leBytes 2 (sv.foldl (fun a x => a + svChans x.2) 0) ++ leBytes 4 samples ++ leBytes 4 chans)
      (some (leBytes 1 (b2n s.mod.slotCap) ++ zeros 3 ++ leBytes 4 s.sv.unmatched ++ leBytes 4 s.sv.stale))

/-- SV_LOAD (R164). -/
def execSvLoad (p : Path) (s : State) : Out := .next (s.run cmdSvLoad p)

end Machine
end Sys2Proof
end

