-- ==== Sys2Proof/Machine/Grid.lean ====
section
/-! DEFINITION. The grid second mark: the marks shift, settings apply, the snowline is set, and a grid step
resets every history (R16, R167, R168, R179, R180, R318 to R321, R332). -/

namespace Sys2Proof
namespace Machine

/-! ## Settings that apply at a mark (R16, R17, R509) -/

/-- ALN_CFG takes effect: a change of the grid rate stops every recorder instance that runs (R166). -/
def State.alnTake (s : State) (b : Bytes) : State :=
  let old := s.aln.rate
  let s := s.alnApply b
  if s.aln.rate = old then s else s.recStopAll 5

/-- One change takes effect at the mark that opens the second from index `g0` on, at `at_`, the mark numbered
`ord` since reset. -/
def State.markApply (s : State) (g0 ord at_ : Nat) (c : MarkChange) : State :=
  match c.opcode with
  | 0x0508 => s.simApply (byteAt c.params 0 == 1)
  | 0x0601 => s.alnTake c.params
  | 0x0602 => s.alnStreamApply c.params
  | 0x0603 => s.bindApply c g0
  | 0x0706 => s.bindApply c g0
  | 0x0707 => s.grdApply c g0
  | 0x0B02 => s.recArmApply c.params g0
  | 0x0B11 => s.longeBegin ord at_
  | _ => s.phApply c g0

/-- Every change due at this mark, in acceptance order; the others have one mark fewer to wait. -/
def State.marksApply (s : State) (g0 ord at_ : Nat) : State :=
  let go := s.sv.marks.filter (fun c => c.marks ≤ 1)
  let s := { s with sv.marks := (s.sv.marks.filter (fun c => 1 < c.marks)).map (fun c => { c with marks := c.marks - 1 }) }
  go.foldl (fun s c => s.markApply g0 ord at_ c) s

/-! ## The snowline (R179, R180) -/

/-- ASDUs of a list of seconds in each bin. -/
def binSum (l : List LatSecond) (i : Nat) : Nat := (l.map (fun x => x.bins.getD i 0)).sum

/-- The bin that holds the k-th smallest latency, from bin `i` on. -/
def binAt (l : List LatSecond) (k : Nat) : Nat → Nat → Nat
  | 0, i => i
  | n + 1, i => if k ≤ binSum l i then i else binAt l (k - binSum l i) n (i + 1)

/-- p of a stream's seconds (R179). -/
def latencyP (l : List LatSecond) : Option Nat :=
  let n := ((List.range 401).map (binSum l)).sum
  let b := binAt l (ceilDiv (9999 * n) 10000) 400 0
  if n = 0 then none else some (if b = 400 then 4000 else 10 * (b + 1))

/-- A stream's second is over (R179): p where the stream was in RUN throughout. -/
def AlnStream.closeSecond (x : AlnStream) (run : Bool) : AlnStream :=
  let whole := run && x.lat.run
  let secs := if whole then (x.lat :: x.seconds).take 10 else x.seconds
  { x with
    seconds := secs, lat := { run := run }, p := if whole then latencyP secs else none, lastMax := x.lat.maxUs }

/-- SNOWLINE_UPDATE (R179, R180). -/
def State.snowline (s : State) : State :=
  let run (k : Nat) : Bool := (s.sv1 k).state == 3
  let a := s.aln
  let streams := a.streams.mapV (fun k x => x.closeSecond (run k))
  let ps := (streams.filter (fun x => !x.2.noSnow)).filterMap (fun x => x.2.p.map (fun p => (x.1, p)))
  let best := ps.foldl (fun (m : Option (Nat × Nat)) x =>
    match m with
    | some b => if b.2 < x.2 then some x else m
    | none => some x) none
  let target := match best with
    | some b => min a.sMax (max a.sMin (b.2 + a.margin))
    | none => a.sMin
  let snow := if a.snow ≤ target then target else max target (a.snow - 50)
  { s with aln := { a with
    streams := streams, target := target, snow := snow, setter := (best.map (·.1)).getD 65535 } }

/-! ## The mark (R167, R168, R318 to R321) -/

/-- The mark after the next one, as the shift takes it: the pending mark, or the extrapolated one (R167,
R320). -/
def TimeBlk.shiftIn (t : TimeBlk) : Mark :=
  match t.pend with
  | some m => m
  | none =>
    { ns := 2 * t.next.ns - t.cur.ns, sec := t.next.sec + 1, holdover := t.holdoverFlag, extrapolated := true, utc := t.next.utc }

/-- A second between two marks is a grid step (R168). -/
def gridStep (m n : Mark) : Bool :=
  m.renumbered || 200000 < ((n.ns : Int) - m.ns - 1000000000).natAbs

/-- The marks shift, and the one that becomes current joins the map (R318, R321). -/
def TimeBlk.shift (t : TimeBlk) : TimeBlk :=
  let cur := { t.next with gridStep := gridStep t.next t.shiftIn }
  { t with cur := cur, next := t.shiftIn, pend := none, map := (cur :: t.map).take 86400 }

/-- MARK_EXTRAPOLATION, and the late write that an injection has held back (R167, R318, R485). -/
def State.extrapolated (s : State) : State :=
  let n := inc32 s.time.extrapCnt
  let s := ({ s with time.extrapCnt := n }.timeEvt 2).counted n 0 0x3C 0
  let s := s.firnEv 0x0203 (leBytes 1 1)
  match s.injection 0x0D 0 0 with
  | none => s
  | some _ =>
    let s := (s.inject 0x0D 0 0).2
    let n := inc32 s.time.lateCnt
    ({ s with time.lateCnt := n }.timeEvt 3).counted n 0 0x40 0

/-- A stream whose values have not begun yet begins with the first second of the grid. -/
def AlnStream.begins (x : AlnStream) (g0 : Nat) : AlnStream :=
  { x with fineNext := some (x.fineNext.getD g0), coarseNext := some (x.coarseNext.getD g0) }

/-- The grid second that a mark opens (R167, R168). -/
def State.openSecond (s : State) (ord g0 : Nat) : State :=
  let m := s.time.cur
  let a := s.aln
  let d : GridSecond :=
    { ord := ord, sec := m.sec, m0 := m.ns, m1 := s.time.next.ns, g0 := g0, rate := gridRate a.rate, d := a.d, mode := a.mode
      p := s.cfg.ph.p, snow := a.snow, holdover := m.holdover, step := m.gridStep, extrap := s.time.next.extrapolated }
  { s with aln := { a with
    seconds := (d :: a.seconds).take 4
    streams := a.streams.mapV (fun k x => if (s.cfg.tables.sv.get? k).isSome then x.begins g0 else x) } }

/-- GRID_STEP: every stream's history is reset, and the step counted (R168, R188). -/
def State.stepAll (s : State) : State :=
  let n := inc32 s.aln.steps
  let s := State.counted { s with aln.steps := n } n 0x0604 20 0
  s.aln.streams.foldl (fun s x => s.historyReset x.1 s.time.cur.ns) s

/-- PPS_OUT_PULSE (R332). -/
def State.ppsPulse (s : State) : State :=
  let drive : Bool := match s.cfg.ppsOutMode with
    | 1 => s.time.servo == Servo.locked
    | 2 => s.time.servo != Servo.free
    | _ => false
  if drive then { s with time.ppsOut := true } else s

/-- What follows the marks outside the grid: the RTC's alignment and its PTP window, and a handover that waits
for its mark (R344 to R346, R480). -/
def State.markHooks (s : State) : State :=
  let s := if s.time.servo == .locked then { s with rtc.marksLocked := s.rtc.marksLocked + 1 } else s
  let s := s.alignLoad.ptpWindowOpen
  match s.red.handover with
  | some (n + 1, sec, by_) => { s with red.handover := some (n, sec, by_) }
  | _ => s

/-- The grid second that follows the newest one: its number of marks since reset and its first index. -/
def AlnBlk.follows (a : AlnBlk) : Nat × Nat :=
  match a.seconds with
  | d :: _ => (d.ord + 1, d.g0 + d.rate)
  | [] => (0, 0)

/-- GRID_SECOND_MARK (R318). -/
def execGridSecondMark (s : State) : Out :=
  .next (
    if !s.time.running then s
    else
      let s := s.clockTo s.time.next.ns
      let k := s.aln.follows
      let s := (s.marksApply k.2 k.1 s.time.next.ns).snowline
      let late := s.time.pend.isNone
      let s := { s with time := s.time.shift }.openSecond k.1 k.2
      let s := if late then s.extrapolated else s
      let s := if s.time.cur.gridStep then s.stepAll else s
      s.markHooks.ppsPulse.timeEvt 0)

/-! ## The first second (R319) -/

/-- The grid starts (R167, R319; log 30): the current mark is the last whole second of local time, the next one
a second on, numbered by the RTC's calendar and the UTC offset in force, or from 0 where the RTC is not valid. -/
def State.gridStart (s : State) : State :=
  if s.time.running then s
  else
    let at_ := s.now / 1000000000 * 1000000000
    let utc := s.rtc.cal.seconds
    let sec := if s.rtc.invalid then 0 else (utc + s.time.utc - (s.now - at_ : Nat) / 1000000000).toNat
    let cur : Mark := { ns := at_, sec := sec, holdover := s.time.holdoverFlag, utc := s.time.utc }
    let s := { s with time := { s.time with
      running := true, cur := cur, map := [cur]
      next := { cur with ns := at_ + 1000000000, sec := sec + 1 } } }
    let k := s.aln.follows
    s.openSecond k.1 k.2

end Machine
end Sys2Proof
end

