-- ==== Sys2Proof/Machine/ModState.lean ====
section
/-! DEFINITION. Module states and their changes, entry into FAILSAFE, tamper events and zeroisation, and the
module state commands (R62, R63, R77, R429 to R431, R504, R505). -/

namespace Sys2Proof
namespace Machine

/-! ## Changes of state (R63, R487) -/

/-- Injections that outlive a change of state: those between CONFIGURE and MAINTAIN only (R487). -/
def keepsInjections (old new : Nat) : Bool := (old == 1 && new == 3) || (old == 3 && new == 1)

/-- The module is in a state from now on: its record and INT_CAUSE.STATE; injections go (R24, R89, R378, R487). -/
def State.stateTo (s : State) (new cause : Nat) : State :=
  let old := s.mod.state
  let s := s.firnEv 0x0102 (leBytes 1 old ++ leBytes 1 new ++ leBytes 1 cause)
  let s := { s with mod.state := new, diag.inj := if keepsInjections old new then s.diag.inj else [] }
  s.raise intSTATE

/-- CONFIGURE is entered: the logic engine takes its start mode, and the Bridle is let go (R248, R468). -/
def State.enterConfigure (s : State) (cause logicCause : Nat) : State :=
  ((s.stateTo 1 cause).logicConfigure logicCause).redSettle

/-- OPERATE is entered: RED_CFG comes into force on the way from CONFIGURE, and the Bridle is sought (R456, R483). -/
def State.enterOperate (s : State) (cause : Nat) : State :=
  let s := if s.mod.state = 1 then { s with red.cfg := s.cfg.red } else s
  (s.stateTo 2 cause).redSettle

/-- MAINTAIN is entered. -/
def State.enterMaintain (s : State) (cause : Nat) : State := (s.stateTo 3 cause).redSettle

/-- An activity runs that keeps MAINTAIN from OPERATE: any but a handover (R63, R490). -/
def State.maintaining (s : State) : Bool := s.diag.acts.any (·.code != 7) || !s.diag.inj.isEmpty

/-- MOD_STATE_SET to a state is legal: R63 and R77; to OPERATE with a committed configuration, without Longe, and
in mode 0 without a pairing cable (R366, R456). -/
def State.maySet (s : State) (target : Nat) : Bool :=
  let single := byteAt (if s.mod.state = 1 then s.cfg.red else s.red.cfg) 0 == 0
  match target with
  | 1 => s.mod.state == 2 || s.mod.state == 3
  | 2 =>
    (s.mod.state == 1 || (s.mod.state == 3 && !s.maintaining)) && s.cfg.committed && !s.active 12 &&
      !(single && s.power.cable)
  | _ => s.mod.state == 2

/-- The transition that MOD_STATE_SET makes. -/
def State.setTo (s : State) (target cause : Nat) : State :=
  match target with
  | 1 => s.enterConfigure cause 1
  | 2 => s.enterOperate cause
  | _ => s.enterMaintain cause

/-- MOD_STATE_SET (R63, R77). -/
def cmdModStateSet : Cmd where
  opcode := 0x0110
  param _ _ r := 1 ≤ byteAt r.params 0 && byteAt r.params 0 ≤ 3 && restZero r 1
  state s _ r := if s.maySet (byteAt r.params 0) then 0 else stSTATE
  body _ e s :=
    let t := byteAt e.req.params 0
    .done (s.setTo t 0) stOK (leBytes 4 t ++ (s.stamp 17).bytes) none

/-- MOD_STATE_SET (R77). -/
def execModStateSet (p : Path) (s : State) : Out := .next (s.run cmdModStateSet p)

/-- MOD_RESET: the reset follows 10 ms after the completion (R77). -/
def cmdModReset : Cmd where
  opcode := 0x0111
  param _ _ r := byteAt r.params 0 ≤ 1 && restZero r 1
  body _ e s :=
    .done { s with
      mod.resetReq := some (if byteAt e.req.params 0 = 0 then .cmdWarm else .cmdCold), mod.resetAt := s.now + 10000000 }
      stOK [] none

/-- MOD_RESET (R77). -/
def execModReset (p : Path) (s : State) : Out := .next (s.run cmdModReset p)

/-- MOD_RESET_CAUSE (R72, R77). -/
def cmdModResetCause : Cmd where
  opcode := 0x0112
  param _ _ r := restZero r 0
  xpNeed _ _ := 32
  body _ _ s := .done s stOK [] (some (padTo 32 s.mod.causeRecord))

/-- MOD_RESET_CAUSE (R77). -/
def execModResetCause (p : Path) (s : State) : Out := .next (s.run cmdModResetCause p)

/-! ## The reset cause (R69, R71, R72) -/

/-- The codes of R71. -/
def causeCode : ResetCause → Nat
  | .powerOn => 1
  | .powerFail => 2
  | .pwrSeq => 3
  | .thermal => 4
  | .pllUnlock => 5
  | .oscFault => 6
  | .watchdog => 7
  | .eccFw => 8
  | .eccSafe => 9
  | .cmdWarm => 10
  | .cmdCold => 11
  | .tamperClear => 12
  | .unknown => 0xFFFF

/-- A cause that the non-commanded reset count takes in (R69). -/
def countedCause (code : Nat) : Bool := !([1, 2, 10, 11, 12].contains code)

/-- The counted resets with their ages as they stand now (R69). -/
def State.agesNow (s : State) : List Nat :=
  (s.ao.counted.map (· + s.now / 1000000000)).filter (· < 600)

/-- Latches a cause in PD_AO, and counts it (R69, R71). A cold reset by command clears the count. -/
def State.latch (s : State) (code detail : Nat) : State :=
  let ages := s.agesNow
  { s with
    ao.cause := some { code := code, stamp := s.stamp 17, prevState := s.mod.state, detail := detail }
    ao.causeNew := true
    ao.counted := if code = 11 then [] else if countedCause code then 0 :: ages else ages }

/-- The canary words (R73). -/
def canaryWords : List Nat := [0x5A3CC3A5, 0xA5C33C5A, 0x0FF0F00F, 0xF00F0FF0]

/-- AO_BOR is set, or a canary does not match (R74). -/
def State.aoDoubt (s : State) : Bool := s.ao.aoBor || s.ao.canaries != canaryWords

/-- The cause of this boot (R71): with retention lost, power has been applied; else what is latched; else MAIN_BO;
else unknown. -/
def State.bootCause (s : State) (lost : Bool) : CauseLatch :=
  let unseen := if s.ao.causeNew then s.ao.cause else none
  if lost then { code := 1, stamp := {}, prevState := 0xFF, detail := 0 }
  else match unseen with
    | some l => l
    | none => { code := if s.ao.mainBo then 2 else 0xFFFF, stamp := {}, prevState := 0xFF, detail := 0 }

/-- The reset-cause record (R72). -/
def State.causeBytes (s : State) (l : CauseLatch) (restart : Nat) (lost : Bool) : Bytes :=
  leBytes 2 l.code ++ leBytes 1 restart ++
    leBytes 1 (128 * b2n s.mod.fallback + 64 * s.mod.slot + 8 * b2n s.ao.aoBor + 4 * b2n s.ao.mainBo +
      2 * b2n s.rtc.invalid + b2n lost) ++
    l.stamp.bytes ++ leBytes 1 l.prevState ++ leBytes 1 (s.ao.counted.length) ++ leBytes 4 s.flash.bootCount ++
    s.calendarOf s.now ++ leBytes 8 l.detail

/-- The restart kind (R76). -/
def restartKind (l : CauseLatch) (lost : Bool) (cfgCold : Bool) : Nat :=
  if lost then 2 else if l.code = 11 || l.prevState = 4 || cfgCold then 1 else 0

/-- The boot takes its cause: it is counted where nothing has counted it yet, and the latch is seen (R69, R71,
R72). -/
def State.causeTake (s : State) (lost : Bool) : State :=
  let l := s.bootCause lost
  let s := { s with
    flash.bootCount := (s.flash.bootCount + 1) % 4294967296
    ao.counted := if lost then [] else if l.code = 0xFFFF then 0 :: s.ao.counted else s.ao.counted
    ao.causeNew := false }
  { s with
    mod.rstCause := l.code, mod.restart := restartKind l lost (byteAt s.stored.logCfg 6 == 1)
    mod.causeRecord := s.causeBytes l (restartKind l lost (byteAt s.stored.logCfg 6 == 1)) lost }

/-- The event data of a reset-cause record (R378). -/
def State.causeData (s : State) : Bytes := s.mod.causeRecord.take 4 ++ slice s.mod.causeRecord 11 1

/-! ## FAILSAFE (R62, R505) -/

/-- The paths that can hold a command. -/
def State.paths (s : State) : List Path :=
  (List.range 4).map Path.mb ++ s.p7.map (fun x => Path.p7 x.1) ++
    (s.host.chans.filter (fun x => 128 ≤ x.1)).map (fun x => Path.vf (x.1 - 128))

/-- Ends the command a path executes at entry into FAILSAFE: a key operation with TAMPER, any other with ABORTED
(R424, R505). -/
def State.abortPath (s : State) (p : Path) : State :=
  match s.execOf p with
  | some e => s.complete p (if e.req.opcode / 256 = 0x0E then stTAMPER else stABORTED)
  | none => s

/-- Ends every executing command, and what they were doing (R505). -/
def State.abortAll (s : State) : State :=
  let s := { s with p7 := s.p7.mapV (fun _ x => { x with waiting := [] }) }
  let s := s.paths.foldl (fun s p => s.abortPath p) s
  let s := match s.mem.scrub with
    | some j => (s.scrubEnd j (j.progress s.now 4)).2
    | none => s
  let s := match s.mem.fill with
    | some j => { s with mem.fill := none }.firnEv 0x1105 (leBytes 4 ((j.hi - j.lo) / 64) ++ [0])
    | none => s
  { s with
    diag.acts := s.diag.acts.filter (fun a => [4, 5, 8].contains a.code)
    p7 := [], logic.changes := [], rtc.loads := [], rtc.cfgNew := none, sched.waiters := [] }

/-- The reasons for FAILSAFE (R63, R504). -/
def fsIMAGE : Nat := 1
def fsROM_TAMPER : Nat := 2
def fsROOT : Nat := 3
def fsTAMPER : Nat := 4
def fsDRAM : Nat := 5
def fsBOOT_LOOP : Nat := 6

/-- Entry into FAILSAFE: executing commands end, the Bridle is released with its final heartbeat, the outputs are
de-energised, and the data path stops (R62, R469, R472, R505). `cause` as in R378. -/
def State.failsafe (s : State) (reason cause : Nat) : State :=
  let s := s.abortAll
  let s := s.finalHeartbeat 3
  let s := (s.letGo 3).allOff 3
  let s := (s.recStopAll 4).longeStopAll
  let s := s.stateTo 4 cause
  State.redSettle { s with mod.failReason := reason }

/-! ## Tamper (R40, R429 to R431) -/

/-- A key operation runs: any command of group 0x0E (R424). -/
def State.keyOp (s : State) : Bool :=
  s.paths.any (fun p => match s.execOf p with | some e => e.req.opcode / 256 == 0x0E | none => false)

/-- ZEROISATION (R431): derived keys, slots, sessions, the DRBG and the PD_AO mask go; imported keys read empty from
then on. -/
def State.zeroise (s : State) : State :=
  { s with
    sec.derived := false, sec.zeroised := true, sec.slots := [], sec.sessions := [], ao.keyMask := none, ao.keys := []
    sec.tamperStamp := s.stamp 17 }

/-- Counts a tamper event in PD_AO and in boot flash (R430). -/
def State.tamperCounted (s : State) : State :=
  let n := inc32 s.ao.tamperCount
  { s with ao.tamperCount := n, flash.tamperCount := n }

/-- Keeps a record for the next boot (R430, R507). -/
def State.keepRec (s : State) (code : Nat) (data : Bytes) : State :=
  { s with ao.kept := s.ao.kept ++ [{ code := code, data := data }] }

/-- ROM stops the boot in FAILSAFE and keeps its records (R66, R75, R414, R507). -/
def State.romStop (s : State) (reason : Nat) : State :=
  let s := s.causeTake s.aoDoubt
  let s := (s.keepRec 0x0101 s.causeData).keepRec 0x0102 [0, 4, 3]
  { s with mod.state := 4, mod.failReason := reason }

/-- The records of a tamper event and its zeroisation, written or kept (R430, R438, R507). -/
def State.tamperRecords (s : State) (kept : Bool) (src state : Nat) (op : Bool) : State :=
  let a := leBytes 1 src ++ leBytes 1 state ++ leBytes 1 (b2n op)
  if kept then (s.keepRec 0x0E01 a).keepRec 0x0E02 [1]
  else (s.firnEv 0x0E01 a).firnEv 0x0E02 [1]

/-- A tamper source can fire: its domain is on, LOOP with tamper_en, DEBUG with the fuse unblown (R429). -/
def State.tamperLive (s : State) (src : Nat) : Bool :=
  match src with
  | 1 => s.ao.tamperEn
  | 6 => s.power.on.contains .mgmt && !s.flash.debugFuse
  | n => s.power.on.contains .mgmt && 2 ≤ n && n ≤ 5

/-- A tamper event (R430): with only PD_AO powered, its mask and keys go and the record waits for the next boot; in
BOOT, boot halts in FAILSAFE, as ROM finds it; in the running states FAILSAFE is entered; in FAILSAFE the keys go
again. -/
def State.tamper (s : State) (src : Nat) : State :=
  if !s.tamperLive src then s
  else if !s.power.on.contains .mgmt then
    let s := { s with ao.tampAo := true, ao.keyMask := none, ao.keys := [] }.tamperCounted
    s.keepRec 0x0E01 (leBytes 1 src ++ [0xFF, 2])
  else
    let was := s.mod.state
    let op := s.keyOp
    let s := { s with sec.tamperSrc := src }.zeroise.tamperCounted
    if was = 4 then s.tamperRecords s.romServed src was op
    else if was = 0 then (s.romStop fsROM_TAMPER).tamperRecords true src was op
    else
      let s := s.tamperRecords false src was op
      ((s.failsafe fsTAMPER 2).raise intSEC).secSettle

/-- TAMPER_EVENT (R430). -/
def execTamperEvent (src : Nat) (s : State) : Out := .next (s.tamper src)

/-- A loop sample: open with tamper_en is a tamper event; without it, LOOP_OPEN sets with a record per opening (R40,
R429). -/
def State.loopSample (s : State) (open_ : Bool) : State :=
  let was := s.sec.loopOpen
  let s := { s with sec.loopOpen := open_ }
  let s := if open_ && !s.ao.tamperEn && !was && s.power.on.contains .mgmt then s.firnEv 0x0E0B [1] else s
  let s := if s.power.on.contains .mgmt && was != open_ && 1 ≤ s.mod.state && s.mod.state ≤ 3 then s.secSettle else s
  if open_ && s.ao.tamperEn then s.tamper 1 else s

/-- TAMPER_LOOP_SAMPLE: an armed injection makes the sample read open (R40, R485). -/
def execTamperLoopSample (open_ : Bool) (s : State) : Out :=
  let j := if open_ then (false, s) else s.inject 0x19 0 0
  .next (j.2.loopSample (open_ || j.1))

/-- DEBUG_TAP_ACCESS: with the fuse blown the TAP is held in reset (R43, R429). -/
def execDebugTapAccess (s : State) : Out := .next (s.tamper 6)

/-! ## Seal switches, sensors and the cell (R26, R45, R56) -/

/-- SEAL_SWITCH_CHANGE: a debounced switch, position 1 to 4, changes (R44, R45). -/
def execSealSwitchChange (pos : Nat) (on : Bool) (s : State) : Out :=
  .next (if s.power.on.contains .safe && 1 ≤ pos && pos ≤ 4 && s.power.seals.getD (pos - 1) false != on then
    let s := { s with power.seals := s.power.seals.set (pos - 1) on }
    if s.power.on.contains .mgmt then s.firnEv 0x0105 (leBytes 1 pos ++ leBytes 1 (b2n on)) else s
    else s)

/-- A sensor's reading with what an injection adds, limited to 110 °C (R485). -/
def State.sensed (s : State) (sensor : Nat) (t : Int) : Int × State :=
  match s.injection 0x20 sensor 0 with
  | some i => (min 110 (t + i.value), (s.inject 0x20 sensor 0).2)
  | none => (t, s)

/-- TEMP_WARN_RAISE: a sensor reads `t` °C; from 100 °C on TEMP_WARN is raised (R26). -/
def execTempWarnRaise (sensor : Nat) (t : Int) (s : State) : Out :=
  .next (if s.power.on.contains .mgmt && sensor < 8 && !s.mod.tempWarn then
      let x := s.sensed sensor t
      if 100 ≤ x.1 then { x.2 with mod.tempWarn := true }.alarm 31 true sensor else s
    else s)

/-- TEMP_WARN_CLEAR: every sensor has read below 95 °C for 10 s (R26). -/
def execTempWarnClear (s : State) : Out :=
  .next (if s.mod.tempWarn then { s with mod.tempWarn := false }.alarm 31 false 0 else s)

/-- A measurement of the cell: below 2.6 V CELL_LOW is raised, from 2.6 V on it is cleared (R56). -/
def State.cellMeasured (s : State) (mv : Nat) : State :=
  let s := { s with power := { s.power with cellMv := mv, cellAt := s.now, cellDue := false } }
  let low := decide (mv < 2600)
  if low = s.mod.cellLow then s else { s with mod.cellLow := low }.alarm 30 low 0

/-- CELL_MEASURE (R56). -/
def execCellMeasure (mv : Nat) (s : State) : Out :=
  .next (if s.power.on.contains .mgmt && s.mod.state != 0 then s.cellMeasured mv else s)

/-- CELL_INSERTION: a measurement is due within 1 s (R56). -/
def execCellInsertion (s : State) : Out := .next { s with power.cellDue := true }

end Machine
end Sys2Proof
end

