-- ==== Sys2Proof/Machine/Power.lean ====
section
/-! DEFINITION. Supplies, the power-up and power-fail sequences, module resets, and the supply of the always-on
domain (R20, R26, R47 to R54, R60, R69 to R73). -/

namespace Sys2Proof
namespace Machine

/-! ## What a domain that switches off loses (R12, R53, R70) -/

/-- PD_ACQ, PD_LOGIC and PD_DSP go off. -/
def State.dspOff (s : State) : State :=
  { s with
    power.on := s.power.on.filter (fun d => d != .acq && d != .logic && d != .dsp)
    sv := {}, aln := {}, ph := {}, grd := {}, logic := {}, brio := {}, acq := {} }

/-- The RTC's part of PD_AO: counters, trim and validity; the window's registers and what waits are lost (R73; log
8). -/
def RtcBlk.kept (r : RtcBlk) : RtcBlk :=
  { cal := r.cal, len := r.len, trim := r.trim, acc := r.acc, invalid := r.invalid, trimLimit := r.trimLimit }

/-- Every switched domain but PD_SAFE goes off: what PD_AO, flash and the island hold is left, and the lines into
the module stay as they are; the arbiter is not armed without Nyming (R468). -/
def State.mgmtOff (s : State) : State :=
  { pending := s.pending, free := s.free
    power := { s.power with on := s.power.on.filter (fun d => d == .ao || d == .safe), waiting := [] }
    ao := s.ao, flash := s.flash, rtc := s.rtc.kept, sec := { draws := s.sec.draws, loopOpen := s.sec.loopOpen }
    safe := s.safe, red := s.linesDrop.red, stored := s.stored }

/-- The lines of J4 as they stand, for an arbiter that starts anew (R458). -/
def RedBlk.lines (r : RedBlk) : RedBlk :=
  { in1 := r.in1, in2 := r.in2, hbw := r.hbw
    freeSince := if r.in1 || r.in2 then none else some 0
    bothSince := if r.in1 && r.in2 then some 0 else none }

/-- PD_SAFE goes off too: only PD_AO is on. -/
def State.aoOnly (s : State) : State :=
  let t := s.mgmtOff
  { t with power.on := [.ao], safe := {}, red := s.red.lines }

/-! ## Power-up (R48, R50, R51) -/

/-- The domains of each step of R50. -/
def upStep : Nat → List Domain
  | 0 => [.safe]
  | 1 => [.mgmt]
  | 2 => [.mem]
  | 3 => [.host]
  | 4 => [.sw]
  | 5 => [.neta, .netb]
  | 6 => [.dsp]
  | 7 => [.logic]
  | _ => []

/-- The sequence starts: PD_AO moves to slot +3.3 V, and PD_SAFE is switched on (R50, R54). -/
def State.upStart (s : State) : State :=
  { s with ao.supply := 0, power.on := [.ao], power.waiting := upStep 0, power.phase := .up 0 }

/-- SUPPLIES_GOOD: both slot supplies have been in range for as long as R50 and R53 ask; the load switch chooses its
source. Removing and restoring slot power clears the reset count (R69). -/
def execSuppliesGood (j2 : Bool) (s : State) : Out :=
  let go (s : State) : State :=
    State.upStart { s with power := { s.power with retried := false, j2Chosen := j2, j2Good := j2, onJ2 := j2 } }
  .next (match s.power.phase with
    | .off => if s.power.hot then s else go { s with ao.counted := [] }
    | .reset => if s.power.hot then s else go s
    | _ => s)

/-- PD_HOST is good: the stored link settings come into force, and the source of the PCIe reference is taken, ROOT / 25
where REFCLK has no edges (R80, R105). -/
def State.hostUp (s : State) (refclk : Bool) : State :=
  { s with
    mod.refclkSep := s.stored.refclk == 1 || !refclk
    cfg := { s.cfg with refclk := s.stored.refclk, maxSpeed := s.stored.maxSpeed, maxWidth := s.stored.maxWidth } }

/-- DOMAIN_POWER_GOOD: once every domain of a step is good, the next step starts; `refclk` says whether REFCLK has edges
at PD_HOST's power-up (R50, R80). -/
def execDomainPowerGood (d : Domain) (refclk : Bool) (s : State) : Out :=
  .next (match s.power.phase with
    | .up k =>
      if s.power.waiting.contains d then
        let w := s.power.waiting.filter (· != d)
        let s := { s with power.on := s.power.on ++ [d], power.waiting := w }
        let s := if d == .host then s.hostUp refclk else s
        if !w.isEmpty then s
        else if k < 7 then { s with power.waiting := upStep (k + 1), power.phase := .up (k + 1) }
        else { s with power.phase := .run }
      else s
    | _ => s)

/-- POWER_SEQ_TIMEOUT: the domains go off again, and the cause is PWR_SEQ; after the retry the module stays off
(R51). -/
def execPowerSeqTimeout (d : Domain) (s : State) : Out :=
  .next (match s.power.phase with
    | .up _ =>
      if s.power.waiting.contains d then
        let s := (s.latch 3 0).aoOnly
        { s with power.phase := if s.power.retried then .locked else .failed }
      else s
    | _ => s)

/-- POWER_SEQ_RETRY (R51). -/
def execPowerSeqRetry (s : State) : Out :=
  .next (if s.power.phase == .failed && !s.power.hot then State.upStart { s with power.retried := true } else s)

/-! ## Power fail (R53) -/

/-- The sequence of R53 starts, for a module reset or a supply. -/
def State.downStart (s : State) (byReset : Bool) : State :=
  let s := s.finalHeartbeat (if byReset then 2 else 1)
  { s with power.phase := .down 1 byReset (!byReset), power.downAt := s.now, mod.resetReq := none }

/-- The CLK_RTC period of an instant (log 8). -/
def rtcPeriod (t : Nat) : Nat := t * 32768 / 1000000000

/-- A second cause, while a module reset has begun: in the same CLK_RTC period the lower code is recorded, and the count
of resets follows the cause that is recorded (R69, R71). -/
def State.latchLower (s : State) (code detail : Nat) : State :=
  if rtcPeriod s.now != rtcPeriod s.power.downAt then s
  else match s.ao.causeNew, s.ao.cause with
    | true, some l =>
      if code < l.code then
        let rest := if countedCause l.code then s.ao.counted.drop 1 else s.ao.counted
        { s with
          ao.cause := some { l with code := code, detail := detail }
          ao.counted := if countedCause code then 0 :: rest else rest }
      else s
    | _, _ => s.latch code detail

/-- POWER_FAIL_DETECT: a slot supply has crossed its threshold (R47, R53, R71). -/
def execPowerFailDetect (s : State) : Out :=
  .next (match s.power.phase with
    | .run => (s.latch 2 0).downStart false
    | .up _ => (s.latch 2 0).downStart false
    | .down k true _ => { s.latchLower 2 0 with power.phase := .down k true true }
    | .down k false _ => { s with power.phase := .down k false true }
    | _ => { s with power.phase := .off })

/-- POWER_FAIL_STEP: the next step of R53, at its time after detection; the last leaves PD_AO alone. -/
def execPowerFailStep (s : State) : Out :=
  .next (match s.power.phase with
    | .down 1 r l =>
      let s := (((s.clockTo (s.power.downAt + 10000)).letGo (if r then 2 else 1)).allOff 3).linesDrop
      { s with ao.mainBo := s.ao.mainBo || !r, power.phase := .down 2 r l }
    | .down 2 r l => { (s.clockTo (s.power.downAt + 50000)).dspOff with power.phase := .down 3 r l }
    | .down 3 r l => { s.clockTo (s.power.downAt + 500000) with power.phase := .down 4 r l }
    | .down 4 r l => { s.mgmtOff with power.phase := .down 5 r l }
    | .down _ _ l => { s.aoOnly with power.phase := if l then .off else .reset }
    | _ => s)

/-! ## Module resets (R26, R60, R70, R71) -/

/-- A module reset: its cause is latched, and the sequence of R53 runs. Of two causes in one CLK_RTC period the lower
code is latched (R70, R71). -/
def State.resetWith (s : State) (c : ResetCause) (detail : Nat) : State :=
  let s := if c == .thermal && s.power.phase != .off then { s with power.hot := true } else s
  let start (s : State) : State := (if c == .unknown then { s with ao.causeNew := false } else s.latch (causeCode c) detail).downStart true
  match s.power.phase with
  | .run => start s
  | .up _ => start s
  | .down _ true _ => if c == .unknown then s else s.latchLower (causeCode c) detail
  | _ => s

/-- MODULE_RESET: one that a command has asked for comes 10 ms after its completion (R77, R432); POWER_ON, POWER_FAIL
and PWR_SEQ have rows of their own. -/
def execModuleReset (c : ResetCause) (detail : Nat) (s : State) : Out :=
  .next (match c with
    | .powerOn => s
    | .powerFail => s
    | .pwrSeq => s
    | .cmdWarm => if s.mod.resetReq = some c then (s.clockTo s.mod.resetAt).resetWith c 0 else s
    | .cmdCold => if s.mod.resetReq = some c then (s.clockTo s.mod.resetAt).resetWith c 0 else s
    | .tamperClear => if s.mod.resetReq = some c then (s.clockTo s.mod.resetAt).resetWith c 0 else s
    | c => s.resetWith c detail)

/-- THERMAL_RESET: a sensor at 115 °C; the detail is its index (R26, R71). -/
def execThermalReset (sensor : Nat) (s : State) : Out := .next (if sensor < 8 then s.resetWith .thermal sensor else s)

/-- THERMAL_RELEASE: every sensor reads below 95 °C (R26). -/
def execThermalRelease (s : State) : Out := .next { s with power.hot := false }

/-- ROOT_PLL_UNLOCK (R60). -/
def execRootPllUnlock (s : State) : Out := .next (s.resetWith .pllUnlock 0)

/-- OSC_FAULT (R60). -/
def execOscFault (s : State) : Out := .next (s.resetWith .oscFault 0)

/-- WATCHDOG_EXPIRY: 250 ms without service, as an armed injection brings about (R22, R485). -/
def execWatchdogExpiry (s : State) : Out :=
  .next (if s.power.on.contains .mgmt then (s.inject 0x1F 0 0).2.resetWith .watchdog 0 else s)

/-- RESET_COUNT_EXPIRY: the oldest counted reset leaves the count 600 s after it (R69); while the local clock does not
run, it is taken to have come due. -/
def execResetCountExpiry (s : State) : Out :=
  .next (match s.ao.counted.getLast? with
    | some a =>
      let s := if s.power.on.contains .mgmt then s.clockTo (1000000000 * (600 - a)) else s
      { s with ao.counted := s.ao.counted.dropLast }
    | none => s)

/-! ## J2 and the always-on supply (R20, R48, R54, R73) -/

/-- J2_LOSS: the converters move to slot +12 V; where J2 counted as present at the BOOT sample and the module is past
BOOT, the alarm is raised and recorder and Longe stop (R20, R48, R371). -/
def execJ2Loss (s : State) : Out :=
  let s := { s with power.onJ2 := false, power.j2Good := false }
  .next (if s.mod.aux12 && 1 ≤ s.mod.state && s.mod.state ≤ 3 && !s.mod.aux12Lost then
      let s := { s with mod.aux12Lost := true }.alarm 24 true 0
      (s.recStopAll 4).longeStopAll
    else s)

/-- A source counts as at 3.0 V or more: one that is not in use with 50 mV of hysteresis (R54). -/
def aoHigh (cur k v : Nat) : Bool := if k = cur then 3000 ≤ v else 3050 ≤ v

/-- The source PD_AO takes (R54): 0 slot +3.3 V, 1 3.3 Vaux, 2 the cell, in this order; with none at 3.0 V the highest,
which must lead the one in use by 50 mV. -/
def aoSource (cur : Nat) (v : List Nat) : Nat :=
  match [0, 1, 2].find? (fun k => aoHigh cur k (v.getD k 0)) with
  | some k => k
  | none => [0, 1, 2].foldl (fun best k => if v.getD best 0 + 50 ≤ v.getD k 0 then k else best) cur

/-- AO_SUPPLY_CHANGEOVER: slot +3.3 V, 3.3 Vaux and the cell read these millivolts (R54, R73). -/
def execAoSupplyChangeover (v33 aux cell : Nat) (s : State) : Out :=
  let v := [v33, aux, cell]
  let k := aoSource s.ao.supply v
  .next { s with ao.supply := k, ao.aoBor := s.ao.aoBor || decide (v.getD k 0 < 2050) }

/-- AO_BROWNOUT: PD_AO's supply has fallen below 2.05 V (R73). -/
def execAoBrownout (s : State) : Out := .next { s with ao.aoBor := true }

end Machine
end Sys2Proof
end

