-- ==== Sys2Proof/Machine/Boot.lean ====
section
/-! DEFINITION. The boot timeline: ROM, the retention decision, the restart, the records of the boot, and entry into
CONFIGURE (R64, R66 to R69, R72 to R76, R413, R414, R425, R493, R507). -/

namespace Sys2Proof
namespace Machine

/-! ## ROM (R66, R75, R413, R414, R433, R493) -/

/-- An image ROM may boot: installed, not rolled back, and its key not revoked; `sig` says whether its keys and
signature verify (R433). -/
def State.bootable (s : State) (i : Image) (sig : Bool) : Bool :=
  i.valid && sig && s.flash.rollback ≤ i.svn && !(i.keyIdx == 1 && s.flash.key1Revoked)

/-- Generates the root secret into a bank, and blows its done fuse (R413). -/
def State.rootMake (s : State) (bankB : Bool) : State :=
  let r := s.random 32
  if bankB then { r.2 with flash.rootBSecret := r.1, flash.rootB := true, sec.rootBank := 1 }
  else { r.2 with flash.rootASecret := r.1, flash.rootA := true, sec.rootBank := 0 }

/-- How the root secret is found at a start (R413 to R415): the bank, whether it was generated now; or FUSE tamper; or
no bank is left. -/
inductive RootFound where
  | bank (made : Bool)
  | fuse
  | none_
  deriving DecidableEq, Repr

/-- ROOT_GENERATION, or the check of the bank in use (R413 to R415). -/
def State.rootStep (s : State) (b : BootInput) : RootFound × State :=
  let f := s.flash
  if f.rootA then (if b.bankAOk then .bank false else .fuse, { s with sec.rootBank := 0 })
  else if f.rootB then (if b.bankBOk then .bank false else .fuse, { s with sec.rootBank := 1 })
  else
    let tryA := !f.rootAAbandoned
    let tryB := !f.rootBAbandoned
    if tryA && b.rootGenFails = 0 then (.bank true, s.rootMake false)
    else
      let s := { s with flash.rootAAbandoned := true }
      let left := if tryA then b.rootGenFails - 1 else b.rootGenFails
      if tryB && left = 0 then (.bank true, s.rootMake true)
      else (.none_, { s with flash.rootBAbandoned := true })

/-- The slot that ROM boots, and FALLBACK (R66, R493): after a counted reset a slot on trial is given up. -/
def State.pickImage (s : State) (b : BootInput) (counted : Bool) : Option Nat × Bool × State :=
  let revert := s.flash.trial && counted
  let s := if revert then { s with flash.trial := false, flash.preferred := 1 - s.flash.preferred } else s
  let ok (n : Nat) : Bool := if n = 0 then s.bootable s.flash.imageA b.imageAOk else s.bootable s.flash.imageB b.imageBOk
  let p := s.flash.preferred
  let pick := if ok p then some p else if ok (1 - p) then some (1 - p) else none
  let s := match pick with
    | some n => { s with mod.slot := n, mod.fallback := revert || n != p }
    | none => s
  (pick, revert, s)

/-! ## Nyming: retention, restart and records (R64, R74, R76, R377, R379, R382, R425) -/

/-- The first canary that does not match; 255 for none (R378). -/
def State.badCanary (s : State) : Nat :=
  ((List.range 4).find? (fun i => s.ao.canaries[i]? != canaryWords[i]?)).getD 255

/-- What the loss of retention leaves of PD_AO and the RTC (R74, R343, R425, R429, R507). -/
def State.retentionGone (s : State) : State :=
  let b := s.stored.rtc
  { s with
    mod.retLost := true
    rtc := { trim := if byteAt b 0 = 0 then int32 (le32 b 8) else 0, invalid := true }
    ao := { s.ao with
      cause := none, causeNew := false, counted := [], tamperEn := true, tamperCount := s.flash.tamperCount, keys := []
      keyMask := none, kept := [], retLogic := [] } }

/-- A torn record that no record has reported yet: its index (R379). -/
def State.tornNew (s : State) : List Nat :=
  let rs := s.flash.firn.reverse
  let told (i : Nat) : Bool := rs.any (fun r => byteAt r 14 == 0x0C && byteAt r 15 == 6 && le32 r 22 == i)
  (rs.zipIdx.filter (fun x => tornRecord x.1 && !told x.2)).map (·.2)

/-- Firn starts: an erase that was cut off is completed, the sequence number is set, and the write position is found
(R377, R379, R380, R382). -/
def State.firnBoot (s : State) (lost : Bool) : State :=
  let s := match s.flash.clearMark with
    | some (seq, last) =>
      let e : FirnEv :=
        { seq := seq, code := 0x0C01, stamp := s.stamp 11, calendar := s.calendarOf s.now, boot := false, held := false
          calInvalid := s.rtc.invalid, calFree := true, data := leBytes 4 last ++ leBytes 4 0xFFFFFFFF }
      State.firnStore { s with flash.firn := [], flash.clearMark := none } e
    | none => s
  let next := match s.flash.firn with
    | r :: _ => recordSeq r + 1
    | [] => 0
  let n := s.flash.firn.length
  let s := { s with
    ao.firnSeq := (if lost then next else max s.ao.firnSeq next) % 4294967296
    firn := { nearFull := decide (245760 ≤ n), full := decide (262144 ≤ n) } }
  s.tornNew.foldl (fun s i => s.firnEv 0x0C06 (leBytes 4 i)) s

/-- The keys of this boot: derived from the root; imported ones unwrapped where retention is valid, under a new mask
(R417, R425, R426). -/
def State.keysBoot (s : State) : State :=
  let ks := if s.ao.keyMask.isSome then s.ao.keys else []
  { s with
    sec.derived := true, sec.zeroised := false, sec.slots := ks, ao.keys := ks, ao.keyMask := some s.sec.draws
    sec.draws := s.sec.draws + 1 }

/-- The records of the boot, after those an earlier one left (R64, R378, R413, R493, R507). -/
def State.bootRecords (s : State) (lost made revert : Bool) (bor canary : Nat) : State :=
  let s := s.ao.kept.foldl (fun s k => s.firnEv k.code k.data) s
  let s := { s with ao.kept := [] }.firnEv 0x0101 s.causeData
  let s := if lost then (s.firnEv 0x0104 (leBytes 1 bor ++ leBytes 1 canary)).rtcRecord 4 else s
  let s := if made then s.firnEv 0x0E05 (leBytes 1 s.sec.rootBank) else s
  if revert then s.firnEv 0x1109 (leBytes 1 6 ++ leBytes 1 s.flash.preferred ++ leBytes 1 s.runImage.svn) else s

/-! ## The stored configuration comes into force (R76, R154, R187, R255) -/

/-- The engine restarts with the stored program and the chosen kind (R252, R255, R256, R378). -/
def State.logicBoot (s : State) : State :=
  let cold := s.mod.restart != 0
  let prog : Option Prog := s.stored.logProg.bind (fun b => match checkImage b with | .ok g => some g | .error _ => none)
  let ret := match s.ao.retLogic with
    | r :: _ => r
    | [] => { seq := 0, m := 0, t := [], c := [] }
  let s := { s with logic := {
    prog := prog, img := restartAreas prog cold ret, first := if cold then 1 else 2, retFix := true
    period := le32 s.stored.logCfg 0 } }
  s.firnEv 0x0904 (leBytes 1 2 ++ leBytes 1 (b2n cold) ++ leBytes 1 s.logic.mode.code ++ leBytes 1 2)

/-- Every block takes its stored settings (R76). -/
def State.configBoot (s : State) : State :=
  let c := s.stored
  let s := { s with
    cfg := { c with refclk := s.cfg.refclk, maxSpeed := s.cfg.maxSpeed, maxWidth := s.cfg.maxWidth }
    red.cfg := c.red, brio.seg := c.brioSeg, time.utc := byteAt c.time 20 }
  let s := s.alnApply c.aln
  let s := (c.grd.filter (fun x => grdActive x.2)).foldl (fun s x => s.setEl x.1 { next := 0 }) s
  let s := if c.committed then s.tablesTake {} else s
  s.logicBoot

/-- AUTOSTART: MOD_STATE_SET to OPERATE on the module's own, with its status in Firn (R68). -/
def State.autostart (s : State) : State :=
  if !s.cfg.autostart then s
  else if s.maySet 2 then (s.enterOperate 1).firnEv 0x0109 [0]
  else s.firnEv 0x0109 (leBytes 1 stSTATE)

/-! ## The boot (R64) -/

/-- Nyming stops the boot in FAILSAFE: the reset-cause record, the FAILSAFE entry and the reason's own record, with
BOOT set (R507). -/
def State.bootStop (s : State) (reason : Nat) (own : State → State) : State :=
  let lost := s.aoDoubt
  let s := (s.firnBoot lost).causeTake lost
  let s := (s.firnEv 0x0101 s.causeData).safeStart
  own { s.stateTo 4 3 with mod.failReason := reason }

/-- A tamper event after image verification (R75, R430). -/
def State.bootTamper (s : State) (src : Nat) : State :=
  let s := { s with sec.tamperSrc := src }.zeroise.tamperCounted
  s.bootStop fsTAMPER (fun s => s.tamperRecords false src 0 false)

/-- From the DRAM on: J2, the cell, retention, restart, keys, records, and CONFIGURE. -/
def State.bootRun (s : State) (b : BootInput) (made revert : Bool) : State :=
  let lost := s.aoDoubt || !b.retRamOk
  let bor := b2n s.ao.aoBor
  let canary := s.badCanary
  let aux := s.power.j2Chosen && s.power.j2Good
  let s := { s with mod.aux12 := aux, mod.slotCap := !aux }
  let s := if lost then s.retentionGone else s
  let s := ((s.firnBoot lost).causeTake lost).keysBoot
  let s := s.bootRecords lost made revert bor canary
  let s := { s with ao.canaries := canaryWords, ao.aoBor := false, ao.mainBo := false }
  let s := (s.cellMeasured b.cellMv).safeStart
  let s := s.configBoot.gridStart
  let s := { s with sec.secure := s.secureFlags }
  (s.enterConfigure 3 2).autostart

/-- BOOT_SEQUENCE (R64): from ROM's start to CONFIGURE or FAILSAFE. -/
def State.boot (s : State) (b : BootInput) : State :=
  let l := s.bootCause s.aoDoubt
  let s := { s with sec.loopOpen := b.loopOpen }
  if b.loopOpen && s.ao.tamperEn then s.tamper 1
  else match s.rootStep b with
    | (.fuse, s) => s.tamper 5
    | (.none_, s) => s.romStop fsROOT
    | (.bank made, s) =>
      match s.pickImage b (countedCause l.code) with
      | (none, _, s) => s.romStop fsIMAGE
      | (some _, revert, s) =>
        let loops := s.ao.counted.length + b2n (l.code == 0xFFFF)
        if countedCause l.code && 5 ≤ loops then s.bootStop fsBOOT_LOOP id
        else if 2 ≤ b.dramFails then s.bootStop fsDRAM (fun s => s.firnEv 0x0108 [2])
        else match b.otherTamper with
          | some src => if s.tamperLive src then s.bootTamper src else s.bootRun b made revert
          | none => s.bootRun b made revert

/-- BOOT_SEQUENCE (R64). -/
def execBootSequence (b : BootInput) (s : State) : Out :=
  .next (if s.power.phase == .run && s.mod.state == 0 then s.boot b else s)

end Machine
end Sys2Proof
end

