-- ==== Sys2Proof/Machine/Dma.lean ====
section
/-! DEFINITION. The DMA engine (chapter 6). -/

namespace Sys2Proof
namespace Machine

/-- A DMA channel. -/
def State.dmaChan (s : State) (n : Nat) : DmaChan := s.dma.chans.getD n {}

/-- Replaces a DMA channel. -/
def State.setDma (s : State) (n : Nat) (c : DmaChan) : State :=
  { s with dma.chans := s.dma.chans.set n c }

/-- A channel exists and the host interface is up (R131). -/
def State.dmaOk (s : State) (n : Nat) : Bool := s.hostOn && n < 32

/-- The ring size (R146). -/
def DmaChan.size (c : DmaChan) : Nat := 2 ^ c.log2

/-- DMA_TAIL_WRITE (R95, R135). -/
def execDmaTailWrite (ch : Nat) (v : Word) (s : State) : Out :=
  .next (if s.dmaOk ch then
    let c := s.dmaChan ch
    let t := v.toNat % 4096
    if c.size ≤ t then s
    else
      let m := tailMove c.size c.head c.tail t
      if m.2 then
        let s' := s.setDma ch { c with tailErr := true }
        if c.tailErr then s' else s'.raiseDma ch
      else s.setDma ch { c with tail := t }
    else s)

/-- DMA_ENABLE: setting EN, when it was clear, resets HEAD, TAIL and DMA_DONE_CNT; ignored in BOOT and
FAILSAFE (R135, R146, R147). -/
def execDmaEnable (ch : Nat) (s : State) : Out :=
  .next (if s.dmaOk ch && !(s.dmaChan ch).en && s.mod.state != 0 && s.mod.state != 4 then
    s.setDma ch { s.dmaChan ch with
      en := true, head := 0, tail := 0, doneCnt := 0, fetched := [], stopping := false }
    else s)

/-- DMA_DISABLE: no descriptor is fetched or started any more; the active one runs to its end (R145). -/
def execDmaDisable (ch : Nat) (s : State) : Out :=
  .next (if s.dmaOk ch then s.setDma ch { s.dmaChan ch with en := false, fetched := [] } else s)

/-! ## Descriptors (R136, R137, R140) -/

/-- Fields of a posted descriptor (R136). -/
def descHost (d : Bytes) : Nat := le64 d 0
def descDram (d : Bytes) : Nat := le64 d 8
def descLen (d : Bytes) : Nat := le32 d 16
def descD2h (d : Bytes) : Bool := (le16 d 20).testBit 15
def descHFix (d : Bytes) : Bool := (le16 d 20).testBit 14
def descDFix (d : Bytes) : Bool := (le16 d 20).testBit 13
def descUnit (d : Bytes) : Nat := 4 * 2 ^ (le16 d 20 / 1024 % 8)
def descIrq (d : Bytes) : Bool := (le16 d 20).testBit 9

/-- No descriptor error (R137, R140 code 2). -/
def descOk (d : Bytes) : Bool :=
  let len := descLen d
  let fixed := descHFix d || descDFix d
  let span := if descDFix d then descUnit d else len
  1 ≤ len && len ≤ 16777216 && le16 d 20 % 512 == 0 && zeroAt d 22 10 &&
    (!fixed || (le16 d 20 / 1024 % 8 ≤ 4 && len % descUnit d == 0)) &&
    (!descHFix d || descHost d % descUnit d == 0) && (!descDFix d || descDram d % descUnit d == 0) &&
    !(descDFix d && !descD2h d) && firmwareEnd ≤ descDram d && descDram d + span ≤ 68719476736

/-- A descriptor as written back (R136). -/
def descBack (d : Bytes) (residue status : Nat) (done : Stamp) (poison aborted shadow : Bool) : Bytes :=
  slice d 0 16 ++ leBytes 4 residue ++ slice d 20 2 ++ leBytes 2 status ++ done.bytes ++
    leBytes 2 (32768 + 16384 * b2n poison + 8192 * b2n aborted + 4096 * b2n shadow)

/-- The burst in bytes (R138, R146). -/
def DmaChan.burstBytes (c : DmaChan) : Nat := 64 * 2 ^ c.burst

/-- DMA_DESCRIPTOR_FETCH: the engine prefetches up to 8 descriptors that a tail write covers; a failed
fetch stops the channel (R93, R135, R140). -/
def execDmaDescriptorFetch (ch : Nat) (f : Fetch Bytes) (s : State) : Out :=
  .next (
    let c := s.dmaChan ch
    let ahead := c.fetched.length + b2n c.run.isSome
    let idx := (c.head + ahead) % c.size
    if s.dmaOk ch && c.en && !c.stopping && c.fetched.length < 8 && ahead < (c.tail + c.size - c.head) % c.size then
      let j := s.inject 0x21 ch 0
      let bad := j.2.setDma ch { c with
        en := false, errStop := true, errCode := 5, errIdx := idx, fetched := [] }
      let bad := if c.errStop then bad else bad.raiseDma ch
      if j.1 then bad
      else match f with
        | .ok d => j.2.setDma ch { c with fetched := c.fetched ++ [padTo 32 d] }
        | _ => bad
    else s)

/-- Takes the shadow set at a hand-over (R141): whether it was taken, and the channel. -/
def DmaChan.handOver (c : DmaChan) (idx : Nat) : Bool × DmaChan :=
  if c.shPend && !c.shLate then
    (true, { c with
      burst := c.shBurst, prio := c.shPrio, shPend := false, shEvt := true
      takenCount := (c.takenCount + 1) % 65536, takenIdle := false, takenIdx := idx })
  else (false, { c with shLate := false })

/-- Ends the active descriptor with a status: hand-over, write-back, counts and causes (R136, R140, R141). -/
def State.dmaEnd (s : State) (ch : Nat) (r : DmaRun) (status : Nat) (aborted : Bool) : State :=
  let c := s.dmaChan ch
  let residue := if status = 2 then descLen r.desc else descLen r.desc - r.moved
  let h := c.handOver r.idx
  let back := descBack r.desc residue status (s.stamp 8) r.poison aborted h.1
  let stop := status == 1 || 3 ≤ status
  let c' := { h.2 with
    run := none, back := some back, head := (r.idx + 1) % c.size, doneCnt := inc32 c.doneCnt
    descDone := c.descDone || descIrq r.desc
    poisonSeen := c.poisonSeen || r.poison
    descErr := c.descErr || status == 2
    abortDone := c.abortDone || status == 1
    errStop := c.errStop || 3 ≤ status
    residue := if stop then residue else c.residue
    errCode := if status = 0 then c.errCode else status
    errIdx := if status = 0 then c.errIdx else r.idx
    en := c.en && !stop
    fetched := if stop then [] else h.2.fetched }
  let s' := (s.setDma ch c').counted c'.doneCnt 0 0x30 ch
  if (c'.shEvt && !c.shEvt) || (c'.descDone && !c.descDone) || (c'.descErr && !c.descErr) ||
      (c'.abortDone && !c.abortDone) || (c'.errStop && !c.errStop) then s'.raiseDma ch else s'

/-- DMA_DESCRIPTOR_START: the next descriptor in ring order becomes active; one with an error ends at once
with status 2 and nothing transferred (R135, R140, R142). -/
def execDmaDescriptorStart (ch : Nat) (s : State) : Out :=
  .next (
    let c := s.dmaChan ch
    match c.fetched, c.run with
    | d :: rest, none =>
      if s.dmaOk ch && c.en && !c.stopping then
        let r : DmaRun := { idx := c.head, desc := d }
        let s' := s.setDma ch { c with fetched := rest, run := some r }
        if descOk d then s' else s'.dmaEnd ch r 2 false
      else s
    | _, _ => s)

/-! ## Data (R132 to R139) -/

/-- The bytes of the running burst not yet written. -/
def DmaChan.burstLeft (c : DmaChan) (r : DmaRun) : Nat :=
  min (c.burstBytes - r.moved % c.burstBytes) (descLen r.desc - r.moved)

/-- An aborted descriptor has finished its burst: the first one begins with the descriptor, a later one with its first
beat (R142, R144). -/
def DmaChan.burstDone (c : DmaChan) (r : DmaRun) : Bool := r.moved != 0 && r.moved % c.burstBytes == 0

/-- A channel has a beat ready: data to read from DRAM, or a burst of host data that has landed (R133). -/
def DmaChan.ready (c : DmaChan) : Bool :=
  match c.run with
  | none => false
  | some r => r.moved < descLen r.desc &&
      (if descD2h r.desc then !(r.aborting && c.burstDone r) else decide (c.burstLeft r ≤ r.buffer.length))

/-- The priority a channel arbitrates with: 3 while it finishes the burst of an abort (R144). -/
def DmaChan.effPrio (c : DmaChan) : Nat :=
  match c.run with
  | some r => if r.aborting then 3 else c.prio
  | none => c.prio

/-- The channel of the next beat (R133): the highest ready priority; the last channel while its burst
runs on at that priority; otherwise the next in turn. -/
def State.dmaPick (s : State) : Option Nat :=
  let rdy := (List.range 32).filter (fun n => (s.dmaChan n).ready)
  let top := (rdy.map (fun n => (s.dmaChan n).effPrio)).foldl max 0
  let best := rdy.filter (fun n => (s.dmaChan n).effPrio == top)
  let l := s.dma.last
  let mid := match (s.dmaChan l).run with
    | some r => r.moved % (s.dmaChan l).burstBytes != 0
    | none => false
  if best.contains l && mid then some l
  else match best.find? (fun n => l < n) with
    | some n => some n
    | none => best.head?

/-- Writes bytes to host memory (R120, R132): the observation point, and the PF's quota. -/
def State.hostWrite (s : State) (addr : Nat) (b : Bytes) (poison : Bool) : State :=
  { s with
    dma.hostOut := some (addr, b, poison)
    sched.quota := s.sched.quota.upd 0 0 (fun q => q - b.length) }

/-- Moves one beat of a channel: up to 64 bytes of its running burst (R132, R137, R138, R139). -/
def State.dmaBeat (s : State) (ch : Nat) : State :=
  let c := s.dmaChan ch
  match c.run with
  | none => s
  | some r =>
    let d := r.desc
    let unit := descUnit d
    let n := min (if descHFix d || descDFix d then unit else 64) (c.burstLeft r)
    let host := if descHFix d then descHost d else descHost d + r.moved
    let dram := if descDFix d then descDram d + r.moved % unit else descDram d + r.moved
    if descD2h d then
      let m := s.memRead dram n 2
      let bad := m.1.any (·.2)
      (m.2.hostWrite host (m.1.map (·.1)) bad).setDma ch
        { c with run := some { r with moved := r.moved + n, poison := r.poison || bad } }
    else
      let x := r.buffer.take n
      let bad := x.any (·.2)
      (s.memWrite dram (x.map (·.1)) bad).setDma ch
        { c with run := some { r with moved := r.moved + n, buffer := r.buffer.drop n, poison := r.poison || bad } }

/-- DMA_BEAT_ARBITRATION: the engine gives the next beat to a channel, which moves it (R132 to R134). -/
def execDmaBeatArbitration (s : State) : Out :=
  .next (if s.hostOn then
    match s.dmaPick with
    | some n =>
      let s := s.dmaBeat n
      { s with dma.last := n }
    | none => s
    else s)

/-- Moves beats of a channel until `moved` reaches `target`; `k` bounds the beats. -/
def State.dmaBeats (ch target : Nat) : Nat → State → State
  | 0, s => s
  | k + 1, s =>
    match (s.dmaChan ch).run with
    | some r => if target ≤ r.moved then s else State.dmaBeats ch target k (s.dmaBeat ch)
    | none => s

/-- DMA_READ_COMPLETION: host data lands in the burst buffer, poisoned or not (`.poisoned` brings no byte); a failed read
stops the channel after the bursts before it (R134, R139, R140 code 3). -/
def execDmaReadCompletion (ch : Nat) (f : Fetch Bytes) (poison : Bool) (s : State) : Out :=
  .next (
    let c := s.dmaChan ch
    match c.run with
    | none => s
    | some r =>
      if s.dmaOk ch && !descD2h r.desc then
        match f with
        | .ok b =>
          let room := descLen r.desc - r.moved - r.buffer.length
          s.setDma ch { c with run := some { r with
            buffer := r.buffer ++ (b.take room).map (fun x => (x, poison)) } }
        | .poisoned => s
        | _ =>
          let whole := (r.moved + r.buffer.length) / c.burstBytes * c.burstBytes
          let s := State.dmaBeats ch whole (r.buffer.length + 1) s
          match (s.dmaChan ch).run with
          | some r => s.dmaEnd ch r 3 false
          | none => s
      else s)

/-- DMA_DESCRIPTOR_END: the descriptor whose last beat has been moved is written back with status 0; an
ABORT that came with its last beat then stops the channel (R136, R141, R145). -/
def execDmaDescriptorEnd (ch : Nat) (s : State) : Out :=
  .next (
    let c := s.dmaChan ch
    match c.run with
    | some r =>
      if s.dmaOk ch && descLen r.desc ≤ r.moved && !r.aborting then
        let s := s.dmaEnd ch r 0 false
        if c.stopping then
          let c := s.dmaChan ch
          let s := s.setDma ch { c with
            en := false, abortDone := true, stopping := false, residue := 0, errIdx := c.head, fetched := [] }
          if c.abortDone then s else s.raiseDma ch
        else s
      else s
    | none => s)

/-! ## Shadow sets (R141 to R143) -/

/-- DMA_SHADOW_ARM. `atEdge`: the write comes in the cycle of a descriptor's last beat, or in which one
becomes active, and waits for the next descriptor's end (R141, R142). -/
def execDmaShadowArm (ch : Nat) (atEdge : Bool) (s : State) : Out :=
  .next (if s.dmaOk ch && !(s.dmaChan ch).shPend then
    let c := s.dmaChan ch
    if c.run.isNone && !atEdge then
      let s' := s.setDma ch { c with
        burst := c.shBurst, prio := c.shPrio, shEvt := true
        takenCount := (c.takenCount + 1) % 65536, takenIdle := true, takenIdx := c.head }
      if c.shEvt then s' else s'.raiseDma ch
    else
      let last := match c.run with | some r => decide (descLen r.desc ≤ r.moved) | none => false
      s.setDma ch { c with shPend := true, shLate := atEdge && last }
    else s)

/-- DMA_SHADOW_DISARM: no effect in the cycle in which the set is taken (R143). -/
def execDmaShadowDisarm (ch : Nat) (taken : Bool) (s : State) : Out :=
  .next (if s.dmaOk ch && !taken then
    s.setDma ch { s.dmaChan ch with shPend := false, shLate := false } else s)

/-! ## Abort (R144, R145) -/

/-- DMA_ABORT: the active descriptor finishes its burst; with none active, or at its last beat, the
channel stops by R145. No effect while EN is clear. -/
def execDmaAbort (ch : Nat) (s : State) : Out :=
  .next (
    let c := s.dmaChan ch
    if s.dmaOk ch && c.en then
      match c.run with
      | some r =>
        if r.moved < descLen r.desc then s.setDma ch { c with run := some { r with aborting := true }, stopping := true }
        else s.setDma ch { c with stopping := true }
      | none =>
        let s' := s.setDma ch { c with en := false, abortDone := true, residue := 0, errIdx := c.head, fetched := [] }
        if c.abortDone then s' else s'.raiseDma ch
    else s)

/-- DMA_ABORT_DONE: the burst is finished, every byte of the buffer is written, and the descriptor is
written back with status 1 (R144). -/
def execDmaAbortDone (ch : Nat) (s : State) : Out :=
  .next (
    let c := s.dmaChan ch
    match c.run with
    | some r =>
      if s.dmaOk ch && r.aborting then
        let target := if descD2h r.desc then
            if c.burstDone r then r.moved else r.moved + c.burstLeft r
          else r.moved + r.buffer.length
        let s := State.dmaBeats ch target (target - r.moved + 1) s
        match (s.dmaChan ch).run with
        | some r =>
          let s := s.dmaEnd ch r 1 true
          s.setDma ch { s.dmaChan ch with stopping := false }
        | none => s
      else s
    | none => s)

end Machine
end Sys2Proof
end

