-- ==== Sys2Proof/Machine/Sram.lean ====
section
/-! DEFINITION. Errors in on-die SRAM and the daily scrub of the firmware region (R445, R446). Which object a word
belongs to is the model's numbering (log 32). -/

namespace Sys2Proof
namespace Machine

/-- The error-log entry of an SRAM error: the syndrome and the bit are free (R451; log 2). -/
def State.sramLog (s : State) (kind code row : Nat) : State :=
  let y := s.draw
  let b := y.2.draw
  b.2.logEcc b.2.mem { stamp := s.stamp 17, kind := kind, source := code, address := row, syndrome := y.1 % 256,
                       bit := if kind = 4 then b.1 % 72 else 255 }

/-- A corrected SRAM word (R446, R452). -/
def State.sramCe (s : State) (code row : Nat) : State :=
  let s := s.sramLog 4 code row
  let n := inc32 s.mem.sramCeCnt
  ({ s with mem.sramCeCnt := n }.eccEvt 3).counted n 0x1104 0x1C 0

/-- The copies of a buffer frame: those being cut through end stomped, the rest are lost (R306). -/
def State.bufferLost (s : State) (fid : Nat) : State :=
  let s := (s.sw.queue.filter (fun c => c.fid == fid)).foldl (fun s c =>
    if c.cut then State.send { s with sw.queue := s.sw.queue.erase c } c false true
    else (State.portCount { s with sw.queue := s.sw.queue.erase c } c.port 0xCC).loseCopy c) s
  s.fns.foldl (fun s x =>
    ((s.fn x.1).staged.filter (fun t => t.fid == fid)).foldl (fun s t =>
      ((s.setFn x.1 { s.fn x.1 with staged := (s.fn x.1).staged.erase t }).release t.fid).rxDropFn x.1) s) s

/-- The guard element's state is lost: it restarts as event 5 of R211 and its trip input is released (R446). -/
def State.elementLost (s : State) (i : Nat) : State :=
  let b := s.grdRun i
  if grdActive b then
    match s.gridFrom s.now with
    | some g =>
      let e := s.grdEl i
      let s := s.grdDrive i (if e.out then grdTrip b else none) false g
      (s.setEl i { next := g, outs := ((g, false) :: e.outs).take 64 }).grdLog i 5 g
    | none => s
  else s

/-- The channels whose windows an error in the phasor SRAM reaches: one channel, or those of a bus. -/
def State.phasorHit (s : State) (row : Nat) : List Nat :=
  if row < 65536 then [row]
  else (s.cfg.ph.map.filter (fun x => x.2.2 == (row - 65536) % 64)).map (·.1)

/-- What an uncorrectable word of an SRAM that resets nothing does (R446). -/
def State.sramLost (s : State) (code row : Nat) : State :=
  match code with
  | 0x12 => s.bufferLost row
  | 0x13 =>
    let a := s.draw
    (a.2.logicFault row (a.1 % 3)).redSettle
  | 0x14 =>
    let s := s.historyReset row (s.now : Int)
    s.setAln row { s.alnOf row with poison := true }
  | 0x15 =>
    match s.gridFrom s.now with
    | some g => { s with ph.bad := (s.phasorHit row).foldl (fun t c => t.set c g) s.ph.bad }
    | none => s
  | 0x16 => s.elementLost row
  | 0x17 => { s with sw.fdb := s.sw.fdb.filter (fun x => x.2.static || x.1 != row) }
  | 0x18 => { s with sec.slots := s.sec.slots.del row }
  | 0x19 =>
    let c := s.dma.chans.getD row {}
    match c.run with
    | some r =>
      let bad := { c with run := some { r with buffer := r.buffer.map (fun x => (x.1, true)), poison := true } }
      { s with dma.chans := s.dma.chans.set row bad }
    | none => s
  | _ => { s with ao.retLogic := s.ao.retLogic.tail }

/-- An uncorrectable SRAM word (R53, R71, R387, R446, R454). -/
def State.sramUe (s : State) (code row : Nat) : State :=
  if code = 0x10 then s.resetWith .eccFw row
  else if code = 0x11 then s.resetWith .eccSafe row
  else if 0x12 ≤ code ∧ code ≤ 0x1A then
    let s := s.sramLog 5 code row
    let s := { s with mem.sramUe := inc32 s.mem.sramUe }.eccEvt 4
    (s.firnEv 0x1103 (leBytes 1 code ++ leBytes 3 row)).sramLost code row
  else s.resetWith .eccFw (2 ^ 62 + code)

/-- SRAM_ERROR: a corrected or an uncorrectable error in the SRAM of a code, at a word (R446). -/
def execSramError (code : Nat) (ue : Bool) (row : Nat) (s : State) : Out :=
  .next (if s.power.on.contains .mgmt then if ue then s.sramUe code row else s.sramCe code row else s)

/-- What the scrub finds in a word of the firmware region: a difference from a valid codeword. A bit or two bits
at free places (log 2). -/
def State.scrubFinds (s : State) (ue : Bool) (a : Nat) : State :=
  let x := s.draw
  let y := x.2.draw
  let one := x.1 % 72
  let other := (one + 1 + y.1 % 71) % 72
  if ue then y.2.detect a 5 (2 ^ one + 2 ^ other) else x.2.detect a 5 (2 ^ one)

/-- FIRMWARE_SCRUB: words that were corrected, that were uncorrectable and so marked, and that were already poison:
the management processor consumes those, which resets the module (R445). -/
def execFirmwareScrub (ce ue poison : List Nat) (s : State) : Out :=
  .next (if s.power.on.contains .mem && !s.romServed then
    let s := (ce.filter (· < firmwareEnd)).foldl (fun s a => s.scrubFinds false a) s
    let s := (ue.filter (· < firmwareEnd)).foldl (fun s a => s.scrubFinds true a) s
    match poison.filter (· < firmwareEnd) with
    | a :: _ => s.resetWith .eccFw (2 ^ 63 + a)
    | [] => s
    else s)

end Machine
end Sys2Proof
end

