-- ==== Sys2Proof/Machine/Diag.lean ====
section
/-! DEFINITION. Error injection, running activities and firmware images (chapter 23). -/

namespace Sys2Proof
namespace Machine

/-! ## Injection points (R485) -/

/-- A row of R485: detector, number of its objects, least and greatest sub, how long it acts (0 one occurrence, 1 n
occurrences, 2 milliseconds), least and greatest value, and its marks P and F. -/
structure InjRow where
  code : Nat
  objects : Nat := 1
  subLo : Nat := 0
  subHi : Nat := 0
  span : Nat := 0
  nHi : Nat := 255
  valLo : Int := 0
  valHi : Int := 0
  plant : Bool := false
  force : Bool := false
  deriving DecidableEq, Repr

/-- The detectors that act on traffic (R485). -/
def injRows0 : List InjRow := [
  { code := 0x01, objects := 10, span := 1 }, { code := 0x02, objects := 10, span := 1 },
  { code := 0x03, objects := 10, span := 2 }, { code := 0x04, objects := 6, span := 2 },
  { code := 0x05, objects := 6 }, { code := 0x06, objects := 2048, span := 1 },
  { code := 0x07, objects := 2048, span := 1 }, { code := 0x08, objects := 2048, subHi := 1, span := 2 },
  { code := 0x09, objects := 4096, span := 2 }, { code := 0x0A, objects := 8, span := 1 },
  { code := 0x0B, objects := 64, subHi := 1, span := 1 }, { code := 0x0C, objects := 64, subHi := 1, span := 2 }]

/-- The detectors of time, logic, memory and safety (R485). -/
def injRows1 : List InjRow := [
  { code := 0x0D }, { code := 0x0E, span := 2 },
  { code := 0x0F, span := 1, valLo := -2147483648, valHi := 2147483647 },
  { code := 0x10, valLo := 1, valHi := 100000 }, { code := 0x12, subHi := 255, span := 1, nHi := 2 },
  { code := 0x13, plant := true }, { code := 0x14, objects := 8, span := 2, plant := true },
  { code := 0x15, objects := 8, subHi := 1, plant := true }, { code := 0x16, objects := 4, subHi := 1, plant := true },
  { code := 0x17, plant := true }, { code := 0x18, span := 2, plant := true }]

/-- The detectors of security, the pair and the host interface (R485). -/
def injRows2 : List InjRow := [
  { code := 0x19, force := true }, { code := 0x1A, span := 1, nHi := 3 },
  { code := 0x1B, subLo := 1, subHi := 2, span := 2 }, { code := 0x1C, span := 1 }, { code := 0x1D, objects := 16384 },
  { code := 0x1E, subLo := 1, subHi := 2, span := 2 }, { code := 0x1F, force := true },
  { code := 0x20, objects := 8, span := 2, valLo := 1, valHi := 30 }, { code := 0x21, objects := 32 },
  { code := 0x22, objects := 4 }]

/-- A detector's row; none for a code that the table does not list, and for 0x11, whose injection is the flip mask of
R450 (R485). -/
def injRow (code : Nat) : Option InjRow := (injRows0 ++ injRows1 ++ injRows2).find? (fun x => x.code == code)

/-- The fields of a request: code, FORCE, cancel, object, sub, n or ms, value (R495). -/
def injCode (r : Req) : Nat := byteAt r.params 0
def injForce (r : Req) : Bool := (byteAt r.params 1).testBit 0
def injCancel (r : Req) : Bool := (byteAt r.params 1).testBit 1
def injCount (r : Req) : Nat := le16 r.params 6
def injValue (r : Req) : Int := int32 (le32 r.params 8)

/-- The object and the sub that a row uses; a field that its row does not name is ignored (R485). -/
def InjRow.obj (x : InjRow) (r : Req) : Nat := if x.objects = 1 then 0 else le16 r.params 2
def InjRow.sub (x : InjRow) (r : Req) : Nat := if x.subHi = 0 then 0 else byteAt r.params 4

/-- The parameters fit the detector's row (R485, R495). -/
def InjRow.fits (x : InjRow) (r : Req) : Bool :=
  x.obj r < x.objects && (x.code != 0x09 || 2048 ≤ x.obj r) &&
  (x.subHi == 0 || (x.subLo ≤ x.sub r && x.sub r ≤ x.subHi)) &&
  (match x.span with
    | 0 => true
    | 1 => 1 ≤ injCount r && injCount r ≤ x.nHi
    | _ => 1 ≤ injCount r && injCount r ≤ 60000) &&
  ((x.valLo == 0 && x.valHi == 0) || (x.valLo ≤ injValue r && injValue r ≤ x.valHi))

/-- FORCE is always needed: marked F, and SRAM codes 0x10, 0x11 and 0x1A (R485). -/
def InjRow.needsForce (x : InjRow) (r : Req) : Bool :=
  x.force || (x.code == 0x12 && [0x10, 0x11, 0x1A].contains (x.sub r))

/-- DIAG_INJECT (R484, R485, R487, R491, R495). -/
def cmdDiagInject : Cmd where
  opcode := 0x1110
  seals _ r := if injCode r = 0x19 && !injCancel r then 8 else 0
  param _ _ r := byteAt r.params 1 < 4 && byteAt r.params 5 == 0 && restZero r 12 &&
    (if injCancel r then injCode r == 255 || (injRow (injCode r)).isSome
     else match injRow (injCode r) with | some x => x.fits r | none => false)
  state s _ r :=
    if injCancel r then 0
    else match injRow (injCode r) with
      | some x =>
        if (x.plant && s.mod.bridle && !injForce r) || (x.needsForce r && !injForce r) ||
          (x.code == 0x1E && s.mod.bridle) then stSTATE else 0
      | none => 0
  busy s _ r :=
    if injCancel r then 0
    else match injRow (injCode r) with
      | some x =>
        if s.active 6 || s.diag.inj.any (fun i => i.code == x.code && i.obj == x.obj r) then stCONFLICT else 0
      | none => 0
  body p e s :=
    let r := e.req
    let gone (i : Injection) : Bool := injCode r == 255 ||
      (i.code == injCode r && match injRow (injCode r) with | some x => i.obj == x.obj r | none => false)
    if injCancel r then
      .done { s with diag.inj := s.diag.inj.filter (fun i => !gone i) } stOK (s.stamp 17).bytes none
    else match injRow (injCode r) with
      | some x =>
        let sram := x.code == 0x12
        let i : Injection := {
          code := x.code, obj := x.obj r, sub := x.sub r, force := injForce r
          remaining := if x.span = 0 || sram then 1 else injCount r
          value := if sram then injCount r else injValue r
          armed := s.stamp 17, lastApplied := {}
          until_ := if x.span = 2 then some (s.now + 1000000 * injCount r) else none
          path := p }
        .done { s with diag.inj := s.diag.inj ++ [i] } stOK (s.stamp 17).bytes none
      | none => .done s stBAD_PARAM [] none

/-- DIAG_INJECT (R495). -/
def execDiagInject (p : Path) (s : State) : Out := .next (s.run cmdDiagInject p)

/-- An armed injection's 16 bytes; its flags are FORCE (R495). -/
def Injection.bytes (i : Injection) (now : Nat) : Bytes :=
  leBytes 1 i.code ++ leBytes 1 (b2n i.force) ++ leBytes 2 i.obj ++ leBytes 1 i.sub ++ [0] ++
    leBytes 2 (i.left now) ++ i.lastApplied.bytes ++ [0, 0]

/-- DIAG_INJECT_STATUS (R495). -/
def cmdDiagInjectStatus : Cmd where
  opcode := 0x1111
  param _ _ r := restZero r 0
  xpNeed s _ := 16 * s.diag.inj.length
  body _ _ s := .done s stOK [] (some (s.diag.inj.flatMap (fun i => i.bytes s.now)))

/-- DIAG_INJECT_STATUS (R495). -/
def execDiagInjectStatus (p : Path) (s : State) : Out := .next (s.run cmdDiagInjectStatus p)

/-- A path's number in a response: 0 to 3 MB0 to MB3, 4 P7, 255 the module itself. -/
def pathNumber : Option Path → Nat
  | some (.mb n) => n
  | some (.vf _) => 255
  | some (.p7 _) => 4
  | none => 255

/-- The running activities; error injection runs from the first injection armed (R490). -/
def State.activities (s : State) : List Activity :=
  s.diag.acts ++ match s.diag.inj with
    | i :: _ => [{ code := 10, path := some i.path, start := i.armed }]
    | [] => []

/-- DIAG_ACTIVITIES (R490, R495). -/
def cmdDiagActivities : Cmd where
  opcode := 0x1113
  param _ _ r := restZero r 0
  xpNeed s _ := 16 * s.activities.length
  body _ _ s := .done s stOK [] (some (s.activities.flatMap (fun a =>
    leBytes 1 a.code ++ leBytes 1 (pathNumber a.path) ++ [0, 0] ++ a.start.bytes ++ zeros 6)))

/-- DIAG_ACTIVITIES (R495). -/
def execDiagActivities (p : Path) (s : State) : Out := .next (s.run cmdDiagActivities p)

/-! ## Injections acting (R484 to R486) -/

/-- The detectors whose injection acts for a time without a row of the detector's own: its application is recorded. -/
def injLasting : List Nat := [0x08, 0x09, 0x0C, 0x0E, 0x14, 0x1B, 0x1E]

/-- INJECTION_APPLIED: the injection armed as the `n`th acts where no other row is its injection point; the others act
in the row of their detector (R484 to R486). -/
def execInjectionApplied (n : Nat) (s : State) : Out :=
  .next (match s.diag.inj[n]? with
    | none => s
    | some i =>
      let t := (s.inject i.code i.obj i.sub).2
      if i.code = 0x03 then t.linkDown i.obj 1
      else if i.code = 0x04 then t.sfpTxFault i.obj
      else if i.code = 0x12 then
        let d := t.draw
        if i.value = 2 then d.2.sramUe i.sub d.1 else d.2.sramCe i.sub d.1
      else if i.code = 0x18 then t.fv24Fall
      else if i.code = 0x1A then t.healthFail
      else if injLasting.contains i.code then t
      else s)

/-- INJECTION_EXPIRY: a duration ends, and the injection disarms (R484). -/
def execInjectionExpiry (n : Nat) (s : State) : Out :=
  .next (match s.diag.inj[n]? with
    | none => s
    | some i =>
      match i.until_ with
      | some t => { s.clockTo t with diag.inj := s.diag.inj.eraseIdx n }
      | none => s)

/-! ## Firmware images (R433, R492, R493) -/

/-- An image slot: 0 A, 1 B. -/
def State.image (s : State) (n : Nat) : Image := if n = 0 then s.flash.imageA else s.flash.imageB

/-- Replaces it. -/
def State.setImage (s : State) (n : Nat) (i : Image) : State :=
  if n = 0 then { s with flash.imageA := i } else { s with flash.imageB := i }

/-- The slot an installation goes to: the one not running; in FAILSAFE the one the command names (R492). -/
def State.installSlot (s : State) (r : Req) : Nat := if s.mod.state = 4 then byteAt r.params 1 else 1 - s.mod.slot

/-- A chunk written at its offset, 4 KiB by 4 KiB. -/
def writeChunk (t : Tbl Bytes) (off : Nat) (b : Bytes) : Tbl Bytes :=
  (chunks 4096 ((b.length + 4095) / 4096) (padTo ((b.length + 4095) / 4096 * 4096) b)).zipIdx.foldl
    (fun t x => t.set (off / 4096 + x.2) x.1) t

/-- The image in a slot after the checks of R433: none where one fails (log 14). -/
def State.checkSlot (s : State) (n len : Nat) : Option Image :=
  let i := s.image n
  match Config.imageHeader i.content with
  | some (key, svn, major, minor, build, digest) =>
    if svn ≤ 64 && (key == 1 || key == 2) && s.flash.rollback ≤ svn && !(key == 1 && s.flash.key1Revoked) then
      some { i with
        valid := true, svn := svn, keyIdx := key, major := major, minor := minor, build := build, length := len
        digest := digest }
    else none
  | none => none

/-- The record of an installation or a selector change (R494). -/
def State.fwRecord (s : State) (what slot svn : Nat) : State :=
  s.firnEv 0x1109 (leBytes 1 what ++ leBytes 1 slot ++ leBytes 1 svn)

/-- FW_INSTALL (R45, R491, R492, R495, R504). -/
def cmdFwInstall : Cmd where
  opcode := 0x1120
  param s _ r :=
    byteAt r.params 0 ≤ 3 && (if s.mod.state = 4 then byteAt r.params 1 ≤ 1 else byteAt r.params 1 == 0) &&
    zeroAt r.params 2 2 && restZero r 8 &&
    (match byteAt r.params 0 with
      | 0 => le32 r.params 4 ≤ 16777216
      | 1 => le32 r.params 4 % 4096 == 0 && r.xp && 1 ≤ r.region.length && r.region.length ≤ 32768 &&
          (match s.diag.install with
            | some x => le32 r.params 4 + r.region.length ≤ x.2
            | none => true)
      | _ => le32 r.params 4 == 0)
  state s _ r := if byteAt r.params 0 ≠ 0 ∧ s.diag.install.isNone then stSTATE else 0
  busy s _ r := if byteAt r.params 0 = 0 ∧ (s.active 8 || s.active 9) then stCONFLICT else 0
  body p e s :=
    let r := e.req
    match byteAt r.params 0, s.diag.install with
    | 0, _ =>
      let n := s.installSlot r
      let s := s.setImage n { content := (s.image n).content.del 0 }
      let s := State.begin { s with diag.install := some (n, le32 r.params 4) } 8 (some p)
      .done (s.fwRecord 1 n 0) stOK [] none
    | 1, some (n, _) =>
      let i := s.image n
      .done (s.setImage n { i with content := writeChunk i.content (le32 r.params 4) r.region }) stOK [] none
    | 2, some (n, len) =>
      match s.checkSlot n len with
      | some i =>
        let s := State.finish { s.setImage n i with diag.install := none } 8
        .done (s.fwRecord 2 n i.svn) stOK (leBytes 1 i.svn ++ leBytes 1 i.keyIdx ++ [0, 0] ++ leBytes 4 i.build) none
      | none => .done s stBAD_PARAM [] none
    | 3, some (n, _) =>
      let s := State.finish { s with diag.install := none } 8
      .done (s.fwRecord 3 n 0) stOK [] none
    | _, _ => .done s stSTATE [] none

/-- FW_INSTALL (R495). -/
def execFwInstall (p : Path) (s : State) : Out := .next (s.run cmdFwInstall p)

/-- The slot FW_SELECT activate makes preferred: the valid one that does not run; in FAILSAFE, where that one is not
valid, the other (log 33). -/
def State.activateSlot (s : State) : Option Nat :=
  let base := if s.romServed then s.flash.preferred else s.mod.slot
  if (s.image (1 - base)).valid then some (1 - base)
  else if s.mod.state = 4 ∧ (s.image base).valid then some base
  else none

/-- FW_SELECT (R493, R495). -/
def cmdFwSelect : Cmd where
  opcode := 0x1121
  param _ _ r := byteAt r.params 0 ≤ 1 && restZero r 1
  state s _ r := if (byteAt r.params 0 = 0 ∧ s.activateSlot.isNone) ∨ (byteAt r.params 0 = 1 ∧ s.mod.state = 4) then stSTATE else 0
  body _ e s :=
    let what := byteAt e.req.params 0
    let s := if what = 0 then
        match s.activateSlot with
        | some n => { s with flash.preferred := n, flash.trial := true }
        | none => s
      else { s with flash.trial := false }
    let n := s.flash.preferred
    .done (s.fwRecord (4 + what) n (s.image n).svn) stOK (leBytes 1 n ++ leBytes 1 (b2n s.flash.trial)) none

/-- FW_SELECT (R495). -/
def execFwSelect (p : Path) (s : State) : Out := .next (s.run cmdFwSelect p)

/-- A slot's 12 bytes in FW_INFO. -/
def Image.info (i : Image) : Bytes :=
  leBytes 1 (b2n i.valid) ++ leBytes 1 i.svn ++ leBytes 1 i.keyIdx ++ [0] ++ leBytes 4 i.build ++ leBytes 4 i.length

/-- FW_INFO (R495). -/
def cmdFwInfo : Cmd where
  opcode := 0x1122
  param _ _ r := restZero r 0
  xpNeed _ _ := 32
  body _ _ s := .done s stOK [] (some
    (leBytes 1 s.flash.preferred ++ leBytes 1 (b2n s.flash.trial) ++ leBytes 1 s.mod.slot ++ [0] ++
      s.flash.imageA.info ++ s.flash.imageB.info ++ zeros 4))

/-- FW_INFO (R495). -/
def execFwInfo (p : Path) (s : State) : Out := .next (s.run cmdFwInfo p)

end Machine
end Sys2Proof
end

