-- ==== Sys2Proof/Machine/Emission.lean ====
section
/-! DEFINITION. Values come out of the alignment engine: fine emissions, coarse values and deadlines, with the
phasors and channel groups that follow (R172 to R178, R192 to R195, R478). -/

namespace Sys2Proof
namespace Machine

/-- Instants a stream's values are kept for. -/
def keepAligned : Nat := 1500

/-- A value list among those of later and earlier instants, newest first. -/
def insertAligned (a : Aligned) (l : List Aligned) : List Aligned :=
  l.takeWhile (fun b => a.g < b.g) ++ a :: l.dropWhile (fun b => a.g < b.g)

/-- The next instant of a path, or the oldest one that can still be placed where it has fallen behind. -/
def State.nextPlaced (s : State) (g : Option Nat) : Option (Nat × GridSecond × Nat) :=
  g.bind (fun g =>
    let g := match s.placed.head? with | some d => max g d.g0 | none => g
    (s.instant g).map (fun x => (g, x.1, x.2)))

/-- What follows a path's new values: buses and phasors of it, then channel groups (R192, R194, R195, R478). -/
def State.emitted (s : State) (path : Nat) : State := State.groupsSend 64 (s.busesRun path)

/-- FINE_EMISSION: the fine values of a stream's next instant at their emission instant (R176, R177, R188). -/
def execFineEmission (k : Nat) (s : State) : Out := s.onPath <|
  .next (match s.nextPlaced (s.alnOf k).fineNext with
    | some (g, d, t) =>
      if (s.cfg.tables.sv.get? k).isNone then s
      else
        let e := s.emission k d t
        let s := s.clockTo e
        let vals := s.fineAt k e d t
        let x := s.alnOf k
        let s := s.setAln k { x with fine := (insertAligned { g := g, vals := vals } x.fine).take keepAligned, fineNext := some (g + 1) }
        let bit (f : Nat) : Nat := vals.countP (fun v => v.aflags &&& f != 0)
        let s := if bit afSUBST = 0 then s else s.alnCount k 3 (bit afSUBST)
        let s := if bit afINVALID = 0 then s else s.alnCount k 4 (bit afINVALID)
        s.emitted 0
    | none => s)

/-- Both taps of a coarse value are present now. -/
def State.coarseReady (s : State) (k t : Nat) : Bool :=
  let p := s.coarsePath k
  (s.taps k p (s.phase k p t).1 2 s.now).all (·.isSome)

/-- Stores a coarse value and goes on past every instant that has one. -/
def State.putCoarse (s : State) (k g : Nat) (vals : List AVal) : State :=
  let x := s.alnOf k
  let l := (insertAligned { g := g, vals := vals } x.coarse).take keepAligned
  let from_ := x.coarseNext.getD g
  let next := (List.range 64).find? (fun i => !l.any (fun a => a.g == from_ + i)) |>.map (from_ + ·)
  s.setAln k { x with coarse := l, coarseNext := some (next.getD (from_ + 64)) }

/-- COARSE_VALUE: the first instant without a coarse value whose two taps are present (R176). -/
def execCoarseValue (k : Nat) (s : State) : Out := s.onPath <|
  .next (match s.nextPlaced (s.alnOf k).coarseNext with
    | some (g0, _, _) =>
      if (s.cfg.tables.sv.get? k).isNone || !s.delivers k then s
      else
        let x := s.alnOf k
        let x := { x with coarseNext := some g0 }
        let s := s.setAln k x
        match (List.range 64).findSome? (fun i =>
          (s.instant (g0 + i)).bind (fun y =>
            if !x.coarse.any (fun a => a.g == g0 + i) && s.coarseReady k y.2 then some (g0 + i, y.1, y.2) else none)) with
        | some (g, d, t) => (s.putCoarse k g (s.coarseAt k s.now d t)).emitted 1
        | none => s
    | none => s)

/-- COARSE_DEADLINE: a coarse value is computed from what is present t + 0.5 × Tin + S_max (R176). -/
def execCoarseDeadline (k : Nat) (s : State) : Out := s.onPath <|
  .next (match s.nextPlaced (s.alnOf k).coarseNext with
    | some (g, d, t) =>
      if (s.cfg.tables.sv.get? k).isNone then s
      else
        let e := ((t : Rat) + (s.coarsePath k).delay + s.aln.sMax * 1000).ceil.toNat
        let s := s.setAln k { s.alnOf k with coarseNext := some g }
        let s := s.clockTo e
        (s.putCoarse k g (s.coarseAt k e d t)).emitted 1
    | none => s)

end Machine
end Sys2Proof
end

