-- ==== Sys2Proof/Machine/VfState.lean ====
section
/-! DEFINITION. The state blob of a virtual function: VF_SAVE and VF_RESTORE (R124, R125, R130). -/

namespace Sys2Proof
namespace Machine

/-- Bits as a number, bit 0 first. -/
def bitsNat (l : List Bool) : Nat := (l.zipIdx).foldl (fun a x => a + b2n x.1 * 2 ^ x.2) 0

/-- cfg_digest: MAC, VLAN, queue kinds and trip bindings. How they are laid out for it the spec does not say
(log 25). -/
def State.vfDigest (s : State) (n : Nat) : Nat :=
  let f := s.fn n
  let kinds := (List.range f.qp).map (fun q => BitVec.ofNat 8 (b2n (f.queue q).slab))
  let binds := (List.range 16).flatMap (fun k =>
    match s.goose.binds.get? (16 * n + k) with
    | some p => leBytes 2 (p + 1)
    | none => leBytes 2 0)
  (Config.partDigest 256 (leBytes 6 f.mac ++ leBytes 2 f.vlan ++ kinds ++ binds)).toNat

/-- The mailbox section: the channel's registers at their offsets (R92, R124, R128). -/
def Chan.section (c : Chan) : Bytes :=
  leBytes 8 c.sqBase ++ leBytes 8 c.cqBase ++ leBytes 8 c.xpBase ++ leBytes 4 c.xpPages ++ leBytes 4 (b2n c.en) ++
    leBytes 4 (bitsNat [c.enabled, c.idle, c.fetchErr, c.tailErr]) ++ leBytes 4 c.sqTail ++ leBytes 4 c.sqHead ++
    leBytes 4 c.cqHead ++ leBytes 4 (c.cqTail + 16 * b2n c.phase) ++ zeros 12

/-- A channel with the registers of a mailbox section. -/
def Chan.restore (c : Chan) (b : Bytes) : Chan :=
  let st := le32 b 32
  { c with
    sqBase := le64 b 0, cqBase := le64 b 8, xpBase := le64 b 16, xpPages := min 4 (le32 b 24 % 8), en := (le32 b 28).testBit 0
    enabled := st.testBit 0, idle := st.testBit 1, fetchErr := st.testBit 2, tailErr := st.testBit 3
    sqTail := le32 b 36 % 16, sqHead := le32 b 40 % 16, cqHead := le32 b 44 % 16, cqTail := le32 b 48 % 16
    phase := (le32 b 48).testBit 4 }

/-- A queue-pair record (R124). -/
def State.queueRecord (s : State) (n q : Nat) : Bytes :=
  let x := (s.fn n).queue q
  let grid : Bytes :=
    match x.slab, s.aln.binds.get? (64 * n + q) with
    | true, some b =>
      match s.secondOf b.next with
      | some d => leBytes 4 d.sec ++ leBytes 2 ((b.next - d.g0) / (if b.kind = 3 then d.d else 1))
      | none => zeros 6
    | _, _ => zeros 6
  leBytes 1 (b2n x.slab) ++ leBytes 1 (bitsNat [x.rxEn, x.txEn]) ++ leBytes 1 x.rxVec ++ leBytes 1 x.txVec ++
    leBytes 2 x.rxSize ++ leBytes 2 x.txSize ++ leBytes 8 x.rxBase ++ leBytes 8 x.txBase ++ leBytes 2 x.rxHead ++
    leBytes 2 x.rxTail ++ leBytes 2 x.txHead ++ leBytes 2 x.txTail ++ leBytes 1 x.classes ++ leBytes 1 0 ++
    leBytes 2 x.interval ++ grid ++ zeros 22

/-- A queue with the settings and positions of its record. -/
def Queue.restore (x : Queue) (b : Bytes) : Queue :=
  { x with
    slab := byteAt b 0 == 1, rxEn := (byteAt b 1).testBit 0, txEn := (byteAt b 1).testBit 1, rxVec := byteAt b 2
    txVec := byteAt b 3, rxSize := le16 b 4, txSize := le16 b 6, rxBase := le64 b 8, txBase := le64 b 16
    rxHead := le16 b 24, rxTail := le16 b 26, txHead := le16 b 28, txTail := le16 b 30, classes := byteAt b 32
    interval := le16 b 34 }

/-- The blob with a crc field of `crc` (R124). -/
def State.vfBlobWith (s : State) (n crc : Nat) : Bytes :=
  let f := s.fn n
  leBytes 4 0x31465642 ++ leBytes 2 1 ++ leBytes 2 64 ++ leBytes 4 (128 + 64 * f.qp) ++ leBytes 4 crc ++
    leBytes 8 Config.serial.toNat ++ leBytes 1 n ++ leBytes 1 f.qp ++ leBytes 2 (b2n f.dirty.isSome) ++
    leBytes 4 (s.vfDigest n) ++ f.freezeStamp.bytes ++ leBytes 2 f.trip.toNat ++ leBytes 2 f.cause.toNat ++
    leBytes 2 f.mask.toNat ++ leBytes 4 f.freezeDrops ++ zeros 16 ++ (s.chan (.vf n)).section ++
    (List.range f.qp).flatMap (s.queueRecord n)

/-- The blob of a function. -/
def State.vfBlob (s : State) (n : Nat) : Bytes := s.vfBlobWith n (crc32c (s.vfBlobWith n 0))

/-- VF_SAVE (R124, R130). -/
def cmdVfSave : Cmd where
  opcode := 0x1013
  param _ _ r := vfOnly r
  xpNeed s r := 128 + 64 * (s.fn (byteAt r.params 0)).qp
  state s _ r := if (s.fn (byteAt r.params 0)).frozen then 0 else stSTATE
  body _ e s := .done s stOK [] (some (s.vfBlob (byteAt e.req.params 0)))

/-- VF_SAVE (R130). -/
def execVfSave (p : Path) (s : State) : Out := .next (s.run cmdVfSave p)

/-- A blob may be restored to a function (R125). -/
def State.vfBlobOk (s : State) (n : Nat) (b : Bytes) : Bool :=
  let len := 128 + 64 * (s.fn n).qp
  let b := b.take (le32 b 8)
  le32 b 0 == 0x31465642 && le16 b 4 == 1 && byteAt b 25 == (s.fn n).qp && le32 b 8 == len && b.length == len &&
    crc32c (b.take 12 ++ zeros 4 ++ b.drop 16) == le32 b 12 && le32 b 28 == s.vfDigest n

/-- A restored slot of value 1 is asserted, as a doorbell would assert it (R125). -/
def State.slotRestore (s : State) (n : Nat) (trip : Nat) (k : Nat) : State :=
  match s.goose.binds.get? (16 * n + k), trip.testBit k with
  | some p, true => s.slotTrip p (16 * n + k) 0 true (s.stamp 6) s.now
  | _, _ => s

/-- A slab queue resumes at the current grid sample (R125). -/
def State.slabResume (s : State) (k : Nat) : State :=
  match s.aln.binds.get? k, s.gridFrom (s.now + 1) with
  | some b, some g => { s with aln.binds := s.aln.binds.set k { b with next := g } }
  | _, _ => s

/-- What VF_RESTORE puts back (R124, R125). -/
def State.vfRestore (s : State) (n : Nat) (b : Bytes) : State :=
  let f := s.fn n
  let recs := chunks 64 f.qp (b.drop 128)
  let queues := recs.zipIdx.foldl (fun t x => t.set x.2 ((f.queue x.2).restore x.1)) f.queues
  let s := s.setFn n { f with
    trip := BitVec.ofNat 16 (le16 b 38), cause := BitVec.ofNat 3 (le16 b 40), mask := BitVec.ofNat 3 (le16 b 42), queues := queues }
  let s := s.setChan (.vf n) ((s.chan (.vf n)).restore (slice b 64 64))
  let s := (List.range 16).foldl (fun s k => s.slotRestore n (le16 b 38) k) s
  (List.range f.qp).foldl (fun s q => s.slabResume (64 * n + q)) s

/-- VF_RESTORE (R125, R130). -/
def cmdVfRestore : Cmd where
  opcode := 0x1014
  param s _ r := vfOnly r && r.xp && s.vfBlobOk (byteAt r.params 0) r.region
  state s _ r := if (s.fn (byteAt r.params 0)).frozen then 0 else stSTATE
  body _ e s := .done (s.vfRestore (byteAt e.req.params 0) e.req.region) stOK [] none

/-- VF_RESTORE (R130). -/
def execVfRestore (p : Path) (s : State) : Out := .next (s.run cmdVfRestore p)

end Machine
end Sys2Proof
end

