-- ==== Sys2Proof/Machine/HostReset.lean ====
section
/-! DEFINITION. Resets of the host interface alone, and the training of the PCIe link (R65, R70, R78, R102, R147,
R342). -/

namespace Sys2Proof
namespace Machine

/-- A function after a host-interface reset: its staged frames go, its registers and rings return to reset, its
configuration stays (R70, R102). -/
def State.fnReset (s : State) (n : Nat) : State :=
  let s := s.dropStaged n
  let f := s.fn n
  s.setFn n { f with
    frozen := false, cause := 0, mask := 7, rejects := 0, dirty := none, queues := f.queues.mapV (fun _ x => x.reset) }

/-- Commands that the reset cuts off. -/
def State.cutOff (s : State) : Nat := (s.host.chans.filter (fun x => x.2.exec.isSome)).length

/-- The host interface's registers at reset; every channel is disabled, and a command that executes runs on without
its completion (R102). -/
def HostBlk.reset (h : HostBlk) (link : Bool) (downs : Nat) : HostBlk :=
  { chans := h.chans.mapV (fun _ c => c.reset), linkUp := link, speed := h.speed, width := h.width
    linkDowns := downs, rdata := h.rdata, bar2 := h.bar2 }

/-- HOST_IF_RESET (R70, R102): 1 PERST#, 2 hot reset, 3 link down, 4 PF function-level reset. -/
def State.hostReset (s : State) (kind : Nat) : State :=
  if !s.hostOn then s
  else
    let n := s.cutOff
    let s := (s.fns.map (·.1)).foldl (fun s k => s.fnReset k) s
    let link := s.host.linkUp && kind = 4
    let s := { s with
      host := s.host.reset link (if kind = 3 then inc32 s.host.linkDowns else s.host.linkDowns)
      dma := {}, rtc.frozen := false }
    s.firnEv 0x010A (leBytes 1 kind ++ leBytes 1 (min 255 n))

/-- PERST_ASSERT (R70, R102). -/
def execPerstAssert (s : State) : Out := .next (s.hostReset 1)

/-- PCIE_HOT_RESET (R70, R102). -/
def execPcieHotReset (s : State) : Out := .next (s.hostReset 2)

/-- PCIE_LINK_DOWN (R23, R70, R102). -/
def execPcieLinkDown (s : State) : Out := .next (s.hostReset 3)

/-- PF_FLR (R70, R102). -/
def execPfFlr (s : State) : Out := .next (s.hostReset 4)

/-- PCIE_LINK_TRAINED: the link comes up at a speed code and a width, within the settings in force (R65, R78, R105). -/
def execPcieLinkTrained (speed width : Nat) (s : State) : Out :=
  .next (if s.hostOn && 1 ≤ speed && speed ≤ 5 && [1, 2, 4, 8].contains width then
      { s with host.linkUp := true, host.speed := min speed s.cfg.maxSpeed, host.width := min width s.cfg.maxWidth }
    else s)

end Machine
end Sys2Proof
end

