-- ==== Sys2Proof/Machine/LogicScan.lean ====
section
/-! DEFINITION. The scan of the logic engine: its schedule, its steps and its overruns (R242 to R247, R249,
R256). A scan is one step of the model. -/

namespace Sys2Proof
namespace Machine

/-! ## Schedule (R243) -/

/-- The next scheduled start: its instant, its count of ticks, and its second and index for a period that divides
1 s. While no marks have been placed every period counts ticks (log 29). -/
def State.nextScan (s : State) : Nat × Nat × Option (Nat × Nat) :=
  let l := s.logic
  let ticks := l.schedTick + l.period * 250
  let byTicks := ((s.time.tick (ticks - s.time.ticks)).ext, ticks, none)
  if 1000000 % l.period = 0 then
    match s.time.schedAfter l.period l.sched with
    | some (due, sec, j) => (due, s.time.ticks + s.time.ticksTo due, some (sec, j))
    | none => byTicks
  else byTicks

/-! ## The latched images (R233, R234, R244 step 3) -/

/-- I: the bits that subscriptions and BRIO stations drive; every other one is 0. -/
def State.scanI (s : State) : BitVec 8192 :=
  let l := s.cfg.tables.subs.flatMap (fun x => s.subInputs x.1 x.2) ++
    s.cfg.tables.stations.flatMap (fun x => s.stationInputs x.1 x.2)
  bitsOf 8192 ((l.filter (·.2)).map (·.1))

/-- E: the output of every guard element at its latest instant (R18). -/
def State.scanE (s : State) : BitVec 4096 := bitsOf 4096 ((s.grd.els.filter (·.2.out)).map (·.1))

/-- S (R234); `step` for a scan of LOG_STEP. -/
def State.scanS (s : State) (step : Bool) : BitVec 4144 :=
  let l := s.logic
  let flags : List (Nat × Bool) :=
    [(4128, l.first == 1), (4129, l.first == 2), (4130, l.firstExch), (4131, true),
      (4133, s.time.servo == .locked), (4134, s.time.servo == .holdover), (4135, s.mod.bridle),
      (4136, s.mod.role == 1), (4137, l.inFault), (4138, l.ovr), (4139, l.user), (4140, !l.forces.isEmpty),
      (4141, s.sv.simMode), (4142, s.halter), (4143, step)]
  bitsOf 4144 ((s.sv.streams.filter (·.2.state == 3)).map (·.1) ++
    (s.goose.subs.filter (·.2.state == 3)).map (·.1) ++
    (s.brio.stations.filter (·.2.state == 3)).map (fun x => 4096 + x.1) ++
    (flags.filter (·.2)).map (·.1))

/-! ## The scan (R242, R244) -/

/-- One FLT executed with A = 1 is counted and latched for the next scan (R247). -/
def State.userFault (s : State) : State :=
  let n := inc32 s.logic.users
  State.counted { s with logic := { s.logic with users := n, user := true } } n 0x0908 40 0

/-- A user-fault record with the last code of the scan (R247). -/
def State.userRecord (s : State) (codes : List Nat) : State :=
  match codes with
  | [] => s
  | c :: _ => (State.firnEv { s with logic.code := c } 0x0902 (leBytes 4 c)).raise intLOGIC

/-- Steps 1 and 2: the start, the time base, the standby's image, the changes waiting (R244, R249, R474). The
state, its completions and whether an exchange was among the changes. -/
def State.scanOpen (s : State) (id : Option (Nat × Nat)) (tb : Nat) : State × List (Path × Bytes) × Bool :=
  let l := s.logic
  let start := s.stamp 7
  let tbs := match id with
    | some x => ((x, tb) :: l.tbs).take 64
    | none => l.tbs
  let s := { s with logic := { l with
    start := start, tbLast := tb, scanId := id, tbs := tbs, changes := [] } }
  let s := if s.handoverDue then s.handoverGo else s
  let s := s.mirrorApply s.now
  let r := State.logicApplyAll s tb start l.changes
  let s := r.1
  let s := if s.logic.retFix then
      { s with logic := { s.logic with
        retFix := false, img := { s.logic.img with t := s.logic.img.t.map (fun x => (x.1, { x.2 with tLast := tb })) } } }
    else s
  (s, r.2, l.exchanging)

/-- Step 3: the images are latched, and with them the error events since the previous start. -/
def State.scanLatch (s : State) (step : Bool) : State :=
  { s with logic := { s.logic with
    img := { s.logic.img with i := s.scanI, e := s.scanE, st := s.scanS step, h := s.safe.h }
    inFault := false, ovr := false, user := false } }

/-- Steps 5 and 6: the main section, and the error task where an event is latched; the state after them, the
codes met, newest first, and the time both take, ns (R237, R242). -/
def State.scanRun (s : State) (tb : Nat) (event : Bool) : State × List Nat × Nat :=
  let l := s.logic
  match l.prog with
  | none => (s, [], 0)
  | some p =>
    let d := runSection p 0 l.forces tb l.img []
    if p.errEntry ≠ 0 && event then
      let e := runSection p p.errEntry l.forces tb d.img d.codes
      ({ s with logic.img := e.img }, e.codes, 2 * d.cycles + 100 + 2 * e.cycles)
    else ({ s with logic.img := d.img }, d.codes, 2 * d.cycles)

/-- What an injected overrun adds to this scan, ns (R485). -/
def State.scanStretch (s : State) : Nat × State :=
  match s.injection 0x10 0 0 with
  | some i => (i.value.toNat * 1000, (s.inject 0x10 0 0).2)
  | none => (0, s)

/-- The retentive copy after step 8 (R256). -/
def State.retentiveCopy (s : State) : State :=
  match s.logic.prog with
  | some p =>
    let seq := match s.ao.retLogic with | c :: _ => c.seq + 1 | [] => 1
    { s with ao.retLogic := ((s.logic.img.retain p seq) :: s.ao.retLogic).take 2 }
  | none => s

/-- Steps 7 and 8: the commit, the scan end, user faults, the copy, the completions and the mirror image
(R244, R247, R256, R473). -/
def State.scanClose (s : State) (start : Nat) (codes : List Nat) (acks : List (Path × Bytes)) : State :=
  let l := s.logic
  let took := s.now - start
  let s := s.commit (forced l.forces 1 l.img.q) (forced l.forces 8 l.img.y) (s.stamp 7) s.now
  let s := (codes.foldl (fun s _ => s.userFault) s).userRecord codes
  let n := inc32 l.scans
  let s := { s with logic := { s.logic with
    first := 0, firstExch := false, scans := n, last := took, longest := max l.longest took, busyUntil := s.now } }
  let s := ((s.counted n 0x0908 28 0).retentiveCopy).recScan s.now
  (s.logicDone acks).mirrorSend

/-- One complete scan from now on. -/
def State.scan (s : State) (id : Option (Nat × Nat)) (tb : Nat) (step : Bool) : State :=
  let start := s.now
  let o := s.scanOpen id tb
  let event := o.1.logic.inFault || o.1.logic.ovr || o.1.logic.user
  let r := (o.1.scanLatch step).scanRun tb event
  let x := r.1.scanStretch
  let time := 1500 + r.2.2 + (if o.2.2 then 500 else 0) + x.1
  (x.2.clockTo (start + time)).scanClose start r.2.1 o.2.1

/-- LOGIC_SCAN: the next scheduled scan, where no scan is still running then (R243, R244, R246). -/
def execLogicScan (s : State) : Out :=
  .next (
    let n := s.nextScan
    if s.scanning && s.logic.prog.isSome && s.logic.busyUntil ≤ n.1 then
      let s := s.clockTo n.1
      let l := s.logic
      let s := if l.frozen then
          { s with logic := { l with frozen := false, tbRef := l.tbLast + l.period, tickRef := s.time.ticks } }
        else s
      let s := { s with logic := { s.logic with sched := n.1, schedTick := n.2.1 } }
      s.scan n.2.2 s.tb false
    else s)

/-- LOGIC_OVERRUN: a scheduled start falls in a running scan and is skipped (R246). -/
def execLogicOverrun (s : State) : Out :=
  .next (
    let d := s.nextScan
    let l := s.logic
    if s.scanning && d.1 < l.busyUntil then
      let n := inc32 l.overruns
      let s := { s with logic := { l with sched := d.1, schedTick := d.2.1, overruns := n, ovr := true } }
      let s := s.counted n 0x0908 32 0
      if (match l.ovrRec with | some t => decide (t + 1000000000 ≤ s.now) | none => true) then
        State.firnEv { s with logic.ovrRec := some s.now } 0x0901 (leBytes 4 n)
      else s
    else s)

/-! ## LOG_STEP (R249) -/

/-- `n` complete scans in HOLD, each with tb one period on. -/
def State.stepScans : Nat → State → State
  | 0, s => s
  | n + 1, s => State.stepScans n (s.scan none (s.logic.tbLast + s.logic.period) true)

/-- LOG_STEP (R249, R258). -/
def cmdLogStep : Cmd where
  opcode := 0x0904
  param _ _ r := 1 ≤ byteAt r.params 0 && restZero r 1
  state s _ _ := if s.logic.fault then stFAULT else if s.logic.mode == .hold then 0 else stSTATE
  body _ e s :=
    let s := State.stepScans (byteAt e.req.params 0) s
    .done s stOK s.logic.start.bytes none

/-- LOG_STEP (R249). -/
def execLogStep (p : Path) (s : State) : Out := .next (s.run cmdLogStep p)

end Machine
end Sys2Proof
end

