-- ==== Sys2Proof/Machine/Ptp.lean ====
section
/-! DEFINITION. PTP: messages and their authentication, the best master, delays, the servo at each Sync, and
the transparent clock (R322 to R331, R506). -/

namespace Sys2Proof
namespace Machine

/-! ## Ports and messages (R322, R323) -/

/-- The LAN of a port: 0 for P1 and P2, 1 for P3 and P4, 2 for P5 and P6 (R323; log 31). -/
def ptpLan (port : Nat) : Nat := port / 2

/-- The module's clock identity, formed from its address (PRESUMED, log 31). -/
def clockIdentity : Nat := (portMac 0 / 2 ^ 24) * 2 ^ 40 + 0xFFFE * 2 ^ 24 + portMac 0 % 2 ^ 24

/-- The Announce interval of a profile, ns (R322). -/
def Cfg.announceTime (c : Cfg) : Nat := if c.ptpProfile = 2 then 2000000000 else 1000000000

/-- Octets of a PTP message before padding and FCS, with its Ethernet header (PRESUMED, log 31). -/
def Cfg.ptpLen (c : Cfg) (kind : Nat) : Nat :=
  let body := if kind = 11 then 64 + (if c.ptpProfile = 1 then 22 else 0)
    else if kind = 2 || kind = 3 || kind = 9 then 54 else 44
  max 64 (18 + body + (if c.ptpAuth then 26 else 0))

/-- A PTP frame of the module: peer-delay messages go to their own address, and all are untagged (R322). -/
def ptpFrame (port kind len seq : Nat) (corr : Int) (ingress : Option Nat) : Frame :=
  { dst := if kind = 2 || kind = 3 then 0x0180C200000E else 0x011B19000000, src := portMac port, tag := none, len := len
    fcsOk := true, pcsOk := true, ecn := none, content := .ptp kind seq corr ingress }

/-- Sends a PTP message on a port in class 6 (R298, R322). -/
def State.ptpSend (s : State) (port kind seq : Nat) (corr : Int) (ingress : Option Nat) : State :=
  s.modSend [port] (ptpFrame port kind (s.cfg.ptpLen kind) seq corr ingress) 6 .ptp

/-- Forwards a message to the other ports of its LAN as a transparent clock does (R323, R324). -/
def State.ptpForward (s : State) (m : PtpMsg) (kind : Nat) (corr : Int) (ingress : Option Nat) : State :=
  let ports := (List.range 6).filter (fun p => p != m.port && s.cfg.ptpMask p && ptpLan p == ptpLan m.port)
  ports.foldl (fun s p => s.modSend [p] (ptpFrame p kind (max 64 (18 + m.raw.length)) m.seq corr ingress) 6 .ptp) s

/-- Adds one to a counter of TIME_PORT_STATUS by its place there (R291, R336). -/
def State.ptpCount (s : State) (port pos : Nat) : State :=
  let x := s.ptpPort port
  match pos with
  | 12 => let v := inc32 x.syncs; (s.setPtp port { x with syncs := v }).counted v 0x0205 12 port
  | 16 => let v := inc32 x.announces; (s.setPtp port { x with announces := v }).counted v 0x0205 16 port
  | 20 => let v := inc32 x.pdFail; (s.setPtp port { x with pdFail := v }).counted v 0x0205 20 port
  | _ => let v := inc32 x.authFail; (s.setPtp port { x with authFail := v }).counted v 0x0205 24 port

/-! ## Authentication (R326) -/

/-- The ICV of a message verifies under a generation of key_slot, where its type and usage permit the use (R420). -/
def State.ptpIcv (s : State) (m : PtpMsg) : Bool :=
  match m.tag, s.sec.slots.get? s.cfg.ptpKey with
  | some t, some k =>
    k.type == 2 && k.usage.testBit 4 && [k.cur, k.prev].any (fun g => match g with
      | some g => g.keyId == t.keyId && (padTo 32 (Config.hmacSha256 g.material m.raw)).take 16 == t.mac
      | none => false)
  | _, _ => false

/-- Whether a received message is used, and the state: failures are counted and raise AUTH_FAIL. -/
def State.ptpAuthOk (s : State) (m : PtpMsg) : Bool × State :=
  if !s.cfg.ptpAuth then (true, s)
  else
    let ok := s.ptpIcv m
    let s := s.setPtp m.port { s.ptpPort m.port with authOk := ok }
    if ok then (true, s) else (s.cfg.ptpMon, (s.ptpCount m.port 24).timeEvt 6)

/-- A message arrives on a port of the mask and is used (R323, R326). -/
def State.ptpTake (s : State) (m : PtpMsg) (at_ : Nat) (f : State → State) : Out :=
  let s := s.clockTo at_
  .next (if !s.cfg.ptpMask m.port then s
    else
      let a := s.ptpAuthOk m
      if a.1 then f a.2 else a.2)

/-! ## The best master (R327) -/

/-- What the comparison reads of a master heard on a port. -/
structure Rival where
  port : Nat
  sender : Nat
  data : AnnounceData
  deriving DecidableEq, Repr

/-- The first difference of two lists. -/
def lexLess : List Nat → List Nat → Bool
  | [], _ => false
  | _, [] => false
  | a :: as, b :: bs => if a = b then lexLess as bs else a < b

/-- The keys of the default comparison for different grandmasters (IEEE 1588, log 31). -/
def announceRank (d : AnnounceData) : List Nat :=
  [d.priority1, d.gmClass, d.gmAccuracy, d.gmVariance, d.priority2, d.gmId]

/-- `a` is better than `b`, by quality or by topology (IEEE 1588, log 31). -/
def Rival.better (a b : Rival) : Bool :=
  if a.data.gmId = b.data.gmId then
    lexLess [a.data.stepsRemoved, a.sender, a.port] [b.data.stepsRemoved, b.sender, b.port]
  else lexLess (announceRank a.data) (announceRank b.data)

/-- `a` is better than `b` by topology only. -/
def Rival.betterByTopology (a b : Rival) : Bool :=
  a.data.gmId == b.data.gmId && a.better b && a.data.stepsRemoved + 1 ≥ b.data.stepsRemoved

/-- The module's own default dataset (R327). -/
def State.ownData (s : State) : AnnounceData :=
  { gmId := clockIdentity, gmClass := 248, gmAccuracy := 0xFE, gmVariance := 0xFFFF, priority1 := byteAt s.cfg.time 4
    priority2 := byteAt s.cfg.time 5, stepsRemoved := 0, utcOffset := s.time.utc, utcValid := s.time.utcValid
    leap61 := s.time.leap61, leap59 := s.time.leap59 }

/-- The qualified masters of a port: heard twice, within the receipt timeout, on a message that has not gone
round (R322, R327, log 31). -/
def State.rivals (s : State) (port : Nat) : List Rival :=
  ((s.ptpPort port).foreign.filter (fun f =>
    2 ≤ f.count && s.now < f.at_ + 3 * s.cfg.announceTime && f.data.stepsRemoved < 255 && f.clockId != clockIdentity)).map
    (fun f => { port := port, sender := f.clockId, data := f.data })

/-- The best of a list. -/
def bestRival : List Rival → Option Rival
  | [] => none
  | a :: as => match bestRival as with
    | some b => if b.better a then some b else some a
    | none => some a

/-- The best master of all ports, where it is better than the module itself. -/
def State.bestMaster (s : State) : Option Rival :=
  match bestRival ((List.range 6).flatMap (fun p => if s.cfg.ptpMask p then s.rivals p else [])) with
  | some b => if lexLess (announceRank s.ownData) (announceRank b.data) then none else some b
  | none => none

/-- The state of a port, as IEEE 1588 codes it: 9 slave, 6 master, 7 passive, 4 listening (R323, R327). -/
def State.portRole (s : State) (best : Option Rival) (port : Nat) : Nat :=
  if !s.cfg.ptpMask port then 0
  else match best with
    | none => if s.cfg.slaveOnly || s.cfg.ptpRole = 2 then 4 else 6
    | some b =>
      if b.port = port then 9
      else if s.cfg.ptpRole ≠ 1 then 7
      else match bestRival (s.rivals port) with
        | some r => if b.betterByTopology r then 7 else 6
        | none => 6

/-- A change of grandmaster: GM_CHANGE and its record, whose bytes the spec gives only as old and new (R327,
log 15). -/
def State.gmTo (s : State) (d : AnnounceData) : State :=
  let old := s.time.gmId
  let s := { s with time := { s.time with
    gmId := d.gmId, gmClass := d.gmClass, gmPrio1 := d.priority1, gmSteps := min 255 d.stepsRemoved } }
  if old = d.gmId then s
  else (s.timeEvt 7).firnEv 0x0202 [Config.eventCode 0x0202 old, Config.eventCode 0x0202 d.gmId]

/-- Runs the BMCA: the ports take their states, and the slave port and its parent are chosen (R327). -/
def State.bmca (s : State) : State :=
  let best := s.bestMaster
  let s := (List.range 6).foldl (fun s p =>
    if s.cfg.ptpMask p then s.setPtp p { s.ptpPort p with state := s.portRole best p } else s) s
  match best with
  | none => { s with time := { s.time with slavePort := 255, parent := 0 } }
  | some b =>
    let moved := s.time.slavePort != b.port || s.time.parent != b.sender
    let s := if moved then
        (s.setPtp b.port { s.ptpPort b.port with rxSeq := none, twoStep := none })
      else s
    let s := { s with time := { s.time with
      slavePort := b.port, parent := b.sender, pathDelay := (s.ptpPort b.port).meanDelay
      syncCount := if moved then 0 else s.time.syncCount
      lastSync := if moved then s.now else s.time.lastSync, lastAnn := if moved then s.now else s.time.lastAnn } }
    s.gmTo b.data

/-- Stores an Announce among a port's foreign masters: at most 8, those that have timed out making room
(R327). -/
def PtpPort.heard (x : PtpPort) (id : Nat) (d : AnnounceData) (now wait : Nat) : PtpPort :=
  match x.foreign.find? (fun f => f.clockId == id) with
  | some f =>
    let n := if now < f.at_ + 4 * wait then f.count + 1 else 1
    { x with foreign := x.foreign.map (fun g => if g.clockId == id then { g with data := d, at_ := now, count := n } else g) }
  | none =>
    let live := x.foreign.filter (fun f => now < f.at_ + 4 * wait)
    if live.length < 8 then { x with foreign := live ++ [{ clockId := id, data := d, at_ := now, count := 1 }] }
    else { x with foreign := live }

/-- What the parent's Announce brings: the UTC offset while the servo is in ACQUIRE or LOCKED, and the leap flags
(R334, R506). -/
def State.parentAnnounce (s : State) (d : AnnounceData) : State :=
  let servoing := s.time.servo == Servo.acquire || s.time.servo == Servo.locked
  let s := { s with time := { s.time with lastAnn := s.now, leap61 := d.leap61, leap59 := d.leap59 } }
  if servoing && d.utcValid then
    { s with time := { s.time with utc := (d.utcOffset % 65536).toNat, utcValid := true } } else s

/-- PTP_ANNOUNCE_RECEIVE (R323, R326, R327, R506). -/
def execPtpAnnounceReceive (m : PtpMsg) (a : AnnounceData) (at_ : Nat) (s : State) : Out :=
  s.ptpTake m at_ (fun s =>
    let s := s.ptpCount m.port 16
    let s := s.setPtp m.port ((s.ptpPort m.port).heard m.clockId a s.now s.cfg.announceTime)
    let s := s.bmca
    let s := if s.time.slavePort = m.port && s.time.parent = m.clockId then s.parentAnnounce a else s
    if s.cfg.ptpRole = 2 then s.ptpForward m 11 0 none else s)

/-! ## The servo (R329, R330) -/

/-- Increments noted while LOCKED: those of the last 600 s and the one in force before them (R331). -/
def keepIncr (now : Nat) : List (Nat × Nat) → List (Nat × Nat)
  | [] => []
  | x :: rest => if now ≤ x.1 + 600000000000 then x :: keepIncr now rest else [x]

/-- The loop sets the increment, within ±20 ppm of 4.0 ns; the spec gives no gains (R330, log 2). -/
def State.steer (s : State) : State :=
  let d := s.drawWithin 343597
  let v := (17179869184 + d.1).toNat
  let s := d.2
  { s with time := { s.time with
    incr := BitVec.ofNat 40 v
    lockedIncr := if s.time.servo == Servo.locked then keepIncr s.now ((s.now, v) :: s.time.lockedIncr) else s.time.lockedIncr } }

/-- SERVO_TRANSITION at a valid Sync whose offset is `o` (R329). -/
def State.servoSync (s : State) (o : Int) : State :=
  match s.time.servo with
  | .free | .holdover =>
    let n := s.time.syncCount + 1
    let s := { s with time.syncCount := min 2 n }
    if 2 ≤ n then s.servoTo .acquire else s
  | .acquire =>
    let n := if o.natAbs ≤ 1000 then s.time.goodSyncs + 1 else 0
    let s := { s with time.goodSyncs := min 16 n }
    if 16 ≤ n then s.servoTo .locked else s
  | .locked =>
    let n := if 10000 < o.natAbs then s.time.badSyncs + 1 else 0
    let s := { s with time.badSyncs := min 4 n }
    if 4 ≤ n then s.servoTo .holdover else s

/-- The module's TAI estimate at an instant, ns; 0 where no mark has been placed. -/
def State.taiNow (s : State) (x : Nat) : Int := ((taiOf x s.time.map).map (·.1)).getD 0

/-- A valid Sync: received at `rx`, whose origin and corrections make `tai` when it arrived (R325, R329, R330). -/
def State.validSync (s : State) (rx : Nat) (tai : Int) : State :=
  let o := s.taiNow rx - tai
  let s := { s with time := { s.time with offset := satI32 o, sync := some (rx, tai), lastSync := s.now } }
  let s := s.servoSync o
  if s.time.servo == Servo.acquire || s.time.servo == Servo.locked then s.steer else s

/-- A sequence number follows another. -/
def seqAfter (last : Option Nat) (n : Nat) : Bool :=
  match last with
  | some l => let d := (n + 65536 - l % 65536) % 65536; 1 ≤ d && d < 32768
  | none => true

/-- A Sync of the parent in sequence, on a port whose delay is known (R325, R329). -/
def State.syncValid (s : State) (m : PtpMsg) : Bool :=
  s.time.slavePort == m.port && s.time.parent == m.clockId && seqAfter (s.ptpPort m.port).rxSeq m.seq &&
    (s.ptpPort m.port).delayValid s.now

/-- PTP_SYNC_RECEIVE (R323 to R326, R329, R330, R485). A Sync of the slave port under profile 2 gives the
difference that the next Delay_Resp needs. -/
def execPtpSyncReceive (m : PtpMsg) (origin : Nat) (corr : Int) (twoStep : Bool) (at_ : Nat) (s : State) : Out :=
  s.ptpTake m at_ (fun s =>
    let s := s.ptpCount m.port 12
    let x := s.ptpPort m.port
    let drop := s.time.slavePort == m.port && (s.injection 0x0E 0 0).isSome
    let own := s.time.slavePort == m.port && s.time.parent == m.clockId
    let ok := s.syncValid m && !drop
    let s := if drop || !own then s
      else if twoStep then s.setPtp m.port { x with twoStep := some (m.seq, at_, corr) }
      else
        let s := s.setPtp m.port { x with rxSeq := some m.seq, syncDiff := s.taiNow at_ - origin - corr }
        if ok then s.validSync at_ (origin + corr + x.meanDelay) else s
    if s.cfg.ptpRole = 2 then
      let s := if own then s else s.setPtp m.port { s.ptpPort m.port with twoStep := if twoStep then some (m.seq, at_, corr) else none }
      if twoStep then s.ptpForward m 0 corr none else s.ptpForward m 0 (corr + x.meanDelay) (some at_)
    else s)

/-- PTP_FOLLOW_UP_RECEIVE: completes the two-step Sync of its number, and is forwarded with the Sync's residence and
the link delay (R324). -/
def execPtpFollowUpReceive (m : PtpMsg) (origin : Nat) (corr : Int) (at_ : Nat) (s : State) : Out :=
  s.ptpTake m at_ (fun s =>
    let x := s.ptpPort m.port
    match x.twoStep with
    | none => s
    | some (n, rx, c) =>
      if n ≠ m.seq then s
      else
        let own := s.time.slavePort == m.port && s.time.parent == m.clockId
        let ok := s.syncValid m
        let s := s.setPtp m.port { x with twoStep := none }
        let s := if !own then s
          else
            let s := s.setPtp m.port { s.ptpPort m.port with rxSeq := some m.seq, syncDiff := s.taiNow rx - origin - corr - c }
            if ok then s.validSync rx (origin + corr + c + x.meanDelay) else s
        if s.cfg.ptpRole = 2 then s.ptpForward m 8 (corr + x.meanDelay) (some rx) else s)

/-- PTP_SOURCE_LOST: three Sync intervals without a valid Sync, or the Announce receipt timeout (R322, R329). -/
def execPtpSourceLost (s : State) : Out :=
  .next (
    let servoing := s.time.servo == Servo.acquire || s.time.servo == Servo.locked
    if !servoing && s.time.slavePort = 255 then s
    else
      let ann := s.time.lastAnn + 3 * s.cfg.announceTime
      let due := if servoing then min (s.time.lastSync + 3000000000) ann else ann
      let s := s.clockTo due
      let s := if ann ≤ s.now then s.bmca else s
      let s := { s with time := { s.time with syncCount := 0 } }
      if servoing then s.servoTo (if s.time.wasLocked then .holdover else .free) else s)

/-! ## Delays (R325) -/

/-- An exchange's result: a delay of 0 to 100 µs is valid, any other one is a failure. `d2` is twice the delay. -/
def State.delayDone (s : State) (port : Nat) (d2 : Int) : State :=
  let x := { s.ptpPort port with request := none }
  if d2 < 0 || 200000 < d2 then (s.setPtp port x).ptpCount port 20
  else
    let x := { x with delays := ((d2 / 2).toNat :: x.delays).take 8, lastValid := some s.now }
    let s := s.setPtp port x
    if s.time.slavePort = port then { s with time.pathDelay := x.meanDelay } else s

/-- A request goes out, and waits for its answer. -/
def State.delayAsk (s : State) (port kind : Nat) : State :=
  let x := s.ptpPort port
  let s := s.setPtp port { x with request := some (x.reqSeq, s.now), reqSeq := (x.reqSeq + 1) % 65536 }
  s.ptpSend port kind x.reqSeq 0 none

/-- PTP_PDELAY_REQ_SEND (R325). -/
def execPtpPdelayReqSend (port : Nat) (s : State) : Out :=
  .next (if s.cfg.ptpMask port && s.cfg.ptpProfile ≤ 1 then s.delayAsk port 2 else s)

/-- PTP_DELAY_REQ_SEND: under profile 2, by a slave port (R325). -/
def execPtpDelayReqSend (port : Nat) (s : State) : Out :=
  .next (if s.cfg.ptpMask port && s.cfg.ptpProfile = 2 && s.time.slavePort = port then s.delayAsk port 1 else s)

/-- PTP_PDELAY_REQ_RECEIVE: a one-step answer whose correction takes the turnaround as it leaves (R325). -/
def execPtpPdelayReqReceive (m : PtpMsg) (at_ : Nat) (s : State) : Out :=
  s.ptpTake m at_ (fun s => if s.cfg.ptpProfile ≤ 1 then s.ptpSend m.port 3 m.seq 0 (some at_) else s)

/-- PTP_DELAY_REQ_RECEIVE: a master port answers under profile 2 (R325). -/
def execPtpDelayReqReceive (m : PtpMsg) (at_ : Nat) (s : State) : Out :=
  s.ptpTake m at_ (fun s =>
    if s.cfg.ptpProfile = 2 && (s.ptpPort m.port).state = 6 then s.ptpSend m.port 9 m.seq 0 none else s)

/-- PTP_PDELAY_RESP_RECEIVE: completes the exchange of its number (R325). `t3` is when the neighbour sent it. -/
def execPtpPdelayRespReceive (m : PtpMsg) (t3 : Nat) (corr : Int) (at_ : Nat) (s : State) : Out :=
  s.ptpTake m at_ (fun s =>
    let x := s.ptpPort m.port
    match x.request with
    | some (n, t1) =>
      if n ≠ m.seq || s.cfg.ptpProfile = 2 then s
      else if t1 + 500000000 < at_ then (s.setPtp m.port { x with request := none }).ptpCount m.port 20
      else
        let ratio : Int := match x.prevResp with
          | some (a, b) => if b < at_ then divRoundAway (((t3 : Int) - a - (at_ - b)) * 1000000000) (at_ - b) else x.ratioErr
          | none => x.ratioErr
        let s := s.setPtp m.port { x with prevResp := some (t3, at_), ratioErr := satI32 ratio }
        s.delayDone m.port ((at_ : Int) - t1 - corr)
    | none => s)

/-- PTP_DELAY_RESP_RECEIVE: `rx` is when the master received the request (R325). -/
def execPtpDelayRespReceive (m : PtpMsg) (rx : Nat) (corr : Int) (at_ : Nat) (s : State) : Out :=
  s.ptpTake m at_ (fun s =>
    let x := s.ptpPort m.port
    match x.request with
    | some (n, t3) =>
      if n ≠ m.seq || s.cfg.ptpProfile ≠ 2 || s.time.slavePort ≠ m.port || s.time.parent ≠ m.clockId then s
      else if t3 + 500000000 < at_ then (s.setPtp m.port { x with request := none }).ptpCount m.port 20
      else s.delayDone m.port (x.syncDiff + (rx - corr - s.taiNow t3))
    | none => s)

/-- PTP_PDELAY_TIMEOUT: no response within 500 ms (R325). -/
def execPtpPdelayTimeout (port : Nat) (s : State) : Out :=
  .next (match (s.ptpPort port).request with
    | some (_, t1) =>
      let s := s.clockTo (t1 + 500000000)
      (s.setPtp port { s.ptpPort port with request := none }).ptpCount port 20
    | none => s)

/-! ## Master ports (R322, R324) -/

/-- PTP_SYNC_SEND (R324). -/
def execPtpSyncSend (port : Nat) (s : State) : Out :=
  .next (if s.cfg.ptpMask port && (s.ptpPort port).state = 6 then
      let x := s.ptpPort port
      (s.setPtp port { x with syncSeq := (x.syncSeq + 1) % 65536 }).ptpSend port 0 x.syncSeq 0 none
    else s)

/-- PTP_ANNOUNCE_SEND (R322). -/
def execPtpAnnounceSend (port : Nat) (s : State) : Out :=
  .next (if s.cfg.ptpMask port && (s.ptpPort port).state = 6 then
      let x := s.ptpPort port
      (s.setPtp port { x with annSeq := (x.annSeq + 1) % 65536 }).ptpSend port 11 x.annSeq 0 none
    else s)

end Machine
end Sys2Proof
end

