-- ==== Sys2Proof/Machine/Registers.lean ====
section
/-! DEFINITION. Writes to the registers of BAR0 and the MSI-X tables, by their access codes (R3, R5, R82). The offsets
from 0x10000 on are those of the PF's BAR4 (log 34). -/

namespace Sys2Proof
namespace Machine

/-- The state a row leaves; the rows used here never stop. -/
def State.viaRow (s : State) (o : Out) : State :=
  match o with
  | .next t => t
  | _ => s

/-- The low half of a 64-bit register pair. -/
def putLo (old : Nat) (v : Word) (keep : Nat) : Nat := 4294967296 * (old / 4294967296) + v.toNat / keep * keep

/-- The high half of a 64-bit register pair. -/
def putHi (old : Nat) (v : Word) : Nat := old % 4294967296 + 4294967296 * v.toNat

/-! ## Mailbox channels (R92, R93, R128) -/

/-- The most pages an extended parameter buffer has (R92, R128). -/
def maxPages : Path → Nat
  | .mb _ => 16
  | _ => 4

/-- The base and size registers of a channel; ignored while it is enabled (R93). -/
def Chan.putBase (c : Chan) (p : Path) (off : Nat) (v : Word) : Chan :=
  if c.enabled then c
  else match off with
    | 0x00 => { c with sqBase := putLo c.sqBase v 64 }
    | 0x04 => { c with sqBase := putHi c.sqBase v }
    | 0x08 => { c with cqBase := putLo c.cqBase v 64 }
    | 0x0C => { c with cqBase := putHi c.cqBase v }
    | 0x10 => { c with xpBase := putLo c.xpBase v 4096 }
    | 0x14 => { c with xpBase := putHi c.xpBase v }
    | 0x18 => { c with xpPages := min (maxPages p) (v.toNat % (2 * maxPages p)) }
    | _ => c

/-- A write in a mailbox channel's registers. -/
def State.putMb (s : State) (p : Path) (off : Nat) (v : Word) : State :=
  match off with
  | 0x1C => s.viaRow (if v.getLsbD 0 then execMbChannelEnable p s else execMbChannelDisable p s)
  | 0x20 =>
    let c := s.chan p
    s.setChan p { c with tailErr := c.tailErr && !v.getLsbD 3, fetchErr := c.fetchErr && !v.getLsbD 2 }
  | 0x24 => s.viaRow (execMbSqTailWrite p v s)
  | 0x2C => s.viaRow (execMbCqHeadWrite p v s)
  | _ => if off ≤ 0x18 then s.setChan p ((s.chan p).putBase p off v) else s

/-! ## DMA channels (R143, R146) -/

/-- RING_LOG2 as it is stored. -/
def ringLog2 (v : Nat) : Nat := max 4 (min 12 v)

/-- The registers of a channel's ring and its settings; ignored while EN is set (R146). -/
def DmaChan.putCfg (c : DmaChan) (off : Nat) (v : Word) : DmaChan :=
  if c.en then c
  else match off with
    | 0x00 => { c with ring := putLo c.ring v 4096 }
    | 0x04 => { c with ring := putHi c.ring v }
    | _ => { c with
      log2 := ringLog2 (v.toNat / 4096 % 16), burst := min 6 (v.toNat / 256 % 8), prio := v.toNat % 4 }

/-- A write in a DMA channel's registers. -/
def State.putDma (s : State) (ch off : Nat) (v : Word) : State :=
  let c := s.dmaChan ch
  match off with
  | 0x0C => s.viaRow (if v.getLsbD 2 then execDmaAbort ch s else if v.getLsbD 0 then execDmaEnable ch s else execDmaDisable ch s)
  | 0x10 => s.setDma ch { c with
      tailErr := c.tailErr && !v.getLsbD 9, errStop := c.errStop && !v.getLsbD 6, descErr := c.descErr && !v.getLsbD 5
      abortDone := c.abortDone && !v.getLsbD 4, shEvt := c.shEvt && !v.getLsbD 3, descDone := c.descDone && !v.getLsbD 2
      poisonSeen := c.poisonSeen && !v.getLsbD 1 }
  | 0x14 => s.viaRow (execDmaTailWrite ch v s)
  | 0x1C => if c.shPend then s else s.setDma ch { c with shBurst := min 6 (v.toNat / 256 % 8), shPrio := v.toNat % 4 }
  | 0x20 =>
    let s := if v.getLsbD 1 then s.viaRow (execDmaShadowDisarm ch false s) else s
    if v.getLsbD 0 then s.viaRow (execDmaShadowArm ch false s) else s
  | _ => if off ≤ 0x08 then s.setDma ch (c.putCfg off v) else s

/-! ## ECC (R450, R452) -/

/-- The flip registers; ignored while a flip is armed (R452). -/
def MemBlk.putFlip (m : MemBlk) (off : Nat) (v : Word) : MemBlk :=
  if m.flipArmed then m
  else match off with
    | 0x080 => { m with flipAddr := putLo m.flipAddr v 8 }
    | 0x084 => { m with flipAddr := m.flipAddr % 4294967296 + 4294967296 * (v.toNat % 16) }
    | 0x088 => { m with flipMask := 4294967296 * (m.flipMask / 4294967296) + v.toNat }
    | 0x08C => { m with flipMask := m.flipMask / 2 ^ 64 * 2 ^ 64 + 4294967296 * v.toNat + m.flipMask % 4294967296 }
    | 0x090 => { m with flipMask := v.toNat % 256 * 2 ^ 64 + m.flipMask % 2 ^ 64 }
    | _ => m

/-- A write in the ECC block. -/
def State.putEcc (s : State) (off : Nat) (v : Word) : State :=
  match off with
  | 0x004 => { s with mem.evt := s.mem.evt &&& ~~~(v.truncate 7) }
  | 0x008 => { s with mem.evtMask := v.truncate 7 }
  | 0x094 =>
    let s := if v.getLsbD 1 then s.viaRow (execEccFlipDisarm false s) else s
    if v.getLsbD 0 then s.viaRow (execEccFlipArm s) else s
  | _ => { s with mem := s.mem.putFlip off v }

/-! ## MSI-X tables (R81, R90; log 6) -/

/-- A write to a dword of an entry: address, data, and the mask bit. -/
def State.putMsix (s : State) (fn off : Nat) (v : Word) : State :=
  let vec := off / 16
  if vec < msixVectors fn then
    let m := s.host.msixAt fn vec
    match off % 16 with
    | 0 => { s with host.msix := s.host.msix.set (64 * fn + vec) { m with addr := putLo m.addr v 4 } }
    | 4 => { s with host.msix := s.host.msix.set (64 * fn + vec) { m with addr := putHi m.addr v } }
    | 8 => { s with host.msix := s.host.msix.set (64 * fn + vec) { m with data := v.toNat } }
    | _ =>
      if v.getLsbD 0 then { s with host.msix := s.host.msix.set (64 * fn + vec) { m with masked := true } }
      else s.viaRow (execMsixVectorUnmask fn vec s)
  else s

/-! ## BAR0 (R83, R107) -/

/-- A write in the PF's BAR0 and BAR4. -/
def State.putPf (s : State) (off : Nat) (v : Word) : State :=
  if off = 0x20 then s.viaRow (execMbBar2BaseWrite v s)
  else if off = 0x28 then { s with host.scratch := v }
  else if off = 0x100 then s.viaRow (execIntCauseWrite v 0 s)
  else if off = 0x104 then s.viaRow (execIntMaskWrite v s)
  else if off = 0x108 then s.viaRow (execIntDmaCauseWrite v 0 s)
  else if off = 0x10C then s.viaRow (execIntDmaMaskWrite v s)
  else if 0x400 ≤ off ∧ off < 0x500 then s.putMb (.mb ((off - 0x400) / 64)) (off % 64) v
  else if off = 0x82C then { s with rtc.evt := s.rtc.evt &&& ~~~(v.truncate 6) }
  else if off = 0x830 then { s with rtc.evtMask := v.truncate 6 }
  else if off = 0xC14 then { s with time.evt := s.time.evt &&& ~~~(v.truncate 8) }
  else if off = 0xC18 then { s with time.evtMask := v.truncate 8 }
  else if 0x1000 ≤ off ∧ off < 0x1800 then s.putDma ((off - 0x1000) / 64) (off % 64) v
  else if 0x2000 ≤ off ∧ off < 0x3000 then s.putEcc (off - 0x2000) v
  else if 0x10000 ≤ off ∧ off < 0x11000 then s.putMsix 0 (off - 0x10000) v
  else s

/-- A write in a queue pair's registers (R108). -/
def State.putQueue (s : State) (n q off : Nat) (v : Word) : State :=
  if s.queueOk n q then
    match off with
    | 0x00 => s.viaRow (execVfRxqTailWrite n q v s)
    | 0x08 => s.viaRow (execVfTxqTailWrite n q v s)
    | 0x10 =>
      let x := (s.fn n).queue q
      s.setQueue n q { x with
        tailErr := x.tailErr && !v.getLsbD 6, txEvt := x.txEvt && !v.getLsbD 5, rxEvt := x.rxEvt && !v.getLsbD 4
        noBuf := x.noBuf && !v.getLsbD 3, fetchErr := x.fetchErr && !v.getLsbD 2 }
    | _ => s
  else s

/-- A write in a VF's BAR0 (R107 to R109, R128). -/
def State.putVf (s : State) (n off : Nat) (v : Word) : State :=
  if off < 0x800 then s.putQueue n (off / 32) (off % 32) v
  else if off = 0x800 then
    s.viaRow (if v.getLsbD 16 then execVfTripAssert n (v.toNat % 16) (v.toNat / 16777216) s.now s
      else execVfTripRelease n (v.toNat % 16) (v.toNat / 16777216) s.now s)
  else if 0x900 ≤ off ∧ off < 0x940 then s.putMb (.vf n) (off - 0x900) v
  else if off = 0xA00 then s.viaRow (execVfIntCauseWrite n v 0 s)
  else if off = 0xA04 then s.viaRow (execVfIntMaskWrite n v s)
  else if 0x2000 ≤ off ∧ off < 0x2100 then s.putMsix n (off - 0x2000) v
  else s

/-- REGISTER_WRITE: ignored unless it is one whole aligned dword of a function that exists (R3, R5, R82). -/
def execRegisterWrite (fn off : Nat) (v : Word) (allBytes : Bool) (s : State) : Out :=
  .next (if s.hostOn && allBytes && off % 4 == 0 && fn ≤ 127 then
    if fn = 0 then s.putPf off v else s.putVf fn off v
    else s)

end Machine
end Sys2Proof
end

