-- ==== Sys2Proof/Machine/Dispatch.lean ====
section
/-! DEFINITION. The dispatch: one arm per command, each one direct call of its meaning. -/

namespace Sys2Proof
namespace Machine

def exec (i : Instr) (s : State) : Host.Outcome State Fault Refusal :=
  match i with
  | .modStateSet p => Sys2Proof.Machine.execModStateSet p s
  | .modReset p => Sys2Proof.Machine.execModReset p s
  | .modResetCause p => Sys2Proof.Machine.execModResetCause p s
  | .hostLinkCfg p => Sys2Proof.Machine.execHostLinkCfg p s
  | .hostLinkStatus p => Sys2Proof.Machine.execHostLinkStatus p s
  | .mgmtTlsCfg p => Sys2Proof.Machine.execMgmtTlsCfg p s
  | .timeCfg p => Sys2Proof.Machine.execTimeCfg p s
  | .timeCfgRead p => Sys2Proof.Machine.execTimeCfgRead p s
  | .timeStatus p => Sys2Proof.Machine.execTimeStatus p s
  | .timeMapRead p => Sys2Proof.Machine.execTimeMapRead p s
  | .timePortStatus p => Sys2Proof.Machine.execTimePortStatus p s
  | .timeManualSet p => Sys2Proof.Machine.execTimeManualSet p s
  | .portStage p => Sys2Proof.Machine.execPortStage p s
  | .portRead p => Sys2Proof.Machine.execPortRead p s
  | .portFilterStage p => Sys2Proof.Machine.execPortFilterStage p s
  | .portFilterRead p => Sys2Proof.Machine.execPortFilterRead p s
  | .portStatus p => Sys2Proof.Machine.execPortStatus p s
  | .portStats p => Sys2Proof.Machine.execPortStats p s
  | .portSfpRead p => Sys2Proof.Machine.execPortSfpRead p s
  | .portIpCfg p => Sys2Proof.Machine.execPortIpCfg p s
  | .swCfg p => Sys2Proof.Machine.execSwCfg p s
  | .swClassStage p => Sys2Proof.Machine.execSwClassStage p s
  | .swPcpStage p => Sys2Proof.Machine.execSwPcpStage p s
  | .swVlanStage p => Sys2Proof.Machine.execSwVlanStage p s
  | .swFdbStage p => Sys2Proof.Machine.execSwFdbStage p s
  | .swFdbRead p => Sys2Proof.Machine.execSwFdbRead p s
  | .swFdbFlush p => Sys2Proof.Machine.execSwFdbFlush p s
  | .swCfgRead p => Sys2Proof.Machine.execSwCfgRead p s
  | .swStatus p => Sys2Proof.Machine.execSwStatus p s
  | .svStage p => Sys2Proof.Machine.execSvStage p s
  | .svUnstage p => Sys2Proof.Machine.execSvUnstage p s
  | .tblCommit p => Sys2Proof.Machine.execTblCommit p s
  | .tblDiscard p => Sys2Proof.Machine.execTblDiscard p s
  | .svRead p => Sys2Proof.Machine.execSvRead p s
  | .svStatus p => Sys2Proof.Machine.execSvStatus p s
  | .svStats p => Sys2Proof.Machine.execSvStats p s
  | .svSimMode p => Sys2Proof.Machine.execSvSimMode p s
  | .svLoad p => Sys2Proof.Machine.execSvLoad p s
  | .alnCfg p => Sys2Proof.Machine.execAlnCfg p s
  | .alnStreamCfg p => Sys2Proof.Machine.execAlnStreamCfg p s
  | .alnSlabBind p => Sys2Proof.Machine.execAlnSlabBind p s
  | .alnStatus p => Sys2Proof.Machine.execAlnStatus p s
  | .alnStreamStatus p => Sys2Proof.Machine.execAlnStreamStatus p s
  | .phCfg p => Sys2Proof.Machine.execPhCfg p s
  | .phProfileSet p => Sys2Proof.Machine.execPhProfileSet p s
  | .phMapSet p => Sys2Proof.Machine.execPhMapSet p s
  | .phBusSet p => Sys2Proof.Machine.execPhBusSet p s
  | .phTripleSet p => Sys2Proof.Machine.execPhTripleSet p s
  | .phSlabBind p => Sys2Proof.Machine.execPhSlabBind p s
  | .grdSet p => Sys2Proof.Machine.execGrdSet p s
  | .grdRead p => Sys2Proof.Machine.execGrdRead p s
  | .grdStatus p => Sys2Proof.Machine.execGrdStatus p s
  | .grdLogRead p => Sys2Proof.Machine.execGrdLogRead p s
  | .phStatus p => Sys2Proof.Machine.execPhStatus p s
  | .goosePubStage p => Sys2Proof.Machine.execGoosePubStage p s
  | .goosePubRead p => Sys2Proof.Machine.execGoosePubRead p s
  | .gooseSubStage p => Sys2Proof.Machine.execGooseSubStage p s
  | .gooseSubRead p => Sys2Proof.Machine.execGooseSubRead p s
  | .tripBind p => Sys2Proof.Machine.execTripBind p s
  | .gooseSubStatus p => Sys2Proof.Machine.execGooseSubStatus p s
  | .goosePubStatus p => Sys2Proof.Machine.execGoosePubStatus p s
  | .gooseStats p => Sys2Proof.Machine.execGooseStats p s
  | .tripLogRead p => Sys2Proof.Machine.execTripLogRead p s
  | .guarStatus p => Sys2Proof.Machine.execGuarStatus p s
  | .logLoad p => Sys2Proof.Machine.execLogLoad p s
  | .logExchange p => Sys2Proof.Machine.execLogExchange p s
  | .logMode p => Sys2Proof.Machine.execLogMode p s
  | .logStep p => Sys2Proof.Machine.execLogStep p s
  | .logForce p => Sys2Proof.Machine.execLogForce p s
  | .logCfg p => Sys2Proof.Machine.execLogCfg p s
  | .logRestart p => Sys2Proof.Machine.execLogRestart p s
  | .logStatus p => Sys2Proof.Machine.execLogStatus p s
  | .logRead p => Sys2Proof.Machine.execLogRead p s
  | .logForceRead p => Sys2Proof.Machine.execLogForceRead p s
  | .brioSegCfg p => Sys2Proof.Machine.execBrioSegCfg p s
  | .brioStage p => Sys2Proof.Machine.execBrioStage p s
  | .brioRead p => Sys2Proof.Machine.execBrioRead p s
  | .brioStatus p => Sys2Proof.Machine.execBrioStatus p s
  | .brioStats p => Sys2Proof.Machine.execBrioStats p s
  | .brioSegStatus p => Sys2Proof.Machine.execBrioSegStatus p s
  | .recCfg p => Sys2Proof.Machine.execRecCfg p s
  | .recArm p => Sys2Proof.Machine.execRecArm p s
  | .recTrigger p => Sys2Proof.Machine.execRecTrigger p s
  | .recStatus p => Sys2Proof.Machine.execRecStatus p s
  | .recSlots p => Sys2Proof.Machine.execRecSlots p s
  | .recRelease p => Sys2Proof.Machine.execRecRelease p s
  | .recLogRead p => Sys2Proof.Machine.execRecLogRead p s
  | .longeCfg p => Sys2Proof.Machine.execLongeCfg p s
  | .longeStart p => Sys2Proof.Machine.execLongeStart p s
  | .longeStop p => Sys2Proof.Machine.execLongeStop p s
  | .longeStatus p => Sys2Proof.Machine.execLongeStatus p s
  | .firnStatus p => Sys2Proof.Machine.execFirnStatus p s
  | .firnRead p => Sys2Proof.Machine.execFirnRead p s
  | .firnFreeze p => Sys2Proof.Machine.execFirnFreeze p s
  | .firnClear p => Sys2Proof.Machine.execFirnClear p s
  | .safeStatus p => Sys2Proof.Machine.execSafeStatus p s
  | .safeCfgLoad p => Sys2Proof.Machine.execSafeCfgLoad p s
  | .safeCfgCommit p => Sys2Proof.Machine.execSafeCfgCommit p s
  | .safeCfgRead p => Sys2Proof.Machine.execSafeCfgRead p s
  | .safeHalter p => Sys2Proof.Machine.execSafeHalter p s
  | .safeReset p => Sys2Proof.Machine.execSafeReset p s
  | .safeHarnessStatus p => Sys2Proof.Machine.execSafeHarnessStatus p s
  | .authNonce p => Sys2Proof.Machine.execAuthNonce p s
  | .secStatus p => Sys2Proof.Machine.execSecStatus p s
  | .secAttest p => Sys2Proof.Machine.execSecAttest p s
  | .secImportSession p => Sys2Proof.Machine.execSecImportSession p s
  | .secKeyImport p => Sys2Proof.Machine.execSecKeyImport p s
  | .secKeyRemove p => Sys2Proof.Machine.execSecKeyRemove p s
  | .secKeyInfo p => Sys2Proof.Machine.execSecKeyInfo p s
  | .secOperatorEnrol p => Sys2Proof.Machine.execSecOperatorEnrol p s
  | .secBackup p => Sys2Proof.Machine.execSecBackup p s
  | .secRestore p => Sys2Proof.Machine.execSecRestore p s
  | .secCfg p => Sys2Proof.Machine.execSecCfg p s
  | .secDebugDisable p => Sys2Proof.Machine.execSecDebugDisable p s
  | .secRollbackCommit p => Sys2Proof.Machine.execSecRollbackCommit p s
  | .secKeyrev p => Sys2Proof.Machine.execSecKeyrev p s
  | .secZeroise p => Sys2Proof.Machine.execSecZeroise p s
  | .secTamperClear p => Sys2Proof.Machine.execSecTamperClear p s
  | .secCertRead p => Sys2Proof.Machine.execSecCertRead p s
  | .redCfg p => Sys2Proof.Machine.execRedCfg p s
  | .redCfgRead p => Sys2Proof.Machine.execRedCfgRead p s
  | .redStatus p => Sys2Proof.Machine.execRedStatus p s
  | .redHealth p => Sys2Proof.Machine.execRedHealth p s
  | .redSwitch p => Sys2Proof.Machine.execRedSwitch p s
  | .redIsolate p => Sys2Proof.Machine.execRedIsolate p s
  | .redDeepTest p => Sys2Proof.Machine.execRedDeepTest p s
  | .vfInfo p => Sys2Proof.Machine.execVfInfo p s
  | .vfQCfg p => Sys2Proof.Machine.execVfQCfg p s
  | .vfQCtrl p => Sys2Proof.Machine.execVfQCtrl p s
  | .vfStats p => Sys2Proof.Machine.execVfStats p s
  | .vfCfg p => Sys2Proof.Machine.execVfCfg p s
  | .vfShareSet p => Sys2Proof.Machine.execVfShareSet p s
  | .vfFreeze p => Sys2Proof.Machine.execVfFreeze p s
  | .vfSave p => Sys2Proof.Machine.execVfSave p s
  | .vfRestore p => Sys2Proof.Machine.execVfRestore p s
  | .vfUnfreeze p => Sys2Proof.Machine.execVfUnfreeze p s
  | .vfDirtyStart p => Sys2Proof.Machine.execVfDirtyStart p s
  | .vfDirtySync p => Sys2Proof.Machine.execVfDirtySync p s
  | .vfDirtyStop p => Sys2Proof.Machine.execVfDirtyStop p s
  | .vfStatus p => Sys2Proof.Machine.execVfStatus p s
  | .memFill p => Sys2Proof.Machine.execMemFill p s
  | .memScrub p => Sys2Proof.Machine.execMemScrub p s
  | .memStatus p => Sys2Proof.Machine.execMemStatus p s
  | .memEccLogRead p => Sys2Proof.Machine.execMemEccLogRead p s
  | .diagInject p => Sys2Proof.Machine.execDiagInject p s
  | .diagInjectStatus p => Sys2Proof.Machine.execDiagInjectStatus p s
  | .diagBist p => Sys2Proof.Machine.execDiagBist p s
  | .diagActivities p => Sys2Proof.Machine.execDiagActivities p s
  | .fwInstall p => Sys2Proof.Machine.execFwInstall p s
  | .fwSelect p => Sys2Proof.Machine.execFwSelect p s
  | .fwInfo p => Sys2Proof.Machine.execFwInfo p s
  | .rtcRead p => Sys2Proof.Machine.execRtcRead p s
  | .rtcSet p => Sys2Proof.Machine.execRtcSet p s
  | .rtcCfg p => Sys2Proof.Machine.execRtcCfg p s
  | .mbSqTailWrite p v => Sys2Proof.Machine.execMbSqTailWrite p v s
  | .mbCqHeadWrite p v => Sys2Proof.Machine.execMbCqHeadWrite p v s
  | .mbChannelEnable p => Sys2Proof.Machine.execMbChannelEnable p s
  | .mbChannelDisable p => Sys2Proof.Machine.execMbChannelDisable p s
  | .mbChannelIdle p => Sys2Proof.Machine.execMbChannelIdle p s
  | .mailboxFetch p f => Sys2Proof.Machine.execMailboxFetch p f s
  | .authLockoutEnd => Sys2Proof.Machine.execAuthLockoutEnd s
  | .nonceExpiry p => Sys2Proof.Machine.execNonceExpiry p s
  | .importSessionExpiry p => Sys2Proof.Machine.execImportSessionExpiry p s
  | .mbBar2BaseWrite v => Sys2Proof.Machine.execMbBar2BaseWrite v s
  | .bar2Read off len => Sys2Proof.Machine.execBar2Read off len s
  | .bar2Write off data poisoned => Sys2Proof.Machine.execBar2Write off data poisoned s
  | .intCauseWrite v setting => Sys2Proof.Machine.execIntCauseWrite v setting s
  | .intMaskWrite v => Sys2Proof.Machine.execIntMaskWrite v s
  | .intDmaCauseWrite v setting => Sys2Proof.Machine.execIntDmaCauseWrite v setting s
  | .intDmaMaskWrite v => Sys2Proof.Machine.execIntDmaMaskWrite v s
  | .msixVectorUnmask fn vec => Sys2Proof.Machine.execMsixVectorUnmask fn vec s
  | .vfIntCauseWrite n v setting => Sys2Proof.Machine.execVfIntCauseWrite n v setting s
  | .vfIntMaskWrite n v => Sys2Proof.Machine.execVfIntMaskWrite n v s
  | .vfRxqTailWrite n q v => Sys2Proof.Machine.execVfRxqTailWrite n q v s
  | .vfTxqTailWrite n q v => Sys2Proof.Machine.execVfTxqTailWrite n q v s
  | .vfTripAssert n slot cookie at_ => Sys2Proof.Machine.execVfTripAssert n slot cookie at_ s
  | .vfTripRelease n slot cookie at_ => Sys2Proof.Machine.execVfTripRelease n slot cookie at_ s
  | .dmaTailWrite ch v => Sys2Proof.Machine.execDmaTailWrite ch v s
  | .dmaEnable ch => Sys2Proof.Machine.execDmaEnable ch s
  | .dmaDisable ch => Sys2Proof.Machine.execDmaDisable ch s
  | .dmaAbort ch => Sys2Proof.Machine.execDmaAbort ch s
  | .dmaAbortDone ch => Sys2Proof.Machine.execDmaAbortDone ch s
  | .dmaShadowArm ch descriptorEnding => Sys2Proof.Machine.execDmaShadowArm ch descriptorEnding s
  | .dmaShadowDisarm ch taken => Sys2Proof.Machine.execDmaShadowDisarm ch taken s
  | .dmaDescriptorFetch ch f => Sys2Proof.Machine.execDmaDescriptorFetch ch f s
  | .dmaDescriptorStart ch => Sys2Proof.Machine.execDmaDescriptorStart ch s
  | .dmaBeatArbitration => Sys2Proof.Machine.execDmaBeatArbitration s
  | .dmaReadCompletion ch f poison => Sys2Proof.Machine.execDmaReadCompletion ch f poison s
  | .dmaDescriptorEnd ch => Sys2Proof.Machine.execDmaDescriptorEnd ch s
  | .timeNsRead => Sys2Proof.Machine.execTimeNsRead s
  | .timeMarkCurRead => Sys2Proof.Machine.execTimeMarkCurRead s
  | .timePpsNsRead => Sys2Proof.Machine.execTimePpsNsRead s
  | .rtcSubsecRead => Sys2Proof.Machine.execRtcSubsecRead s
  | .rtcYearRead => Sys2Proof.Machine.execRtcYearRead s
  | .eccCeAddrRead => Sys2Proof.Machine.execEccCeAddrRead s
  | .eccUeAddrRead => Sys2Proof.Machine.execEccUeAddrRead s
  | .eccFlipArm => Sys2Proof.Machine.execEccFlipArm s
  | .eccFlipDisarm sameCycle => Sys2Proof.Machine.execEccFlipDisarm sameCycle s
  | .registerWrite fn off v allBytes => Sys2Proof.Machine.execRegisterWrite fn off v allBytes s
  | .suppliesGood j2 => Sys2Proof.Machine.execSuppliesGood j2 s
  | .domainPowerGood d refclk => Sys2Proof.Machine.execDomainPowerGood d refclk s
  | .powerSeqTimeout d => Sys2Proof.Machine.execPowerSeqTimeout d s
  | .powerSeqRetry => Sys2Proof.Machine.execPowerSeqRetry s
  | .powerFailDetect => Sys2Proof.Machine.execPowerFailDetect s
  | .powerFailStep => Sys2Proof.Machine.execPowerFailStep s
  | .moduleReset c detail => Sys2Proof.Machine.execModuleReset c detail s
  | .bootSequence b => Sys2Proof.Machine.execBootSequence b s
  | .resetCountExpiry => Sys2Proof.Machine.execResetCountExpiry s
  | .perstAssert => Sys2Proof.Machine.execPerstAssert s
  | .pcieHotReset => Sys2Proof.Machine.execPcieHotReset s
  | .pcieLinkDown => Sys2Proof.Machine.execPcieLinkDown s
  | .pfFlr => Sys2Proof.Machine.execPfFlr s
  | .pcieLinkTrained speed width => Sys2Proof.Machine.execPcieLinkTrained speed width s
  | .vfFlr n => Sys2Proof.Machine.execVfFlr n s
  | .j2Loss => Sys2Proof.Machine.execJ2Loss s
  | .aoSupplyChangeover v33 aux cell => Sys2Proof.Machine.execAoSupplyChangeover v33 aux cell s
  | .aoBrownout => Sys2Proof.Machine.execAoBrownout s
  | .tempWarnRaise sensor t => Sys2Proof.Machine.execTempWarnRaise sensor t s
  | .tempWarnClear => Sys2Proof.Machine.execTempWarnClear s
  | .thermalReset sensor => Sys2Proof.Machine.execThermalReset sensor s
  | .thermalRelease => Sys2Proof.Machine.execThermalRelease s
  | .cellMeasure mv => Sys2Proof.Machine.execCellMeasure mv s
  | .cellInsertion => Sys2Proof.Machine.execCellInsertion s
  | .rootPllUnlock => Sys2Proof.Machine.execRootPllUnlock s
  | .oscFault => Sys2Proof.Machine.execOscFault s
  | .clockMonitorFault stopped count => Sys2Proof.Machine.execClockMonitorFault stopped count s
  | .watchdogExpiry => Sys2Proof.Machine.execWatchdogExpiry s
  | .tamperLoopSample open_ => Sys2Proof.Machine.execTamperLoopSample open_ s
  | .tamperEvent src => Sys2Proof.Machine.execTamperEvent src s
  | .sealSwitchChange pos on => Sys2Proof.Machine.execSealSwitchChange pos on s
  | .sfpModAbsDeassert port id => Sys2Proof.Machine.execSfpModAbsDeassert port id s
  | .sfpModAbsAssert port => Sys2Proof.Machine.execSfpModAbsAssert port s
  | .sfpTxFault port => Sys2Proof.Machine.execSfpTxFault port s
  | .sfpTxFaultCheck port persists => Sys2Proof.Machine.execSfpTxFaultCheck port persists s
  | .sfpDiagPoll port diag => Sys2Proof.Machine.execSfpDiagPoll port diag s
  | .cageOvercurrent port => Sys2Proof.Machine.execCageOvercurrent port s
  | .portLinkUp port => Sys2Proof.Machine.execPortLinkUp port s
  | .portLinkDown port cause => Sys2Proof.Machine.execPortLinkDown port cause s
  | .laneRelockAttempt port locks => Sys2Proof.Machine.execLaneRelockAttempt port locks s
  | .peVerifySend port => Sys2Proof.Machine.execPeVerifySend port s
  | .peVerifyResponse port => Sys2Proof.Machine.execPeVerifyResponse port s
  | .frameReceive port f at_ => Sys2Proof.Machine.execFrameReceive port f at_ s
  | .pauseFrameReceive port quanta => Sys2Proof.Machine.execPauseFrameReceive port quanta s
  | .p7PacketReceive kind target len => Sys2Proof.Machine.execP7PacketReceive kind target len s
  | .egressTransmitStart port => Sys2Proof.Machine.execEgressTransmitStart port s
  | .resequenceTimeout id => Sys2Proof.Machine.execResequenceTimeout id s
  | .fdbAgeSweep => Sys2Proof.Machine.execFdbAgeSweep s
  | .svFrameIngest k f at_ => Sys2Proof.Machine.execSvFrameIngest k f at_ s
  | .svStreamLoss k => Sys2Proof.Machine.execSvStreamLoss k s
  | .svLanMissing k lanB => Sys2Proof.Machine.execSvLanMissing k lanB s
  | .prpWindowTimeout k => Sys2Proof.Machine.execPrpWindowTimeout k s
  | .coarseValue k => Sys2Proof.Machine.execCoarseValue k s
  | .coarseDeadline k => Sys2Proof.Machine.execCoarseDeadline k s
  | .fineEmission k => Sys2Proof.Machine.execFineEmission k s
  | .guardEvaluation => Sys2Proof.Machine.execGuardEvaluation s
  | .slabDelivery fn q desc => Sys2Proof.Machine.execSlabDelivery fn q desc s
  | .gridSecondMark => Sys2Proof.Machine.execGridSecondMark s
  | .ppsOutFall => Sys2Proof.Machine.execPpsOutFall s
  | .pendingMarkWrite sec => Sys2Proof.Machine.execPendingMarkWrite sec s
  | .ptpSyncReceive m origin corr twoStep at_ => Sys2Proof.Machine.execPtpSyncReceive m origin corr twoStep at_ s
  | .ptpFollowUpReceive m origin corr at_ => Sys2Proof.Machine.execPtpFollowUpReceive m origin corr at_ s
  | .ptpAnnounceReceive m a at_ => Sys2Proof.Machine.execPtpAnnounceReceive m a at_ s
  | .ptpPdelayReqReceive m at_ => Sys2Proof.Machine.execPtpPdelayReqReceive m at_ s
  | .ptpPdelayRespReceive m t3 corr at_ => Sys2Proof.Machine.execPtpPdelayRespReceive m t3 corr at_ s
  | .ptpDelayReqReceive m at_ => Sys2Proof.Machine.execPtpDelayReqReceive m at_ s
  | .ptpPdelayReqSend port => Sys2Proof.Machine.execPtpPdelayReqSend port s
  | .ptpPdelayTimeout port => Sys2Proof.Machine.execPtpPdelayTimeout port s
  | .ptpDelayReqSend port => Sys2Proof.Machine.execPtpDelayReqSend port s
  | .ptpSyncSend port => Sys2Proof.Machine.execPtpSyncSend port s
  | .ptpAnnounceSend port => Sys2Proof.Machine.execPtpAnnounceSend port s
  | .ptpSourceLost => Sys2Proof.Machine.execPtpSourceLost s
  | .holdoverExpired => Sys2Proof.Machine.execHoldoverExpired s
  | .ppsInEdge at_ => Sys2Proof.Machine.execPpsInEdge at_ s
  | .rtcSecondEnd at_ => Sys2Proof.Machine.execRtcSecondEnd at_ s
  | .rtcAlignCompare => Sys2Proof.Machine.execRtcAlignCompare s
  | .trimWindowClose count => Sys2Proof.Machine.execTrimWindowClose count s
  | .trimWindowAbandon => Sys2Proof.Machine.execTrimWindowAbandon s
  | .logicScan => Sys2Proof.Machine.execLogicScan s
  | .logicOverrun => Sys2Proof.Machine.execLogicOverrun s
  | .logicFault => Sys2Proof.Machine.execLogicFault s
  | .logLoadIdleDiscard => Sys2Proof.Machine.execLogLoadIdleDiscard s
  | .gooseRetransmission p => Sys2Proof.Machine.execGooseRetransmission p s
  | .gooseFrameReceive g f at_ => Sys2Proof.Machine.execGooseFrameReceive g f at_ s
  | .gooseTalExpiry g => Sys2Proof.Machine.execGooseTalExpiry g s
  | .brioCycleStart seg => Sys2Proof.Machine.execBrioCycleStart seg s
  | .brioCycleAbort seg => Sys2Proof.Machine.execBrioCycleAbort seg s
  | .brioInputReceive seg dst src b at_ => Sys2Proof.Machine.execBrioInputReceive seg dst src b at_ s
  | .brioCycleReceive seg src b at_ => Sys2Proof.Machine.execBrioCycleReceive seg src b at_ s
  | .brioWindowClose seg => Sys2Proof.Machine.execBrioWindowClose seg s
  | .brioSegmentTake seg => Sys2Proof.Machine.execBrioSegmentTake seg s
  | .safetySlot inp => Sys2Proof.Machine.execSafetySlot inp s
  | .inputFilterChange n ch v => Sys2Proof.Machine.execInputFilterChange n ch v s
  | .discrepancyFault n => Sys2Proof.Machine.execDiscrepancyFault n s
  | .offDelayExpiry n => Sys2Proof.Machine.execOffDelayExpiry n s
  | .outputDarkTest n high ok => Sys2Proof.Machine.execOutputDarkTest n high ok s
  | .outputOverload n => Sys2Proof.Machine.execOutputOverload n s
  | .fv24LowSet => Sys2Proof.Machine.execFv24LowSet s
  | .fv24LowClear => Sys2Proof.Machine.execFv24LowClear s
  | .safetyBackgroundTest pass => Sys2Proof.Machine.execSafetyBackgroundTest pass s
  | .harnessPduReceive port src b at_ => Sys2Proof.Machine.execHarnessPduReceive port src b at_ s
  | .harnessWatchdogExpiry conn pathB => Sys2Proof.Machine.execHarnessWatchdogExpiry conn pathB s
  | .harnessDualMismatch conn => Sys2Proof.Machine.execHarnessDualMismatch conn s
  | .harnessOutputCycle => Sys2Proof.Machine.execHarnessOutputCycle s
  | .heartbeatH1Send => Sys2Proof.Machine.execHeartbeatH1Send s
  | .heartbeatH2Send => Sys2Proof.Machine.execHeartbeatH2Send s
  | .heartbeatReceive path b at_ => Sys2Proof.Machine.execHeartbeatReceive path b at_ s
  | .heartbeatWindow path => Sys2Proof.Machine.execHeartbeatWindow path s
  | .fwStall => Sys2Proof.Machine.execFwStall s
  | .hbGenFail => Sys2Proof.Machine.execHbGenFail s
  | .bridleLineChange line v => Sys2Proof.Machine.execBridleLineChange line v s
  | .hbwQuiet => Sys2Proof.Machine.execHbwQuiet s
  | .brdDisc set => Sys2Proof.Machine.execBrdDisc set s
  | .bridleClaim => Sys2Proof.Machine.execBridleClaim s
  | .bridleClaimComplete => Sys2Proof.Machine.execBridleClaimComplete s
  | .bridleContention => Sys2Proof.Machine.execBridleContention s
  | .bridleRelease reason => Sys2Proof.Machine.execBridleRelease reason s
  | .phasorGroupReceive g at_ => Sys2Proof.Machine.execPhasorGroupReceive g at_ s
  | .farrierReady => Sys2Proof.Machine.execFarrierReady s
  | .takebackRequest => Sys2Proof.Machine.execTakebackRequest s
  | .handoverRelease => Sys2Proof.Machine.execHandoverRelease s
  | .handoverAbort => Sys2Proof.Machine.execHandoverAbort s
  | .firnEvent code data => Sys2Proof.Machine.execFirnEvent code data s
  | .firnRecordProgrammed => Sys2Proof.Machine.execFirnRecordProgrammed s
  | .firnAutoRelease => Sys2Proof.Machine.execFirnAutoRelease s
  | .firnEraseComplete => Sys2Proof.Machine.execFirnEraseComplete s
  | .recorderFrame inst => Sys2Proof.Machine.execRecorderFrame inst s
  | .recorderTrigger inst src => Sys2Proof.Machine.execRecorderTrigger inst src s
  | .xtrigEdge p at_ => Sys2Proof.Machine.execXtrigEdge p at_ s
  | .trigInputEdge n rising at_ => Sys2Proof.Machine.execTrigInputEdge n rising at_ s
  | .xtrigPulseEnd => Sys2Proof.Machine.execXtrigPulseEnd s
  | .segmentClose inst => Sys2Proof.Machine.execSegmentClose inst s
  | .recorderOverflow inst => Sys2Proof.Machine.execRecorderOverflow inst s
  | .rearmHoldoffEnd inst => Sys2Proof.Machine.execRearmHoldoffEnd inst s
  | .longeSample k => Sys2Proof.Machine.execLongeSample k s
  | .longeSourceEnd k => Sys2Proof.Machine.execLongeSourceEnd k s
  | .vfFrameDelivery fn q descs => Sys2Proof.Machine.execVfFrameDelivery fn q descs s
  | .vfTransmitFetch fn q desc data f => Sys2Proof.Machine.execVfTransmitFetch fn q desc data f s
  | .schedulerRound => Sys2Proof.Machine.execSchedulerRound s
  | .mergeBufferEvict => Sys2Proof.Machine.execMergeBufferEvict s
  | .sramError code ue row => Sys2Proof.Machine.execSramError code ue row s
  | .firmwareScrub ce ue poison => Sys2Proof.Machine.execFirmwareScrub ce ue poison s
  | .scrubComplete => Sys2Proof.Machine.execScrubComplete s
  | .fillComplete => Sys2Proof.Machine.execFillComplete s
  | .keyRemask => Sys2Proof.Machine.execKeyRemask s
  | .entropyHealthFail => Sys2Proof.Machine.execEntropyHealthFail s
  | .p7Connect certOk => Sys2Proof.Machine.execP7Connect certOk s
  | .p7CommandEntry session r => Sys2Proof.Machine.execP7CommandEntry session r s
  | .p7IdleTimeout session => Sys2Proof.Machine.execP7IdleTimeout session s
  | .injectionApplied n => Sys2Proof.Machine.execInjectionApplied n s
  | .injectionExpiry n => Sys2Proof.Machine.execInjectionExpiry n s
  | .debugTapAccess => Sys2Proof.Machine.execDebugTapAccess s
  | .mirrorImageReceive link img at_ => Sys2Proof.Machine.execMirrorImageReceive link img at_ s
  | .presInChange v => Sys2Proof.Machine.execPresInChange v s
  | .portsDown => Sys2Proof.Machine.execPortsDown s
  | .ptpDelayRespReceive m rx corr at_ => Sys2Proof.Machine.execPtpDelayRespReceive m rx corr at_ s
  | .mainsAbsentChange absent => Sys2Proof.Machine.execMainsAbsentChange absent s
  | .mainsZeroCrossing => Sys2Proof.Machine.execMainsZeroCrossing s
  | .p8Collision seg => Sys2Proof.Machine.execP8Collision seg s
  | .p8BackoffExpiry seg => Sys2Proof.Machine.execP8BackoffExpiry seg s

end Machine
end Sys2Proof
end

