-- ==== Sys2Proof/Machine/Step.lean ====
section
/-! DEFINITION. One step of the block: the command at the front of the queue, or one tick of CLK_TIME. -/

namespace Sys2Proof
namespace Machine

/-- An empty queue: while the clocks of PD_MGMT run, one tick of CLK_TIME passes (R314); the sessions whose delay has
ended close, and the self-tests whose time has come end (R105, R488; log 1). -/
def State.idleTick (s : State) : State :=
  if s.power.on.contains .mgmt then (State.p7Sweep { s with time := s.time.tick 1 }).bistSweep else s

/-- One step: the front command is taken off the queue and carried out on what is left (log 1). -/
def step (s : State) : Host.Outcome State Fault Refusal :=
  match s.pending with
  | [] => .next s.idleTick
  | c :: rest => exec c { s with pending := rest }

/-- The state with the command a word spells in front of its queue: no row of the table gives bits, so no
word spells one. -/
def State.withFetchWord (s : State) (nbits w : Nat) : State :=
  match decodeTableWord nbits w with
  | some c => { s with pending := c :: s.pending }
  | none => s

end Machine
end Sys2Proof
end

