-- ==== Sys2Proof/Safety.lean ====
section
/-! DEFINITION. The terms the claims use: a run in which no step stops, and a mailbox command that a path holds and no
check refuses. -/

namespace Sys2Proof
namespace Machine

/-- A step goes on. -/
def goesOn (o : Host.Outcome State Fault Refusal) : Bool :=
  match o with
  | .next _ => true
  | .fault _ => false
  | .refused _ => false

/-- `n` steps from `s` all go on. -/
def safeRun (n : Nat) (s : State) : Bool := goesOn (Sys2Proof.core.run n s)

/-- Path `p` holds the request `e` of command `c`, which has not started (R98, R505). -/
def Holds (c : Cmd) (p : Path) (e : Exec) (s : State) : Prop :=
  s.execOf p = some e ∧ e.started = false ∧ e.req.opcode = c.opcode

/-- Path `p` holds the request `e` of command `c`, and steps 2 to 6 of R98 refuse it with no status; `t` is the state
after them, in which the path's nonce is consumed (R101). -/
def Accepted (c : Cmd) (p : Path) (e : Exec) (s t : State) : Prop :=
  Holds c p e s ∧ s.checks c p e.req = (0, t)

/-- The command a path holds goes on: it has started, and a later command of the table completes it. -/
def State.goesOnAt (s : State) (p : Path) : State :=
  match s.execOf p with
  | some e => s.setExec p (some { e with started := true })
  | none => s

/-- What a completion answers: response bytes, and an extended response where there is one (R97). -/
abbrev Resp := Path → Exec → State → Bytes
abbrev XpResp := Path → Exec → State → Option Bytes

/-- Command `c`, accepted on a path in a state that meets `pre`, ends with a status: its effect `f` on the state after
the checks, and its completion with response `resp` and, where it has one, extended response `xp` (R97). All else is as it
was. -/
def Ends (i : Path → Instr) (c : Cmd) (pre : Path → Exec → State → Prop) (st : Nat) (f : Path → Exec → State → State)
    (resp : Resp) (xp : XpResp) : Prop :=
  ∀ p e s t, Accepted c p e s t → pre p e t → exec (i p) s = .next ((f p e t).complete p st (resp p e t) (xp p e t))

/-- Command `c`, accepted on a path, ends with OK: its effect `f` on the state after the checks, and its completion. -/
def Completes (i : Path → Instr) (c : Cmd) (f : Path → Exec → State → State) (resp : Resp) (xp : XpResp) : Prop :=
  ∀ p e s t, Accepted c p e s t → exec (i p) s = .next ((f p e t).complete p stOK (resp p e t) (xp p e t))

/-- A command that only answers: nothing but its completion comes of it. -/
def Answers (i : Path → Instr) (c : Cmd) (resp : Resp) (xp : XpResp) : Prop :=
  Completes i c (fun _ _ t => t) resp xp

/-- Command `c`, accepted on a path, begins: its effect `f` on the state after the checks; a later command of the table
completes it. -/
def Begins (i : Path → Instr) (c : Cmd) (f : Path → Exec → State → State) : Prop :=
  ∀ p e s t, Accepted c p e s t → exec (i p) s = .next ((f p e t).goesOnAt p)

/-- No extended response. -/
def noXp : XpResp := fun _ _ _ => none

/-- No response bytes. -/
def noResp : Resp := fun _ _ _ => []

/-- Nothing changes but the completion. -/
def noEffect : Path → Exec → State → State := fun _ _ t => t

end Machine
end Sys2Proof
end

