-- ==== Sys2Proof/Certificates/Slice0/Obligations.lean ====
section
/-! DEFINITION. The statements for the provers, chapter by chapter. -/

open Sys2Proof Sys2Proof.Machine

/-! ## Supplies, power-up, power fail and resets (chapters 2 and 3) -/

/-- What a latched cause is: the code with the stamp, the state and the detail of now (R71, R72). -/
def causeOf (s : State) (code detail : Nat) : CauseLatch :=
  { code := code, stamp := s.stamp 17, prevState := s.mod.state, detail := detail }

/-- R48, R50, R51, R54, R69, R71. That a retry keeps the choice of J2 is the model's (log 35). -/
def Obligations.PowerUpSequence : Prop :=
  (∀ j2 s, s.power.hot = false → s.power.phase = .off ∨ s.power.phase = .reset →
    exec (.suppliesGood j2) s = .next { s with
      ao := { s.ao with supply := 0, counted := if s.power.phase = .off then [] else s.ao.counted }
      power := { s.power with
        retried := false, j2Chosen := j2, j2Good := j2, onJ2 := j2, on := [.ao], waiting := [.safe], phase := .up 0 } }) ∧
  (∀ d k ref s, s.power.phase = .up k → d ∈ s.power.waiting → d ≠ .host →
    exec (.domainPowerGood d ref) s = .next { s with
      power := { s.power with
        on := s.power.on ++ [d]
        waiting := if s.power.waiting.filter (· != d) = [] ∧ k < 7 then upStep (k + 1) else s.power.waiting.filter (· != d)
        phase := if s.power.waiting.filter (· != d) ≠ [] then .up k else if k < 7 then .up (k + 1) else .run } }) ∧
  (∀ d k s, s.power.phase = .up k → d ∈ s.power.waiting → ∃ t, exec (.powerSeqTimeout d) s = .next t ∧
    t.ao.cause = some (causeOf s 3 0) ∧ t.power.on = [.ao] ∧ t.flash = s.flash ∧ t.stored = s.stored ∧
    t.power.phase = if s.power.retried then .locked else .failed) ∧
  (∀ s, s.power.phase = .failed → s.power.hot = false → exec .powerSeqRetry s = .next { s with
    ao.supply := 0
    power := { s.power with retried := true, on := [.ao], waiting := [.safe], phase := .up 0 } })

/-- R50, R80, R105. -/
def Obligations.HostDomainUp : Prop :=
  ∀ ref s, s.power.phase = .up 3 → s.power.waiting = [.host] →
    exec (.domainPowerGood .host ref) s = .next { s with
      mod.refclkSep := s.stored.refclk == 1 || !ref
      cfg := { s.cfg with refclk := s.stored.refclk, maxSpeed := s.stored.maxSpeed, maxWidth := s.stored.maxWidth }
      power := { s.power with on := s.power.on ++ [.host], waiting := [.sw], phase := .up 4 } }

/-- A module reset has begun from `s`: the sequence of R53 runs with its cause latched, and MAIN_BO is left as it
was. -/
def ResetBegun (s t : State) (code detail : Nat) : Prop :=
  t = (s.latch code detail).downStart true ∧ t.ao.cause = some (causeOf s code detail) ∧ t.ao.causeNew = true ∧
    t.ao.mainBo = s.ao.mainBo ∧ t.power.phase = .down 1 true false ∧ t.power.downAt = s.now ∧ t.flash = s.flash

/-- R26, R53, R60, R70, R71, R77. -/
def Obligations.ModuleResetCauses : Prop :=
  ∀ s, s.power.phase = .run →
    (∀ k, k < 8 → ∃ t, exec (.thermalReset k) s = .next t ∧ ResetBegun { s with power.hot := true } t 4 k) ∧
    (∃ t, exec .rootPllUnlock s = .next t ∧ ResetBegun s t 5 0) ∧
    (∃ t, exec .oscFault s = .next t ∧ ResetBegun s t 6 0) ∧
    (.mgmt ∈ s.power.on → s.injection 0x1F 0 0 = none → ∃ t, exec .watchdogExpiry s = .next t ∧ ResetBegun s t 7 0) ∧
    (∀ w, ∃ t, exec (.moduleReset .eccFw w) s = .next t ∧ ResetBegun s t 8 w) ∧
    (∀ w, ∃ t, exec (.moduleReset .eccSafe w) s = .next t ∧ ResetBegun s t 9 w) ∧
    (s.mod.resetReq = some .cmdWarm → ∃ t, exec (.moduleReset .cmdWarm 0) s = .next t ∧
      ResetBegun (s.clockTo s.mod.resetAt) t 10 0) ∧
    (s.mod.resetReq = some .cmdCold → ∃ t, exec (.moduleReset .cmdCold 0) s = .next t ∧
      ResetBegun (s.clockTo s.mod.resetAt) t 11 0)

/-- R26, R47, R53, R69, R70, R71. -/
def Obligations.PowerFailSequence : Prop :=
  (∀ s, s.power.phase = .run → ∃ t, exec .powerFailDetect s = .next t ∧ t = (s.latch 2 0).downStart false ∧
    t.ao.cause = some (causeOf s 2 0) ∧ t.power.phase = .down 1 false true ∧ t.power.downAt = s.now) ∧
  (∀ r l s u, s.power.phase = .down 1 r l → u = (((s.clockTo (s.power.downAt + 10000)).letGo (if r then 2 else 1)).allOff 3).linesDrop →
    exec .powerFailStep s = .next { u with ao.mainBo := u.ao.mainBo || !r, power.phase := .down 2 r l }) ∧
  (∀ r l s, s.power.phase = .down 2 r l → ∃ t, exec .powerFailStep s = .next t ∧
    t.power.on = s.power.on.filter (fun d => d != .acq && d != .logic && d != .dsp) ∧ t.power.phase = .down 3 r l ∧
    t.ao = s.ao ∧ t.safe = s.safe ∧ t.time = (s.clockTo (s.power.downAt + 50000)).time) ∧
  (∀ r l s, s.power.phase = .down 3 r l → exec .powerFailStep s =
    .next { s.clockTo (s.power.downAt + 500000) with power.phase := .down 4 r l }) ∧
  (∀ r l s, s.power.phase = .down 4 r l → ∃ t, exec .powerFailStep s = .next t ∧
    t.power.on = s.power.on.filter (fun d => d == .ao || d == .safe) ∧ t.power.phase = .down 5 r l ∧
    t.ao = s.ao ∧ t.flash = s.flash ∧ t.safe = s.safe ∧ t.mod = {} ∧ t.mem = {} ∧ t.host = {}) ∧
  (∀ r l s, s.power.phase = .down 5 r l → ∃ t, exec .powerFailStep s = .next t ∧
    t.power.on = [.ao] ∧ t.power.phase = (if l then .off else .reset) ∧ t.ao = s.ao ∧ t.flash = s.flash ∧ t.safe = {}) ∧
  (∀ s, exec .thermalRelease s = .next { s with power.hot := false }) ∧
  (∀ a s, .mgmt ∈ s.power.on → s.ao.counted.getLast? = some a → exec .resetCountExpiry s =
    .next { s.clockTo (1000000000 * (600 - a)) with ao.counted := s.ao.counted.dropLast })

/-- R20, R26, R44, R45, R48, R54, R56, R73. How the hysteresis of R54 applies is the model's reading (log 36). -/
def Obligations.SupplyEvents : Prop :=
  (∀ v33 aux cell s, exec (.aoSupplyChangeover v33 aux cell) s = .next { s with
    ao := { s.ao with
      supply := aoSource s.ao.supply [v33, aux, cell]
      aoBor := s.ao.aoBor || decide ([v33, aux, cell].getD (aoSource s.ao.supply [v33, aux, cell]) 0 < 2050) } }) ∧
  (∀ s, exec .aoBrownout s = .next { s with ao.aoBor := true }) ∧
  (∀ s, s.mod.aux12 = false → exec .j2Loss s = .next { s with power := { s.power with onJ2 := false, j2Good := false } }) ∧
  (∀ s, s.mod.aux12 = true → s.mod.aux12Lost = false → 1 ≤ s.mod.state → s.mod.state ≤ 3 → exec .j2Loss s =
    .next (State.longeStopAll (State.recStopAll
      ({ s with power.onJ2 := false, power.j2Good := false, mod.aux12Lost := true }.alarm 24 true 0) 4))) ∧
  (∀ s, exec .cellInsertion s = .next { s with power.cellDue := true }) ∧
  (∀ mv s, .mgmt ∈ s.power.on → s.mod.state ≠ 0 → decide (mv < 2600) = s.mod.cellLow → exec (.cellMeasure mv) s =
    .next { s with power := { s.power with cellMv := mv, cellAt := s.now, cellDue := false } }) ∧
  (∀ mv s, .mgmt ∈ s.power.on → s.mod.state ≠ 0 → decide (mv < 2600) ≠ s.mod.cellLow → exec (.cellMeasure mv) s =
    .next ({ s with
      power := { s.power with cellMv := mv, cellAt := s.now, cellDue := false }
      mod.cellLow := decide (mv < 2600) }.alarm 30 (decide (mv < 2600)) 0)) ∧
  (∀ pos on s, .safe ∈ s.power.on → .mgmt ∈ s.power.on → 1 ≤ pos → pos ≤ 4 → s.power.seals.getD (pos - 1) false ≠ on →
    exec (.sealSwitchChange pos on) s =
      .next ({ s with power.seals := s.power.seals.set (pos - 1) on }.firnEv 0x0105 (leBytes 1 pos ++ leBytes 1 (b2n on)))) ∧
  (∀ k (c : Int) s, .mgmt ∈ s.power.on → k < 8 → s.mod.tempWarn = false → s.injection 0x20 k 0 = none → 100 ≤ c →
    exec (.tempWarnRaise k c) s = .next ({ s with mod.tempWarn := true }.alarm 31 true k)) ∧
  (∀ s, s.mod.tempWarn = true → exec .tempWarnClear s = .next ({ s with mod.tempWarn := false }.alarm 31 false 0))

/-! ## Module states, tamper, boot and host resets (chapter 3) -/

/-- R63, R72, R77. -/
def Obligations.ModuleCommands : Prop :=
  Completes .modStateSet cmdModStateSet (fun _ e t => t.setTo (byteAt e.req.params 0) 0)
    (fun _ e t => leBytes 4 (byteAt e.req.params 0) ++ (t.stamp 17).bytes) noXp ∧
  Completes .modReset cmdModReset (fun _ e t => { t with
    mod.resetReq := some (if byteAt e.req.params 0 = 0 then .cmdWarm else .cmdCold), mod.resetAt := t.now + 10000000 })
    noResp noXp ∧
  Answers .modResetCause cmdModResetCause noResp (fun _ _ t => some (padTo 32 t.mod.causeRecord))

/-- R75, R429, R430, R431: with PD_MGMT off, in BOOT, and in FAILSAFE. -/
def Obligations.TamperZeroises : Prop :=
  ∀ src s, s.tamperLive src = true →
    (.mgmt ∉ s.power.on → ∃ t, exec (.tamperEvent src) s = .next t ∧ t.ao.keyMask = none ∧ t.ao.keys = [] ∧
      t.ao.tamperCount = inc32 s.ao.tamperCount ∧ t.flash.tamperCount = inc32 s.ao.tamperCount ∧ t.ao.tampAo = true) ∧
    (.mgmt ∈ s.power.on → s.mod.state = 4 → ∃ t, exec (.tamperEvent src) s = .next t ∧ t.ao.keyMask = none ∧ t.ao.keys = [] ∧
      t.sec.slots = [] ∧ t.sec.sessions = [] ∧ t.sec.derived = false ∧ t.sec.zeroised = true ∧ t.sec.tamperSrc = src ∧
      t.ao.tamperCount = inc32 s.ao.tamperCount ∧ t.flash.tamperCount = inc32 s.ao.tamperCount ∧ t.mod = s.mod) ∧
    (.mgmt ∈ s.power.on → s.mod.state = 0 → ∃ t, exec (.tamperEvent src) s = .next t ∧ t.ao.keyMask = none ∧ t.ao.keys = [] ∧
      t.sec.slots = [] ∧ t.sec.derived = false ∧ t.sec.zeroised = true ∧ t.sec.tamperSrc = src ∧
      t.ao.tamperCount = inc32 s.ao.tamperCount ∧ t.flash.tamperCount = inc32 s.ao.tamperCount ∧
      t.mod.state = 4 ∧ t.mod.failReason = 2)

/-- R40, R43, R429. -/
def Obligations.TamperSources : Prop :=
  (∀ s, s.sec.loopOpen = false → s.injection 0x19 0 0 = none → exec (.tamperLoopSample false) s = .next s) ∧
  (∀ s, s.ao.tamperEn = true → s.sec.loopOpen = true →
    exec (.tamperLoopSample true) s = .next (s.tamper 1)) ∧
  (∀ s, s.ao.tamperEn = false → s.sec.loopOpen = false → .mgmt ∈ s.power.on → s.mod.state = 0 ∨ s.mod.state = 4 →
    exec (.tamperLoopSample true) s = .next ({ s with sec.loopOpen := true }.firnEv 0x0E0B [1])) ∧
  (∀ s, s.flash.debugFuse = false → exec .debugTapAccess s = .next (s.tamper 6)) ∧
  (∀ s, s.flash.debugFuse = true → exec .debugTapAccess s = .next s)

/-- What a host-interface reset leaves as it was, and what it puts to reset. -/
def HostGone (s t : State) : Prop :=
  t.host.cause &&& ~~~(BitVec.twoPow 16 intFIRN) = 0 ∧ t.host.mask = 65535 ∧ t.host.dmaCause = 0 ∧ t.host.window = 0 ∧ t.host.msix = [] ∧ t.dma = {} ∧
    t.rtc.frozen = false ∧ t.mod = s.mod ∧ t.power = s.power ∧ t.flash = s.flash ∧ t.mem = s.mem ∧ t.time = s.time ∧
    t.cfg = s.cfg ∧ t.stored = s.stored ∧ t.ports = s.ports ∧ t.logic = s.logic ∧ t.safe = s.safe ∧ t.red = s.red ∧
    t.acq = s.acq ∧ t.sec = s.sec ∧ t.sv = s.sv ∧ t.aln = s.aln ∧ t.ph = s.ph ∧ t.grd = s.grd ∧ t.brio = s.brio

/-- R23, R70, R102. -/
def Obligations.HostResetAlone : Prop :=
  ∀ s, .host ∈ s.power.on →
    (∃ t, exec .perstAssert s = .next t ∧ t.host.linkUp = false ∧ HostGone s t) ∧
    (∃ t, exec .pcieHotReset s = .next t ∧ t.host.linkUp = false ∧ HostGone s t) ∧
    (∃ t, exec .pcieLinkDown s = .next t ∧ t.host.linkUp = false ∧ HostGone s t) ∧
    (∃ t, exec .pfFlr s = .next t ∧ t.host.linkUp = s.host.linkUp ∧ HostGone s t)

/-- R65, R78, R105. -/
def Obligations.LinkTrained : Prop :=
  ∀ sp w s, .host ∈ s.power.on → 1 ≤ sp → sp ≤ 5 → w ∈ [1, 2, 4, 8] →
    exec (.pcieLinkTrained sp w) s = .next { s with
      host := { s.host with linkUp := true, speed := min sp s.cfg.maxSpeed, width := min w s.cfg.maxWidth } }

/-- R64, R66, R69, R413, R433, R507. -/
def Obligations.BootOutcomes : Prop :=
  (∀ b s, s.power.phase = .run → s.mod.state = 0 → b.loopOpen = false → s.flash.rootA = true → b.bankAOk = true →
    b.imageAOk = false → b.imageBOk = false → ∃ t, exec (.bootSequence b) s = .next t ∧
      t.mod.state = 4 ∧ t.mod.failReason = 1 ∧ t.firn = s.firn ∧ t.flash.firn = s.flash.firn ∧ t.power = s.power ∧
      t.ao.kept ≠ s.ao.kept) ∧
  (∀ b s, s.power.phase = .run → s.mod.state = 0 → b.loopOpen = false → s.flash.rootA = true → b.bankAOk = true →
    s.flash.preferred = 0 → s.flash.trial = false → b.imageAOk = true → s.flash.imageA.valid = true →
    s.flash.rollback ≤ s.flash.imageA.svn → s.flash.key1Revoked = false → countedCause (s.bootCause s.aoDoubt).code = false →
    b.dramFails ≤ 1 → b.otherTamper = none →
    exec (.bootSequence b) s = .next (State.bootRun
      { s with sec.loopOpen := false, sec.rootBank := 0, mod.slot := 0, mod.fallback := false } b false false)) ∧
  (∀ b s, s.mod.state ≠ 0 → exec (.bootSequence b) s = .next s)

/-! ## Host interface (chapter 4) -/

/-- R92 to R95, R97. -/
def Obligations.MailboxRings : Prop :=
  ∀ p s, .host ∈ s.power.on → pathReal p = true →
    (∀ v, (s.chan p).sqTail < ringSize p → v.toNat % ringSize p = (s.chan p).sqTail → exec (.mbSqTailWrite p v) s = .next s) ∧
    (∀ v, ((s.chan p).sqHead + 2 * ringSize p - (s.chan p).sqTail - 1) % ringSize p <
        (v.toNat % ringSize p + ringSize p - (s.chan p).sqTail) % ringSize p →
      exec (.mbSqTailWrite p v) s = .next ((s.setChan p { s.chan p with tailErr := true }).raiseCq p)) ∧
    (∀ v n, n = (v.toNat % ringSize p + ringSize p - (s.chan p).sqTail) % ringSize p → n ≠ 0 →
      n ≤ ((s.chan p).sqHead + 2 * ringSize p - (s.chan p).sqTail - 1) % ringSize p →
      exec (.mbSqTailWrite p v) s = .next (s.setChan p { s.chan p with
        sqTail := v.toNat % ringSize p
        bells := (slotsFrom (ringSize p) (s.chan p).sqTail n).foldl (fun b i => b.set i (s.stamp 9)) (s.chan p).bells })) ∧
    (∀ v, exec (.mbCqHeadWrite p v) s = .next (s.setChan p { s.chan p with cqHead := v.toNat % ringSize p })) ∧
    ((s.chan p).en = false → exec (.mbChannelEnable p) s = .next (s.setChan p { s.chan p with
      en := true, enabled := true, sqTail := 0, sqHead := 0, cqHead := 0, cqTail := 0, phase := true, bells := [] })) ∧
    exec (.mbChannelDisable p) s = .next (s.setChan p { s.chan p with en := false, enabled := false }) ∧
    ((s.chan p).enabled = false → (s.chan p).exec = none →
      exec (.mbChannelIdle p) s = .next (s.setChan p { s.chan p with idle := true }))

/-- R91, R93, R94, R97 to R99, R101. -/
def Obligations.FetchAndExpiry : Prop :=
  (∀ p s r, s.mayFetch p = true → (∀ n, p = .mb n → s.injection 0x22 n 0 = none) →
    (s.opcodeOk p r.opcode = true → exec (.mailboxFetch p (.ok r)) s = .next (s.setChan p { s.chan p with
      sqHead := ((s.chan p).sqHead + 1) % ringSize p, idle := false
      exec := some { req := r, rx := (s.chan p).bells.getD (s.chan p).sqHead {}, sqHead := ((s.chan p).sqHead + 1) % ringSize p } })) ∧
    (s.opcodeOk p r.opcode = false → exec (.mailboxFetch p (.ok r)) s = .next ((s.setChan p { s.chan p with
      sqHead := ((s.chan p).sqHead + 1) % ringSize p, idle := false
      exec := some { req := r, rx := (s.chan p).bells.getD (s.chan p).sqHead {},
                     sqHead := ((s.chan p).sqHead + 1) % ringSize p } }).complete p 1)) ∧
    (∀ f, (∀ x, f ≠ .ok x) → exec (.mailboxFetch p f) s =
      .next ((s.setChan p { s.chan p with fetchErr := true, enabled := false }).raiseCq p))) ∧
  (∀ s t, s.sec.lockout = some t → exec .authLockoutEnd s =
    .next { s.clockTo (t + 60000000000) with sec.lockout := none }) ∧
  (∀ p s b t, s.nonceOf p = some (b, t) → exec (.nonceExpiry p) s = .next ((s.clockTo (t + 10000000000)).setNonce p none))

/-- R3, R4, R84, R89, R90, R109. -/
def Obligations.InterruptWrites : Prop :=
  ∀ s, .host ∈ s.power.on →
    (∀ v set_, ∃ m, exec (.intCauseWrite v set_) s = .next { s with host := { s.host with
      cause := (s.host.cause &&& ~~~v.truncate 16) ||| set_.truncate 16, msix := m } }) ∧
    (∀ v, ∃ m, exec (.intMaskWrite v) s = .next { s with host := { s.host with mask := v.truncate 16, msix := m } }) ∧
    (∀ v set_, ∃ m, exec (.intDmaCauseWrite v set_) s = .next { s with host := { s.host with
      dmaCause := (s.host.dmaCause &&& ~~~v) ||| set_, msix := m } }) ∧
    (∀ v, ∃ m, exec (.intDmaMaskWrite v) s = .next { s with host := { s.host with dmaMask := v, msix := m } }) ∧
    (∀ n v set_, 1 ≤ n → n ≤ 127 → ∃ m, exec (.vfIntCauseWrite n v set_) s = .next { s with
      fns := s.fns.set n { s.fn n with cause := ((s.fn n).cause &&& ~~~v.truncate 3) ||| set_.truncate 3 }
      host := { s.host with msix := m } }) ∧
    (∀ n v, 1 ≤ n → n ≤ 127 → ∃ m, exec (.vfIntMaskWrite n v) s = .next { s with
      fns := s.fns.set n { s.fn n with mask := v.truncate 3 }
      host := { s.host with msix := m } }) ∧
    (∀ fn vec, fn ≤ 127 → vec < msixVectors fn → (s.host.msixAt fn vec).pba = true → fn ∉ s.host.fnMask →
      exec (.msixVectorUnmask fn vec) s = .next { s with
        host.msix := s.host.msix.set (64 * fn + vec)
          { s.host.msixAt fn vec with masked := false, pba := false, sent := (s.host.msixAt fn vec).sent + 1 } }) ∧
    (∀ fn vec, fn ≤ 127 → vec < msixVectors fn → (s.host.msixAt fn vec).pba = false →
      exec (.msixVectorUnmask fn vec) s = .next { s with
        host.msix := s.host.msix.set (64 * fn + vec) { s.host.msixAt fn vec with masked := false } }) ∧
    (∀ v, exec (.mbBar2BaseWrite v) s = .next { s with host.window := v.toNat % 64 })

/-- R4, R88 to R90. -/
def Obligations.RaceResendsMessage : Prop :=
  ∀ s, .host ∈ s.power.on → s.host.cause = BitVec.twoPow 16 15 → s.host.mask = 0 → (s.host.msixAt 0 0).masked = false →
    0 ∉ s.host.fnMask →
    (∃ t, exec (.intCauseWrite 32768 32768) s = .next t ∧ t.host.cause.getLsbD 15 = true ∧
      (t.host.msixAt 0 0).sent = (s.host.msixAt 0 0).sent + 1) ∧
    (∃ t, exec (.intCauseWrite 32768 0) s = .next t ∧ t.host.cause = 0 ∧
      (t.host.msixAt 0 0).sent = (s.host.msixAt 0 0).sent)

/-- R103 to R105. -/
def Obligations.LinkAndP7 : Prop :=
  Completes .hostLinkCfg cmdHostLinkCfg (fun _ e t => { t with stored := { t.stored with
    refclk := byteAt e.req.params 0, maxSpeed := byteAt e.req.params 1, maxWidth := byteAt e.req.params 2 } }) noResp noXp ∧
  Answers .hostLinkStatus cmdHostLinkStatus (fun _ _ t => leBytes 1 t.host.speed ++ leBytes 1 t.host.width ++
    leBytes 2 (b2n t.mod.refclkSep) ++ leBytes 4 t.host.linkDowns) noXp ∧
  Completes .mgmtTlsCfg cmdMgmtTlsCfg (fun _ e t => State.secSettle { t with
    cfg := { t.cfg with p7On := byteAt e.req.params 0 == 1, p7Idle := le16 e.req.params 2, p7Ca := le32 e.req.params 4 }
    stored := { t.stored with p7On := byteAt e.req.params 0 == 1, p7Idle := le16 e.req.params 2, p7Ca := le32 e.req.params 4 }
    mod.p7Close := some (t.now + 100000000) }) noResp noXp ∧
  (∀ s n, s.mod.p7Close = none → s.freeSession = some n → s.mod.state = 1 ∨ s.mod.state = 2 ∨ s.mod.state = 3 → s.cfg.p7On = true →
    s.caHeld = true → exec (.p7Connect true) s = .next { s with p7 := s.p7.set n { lastUse := s.now } }) ∧
  (∀ s n x r, s.mod.p7Close = none → s.p7.get? n = some x → (r.xp = true → r.xpOffset = 0) →
    16 ≤ x.waiting.length + b2n x.exec.isSome → exec (.p7CommandEntry n r) s = .next s) ∧
  (∀ s n x r, s.mod.p7Close = none → s.p7.get? n = some x → (r.xp = true → r.xpOffset = 0) → x.waiting.length < 15 →
    x.exec.isSome = true → exec (.p7CommandEntry n r) s = .next { s with p7 := s.p7.set n { x with
      waiting := x.waiting ++ [{ req := r, rx := s.stamp 9, sqHead := 0 }], lastUse := s.now } }) ∧
  (∀ s n x r, s.mod.p7Close = none → s.p7.get? n = some x → r.xp = true → r.xpOffset ≠ 0 →
    exec (.p7CommandEntry n r) s = .next { s with p7 := s.p7.del n }) ∧
  (∀ s n x, s.p7.get? n = some x → x.exec = none → x.waiting = [] → exec (.p7IdleTimeout n) s =
    .next { s.clockTo (x.lastUse + 1000000000 * s.cfg.p7Idle) with p7 := s.p7.del n })

/-- R3, R5, R82 to R84, R89, R92, R93, R107, R108, R146. -/
def Obligations.RegisterWrites : Prop :=
  ∀ s, .host ∈ s.power.on →
    (∀ fn off v, exec (.registerWrite fn off v false) s = .next s) ∧
    (∀ fn off v b, off % 4 ≠ 0 → exec (.registerWrite fn off v b) s = .next s) ∧
    (∀ off v b, off ≤ 0x18 ∨ off = 0x110 ∨ off = 0x114 ∨ (0x4000 ≤ off ∧ off < 0x10000) →
      exec (.registerWrite 0 off v b) s = .next s) ∧
    (∀ v, exec (.registerWrite 0 0x28 v true) s = .next { s with host.scratch := v }) ∧
    (∀ v, exec (.registerWrite 0 0x100 v true) s = exec (.intCauseWrite v 0) s) ∧
    (∀ v, exec (.registerWrite 0 0x104 v true) s = exec (.intMaskWrite v) s) ∧
    (∀ n v, n < 4 → exec (.registerWrite 0 (0x424 + 64 * n) v true) s = exec (.mbSqTailWrite (.mb n) v) s) ∧
    (∀ n v, n < 32 → exec (.registerWrite 0 (0x1014 + 64 * n) v true) s = exec (.dmaTailWrite n v) s) ∧
    (∀ n q v, 1 ≤ n → n ≤ 127 → q < 64 → q < (s.fn n).qp →
      exec (.registerWrite n (32 * q) v true) s = exec (.vfRxqTailWrite n q v) s) ∧
    (∀ n v, 1 ≤ n → n ≤ 127 → exec (.registerWrite n 0xA04 v true) s = exec (.vfIntMaskWrite n v) s) ∧
    (∀ n v off, n < 4 → off % 4 = 0 → off ≤ 0x18 → (s.chan (.mb n)).enabled = true →
      exec (.registerWrite 0 (0x400 + 64 * n + off) v true) s = .next (s.setChan (.mb n) (s.chan (.mb n))))

/-! ## Virtual functions (chapter 5) -/

/-- R95, R107 to R109, R119 to R122. -/
def Obligations.VfQueueEvents : Prop :=
  (∀ n q v s, s.queueOk n q = true → ((s.fn n).queue q).rxSize ≤ v.toNat % 4096 → exec (.vfRxqTailWrite n q v) s = .next s) ∧
  (∀ n q v s x, x = (s.fn n).queue q → s.queueOk n q = true → v.toNat % 4096 < x.rxSize →
    exec (.vfRxqTailWrite n q v) s = .next (
      if (x.rxHead + 2 * x.rxSize - x.rxTail - 1) % x.rxSize < (v.toNat % 4096 + x.rxSize - x.rxTail) % x.rxSize then
        (s.setQueue n q { x with tailErr := true }).raiseVf n 1
      else s.setQueue n q { x with rxTail := v.toNat % 4096 })) ∧
  (∀ n q v s, s.queueOk n q = true → ((s.fn n).queue q).txSize ≤ v.toNat % 4096 → exec (.vfTxqTailWrite n q v) s = .next s) ∧
  (∀ n q v s x, x = (s.fn n).queue q → s.queueOk n q = true → v.toNat % 4096 < x.txSize →
    exec (.vfTxqTailWrite n q v) s = .next (
      if (x.txHead + 2 * x.txSize - x.txTail - 1) % x.txSize < (v.toNat % 4096 + x.txSize - x.txTail) % x.txSize then
        (s.setQueue n q { x with tailErr := true }).raiseVf n 1
      else s.setQueue n q { x with txTail := v.toNat % 4096 })) ∧
  (∀ s u act, s.sched.waiters = [] → u = s.clockTo (s.sched.round + 10000) →
    act = (u.fns.mapV (fun _ f => { f with weight := f.newWeight.getD f.weight, newWeight := none })).filter (fun x => !x.2.staged.isEmpty) →
    exec .schedulerRound s = .next { u with
      fns := u.fns.mapV (fun _ f => { f with weight := f.newWeight.getD f.weight, newWeight := none })
      sched := { u.sched with
        round := u.now, slabBytes := 0, waiters := []
        quota := act.map (fun x => (x.1, ((240000 - u.sched.slabBytes) * x.2.weight / (act.map (fun x => x.2.weight)).sum : Nat) +
          min 0 (u.sched.quota.getD x.1 0))) } }) ∧
  (∀ n s, .host ∈ s.power.on → 1 ≤ n → n ≤ 127 → ∃ t, exec (.vfFlr n) s = .next t ∧
    (t.fn n).staged = [] ∧ (t.fn n).frozen = false ∧ (t.fn n).cause = 0 ∧ (t.fn n).mask = 7 ∧ (t.fn n).rejects = 0 ∧
    (t.fn n).dirty = none ∧ (t.fn n).qp = (s.fn n).qp ∧ (t.fn n).mac = (s.fn n).mac ∧ (t.fn n).weight = (s.fn n).weight ∧
    (t.fn n).trip = (s.fn n).trip ∧ (∀ x ∈ (t.fn n).queues, x.2.rxEn = false ∧ x.2.txEn = false) ∧
    (t.chan (.vf n)).enabled = false ∧ t.goose = s.goose ∧ t.mem = s.mem ∧ t.mod = s.mod ∧ t.dma = s.dma)

/-- R111 to R114, R116, R118, R119. What a doorbell does while the data path is stopped is the model's reading (log 37). -/
def Obligations.VfTraffic : Prop :=
  (∀ n q d ds s x fr k, x = (s.fn n).queue q → s.pathOn = true → s.queueOk n q = true → (s.fn n).frozen = false → x.rxEn = true →
    0 < x.posted → (s.fn n).staged.find? (·.queue == q) = some fr → s.lender n = some k → rxDescOk d = true →
    0 < frameRxBytes fr.frame → frameRxBytes fr.frame ≤ le32 d 8 →
    ∃ t, exec (.vfFrameDelivery n q (.ok d :: ds)) s = .next t ∧
      ((t.fn n).queue q).rxHead = (x.rxHead + 1) % x.rxSize ∧ ((t.fn n).queue q).rxEvt = true ∧
      (t.fn n).staged = (s.fn n).staged.erase fr ∧ t.mod = s.mod ∧ t.cfg = s.cfg) ∧
  (∀ n q dat f fe s, s.pathOn = true → s.queueOk n q = true → (s.fn n).frozen = false → (s.fn n).txTurn = some q → (∀ d, fe ≠ .ok d) →
    exec (.vfTransmitFetch n q fe dat f) s = .next (s.queueStop n q false)) ∧
  (∀ n q d b f s x, x = (s.fn n).queue q → s.pathOn = true → s.queueOk n q = true → (s.fn n).frozen = false →
    (s.fn n).txTurn = some q → (le16 d 10).testBit 15 = false →
    exec (.vfTransmitFetch n q (.ok d) (.ok b) f) s = .next (s.setQueue n q { x with
      txHead := (x.txHead + 1) % x.txSize, txPart := x.txPart + le16 d 8 })) ∧
  (∀ n q d b f s x u, x = (s.fn n).queue q → s.pathOn = true → s.queueOk n q = true → (s.fn n).frozen = false →
    (s.fn n).txTurn = some q → (le16 d 10).testBit 15 = true → txDescOk d = true → x.txPart + le16 d 8 ≤ 9208 →
    u = (s.setFn n { s.fn n with txNext := (q + 1) % 64 }).setQueue n q { x with
      txHead := (x.txHead + 1) % x.txSize, txPart := 0, txPoison := false } →
    f.src ≠ (s.fn n).mac → exec (.vfTransmitFetch n q (.ok d) (.ok b) f) s = .next (u.txBackNow n q x.txHead 2 d)) ∧
  (∀ n k c a s u (on : Bool), .host ∈ s.power.on → 1 ≤ n → n ≤ 127 → k ≤ 15 → u = s.clockTo a → s.goose.binds.get? (16 * n + k) = none →
    exec (if on then .vfTripAssert n k c a else .vfTripRelease n k c a) s =
      .next ((u.setFn n { u.fn n with rejects := ((u.fn n).rejects + 1) % 65536 }).raiseVf n 2)) ∧
  (∀ n k c a s u p (on : Bool), .host ∈ s.power.on → s.pathOn = true → 1 ≤ n → n ≤ 127 → k ≤ 15 → u = s.clockTo a →
    s.goose.binds.get? (16 * n + k) = some p → exec (if on then .vfTripAssert n k c a else .vfTripRelease n k c a) s =
      .next ((u.setFn n { u.fn n with
          trip := if on then (u.fn n).trip ||| BitVec.twoPow 16 k else (u.fn n).trip &&& ~~~BitVec.twoPow 16 k }).doorbell p
        (16 * n + k) c on))

/-- R106, R110, R121, R129, R130. -/
def Obligations.VfSettingsCommands : Prop :=
  Answers .vfInfo cmdVfInfo (fun p _ t => leBytes 1 (fnOf p) ++ leBytes 1 (t.fn (fnOf p)).qp ++ macBytes (t.fn (fnOf p)).mac ++
    leBytes 2 (t.fn (fnOf p)).weight ++ leBytes 2 (b2n (t.fn (fnOf p)).frozen)) noXp ∧
  Answers .vfStats cmdVfStats (fun p _ t => leBytes 4 (t.fn (fnOf p)).rxDrop ++ leBytes 4 (t.fn (fnOf p)).rxNobuf ++
    leBytes 4 (t.fn (fnOf p)).rxNoq) noXp ∧
  Answers .vfStatus cmdVfStatus (fun _ e t =>
    leBytes 1 (b2n (t.fn (byteAt e.req.params 0)).frozen) ++ leBytes 1 (t.fn (byteAt e.req.params 0)).qp ++
      leBytes 2 (t.fn (byteAt e.req.params 0)).weight ++ leBytes 2 (t.fn (byteAt e.req.params 0)).staging ++
      leBytes 1 (b2n (t.fn (byteAt e.req.params 0)).dirty.isSome)) noXp ∧
  Completes .vfQCfg cmdVfQCfg (fun p e t => t.setQueue (fnOf p) (byteAt e.req.params 0)
    { (t.fn (fnOf p)).queue (byteAt e.req.params 0) with
      slab := byteAt e.req.params 1 == 1, rxVec := byteAt e.req.params 2, txVec := byteAt e.req.params 3
      rxSize := le16 e.req.params 4, txSize := le16 e.req.params 6, rxBase := le64 e.req.params 8
      txBase := le64 e.req.params 16, classes := byteAt e.req.params 24, interval := le16 e.req.params 26 }) noResp noXp ∧
  (∀ p e s t x, Accepted cmdVfQCtrl p e s t → x = (t.fn (fnOf p)).queue (byteAt e.req.params 0) → x.rxEn = false → x.txEn = false →
    exec (.vfQCtrl p) s = .next ((t.setQueue (fnOf p) (byteAt e.req.params 0) { x with
      rxEn := (byteAt e.req.params 1).testBit 0, txEn := (byteAt e.req.params 1).testBit 1
      rxTail := if (byteAt e.req.params 1).testBit 0 then 0 else x.rxTail
      rxHead := if (byteAt e.req.params 1).testBit 0 then 0 else x.rxHead
      txTail := if (byteAt e.req.params 1).testBit 1 then 0 else x.txTail
      txHead := if (byteAt e.req.params 1).testBit 1 then 0 else x.txHead
      txPart := if (byteAt e.req.params 1).testBit 1 then 0 else x.txPart
      txPoison := if (byteAt e.req.params 1).testBit 1 then false else x.txPoison }).complete p stOK)) ∧
  Ends .vfCfg cmdVfCfg (fun _ e t => 1024 < ((t.fns.filter (fun x => x.1 != byteAt e.req.params 0)).map (fun x => x.2.qp)).sum +
    byteAt e.req.params 1) stNO_RESOURCE noEffect noResp noXp ∧
  Ends .vfCfg cmdVfCfg (fun _ e t => ((t.fns.filter (fun x => x.1 != byteAt e.req.params 0)).map (fun x => x.2.qp)).sum +
      byteAt e.req.params 1 ≤ 1024) stOK
    (fun _ e t => t.setFn (byteAt e.req.params 0) { t.fn (byteAt e.req.params 0) with
      qp := byteAt e.req.params 1, mac := macAt e.req.params 2, vlan := le16 e.req.params 8, limit := le16 e.req.params 10
      queues := (t.fn (byteAt e.req.params 0)).queues.delIf (fun q => byteAt e.req.params 1 ≤ q) }) noResp noXp ∧
  Begins .vfShareSet cmdVfShareSet (fun p e t => { t.setFn (byteAt e.req.params 0) { t.fn (byteAt e.req.params 0) with
    newWeight := some (le16 e.req.params 2) } with sched.waiters := t.sched.waiters ++ [p] })

/-- R123 to R127, R130. -/
def Obligations.VfMigrationCommands : Prop :=
  Completes .vfFreeze cmdVfFreeze (fun _ e t => (t.dropStaged (byteAt e.req.params 0)).setFn (byteAt e.req.params 0)
      { (t.dropStaged (byteAt e.req.params 0)).fn (byteAt e.req.params 0) with
        frozen := true, freezeStamp := (t.dropStaged (byteAt e.req.params 0)).stamp 17
        freezeDrops := (t.fn (byteAt e.req.params 0)).staged.length })
    (fun _ e t => ((t.dropStaged (byteAt e.req.params 0)).stamp 17).bytes ++ leBytes 4 (t.fn (byteAt e.req.params 0)).staged.length) noXp ∧
  Completes .vfUnfreeze cmdVfUnfreeze
    (fun _ e t => t.setFn (byteAt e.req.params 0) { t.fn (byteAt e.req.params 0) with frozen := false })
    (fun _ _ t => (t.stamp 17).bytes) noXp ∧
  Answers .vfSave cmdVfSave noResp (fun _ e t => some (t.vfBlob (byteAt e.req.params 0))) ∧
  Completes .vfRestore cmdVfRestore (fun _ e t => t.vfRestore (byteAt e.req.params 0) e.req.region) noResp noXp ∧
  Ends .vfDirtyStart cmdVfDirtyStart (fun _ _ t => 8 ≤ (t.fns.filter (fun x => x.2.dirty.isSome)).length) stNO_RESOURCE noEffect
    noResp noXp ∧
  Ends .vfDirtyStart cmdVfDirtyStart (fun _ _ t => (t.fns.filter (fun x => x.2.dirty.isSome)).length < 8) stOK
    (fun _ e t => t.setFn (byteAt e.req.params 0) { t.fn (byteAt e.req.params 0) with
      dirty := some { base := le64 e.req.params 8, len := le64 e.req.params 16 } }) noResp noXp ∧
  (∀ p e s t d, Accepted cmdVfDirtySync p e s t → (t.fn (byteAt e.req.params 0)).dirty = some d →
    exec (.vfDirtySync p) s = .next ((t.setFn (byteAt e.req.params 0) { t.fn (byteAt e.req.params 0) with
      dirty := some { d with pages := [] }, dirtyCopy := some (le64 e.req.params 8, d.pages) }).complete p stOK
      ((t.stamp 17).bytes ++ leBytes 4 d.pages.length))) ∧
  Completes .vfDirtyStop cmdVfDirtyStop
    (fun _ e t => t.setFn (byteAt e.req.params 0) { t.fn (byteAt e.req.params 0) with dirty := none }) noResp noXp

/-! ## DMA engine (chapter 6) -/

/-- R93, R95, R135, R141, R142, R144, R145, R147. -/
def Obligations.DmaRings : Prop :=
  (∀ ch v s, s.dmaOk ch = true → (s.dmaChan ch).size ≤ v.toNat % 4096 → exec (.dmaTailWrite ch v) s = .next s) ∧
  (∀ ch v s c, c = s.dmaChan ch → s.dmaOk ch = true → v.toNat % 4096 < c.size →
    exec (.dmaTailWrite ch v) s = .next (
      if (c.head + 2 * c.size - c.tail - 1) % c.size < (v.toNat % 4096 + c.size - c.tail) % c.size then
        (if c.tailErr then s.setDma ch { c with tailErr := true } else (s.setDma ch { c with tailErr := true }).raiseDma ch)
      else s.setDma ch { c with tail := v.toNat % 4096 })) ∧
  (∀ ch s, s.dmaOk ch = true → (s.dmaChan ch).en = false → s.mod.state ≠ 0 → s.mod.state ≠ 4 →
    exec (.dmaEnable ch) s = .next (s.setDma ch { s.dmaChan ch with
      en := true, head := 0, tail := 0, doneCnt := 0, fetched := [], stopping := false })) ∧
  (∀ ch s, s.mod.state = 0 ∨ s.mod.state = 4 → exec (.dmaEnable ch) s = .next s) ∧
  (∀ ch s, s.dmaOk ch = true → exec (.dmaDisable ch) s = .next (s.setDma ch { s.dmaChan ch with en := false, fetched := [] })) ∧
  (∀ ch f s c, c = s.dmaChan ch → s.dmaOk ch = true → c.en = true → c.stopping = false → c.run = none → c.fetched = [] →
    0 < (c.tail + c.size - c.head) % c.size → s.injection 0x21 ch 0 = none →
    ∃ t, exec (.dmaDescriptorFetch ch f) s = .next t ∧ t.mem = s.mem ∧ t.cfg = s.cfg ∧
      (match f with
      | .ok d => t = s.setDma ch { c with fetched := [padTo 32 d] }
      | _ => (t.dmaChan ch).en = false ∧ (t.dmaChan ch).errStop = true ∧ (t.dmaChan ch).errCode = 5 ∧
          (t.dmaChan ch).errIdx = c.head % c.size ∧ (t.dmaChan ch).back = c.back)) ∧
  (∀ ch s c, c = s.dmaChan ch → s.dmaOk ch = true → c.shPend = false → c.run = none → c.shEvt = true →
    exec (.dmaShadowArm ch false) s = .next (s.setDma ch { c with
      burst := c.shBurst, prio := c.shPrio, takenCount := (c.takenCount + 1) % 65536, takenIdle := true, takenIdx := c.head })) ∧
  (∀ ch s c r b, c = s.dmaChan ch → s.dmaOk ch = true → c.shPend = false → c.run = some r → r.moved < descLen r.desc →
    exec (.dmaShadowArm ch b) s = .next (s.setDma ch { c with shPend := true, shLate := false })) ∧
  (∀ ch s c, c = s.dmaChan ch → s.dmaOk ch = true → c.en = true → c.run = none →
    ∃ t, exec (.dmaAbort ch) s = .next t ∧ (t.dmaChan ch).en = false ∧ (t.dmaChan ch).abortDone = true ∧
      (t.dmaChan ch).residue = 0 ∧ (t.dmaChan ch).errIdx = c.head ∧ (t.dmaChan ch).errCode = c.errCode ∧ t.mem = s.mem) ∧
  (∀ ch s, (s.dmaChan ch).en = false → exec (.dmaAbort ch) s = .next s)

/-- R143. `taken` says that the write comes in the cycle in which the set is taken. -/
def Obligations.ShadowPending : Prop :=
  ∀ ch s c, c = s.dmaChan ch → s.dmaOk ch = true → c.shPend = true →
    (∀ v b, exec (.registerWrite 0 (0x101C + 64 * ch) v b) s = .next s) ∧
    exec (.dmaShadowDisarm ch false) s = .next (s.setDma ch { c with shPend := false, shLate := false }) ∧
    exec (.dmaShadowDisarm ch true) s = .next s ∧
    (∀ b, exec (.dmaShadowArm ch b) s = .next s)

/-- R133, R134, R136, R140 to R142, R144, R145. -/
def Obligations.DmaDescriptors : Prop :=
  (∀ ch s c d rest, c = s.dmaChan ch → s.dmaOk ch = true → c.en = true → c.stopping = false → c.run = none → c.fetched = d :: rest →
    ∃ t, exec (.dmaDescriptorStart ch) s = .next t ∧ (t.dmaChan ch).fetched = rest ∧ t.mem = s.mem ∧
      (if descOk d then t = s.setDma ch { c with fetched := rest, run := some { idx := c.head, desc := d } }
      else (t.dmaChan ch).run = none ∧ (t.dmaChan ch).head = (c.head + 1) % c.size ∧ (t.dmaChan ch).errCode = 2 ∧
        (t.dmaChan ch).errIdx = c.head ∧ (t.dmaChan ch).descErr = true ∧ (t.dmaChan ch).en = true)) ∧
  (∀ s n r, s.hostOn = true → s.dmaPick = some n → (s.dmaChan n).run = some r →
    ∃ t q, exec .dmaBeatArbitration s = .next t ∧ t.dma.last = n ∧ (t.dmaChan n).run = some q ∧ q.desc = r.desc ∧
      q.moved = r.moved + min (if descHFix r.desc || descDFix r.desc then descUnit r.desc else 64) ((s.dmaChan n).burstLeft r) ∧
      (∀ m, m ≠ n → t.dmaChan m = s.dmaChan m) ∧ t.cfg = s.cfg) ∧
  (∀ s, s.hostOn = true → s.dmaPick = none → exec .dmaBeatArbitration s = .next s) ∧
  (∀ ch s c r b p, c = s.dmaChan ch → s.dmaOk ch = true → c.run = some r → descD2h r.desc = false →
    exec (.dmaReadCompletion ch (.ok b) p) s = .next (s.setDma ch { c with run := some { r with
      buffer := r.buffer ++ (b.take (descLen r.desc - r.moved - r.buffer.length)).map (fun x => (x, p)) } })) ∧
  (∀ ch s c r f p, c = s.dmaChan ch → s.dmaOk ch = true → c.run = some r → descD2h r.desc = false → r.buffer = [] →
    f = .unsupported ∨ f = .abort ∨ f = .timeout →
    ∃ t, exec (.dmaReadCompletion ch f p) s = .next t ∧ (t.dmaChan ch).en = false ∧ (t.dmaChan ch).errStop = true ∧
      (t.dmaChan ch).errCode = 3 ∧ (t.dmaChan ch).errIdx = r.idx ∧ (t.dmaChan ch).residue = descLen r.desc - r.moved ∧
      (t.dmaChan ch).run = none ∧ t.mem = s.mem) ∧
  (∀ ch s c r h, c = s.dmaChan ch → s.dmaOk ch = true → c.run = some r → descLen r.desc ≤ r.moved → r.aborting = false →
    c.stopping = false → h = (c.shPend && !c.shLate) →
    ∃ t x, exec (.dmaDescriptorEnd ch) s = .next t ∧ x = t.dmaChan ch ∧
      x.back = some (descBack r.desc 0 0 (s.stamp 8) r.poison false h) ∧ x.run = none ∧ x.head = (r.idx + 1) % c.size ∧
      x.doneCnt = (c.doneCnt + 1) % 4294967296 ∧ x.en = c.en ∧ x.errCode = c.errCode ∧ x.descDone = (c.descDone || descIrq r.desc) ∧
      x.poisonSeen = (c.poisonSeen || r.poison) ∧
      (h = true → x.shPend = false ∧ x.shEvt = true ∧ x.takenIdx = r.idx ∧ x.takenCount = (c.takenCount + 1) % 65536 ∧
        x.takenIdle = false ∧ x.burst = c.shBurst ∧ x.prio = c.shPrio) ∧
      (h = false → x.shPend = c.shPend ∧ x.takenIdx = c.takenIdx ∧ x.takenCount = c.takenCount ∧ x.burst = c.burst ∧ x.prio = c.prio) ∧
      t.mem = s.mem ∧ t.cfg = s.cfg) ∧
  (∀ ch s c r, c = s.dmaChan ch → s.dmaOk ch = true → c.en = true → c.run = some r → r.moved < descLen r.desc →
    exec (.dmaAbort ch) s = .next (s.setDma ch { c with run := some { r with aborting := true }, stopping := true })) ∧
  (∀ ch s c r, c = s.dmaChan ch → s.dmaOk ch = true → c.run = some r → r.aborting = true →
    descD2h r.desc = true → r.moved < descLen r.desc → c.burstDone r = true →
    ∃ t x, exec (.dmaAbortDone ch) s = .next t ∧ x = t.dmaChan ch ∧ x.en = false ∧ x.abortDone = true ∧ x.errCode = 1 ∧
      x.errIdx = r.idx ∧ x.residue = descLen r.desc - r.moved ∧ x.head = (r.idx + 1) % c.size ∧ x.run = none ∧ x.fetched = [] ∧
      t.mem = s.mem ∧ t.cfg = s.cfg)

/-! ## Sampled-value ingest (chapter 7) -/

/-- R150, R152, R153, R155, R156, R158 to R161. -/
def Obligations.StreamIngest : Prop :=
  ∀ k f at_ s b x u v, s.pathOn = true → u = s.clockTo at_ → s.cfg.tables.sv.get? k = some b → s.sv.streams.get? k = some x →
    (modePorts (svMode b) (byteAt b 34)).contains f.port = true → u.injection 0x08 k (b2n (lanB f.port)) = none →
    v = u.svCount k (if svMode b != 0 && lanB f.port then 1 else 0) 1 →
    (f.parses = false → exec (.svFrameIngest k f at_) s = .next (v.svCount k 7 1)) ∧
    (f.parses = true → f.svid ≠ slice b 36 (byteAt b 35) → exec (.svFrameIngest k f at_) s = .next (v.svCount k 8 1)) ∧
    (f.parses = true → f.svid = slice b 36 (byteAt b 35) → svMode b = 0 → f.asdus = [] →
      svAuth b ≠ 0 → svAuthMon b = false → v.injection 0x06 k 0 = none → v.tagOk (le16 b 28) 0 (svAuth b) f.tag f.raw = false →
      exec (.svFrameIngest k f at_) s =
        .next ((v.svCount k 5 1).setSv k { (v.svCount k 5 1).sv1 k with authOk := false })) ∧
    (∀ a, f.parses = true → f.svid = slice b 36 (byteAt b 35) → svMode b = 0 → svAuth b = 0 → f.asdus = [a] →
      v.injection 0x07 k 0 = none → u.sv.simMode = false → f.sim = true →
      ∃ t, exec (.svFrameIngest k f at_) s = .next t ∧ (t.sv1 k).refused = some (u.now, 4) ∧ (t.sv1 k).state = x.state ∧
        (t.sv1 k).cnt = x.cnt ∧ (t.sv1 k).counts.getD 6 0 = (x.counts.getD 6 0 + 1) % 4294967296 ∧ t.aln = u.aln ∧ t.cfg = s.cfg) ∧
    (∀ a, f.parses = true → f.svid = slice b 36 (byteAt b 35) → svMode b = 0 → svAuth b = 0 → f.asdus = [a] →
      v.injection 0x07 k 0 = none → f.sim = false → x.sim = false → x.realDue = false →
      (a.confRev ≠ le32 b 20 → ∃ t, exec (.svFrameIngest k f at_) s = .next t ∧ (t.sv1 k).refused = some (u.now, 1) ∧
        (t.sv1 k).counts.getD 9 0 = (x.counts.getD 9 0 + 1) % 4294967296 ∧ (t.sv1 k).state = x.state ∧ t.aln = u.aln ∧ t.cfg = s.cfg) ∧
      (a.confRev = le32 b 20 → a.dataLen ≠ 8 * svChans b →
        ∃ t, exec (.svFrameIngest k f at_) s = .next t ∧ (t.sv1 k).refused = some (u.now, 2) ∧
        (t.sv1 k).counts.getD 10 0 = (x.counts.getD 10 0 + 1) % 4294967296 ∧ (t.sv1 k).state = x.state ∧ t.aln = u.aln ∧ t.cfg = s.cfg) ∧
      (∀ h, a.confRev = le32 b 20 → a.dataLen = 8 * svChans b → a.smpRate = some x.rate → 64 < smpPeriod x.rate →
        x.head = some h → h < smpPeriod x.rate → a.smpCnt = (h + 1) % smpPeriod x.rate → 8000000000 ≤ x.level →
        byteAt b 33 ≤ synchGrade a.smpSynch →
        ∃ t, exec (.svFrameIngest k f at_) s = .next t ∧ (t.sv1 k).cnt = a.smpCnt ∧ (t.sv1 k).head = some a.smpCnt ∧
          (t.sv1 k).rxExt = u.now ∧ (t.sv1 k).synch = a.smpSynch ∧ (t.sv1 k).rate = x.rate ∧
          (x.state = 3 → (t.sv1 k).state = 3) ∧ (x.state = 2 → 3 ≤ x.run → (t.sv1 k).state = 3) ∧
          (x.state = 2 → x.run < 3 → (t.sv1 k).state = 2 ∧ (t.sv1 k).run = x.run + 1) ∧
          (x.state = 1 ∨ x.state = 4 ∨ x.state = 5 → (t.sv1 k).state = 2 ∧ (t.sv1 k).run = 1) ∧
          (∀ j, j ≠ k → t.sv1 j = s.sv1 j) ∧ t.cfg = s.cfg ∧ t.mem = s.mem))

/-- R157, R161, R162. -/
def Obligations.StreamTimeouts : Prop :=
  (∀ k s x due at_, s.pathOn = true → s.sv.streams.get? k = some x → x.state = 2 ∨ x.state = 3 →
    due = x.rxExt + svLoss (s.svEntry k) →
    (s.gridFrom due = none ∧ at_ = due) ∨ (∃ g d, s.gridFrom due = some g ∧ s.instant g = some (d, at_)) →
    (∀ a r, x.refused = some (a, r) → x.rxExt ≤ a → at_ ≤ a + svLoss (s.svEntry k) →
      ∃ t, exec (.svStreamLoss k) s = .next t ∧ (t.sv1 k).state = 5 ∧ (t.sv1 k).reason = r ∧ (t.sv1 k).counts = x.counts ∧
        t.now = (s.clockTo at_).now ∧ (∀ j, j ≠ k → t.sv1 j = s.sv1 j) ∧ t.cfg = s.cfg) ∧
    (x.refused = none ∨ (∃ a r, x.refused = some (a, r) ∧ (a < x.rxExt ∨ a + svLoss (s.svEntry k) < at_)) →
      ∃ t, exec (.svStreamLoss k) s = .next t ∧ (t.sv1 k).state = 4 ∧ (t.sv1 k).reason = 0 ∧
        (t.sv1 k).counts.getD 15 0 = (x.counts.getD 15 0 + 1) % 4294967296 ∧ t.now = (s.clockTo at_).now ∧
        (∀ j, j ≠ k → t.sv1 j = s.sv1 j) ∧ t.cfg = s.cfg)) ∧
  (∀ k s x, s.sv.streams.get? k = some x → x.state ≠ 2 → x.state ≠ 3 → exec (.svStreamLoss k) s = .next s) ∧
  (∀ k b s x u, s.pathOn = true → s.sv.streams.get? k = some x → svMode (s.svEntry k) = 1 ∨ svMode (s.svEntry k) = 2 →
    (if b then x.lans.missB else x.lans.missA) = false →
    u = s.clockTo ((if b then x.lans.b else x.lans.a) + svLoss (s.svEntry k)) →
    exec (.svLanMissing k b) s = .next ((u.setSv k { x with
      lans := if b then { x.lans with missB := true } else { x.lans with missA := true } }).lanRecord k b false)) ∧
  (∀ k s x, s.pathOn = true → s.sv.streams.get? k = some x → x.prp.high.isSome = true →
    exec (.prpWindowTimeout k) s = .next ((s.clockTo (x.prp.last + 400000000)).setSv k { x with prp := {} }))

/-- R154, R156, R164. -/
def Obligations.StreamCommands : Prop :=
  Completes .svStage cmdSvStage (fun _ e t => t.setStaged { t.staged with
      sv := (regionRecs 128 (byteAt e.req.params 0) e.req).foldl (fun x b => putRec x (le16 b 0) ((byteAt b 2).testBit 0) b) t.staged.sv })
    (fun _ e _ => leBytes 2 (regionRecs 128 (byteAt e.req.params 0) e.req).length) noXp ∧
  Completes .svUnstage cmdSvUnstage (fun _ e t => t.setStaged { t.staged with
    sv := (unstageList e.req).foldl (fun x k => x.del k) t.staged.sv }) noResp noXp ∧
  Answers .svRead cmdSvRead noResp (fun _ e t =>
    some (padTo 128 (entryOr (t.tablesOf (byteAt e.req.params 2)).sv (le16 e.req.params 0) 128))) ∧
  Answers .svStatus cmdSvStatus noResp (fun _ e t =>
    some ((List.range (le16 e.req.params 2)).flatMap (fun i => t.svStatusBytes (le16 e.req.params 0 + i)))) ∧
  (∀ p e s t x, Accepted cmdSvStats p e s t → t.sv.streams.get? (le16 e.req.params 0) = some x →
    exec (.svStats p) s = .next ((if byteAt e.req.params 2 = 1 then t.setSv (le16 e.req.params 0) { x with counts := [] } else t).complete
      p stOK [] (some (counts16 x.counts)))) ∧
  Completes .svSimMode cmdSvSimMode
    (fun p e t => (t.holdChange p e).1.firnEv 0x0503
      ([0, 0] ++ leBytes 1 (b2n t.sv.simMode) ++ leBytes 1 (byteAt e.req.params 0)))
    (fun p e t => leBytes 4 (t.holdChange p e).2) noXp ∧
  (∀ p e s t, Accepted cmdSvLoad p e s t → ∃ r x, exec (.svLoad p) s = .next (t.complete p stOK r (some x)) ∧
    slice r 0 2 = leBytes 2 t.cfg.tables.sv.length ∧ slice x 4 8 = leBytes 4 t.sv.unmatched ++ leBytes 4 t.sv.stale) ∧
  Completes .tblDiscard cmdTblDiscard (fun _ _ t => { t with stg := none }) noResp noXp ∧
  Ends .tblCommit cmdTblCommit (fun _ _ t => t.streamsFit t.staged.sv t.acq.longe = false) stNO_RESOURCE noEffect noResp noXp ∧
  (∀ p e s t u, Accepted cmdTblCommit p e s t → t.streamsFit t.staged.sv t.acq.longe = true →
    u = State.tablesTake { t with
      cfg.tables := t.staged, stored.tables := t.staged, stg := none, cfg.committed := true, stored.committed := true } t.cfg.tables →
    exec (.tblCommit p) s = .next (u.complete p stOK ((t.stamp 17).bytes ++ leBytes 4 u.sv.gen)) ∧ u.sv.gen = nextGen t.sv.gen)

/-! ## Alignment (chapter 8) -/

/-- R16, R165, R167, R168, R180, R213, R318, R320. The number of an extrapolated mark is the next one. -/
def Obligations.GridMark : Prop :=
  (∀ s, s.time.running = false → exec .gridSecondMark s = .next s) ∧
  (∀ s, s.time.running = true → s.sv.marks = [] →
    ∃ t d, exec .gridSecondMark s = .next t ∧
      t.time.cur = { s.time.next with gridStep := t.time.cur.gridStep } ∧
      (t.time.cur.gridStep = true ↔ s.time.next.renumbered = true ∨
        200000 < ((s.time.shiftIn.ns : Int) - s.time.next.ns - 1000000000).natAbs) ∧
      t.time.next = s.time.shiftIn ∧ t.time.pend = none ∧
      (∀ m, s.time.pend = some m → t.time.next = m ∧ t.time.extrapCnt = s.time.extrapCnt) ∧
      (s.time.pend = none → t.time.next.ns = 2 * s.time.next.ns - s.time.cur.ns ∧ t.time.next.sec = s.time.next.sec + 1 ∧
        t.time.extrapCnt = (s.time.extrapCnt + 1) % 4294967296) ∧
      t.aln.seconds.head? = some d ∧ d.m0 = s.time.next.ns ∧ d.m1 = t.time.next.ns ∧ d.sec = s.time.next.sec ∧
      d.rate = gridRate s.aln.rate ∧ d.snow = t.aln.snow ∧ d.holdover = s.time.next.holdover ∧
      (∀ e, s.aln.seconds.head? = some e → d.g0 = e.g0 + e.rate ∧ d.ord = e.ord + 1) ∧
      (s.aln.sMin ≤ s.aln.sMax → s.aln.sMin ≤ t.aln.target ∧ t.aln.target ≤ s.aln.sMax) ∧
      (if s.aln.snow ≤ t.aln.target then t.aln.snow = t.aln.target else t.aln.snow = max t.aln.target (s.aln.snow - 50)) ∧
      t.sv.marks = [] ∧ t.cfg = s.cfg ∧ t.mem = s.mem) ∧
  (∀ s c, s.time.running = true → s.sv.marks = [c] →
    ∃ t, exec .gridSecondMark s = .next t ∧
      (1 < c.marks → t.sv.marks = [{ c with marks := c.marks - 1 }] ∧ t.cfg = s.cfg) ∧
      (c.marks ≤ 1 → c.opcode = 0x0701 → t.sv.marks = [] ∧ t.cfg.ph = { s.cfg.ph with p := byteAt c.params 0 }))

/-- R172, R173, R176, R177; the path delay of a 96,000 samples/s stream is log 87's reading. -/
def Obligations.AlignedValues : Prop :=
  (∀ k s g d (t0 : Nat) e, s.pathOn = true → (s.cfg.tables.sv.get? k).isSome = true → s.nextPlaced (s.alnOf k).fineNext = some (g, d, t0) →
    (∀ a ∈ (s.alnOf k).fine, a.g < g) → e = ((t0 : Rat) + (s.finePath k).delay + d.snow * 1000).ceil.toNat →
    ∃ t, exec (.fineEmission k) s = .next t ∧ (t.alnOf k).fineNext = some (g + 1) ∧
      (t.alnOf k).fine.head? = some { g := g, vals := (s.clockTo e).fineAt k e d t0 } ∧ (t.alnOf k).coarse = (s.alnOf k).coarse ∧
      (t.alnOf k).hist = (s.alnOf k).hist ∧ (∀ j, j ≠ k → t.alnOf j = s.alnOf j) ∧ t.cfg = s.cfg ∧ t.now = (s.clockTo e).now) ∧
  (∀ k s g d (t0 : Nat) e, s.pathOn = true → (s.cfg.tables.sv.get? k).isSome = true → s.nextPlaced (s.alnOf k).coarseNext = some (g, d, t0) →
    (∀ a ∈ (s.alnOf k).coarse, a.g < g) → e = ((t0 : Rat) + (s.coarsePath k).delay + s.aln.sMax * 1000).ceil.toNat →
    ∃ t vals, exec (.coarseDeadline k) s = .next t ∧ (t.alnOf k).coarseNext = some (g + 1) ∧
      (t.alnOf k).coarse.head? = some { g := g, vals := vals } ∧
      vals = ((s.setAln k { s.alnOf k with coarseNext := some g }).clockTo e).coarseAt k e d t0 ∧
      (t.alnOf k).fine = (s.alnOf k).fine ∧ (∀ j, j ≠ k → t.alnOf j = s.alnOf j) ∧ t.cfg = s.cfg) ∧
  (∀ k s g d (t0 : Nat), s.pathOn = true → (s.cfg.tables.sv.get? k).isSome = true → s.delivers k = true →
    s.nextPlaced (s.alnOf k).coarseNext = some (g, d, t0) → s.instant g = some (d, t0) → (∀ a ∈ (s.alnOf k).coarse, a.g < g) →
    (s.setAln k { s.alnOf k with coarseNext := some g }).coarseReady k t0 = true →
    ∃ t vals, exec (.coarseValue k) s = .next t ∧ (t.alnOf k).coarseNext = some (g + 1) ∧
      (t.alnOf k).coarse.head? = some { g := g, vals := vals } ∧
      vals = (s.setAln k { s.alnOf k with coarseNext := some g }).coarseAt k s.now d t0 ∧
      (∀ j, j ≠ k → t.alnOf j = s.alnOf j) ∧ t.cfg = s.cfg) ∧
  (∀ k s, s.delivers k = false → exec (.coarseValue k) s = .next s)

/-- R16, R165, R188, R189, R211, R213. -/
def Obligations.GridSettings : Prop :=
  Ends .alnCfg cmdAlnCfg (fun _ e t => 4800 < gridRate (byteAt e.req.params 0) ∧ t.mod.slotCap = true) stNO_RESOURCE noEffect noResp noXp ∧
  Ends .alnCfg cmdAlnCfg (fun _ e t => gridRate (byteAt e.req.params 0) ≤ 4800 ∨ t.mod.slotCap = false) stOK
    (fun p e t => (t.holdChange p e).1) (fun p e t => leBytes 4 (t.holdChange p e).2) noXp ∧
  Completes .alnStreamCfg cmdAlnStreamCfg (fun p e t => (t.holdChange p e).1) (fun p e t => leBytes 4 (t.holdChange p e).2) noXp ∧
  Completes .phCfg cmdPhCfg (fun p e t => (t.holdChange p e).1) (fun p e t => leBytes 4 (t.holdChange p e).2) noXp ∧
  Completes .phProfileSet cmdPhProfileSet (fun p e t => (t.holdChange p e).1) (fun p e t => leBytes 4 (t.holdChange p e).2) noXp ∧
  Completes .phMapSet cmdPhMapSet (fun p e t => (t.holdChange p e).1) (fun p e t => leBytes 4 (t.holdChange p e).2) noXp ∧
  Completes .phBusSet cmdPhBusSet (fun p e t => (t.holdChange p e).1) (fun p e t => leBytes 4 (t.holdChange p e).2) noXp ∧
  Completes .phTripleSet cmdPhTripleSet (fun p e t => (t.holdChange p e).1) (fun p e t => leBytes 4 (t.holdChange p e).2) noXp ∧
  Completes .grdSet cmdGrdSet (fun p e t => (t.holdChange p e).1) (fun p e t => leBytes 4 (t.holdChange p e).2) noXp ∧
  Answers .alnStatus cmdAlnStatus noResp (fun _ _ t => some t.alnStatusBytes) ∧
  Answers .phStatus cmdPhStatus noResp (fun _ _ t => some ((List.range 64).flatMap t.busBytes)) ∧
  Answers .grdRead cmdGrdRead noResp (fun _ e t => some (padTo 128
    (if byteAt e.req.params 2 = 1 then t.grdPending (le16 e.req.params 0) else t.grdRec (le16 e.req.params 0)))) ∧
  (∀ p e s t, Accepted cmdGrdStatus p e s t → ∃ r, exec (.grdStatus p) s = .next (t.complete p stOK r
    (some (grdBits t.eBit ++ grdBits (fun i => (t.grdEl i).valid))))) ∧
  Answers .grdLogRead cmdGrdLogRead (fun _ e t => leBytes 2 (t.grdSlice e.req.params).length ++ leBytes 4 t.grd.lost)
    (fun _ e t => some (t.grdSlice e.req.params).flatten) ∧
  Completes .alnStreamStatus cmdAlnStreamStatus (fun _ e t =>
      if byteAt e.req.params 2 = 1 then
        t.setAln (le16 e.req.params 0) { t.alnOf (le16 e.req.params 0) with counts := [] } else t)
    noResp (fun _ e t => some (t.alnStreamBytes (le16 e.req.params 0)))

/-- R111, R117, R123, R184, R186, R188, R200. -/
def Obligations.Slabs : Prop :=
  (∀ p e s t k u, Accepted cmdAlnSlabBind p e s t → byteAt e.req.params 2 = 0 → k = 64 * byteAt e.req.params 0 + byteAt e.req.params 1 →
    u = State.holdChange { t with aln.gens := t.aln.gens.set k (t.aln.gens.getD k 0) } p
      { e with req.params := padTo 44 e.req.params ++ leBytes 4 (t.aln.gens.getD k 0) } →
    exec (.alnSlabBind p) s = .next (u.1.complete p stOK (leBytes 4 u.2 ++ leBytes 4 (t.aln.gens.getD k 0)))) ∧
  (∀ p e s t k u c, Accepted cmdPhSlabBind p e s t → byteAt e.req.params 2 ≠ 0 → k = 64 * byteAt e.req.params 0 + byteAt e.req.params 1 →
    c = padTo 44 e.req.params ++ leBytes 4 (t.aln.gens.getD k 0 + 1) →
    u = State.holdChange { t with aln.gens := t.aln.gens.set k (t.aln.gens.getD k 0 + 1) } p { e with req.params := c } →
    exec (.phSlabBind p) s = .next (
      if t.slabsFull k (bindOf { opcode := e.req.opcode, params := c, region := e.req.region, path := p, marks := 0 }).2
      then t.complete p stNO_RESOURCE
      else u.1.complete p stOK (leBytes 4 u.2 ++ leBytes 4 (t.aln.gens.getD k 0 + 1)))) ∧
  (∀ n q f s b is slab, s.pathOn = true → s.aln.binds.get? (64 * n + q) = some b → s.queueOk n q = true →
    ((s.fn n).queue q).slab = true → s.dueSlab b = some (is, slab) →
    ((s.fn n).frozen = true → exec (.slabDelivery n q f) s = .next (s.slabDone (64 * n + q) b is false)) ∧
    ((s.fn n).frozen = false → ((s.fn n).queue q).rxEn = false ∨ ((s.fn n).queue q).posted = 0 →
      ∃ t, exec (.slabDelivery n q f) s = .next t ∧ (t.fn n).rxNobuf = ((s.fn n).rxNobuf + 1) % 4294967296 ∧
        ((t.fn n).queue q).noBuf = true ∧ ((t.fn n).queue q).rxHead = ((s.fn n).queue q).rxHead ∧ t.mem = s.mem ∧ t.cfg = s.cfg) ∧
    (∀ d, (s.fn n).frozen = false → ((s.fn n).queue q).rxEn = true → 0 < ((s.fn n).queue q).posted → f = .ok d → rxDescOk d = true →
      slab.length ≤ le32 d 8 →
      ∃ t, exec (.slabDelivery n q f) s = .next t ∧
        ((t.fn n).queue q).rxHead = (((s.fn n).queue q).rxHead + 1) % ((s.fn n).queue q).rxSize ∧ ((t.fn n).queue q).rxEvt = true ∧
        (t.fn n).rxNobuf = (s.fn n).rxNobuf ∧ (∀ x, t.aln.binds.get? (64 * n + q) = some x → x.missed = 0 ∧ x.gap = false) ∧
        t.mem = s.mem ∧ t.cfg = s.cfg))

/-! ## Phasors and guard elements (chapter 9) -/

/-- R205: what one evaluated instant does to counters and output. -/
def Obligations.GuardTimers : Prop :=
  ∀ b e met level mag rate n, grdType b ≠ 6 → n = grdAdvance b e met level mag rate → e.cntPu ≤ 65535 → e.cntDo ≤ 65535 →
    grdPu b ≤ 65535 ∧ grdDo b ≤ 65535 ∧
    (e.out = false → met = false → n.out = false ∧ n.cntPu = 0) ∧
    (e.out = false → met = true → e.cntPu + 1 < grdPu b + 1 → n.out = false ∧ n.cntPu = e.cntPu + 1) ∧
    (e.out = false → met = true → grdPu b + 1 ≤ e.cntPu + 1 → n.out = true) ∧
    (e.out = true → met = true → n.out = true ∧ n.cntDo = 0) ∧
    (e.out = true → met = false → e.cntDo + 1 < grdDo b + 1 → n.out = true ∧ n.cntDo = e.cntDo + 1) ∧
    (e.out = true → met = false → grdDo b + 1 ≤ e.cntDo + 1 → n.out = false)

/-- R201, R202, R205, R207 to R209. -/
def Obligations.GuardEvaluation : Prop :=
  (∀ s, .dsp ∉ s.power.on → exec .guardEvaluation s = .next s) ∧
  (∀ s i e b p, s.pathOn = true → .dsp ∈ s.power.on → s.grd.els = [(i, e)] → s.grd.mirror.get? i = none → s.grd.before.get? i = none → b = s.grdRec i →
    grdActive b = true → grdBlock b = false → e.pre = none → s.grdPre b e = some p →
    ∃ t x, exec .guardEvaluation s = .next t ∧ x = t.grdEl i ∧ x.next = e.next + 1 ∧ x.valid = !p.invalid ∧ x.pre = none ∧
      (p.invalid = true → grdInvMode b = false → x.out = e.out ∧ x.cntPu = e.cntPu ∧ x.cntDo = e.cntDo ∧ x.acc = e.acc ∧ x.met = e.met) ∧
      (p.invalid = false ∨ grdInvMode b = true →
        x.out = (grdAdvance b e p.met p.level p.mag (s.rateAt e.next)).out ∧
        x.cntPu = (grdAdvance b e p.met p.level p.mag (s.rateAt e.next)).cntPu ∧
        x.cntDo = (grdAdvance b e p.met p.level p.mag (s.rateAt e.next)).cntDo ∧
        x.acc = (grdAdvance b e p.met p.level p.mag (s.rateAt e.next)).acc) ∧
      (p.invalid = true → grdInvMode b = true → p.met = false) ∧ t.cfg = s.cfg ∧ t.aln = s.aln) ∧
  (∀ s i e b, s.pathOn = true → .dsp ∈ s.power.on → s.grd.els = [(i, e)] → s.grd.mirror.get? i = none → s.grd.before.get? i = none → b = s.grdRec i →
    e.pre = none → s.grdPre b e = none ∨ grdActive b = false →
    ∃ t, exec .guardEvaluation s = .next t ∧ t.grdEl i = e ∧ t.cfg = s.cfg ∧ t.aln = s.aln) ∧
  (∀ (s : State) b g k, grdBlock b = true → k = le16 b 22 → grdActive (s.grdRecAt k g) = true → g = (s.grdEl k).next →
    (∀ c ∈ (s.grdEl k).conds, c.1 ≠ g) → s.blocked b g = none)

/-- R191, R195, R197, R198. -/
def Obligations.PhasorItems : Prop :=
  (∀ (s : State) path c slot g, s.chanMap c g = none → s.chanItem path c slot g = some (s.unmapped (path.getD 0) c g)) ∧
  (∀ (s : State) path c slot g (pr : PhProfile) k b, s.chanMap c g = some (pr, k, b) → pr.orders.length ≤ slot →
    s.chanItem path c slot g = some (s.unmapped (path.getD pr.path) c g)) ∧
  (∀ (s : State) path c g, (s.unmapped path c g).re = 0 ∧ (s.unmapped path c g).im = 0 ∧ (s.unmapped path c g).aflags = 1 ∧
    (s.unmapped path c g).pflags = 16 ||| s.busFlags (s.mapEntry c g).2 path g) ∧
  (∀ (s : State) (pr : PhProfile) path bus c h g x, 9 * s.rateAt g < 20 * h * (s.bus bus g).fNom → s.phasor pr path bus c h g = some x →
    x.re = 0 ∧ x.im = 0 ∧ x.aflags.testBit 0 = true ∧ x.pflags = s.busFlags bus path g ||| 4) ∧
  (∀ (s : State) path t which g, (s.phAt g).triples.get? t = none → s.tripleItem path t which g = some (Item.nil 16)) ∧
  (∀ (s : State) path t which g x y, (s.phAt g).triples.get? t = some x → s.mapEntry x.a g ≠ s.mapEntry x.b g →
    s.tripleItem path t which g = some y → y.re = 0 ∧ y.im = 0 ∧ y.aflags.testBit 0 = true ∧ y.pflags.testBit 3 = true) ∧
  (∀ (s : State) b path g, (s.bus b g).track = false → (s.busRun b path).restart = none → (s.busRun b path).hist = [] →
    s.busF b path g = some (((s.bus b g).fNom : Int) * 2 ^ 80)) ∧
  (∀ p : Nat, (Item.nil p).re = 0 ∧ (Item.nil p).im = 0 ∧ (Item.nil p).aflags = 1 ∧ (Item.nil p).pflags = p)

/-! ## GOOSE and trips (chapter 10) -/

/-- R118, R216 to R219, R226. That a repeated doorbell is logged is read from R118 (log 38). -/
def Obligations.TripPublishing : Prop :=
  (∀ n k c a s u p b x, .host ∈ s.power.on → s.pathOn = true → 1 ≤ n → n ≤ 127 → k ≤ 15 → u = s.clockTo a →
    s.goose.binds.get? (16 * n + k) = some p → s.pubRec p = some b → pubTrip b = true → x = s.pub p →
    (x.elems = [] → x.logic = false → x.slots = [] →
      ∃ t e, exec (.vfTripAssert n k c a) s = .next t ∧ (t.pub p).stNum = nextSt x.stNum ∧ (t.pub p).sqNum = 0 ∧
        (t.pub p).slots = [16 * n + k] ∧ (t.pub p).trip = true ∧ (t.pub p).sent = 1 ∧
        (t.pub p).due = some (u.now + 1000000 * curveInterval (le16 b 22, le16 b 24, byteAt b 26) 1) ∧
        e ∈ t.goose.log ∧ e.pub = p ∧ e.source = 3 ∧ e.value = true ∧ e.index = 16 * n + k ∧ e.cookie = c ∧ e.changed = true ∧
        e.src = u.stamp 6 ∧ e.stNum = nextSt x.stNum ∧ t.cfg = s.cfg ∧ t.mem = s.mem) ∧
    (x.slots = [16 * n + k] → x.elems = [] → x.logic = false →
      ∃ t, exec (.vfTripRelease n k c a) s = .next t ∧ (t.pub p).stNum = nextSt x.stNum ∧ (t.pub p).sqNum = 0 ∧
        (t.pub p).trip = false) ∧
    (x.logic = true → ∃ t e, exec (.vfTripAssert n k c a) s = .next t ∧ (t.pub p).stNum = x.stNum ∧ (t.pub p).sqNum = x.sqNum ∧
      (t.pub p).frames = x.frames ∧ (t.pub p).due = x.due ∧ t.sw = s.sw ∧
      t.goose.log = (e :: s.goose.log).take 4096 ∧ e.source = 3 ∧ e.changed = false ∧ e.src = u.stamp 6 ∧ e.cookie = c)) ∧
  (∀ p s b x due u, s.pathOn = true → s.pubRec p = some b → x = s.pub p → x.due = some due → u = s.clockTo due →
    (u.pubWaits p true = false → exec (.gooseRetransmission p) s = .next ((u.setPub p { x with
      sqNum := nextSq x.sqNum, sent := x.sent + 1
      due := some (due + 1000000 * curveInterval x.curve (x.sent + 1)) }).pubSend p none)) ∧
    (u.pubWaits p true = true → exec (.gooseRetransmission p) s = .next (u.setPub p { x with
      due := some (due + 1000000 * curveInterval x.curve (x.sent + 1)), sent := x.sent + 1 }))) ∧
  (∀ p s, (s.pub p).due = none → exec (.gooseRetransmission p) s = .next s) ∧
  (∀ n : Nat, nextSt 4294967295 = 1 ∧ nextSq 4294967295 = 1 ∧ (n < 4294967295 → nextSt n = n + 1 ∧ nextSq n = n + 1)) ∧
  (∀ c j, (j ≤ c.2.2 → curveInterval c j = c.1) ∧ (c.2.2 < j → curveInterval c j = min (c.1 * 2 ^ (j - c.2.2)) c.2.1))

/-- R222 to R224. -/
def Obligations.GooseSubscriptions : Prop :=
  (∀ g f at_ s b x u v, s.pathOn = true → u = s.clockTo at_ → s.cfg.tables.subs.get? g = some b → x = s.sub g → svMode b = 0 →
    byteAt b 25 % 4 = 0 → f.port = byteAt b 31 → u.injection 0x09 g 0 = none → v = u.subCount g 0 →
    (f.parses = false → exec (.gooseFrameReceive g f at_) s = .next (v.subCount g 7)) ∧
    (f.parses = true → f.gocbRef ≠ slice b 64 (byteAt b 56) → exec (.gooseFrameReceive g f at_) s = .next (v.subCount g 8)) ∧
    (f.parses = true → f.gocbRef = slice b 64 (byteAt b 56) → f.test = false → x.sim = false →
      ∃ t, exec (.gooseFrameReceive g f at_) s = .next t ∧ (∀ j, j ≠ g → t.sub j = s.sub j) ∧ t.cfg = s.cfg ∧ t.mem = s.mem ∧
        (f.confRev ≠ le32 b 20 → (t.sub g).refused = some 1 ∧ (t.sub g).state = x.state ∧ (t.sub g).last = x.last) ∧
        (f.confRev = le32 b 20 → f.ndsCom = true → (t.sub g).refused = some 6 ∧ (t.sub g).state = x.state ∧ (t.sub g).last = x.last) ∧
        (f.confRev = le32 b 20 → f.ndsCom = false → f.vals.length ≠ subMembers b →
          (t.sub g).refused = some 2 ∧ (t.sub g).state = x.state ∧ (t.sub g).last = x.last) ∧
        (f.confRev = le32 b 20 → f.ndsCom = false → f.vals.length = subMembers b →
          f.vals.zipIdx.all (fun (v, j) => kindMatches (subKind b j) v) = true →
          (x.last = some (f.stNum, f.sqNum) → (t.sub g).state = x.state ∧ (t.sub g).rxExt = x.rxExt ∧
            (t.sub g).counts.getD 12 0 = (x.counts.getD 12 0 + 1) % 4294967296) ∧
          (x.last ≠ some (f.stNum, f.sqNum) → (t.sub g).state = 3 ∧ (t.sub g).last = some (f.stNum, f.sqNum) ∧
            (t.sub g).rxExt = u.now ∧ (t.sub g).tal = f.tal ∧ (t.sub g).refused = none)))) ∧
  (∀ g s b x u, s.pathOn = true → s.cfg.tables.subs.get? g = some b → x = s.sub g → x.state = 3 →
    u = s.clockTo (x.rxExt + 1000000 * (x.tal + byteAt b 30) + 5000) →
    (∀ r, x.refused = some r → exec (.gooseTalExpiry g) s = .next (u.subTo g 5 r)) ∧
    (x.refused = none → exec (.gooseTalExpiry g) s = .next ((u.subTo g 4 0).subCount g 13))) ∧
  (∀ g s, (s.sub g).state ≠ 3 → exec (.gooseTalExpiry g) s = .next s) ∧
  (∀ g (s : State) k r, ((s.subTo g k r).sub g).state = k ∧ ((s.subTo g k r).sub g).reason = (if k = 5 then r else 0))

/-- R214, R222, R226, R230, R232. -/
def Obligations.GooseCommands : Prop :=
  Completes .goosePubStage cmdGoosePubStage (fun _ e t => t.setStaged { t.staged with
      pubs := (regionRecs 384 (byteAt e.req.params 0) e.req).foldl (fun x b => putRec x (le16 b 0) ((byteAt b 2).testBit 0) b) t.staged.pubs })
    (fun _ e _ => leBytes 2 (regionRecs 384 (byteAt e.req.params 0) e.req).length) noXp ∧
  Completes .gooseSubStage cmdGooseSubStage (fun _ e t => t.setStaged { t.staged with
      subs := (regionRecs 128 (byteAt e.req.params 0) e.req).foldl (fun x b => putRec x (le16 b 0) ((byteAt b 2).testBit 0) b) t.staged.subs })
    (fun _ e _ => leBytes 2 (regionRecs 128 (byteAt e.req.params 0) e.req).length) noXp ∧
  Completes .tripBind cmdTripBind (fun _ e t => t.setStaged { t.staged with
    binds := if byteAt e.req.params 3 = 1 then t.staged.binds.set (16 * byteAt e.req.params 0 + byteAt e.req.params 1) (byteAt e.req.params 2)
      else t.staged.binds.del (16 * byteAt e.req.params 0 + byteAt e.req.params 1) }) noResp noXp ∧
  Answers .goosePubRead cmdGoosePubRead noResp (fun _ e t =>
    some (padTo 384 (entryOr (t.tablesOf (byteAt e.req.params 1)).pubs (byteAt e.req.params 0) 384))) ∧
  Answers .gooseSubRead cmdGooseSubRead noResp (fun _ e t =>
    some (padTo 128 (entryOr (t.tablesOf (byteAt e.req.params 2)).subs (le16 e.req.params 0) 128))) ∧
  Answers .gooseSubStatus cmdGooseSubStatus noResp (fun _ e t =>
    some ((List.range (le16 e.req.params 2)).flatMap (fun i => t.subStatusBytes (le16 e.req.params 0 + i)))) ∧
  Answers .goosePubStatus cmdGoosePubStatus noResp (fun _ e t =>
    some ((List.range (byteAt e.req.params 1)).flatMap (fun i => t.pubStatusBytes (byteAt e.req.params 0 + i)))) ∧
  Answers .tripLogRead cmdTripLogRead (fun _ e t => leBytes 2 (t.tripSlice e.req.params).length ++ leBytes 4 t.goose.lost)
    (fun _ e t => some ((t.tripSlice e.req.params).flatMap TripEntry.bytes)) ∧
  (∀ p e s t x, Accepted cmdGooseStats p e s t → t.goose.subs.get? (le16 e.req.params 0) = some x →
    exec (.gooseStats p) s = .next ((if byteAt e.req.params 2 = 1 then t.setSub (le16 e.req.params 0) { x with counts := [] } else t).complete
      p stOK [] (some (counts16 x.counts)))) ∧
  (∀ p e s t, Accepted cmdGuarStatus p e s t → ∃ u, exec (.guarStatus p) s =
      .next (u.complete p stOK [] (some ((List.range 6).flatMap t.guarBytes))) ∧
    (byteAt e.req.params 0 = 0 → u = t) ∧
    (byteAt e.req.params 0 = 1 → ∀ i, i < 6 → (u.port i).loadExc = 0 ∧ (u.port i).burstExc = 0 ∧ (u.port i).g2Exc = 0 ∧
      (u.port i).pauseSeen = false ∧ (u.port i).up = (t.port i).up))

/-! ## Logic (chapter 11) -/

/-- A one-word instruction with an operand (R235). -/
def insnWord (op area addr : Nat) : Nat := op * 2 ^ 24 + area * 2 ^ 20 + addr

/-- R235 to R237, R239 to R241, R250. -/
def Obligations.BitLogic : Prop :=
  (∀ fs tb pre pc d ar x v, ar < 16 → x < 65536 → v = d.img.read fs ar x →
    (dblStep fs tb (insnWord 1 ar x) pre pc d).a = v ∧ (dblStep fs tb (insnWord 2 ar x) pre pc d).a = !v ∧
    (dblStep fs tb (insnWord 3 ar x) pre pc d).a = (d.a && v) ∧ (dblStep fs tb (insnWord 4 ar x) pre pc d).a = (d.a && !v) ∧
    (dblStep fs tb (insnWord 5 ar x) pre pc d).a = (d.a || v) ∧ (dblStep fs tb (insnWord 6 ar x) pre pc d).a = (d.a || !v) ∧
    (dblStep fs tb (insnWord 7 ar x) pre pc d).a = (d.a ^^ v) ∧
    (∀ op, op < 8 → (dblStep fs tb (insnWord op ar x) pre pc d).img = d.img ∧
      (dblStep fs tb (insnWord op ar x) pre pc d).next = pc + 1 ∧ (dblStep fs tb (insnWord op ar x) pre pc d).stk = d.stk)) ∧
  (∀ fs tb pre pc d k, k < 8192 →
    (dblStep fs tb (insnWord 0x20 1 k) pre pc d).img.q.getLsbD k = d.a ∧
    (dblStep fs tb (insnWord 0x21 1 k) pre pc d).img.q.getLsbD k = !d.a ∧
    (dblStep fs tb (insnWord 0x22 1 k) pre pc d).img.q.getLsbD k = (d.img.q.getLsbD k || d.a) ∧
    (dblStep fs tb (insnWord 0x23 1 k) pre pc d).img.q.getLsbD k = (d.img.q.getLsbD k && !d.a) ∧
    (∀ op j, 0x20 ≤ op → op ≤ 0x23 → j ≠ k → (dblStep fs tb (insnWord op 1 k) pre pc d).img.q.getLsbD j = d.img.q.getLsbD j) ∧
    (∀ op, 0x20 ≤ op → op ≤ 0x23 → (dblStep fs tb (insnWord op 1 k) pre pc d).a = d.a)) ∧
  (∀ fs tb pre pc d w w2, dblStep fs tb (insnWord 0x1C 0 0) pre pc (dblStep fs tb (insnWord 0x18 0 0) pre w d) =
      { d with next := pc + 1, cycles := d.cycles + 2 } ∧
    (dblStep fs tb (insnWord 0x19 0 0) pre pc { d with stk := w :: w2 }).a = (w && d.a) ∧
    (dblStep fs tb (insnWord 0x1A 0 0) pre pc { d with stk := w :: w2 }).a = (w || d.a) ∧
    (dblStep fs tb (insnWord 0x1B 0 0) pre pc { d with stk := w :: w2 }).a = (w ^^ d.a) ∧
    (dblStep fs tb (insnWord 0x1D 0 0) pre pc { d with stk := w :: w2 }).a = w) ∧
  (∀ fs tb pre pc d k, k < 4096 →
    (∀ f, d.img.f.get? k = some f → (dblStep fs tb (insnWord 0x28 9 k) pre pc d).a = (d.a && !f) ∧
      (dblStep fs tb (insnWord 0x29 9 k) pre pc d).a = (f && !d.a)) ∧
    (d.img.f.get? k = none → (dblStep fs tb (insnWord 0x28 9 k) pre pc d).a = false ∧
      (dblStep fs tb (insnWord 0x29 9 k) pre pc d).a = false) ∧
    (∀ op, op = 0x28 ∨ op = 0x29 → (dblStep fs tb (insnWord op 9 k) pre pc d).img.f = d.img.f.set k d.a)) ∧
  (∀ fs tb pre pc d k, k < 1024 → ∀ c : Counter, c = d.img.c.getD k {} →
    (c.prev = none ∨ c.prev = some true ∨ d.a = false →
      ((dblStep fs tb (insnWord 0x38 4 k) pre pc d).img.c.getD k {}).count = c.count ∧
      ((dblStep fs tb (insnWord 0x39 4 k) pre pc d).img.c.getD k {}).count = c.count) ∧
    (c.prev = some false → d.a = true →
      ((dblStep fs tb (insnWord 0x38 4 k) pre pc d).img.c.getD k {}).count = min 2147483647 (max (-2147483648) (c.count + 1)) ∧
      ((dblStep fs tb (insnWord 0x39 4 k) pre pc d).img.c.getD k {}).count = min 2147483647 (max (-2147483648) (c.count - 1))) ∧
    (∀ op, op = 0x38 ∨ op = 0x39 → ((dblStep fs tb (insnWord op 4 k) pre pc d).img.c.getD k {}).prev = some d.a)) ∧
  (∀ (t : Timer) a tb pre e, e = min (t.el + (tb - t.tLast)) 4294967295 →
    (∀ op, (t.exec op a tb pre).p = a ∧ (t.exec op a tb pre).tLast = tb) ∧
    (t.exec 0x30 a tb pre).el = (if a && t.p then e else 0) ∧
    (t.exec 0x30 a tb pre).out = (a && decide (pre ≤ (t.exec 0x30 a tb pre).el)) ∧
    (a = true → (t.exec 0x31 a tb pre).el = 0 ∧ (t.exec 0x31 a tb pre).out = true) ∧
    (a = false → t.p = true → (t.exec 0x31 a tb pre).el = 0 ∧ (t.exec 0x31 a tb pre).out = decide (0 < pre)) ∧
    (a = false → t.p = false → t.run = true → (t.exec 0x31 a tb pre).el = e ∧ (t.exec 0x31 a tb pre).out = decide (e < pre)) ∧
    (a = true → t.p = false → t.run = false → (t.exec 0x32 a tb pre).el = 0 ∧ (t.exec 0x32 a tb pre).out = decide (0 < pre)) ∧
    (t.run = true → (t.exec 0x32 a tb pre).el = e ∧ (t.exec 0x32 a tb pre).out = decide (e < pre)) ∧
    (t.exec 0x33 a tb pre).el = (if a && t.p then e else t.el) ∧
    (t.exec 0x33 a tb pre).out = decide (pre ≤ (t.exec 0x33 a tb pre).el)) ∧
  (∀ fs tb pre pc d k, k < 65536 → (dblStep fs tb (insnWord 0x48 0 k) pre pc d).codes = (if d.a then k :: d.codes else d.codes) ∧
    (dblStep fs tb (insnWord 0x41 0 k) pre pc d).next = (if d.a then k else pc + 1) ∧
    (dblStep fs tb (insnWord 0x42 0 k) pre pc d).next = (if d.a then pc + 1 else k) ∧
    (dblStep fs tb (insnWord 0x40 0 k) pre pc d).next = k ∧ (dblStep fs tb (insnWord 0x7F 0 0) pre pc d).fin = true) ∧
  (∀ fs tb w ws pc d, d.fin = true ∨ pc < d.next → dblRun fs tb (w :: ws) pc d = dblRun fs tb ws (pc + 1) d) ∧
  (∀ fs tb ws pc d, d.fin = true → dblRun fs tb ws pc d = d)

/-- R239, R242 to R244, R246, R247, R250, R253, R257. -/
def Obligations.LogicScans : Prop :=
  (∀ s u v g d, s.scanning = true → s.logic.prog = some g → s.logic.busyUntil ≤ s.nextScan.1 → s.logic.frozen = false →
    s.logic.changes = [] → s.logic.retFix = false → s.mod.bridle = false → s.mod.role ≠ 1 → u = s.clockTo s.nextScan.1 →
    s.diag.inj = [] →
    v = { s.logic.img with i := u.scanI, e := u.scanE, st := u.scanS false, h := u.safe.h } →
    d = runSection g 0 s.logic.forces u.tb v [] →
    ∃ t, exec .logicScan s = .next t ∧ t.logic.start = u.stamp 7 ∧ t.logic.tbLast = u.tb ∧ t.logic.sched = s.nextScan.1 ∧
      t.logic.inFault = false ∧ t.logic.ovr = false ∧ t.logic.first = 0 ∧ t.logic.firstExch = false ∧
      t.logic.scans = inc32 s.logic.scans ∧ t.logic.busyUntil = t.now ∧ t.logic.forces = s.logic.forces ∧
      t.logic.prog = some g ∧ t.cfg = s.cfg ∧ t.mem = s.mem ∧
      (g.errEntry = 0 ∨ (s.logic.inFault = false ∧ s.logic.ovr = false ∧ s.logic.user = false) →
        t.logic.img = d.img ∧ t.logic.qOut = forced s.logic.forces 1 d.img.q ∧ t.logic.yOut = forced s.logic.forces 8 d.img.y ∧
        t.logic.last = 1500 + 2 * d.cycles ∧ t.logic.users = d.codes.foldl (fun n _ => inc32 n) s.logic.users ∧
        t.logic.user = !d.codes.isEmpty) ∧
      (∀ x, g.errEntry ≠ 0 → s.logic.inFault = true → x = runSection g g.errEntry s.logic.forces u.tb d.img d.codes →
        t.logic.img = x.img ∧ t.logic.qOut = forced s.logic.forces 1 x.img.q ∧
        t.logic.last = 1600 + 2 * d.cycles + 2 * x.cycles)) ∧
  (∀ s, s.scanning = true → s.nextScan.1 < s.logic.busyUntil → ∃ t, exec .logicOverrun s = .next t ∧
    t.logic.overruns = inc32 s.logic.overruns ∧ t.logic.ovr = true ∧ t.logic.sched = s.nextScan.1 ∧ t.logic.img = s.logic.img ∧
    t.logic.qOut = s.logic.qOut ∧ t.logic.busyUntil = s.logic.busyUntil ∧ t.cfg = s.cfg ∧ t.mem = s.mem) ∧
  (∀ s, .logic ∈ s.power.on → s.logic.fault = false → s.logic.changes = [] → ∃ t, exec .logicFault s = .next t ∧
    t.logic.fault = true ∧ t.logic.mode = .stop ∧ t.logic.qOut = 0 ∧ t.logic.yOut = 0 ∧ t.cfg = s.cfg) ∧
  (∀ s x, s.logic.part = some x → exec .logLoadIdleDiscard s =
    .next { (s.clockTo (x.lastAt + 10000000000)) with logic.part := none }) ∧
  (∀ s, s.scanning = false → exec .logicScan s = .next s ∧ exec .logicOverrun s = .next s) ∧
  (∀ s, s.logic.fault = true → ∃ t, exec .logicFault s = .next t ∧ t.logic = s.logic)

/-- R16, R248 to R250, R252, R253, R255, R258. -/
def Obligations.LogicCommands : Prop :=
  (∀ p e s t b r, Accepted cmdLogLoad p e s t → b = e.req.params → r = e.req.region →
    (byteAt b 0 = 1 → exec (.logLoad p) s = .next (State.complete { t with logic := { t.logic with
      part := some { path := p, bytes := r, lastAt := t.now }, staged := none } } p stOK (leBytes 4 r.length))) ∧
    (byteAt b 0 = 0 → ∀ x, t.partImage = some x → x.bytes.length = le32 b 4 →
      exec (.logLoad p) s = .next (State.complete { t with logic := { t.logic with
        part := some { path := p, bytes := x.bytes ++ r, lastAt := t.now }, staged := none } } p stOK
          (leBytes 4 (x.bytes ++ r).length))) ∧
    (byteAt b 0 = 0 ∨ byteAt b 0 = 2 → (t.partImage = none ∨ ∃ x, t.partImage = some x ∧ x.bytes.length ≠ le32 b 4) →
      exec (.logLoad p) s = .next (State.complete { t with logic.part := none } p stBAD_PARAM)) ∧
    (byteAt b 0 = 3 → ∀ g, checkImage r = .ok g → exec (.logLoad p) s = .next (State.complete
      { t with logic := { t.logic with part := none, staged := some g } } p stOK
        (leBytes 4 g.wcet ++ leBytes 1 (b2n (decide (t.logic.period * 1000 < g.wcet)))))) ∧
    (byteAt b 0 = 3 → ∀ k w, checkImage r = .error (k, w) → exec (.logLoad p) s = .next (State.complete
      { t with logic.part := none } p stBAD_PARAM (zeros 5 ++ leBytes 1 k ++ leBytes 4 w)))) ∧
  (∀ p e s t, Accepted cmdLogExchange p e s t →
    (t.scanning = true → exec (.logExchange p) s = .next (State.goesOnAt { t with logic := { t.logic with
      part := none, changes := t.logic.changes ++ [.exchange p] } } p)) ∧
    (t.scanning = false → ∃ (u : State) (resp : Bytes), exec (.logExchange p) s = .next (u.complete p stOK resp) ∧ u.logic.staged = none ∧
      u.logic.prog = t.logic.staged ∧ u.logic.part = none ∧ u.logic.changes = t.logic.changes)) ∧
  (∀ p e s t, Accepted cmdLogForce p e s t →
    (t.scanning = true → exec (.logForce p) s = .next (State.goesOnAt (t.logicChange (.force e.req.params p)) p)) ∧
    (t.scanning = false → ∃ (u : State) (resp : Bytes), exec (.logForce p) s = .next (u.complete p stOK resp) ∧
      u.logic.forces = forceApply e.req.params t.logic.forces ∧ u.logic.mode = t.logic.mode)) ∧
  (∀ p e s t b, Accepted cmdLogCfg p e s t → b = slice e.req.params 0 8 →
    (t.scanning = true → exec (.logCfg p) s = .next (State.goesOnAt
      (State.logicChange { t with cfg.logCfg := b, stored.logCfg := b } (.period b p)) p)) ∧
    (t.scanning = false → ∃ (u : State) (resp : Bytes), exec (.logCfg p) s = .next (u.complete p stOK resp) ∧ u.logic.period = le32 b 0 ∧
      u.cfg.logCfg = b ∧ u.stored.logCfg = b)) ∧
  (∀ p e s t, Accepted cmdLogRestart p e s t →
    (t.scanning = true → exec (.logRestart p) s = .next (State.goesOnAt (t.logicChange (.restart (byteAt e.req.params 0 == 1) p)) p)) ∧
    (t.scanning = false → ∃ (u : State) (resp : Bytes), exec (.logRestart p) s = .next (u.complete p stOK resp) ∧
      u.logic.forces = t.logic.forces ∧ u.logic.first = (if byteAt e.req.params 0 = 1 then 1 else 2) ∧
      u.logic.img.f = [] ∧ u.logic.img.q = 0 ∧ u.logic.img.y = 0)) ∧
  (∀ p e s t, Accepted cmdLogMode p e s t → t.logic.changes = [] → ∃ u : State, exec (.logMode p) s = .next (u.complete p stOK (t.stamp 17).bytes) ∧
    u.logic.mode = (if byteAt e.req.params 0 = 0 then .run else if byteAt e.req.params 0 = 2 ∨ t.logic.mode = .hold then .hold else .stop) ∧
    u.logic.prog = t.logic.prog ∧ u.logic.forces = t.logic.forces) ∧
  (∀ p e s t, Accepted cmdLogStep p e s t → exec (.logStep p) s =
    .next (State.complete (State.stepScans (byteAt e.req.params 0) t) p stOK (State.stepScans (byteAt e.req.params 0) t).logic.start.bytes)) ∧
  (∀ n s, State.stepScans 0 s = s ∧ State.stepScans (n + 1) s = State.stepScans n (s.scan none (s.logic.tbLast + s.logic.period) true)) ∧
  Answers .logRead cmdLogRead noResp (fun _ e t => some (
    if byteAt e.req.params 0 = 3 then
      ((List.range (le16 e.req.params 4)).map (fun i => le16 e.req.params 2 + i)).flatMap t.logic.timerEntry
    else if byteAt e.req.params 0 = 4 then
      ((List.range (le16 e.req.params 4)).map (fun i => le16 e.req.params 2 + i)).flatMap t.logic.counterEntry
    else packBits (ceilDiv (le16 e.req.params 4) 8) (((List.range (le16 e.req.params 4)).map (fun i => le16 e.req.params 2 + i)).map
      (fun k => t.logic.img.read t.logic.forces (byteAt e.req.params 0) k)))) ∧
  Answers .logForceRead cmdLogForceRead noResp (fun _ _ t => some (padTo 2048 (t.logic.forces.flatMap (fun f =>
      leBytes 1 (1 + 2 * b2n (t.logic.orphan f)) ++ leBytes 1 f.1 ++ leBytes 2 f.2.1 ++ leBytes 1 (b2n f.2.2) ++ zeros 3)))) ∧
  Completes .logStatus cmdLogStatus (fun _ e t => if byteAt e.req.params 0 = 1 then
      { t with logic := { t.logic with longest := 0, scans := 0, overruns := 0, inFaults := 0, users := 0 } } else t)
    noResp (fun _ _ t => some t.logStatus)

/-! ## Remote I/O (chapter 12) -/

/-- R260 to R264, R267 to R272. The number of slots of a back-off is free (log 2). -/
def Obligations.BrioSegment : Prop :=
  (∀ s due n u, s.pathOn = true → s.brioOn = true → s.brio.running = true → s.mod.bridle = true → s.nextCycle = some (due, n) →
    u = s.clockTo due →
    ∃ t, exec (.brioCycleStart 0) s = .next t ∧ t.brio.cur = some (n, due) ∧ t.brio.closed = false ∧ t.brio.sched = due ∧
      t.brio.sent = some (u.cyclePayload n) ∧ (t.station 0).got = false ∧ (t.station 7).got = false ∧ t.cfg = s.cfg ∧ t.logic = s.logic ∧
      t.brio.counts.getD 0 0 = inc32 (s.brio.counts.getD 0 0)) ∧
  (∀ s : State, ∀ n k b, s.logic.fault = false → s.cfg.tables.stations = [(k, b)] → k < 8 →
    slice (s.cyclePayload n) (20 + 8 * k) 8 = leBytes 8 ((s.logic.qOut >>> stOut b).toNat % 2 ^ 64) ∧
    slice (s.cyclePayload n) 4 4 = be32 n ∧ rdBe16 (s.cyclePayload n) 16 = 2 ^ k) ∧
  (∀ src b at_ s u k r m start x, s.pathOn = true → s.brioOn = true → u = s.clockTo at_ → u.brioHeader 2 b 46 = none → k = byteAt b 8 →
    s.cfg.tables.stations.get? k = some r → u.injection 0x0A k 0 = none → s.brio.cur = some (m, start) → x = s.station k →
    s.brio.stations.get? k = some x →
    ∃ t, exec (.brioInputReceive 0 0x034252494F01 src b at_) s = .next t ∧ (∀ j, j ≠ k → t.station j = s.station j) ∧ t.cfg = s.cfg ∧
      t.logic = s.logic ∧ t.brio.counts = s.brio.counts ∧ (t.station k).state = x.state ∧ (t.station k).misses = x.misses ∧
      (rdBe32 b 4 ≠ m → t.station k = { x with counts := x.counts.set 3 (inc32 (x.counts.getD 3 0)) }) ∧
      (rdBe32 b 4 = m → start + 950000 < u.now → t.station k = { x with counts := x.counts.set 2 (inc32 (x.counts.getD 2 0)) }) ∧
      (rdBe32 b 4 = m → u.now ≤ start + 950000 → x.got = true →
        t.station k = { x with counts := x.counts.set 3 (inc32 (x.counts.getD 3 0)) }) ∧
      (rdBe32 b 4 = m → u.now ≤ start + 950000 → x.got = false → stIdent r ≠ 0 → rdBe32 b 10 ≠ stIdent r →
        t.station k = { x with identBad := true, counts := x.counts.set 4 (inc32 (x.counts.getD 4 0)) }) ∧
      (rdBe32 b 4 = m → u.now ≤ start + 950000 → x.got = false → stIdent r = 0 ∨ rdBe32 b 10 = stIdent r →
        (t.station k).got = true ∧ (t.station k).cycle = m ∧ (t.station k).rx = u.stamp 1 ∧
        (t.station k).faults = BitVec.ofNat 64 (le64 b 24) ∧ (t.station k).status = rdBe16 b 32 % 8 ∧
        (∀ i, i < 64 → (t.station k).held.getLsbD i = if (le64 b 24).testBit i then x.held.getLsbD i else (le64 b 16).testBit i) ∧
        (t.station k).counts.getD 0 0 = inc32 (x.counts.getD 0 0))) ∧
  (∀ src b at_ s i, s.pathOn = true → s.brioOn = true → (s.clockTo at_).brioHeader 2 b 46 = some i →
    exec (.brioInputReceive 0 0x034252494F01 src b at_) s = .next ((s.clockTo at_).segCount i)) ∧
  (∀ (s : State) k x b i v, x = s.station k → i < 64 → v = x.held.getLsbD i → (stIn b + i, if x.state = 3 ∧ x.faults.getLsbD i = false then v
      else if stSubst b i = 1 then false else if stSubst b i = 2 then true else v) ∈ s.stationInputs k b) ∧
  (∀ (s : State) k x, x = s.station k → s.brio.stations = [(k, x)] →
    (x.got = true → ((s.judgeStation k).station k).misses = 0 ∧
      ((s.judgeStation k).station k).state = (if 2 ≤ x.good then 3 else x.state)) ∧
    (x.got = false → ((s.judgeStation k).station k).good = 0 ∧ ((s.judgeStation k).station k).misses = min 255 (x.misses + 1) ∧
      ((s.judgeStation k).station k).state = (if x.state = 3 ∧ 2 ≤ x.misses then if x.identBad then 5 else 4 else x.state) ∧
      ((s.judgeStation k).station k).reason = (if x.state = 3 ∧ 2 ≤ x.misses then if x.identBad then 7 else 0 else x.reason) ∧
      ((s.judgeStation k).logic.inFault = true ↔ s.logic.inFault = true ∨ x.state = 3 ∧ 2 ≤ x.misses))) ∧
  (∀ s n start, s.pathOn = true → s.brio.closed = false → s.brio.cur = some (n, start) → exec (.brioWindowClose 0) s =
    .next ((s.brio.stations.foldl (fun v x => State.judgeStation v x.1)
      { s.clockTo (start + 950000) with brio := { (s.clockTo (start + 950000)).brio with closed := true } }).brioSnap)) ∧
  (∀ s n start, s.brio.cur = some (n, start) → s.brio.running = true → s.brio.closed = false → s.brio.aborted = false →
    s.brio.stations.any (fun x => x.2.got) = false →
    ∃ t, exec (.brioCycleAbort 0) s = .next t ∧ t.brio.aborted = true ∧ t.brio.sent = none ∧
      t.brio.counts.getD 1 0 = inc32 (s.brio.counts.getD 1 0) ∧ t.brio.cur = s.brio.cur) ∧
  (∀ s b, s.brio.sent = some b → s.brioMode = 1 → s.brio.running = true → s.brio.closed = false → s.brio.backoff = none →
    ∃ t, exec (.p8Collision 0) s = .next t ∧ t.brio.sent = none ∧ t.brio.attempts = s.brio.attempts + 1 ∧
      t.brio.counts.getD 2 0 = inc32 (s.brio.counts.getD 2 0) ∧
      (s.brio.attempts < 15 → ∃ k, k < 2 ^ min (s.brio.attempts + 1) 10 ∧ t.brio.backoff = some (s.now + 51200 * k, b)) ∧
      (15 ≤ s.brio.attempts → t.brio.backoff = none ∧ t.brio.aborted = true ∧
        t.brio.counts.getD 3 0 = inc32 (s.brio.counts.getD 3 0))) ∧
  (∀ s b due, s.brio.backoff = some (due, b) → s.brio.running = true → ∃ t, exec (.p8BackoffExpiry 0) s = .next t ∧
    t.brio.backoff = none ∧ t.brio.sent = some b ∧ t.brio.attempts = s.brio.attempts) ∧
  (∀ s t0 r, s.pathOn = true → s.brioOn = true → s.mod.bridle = true → s.brio.running = false → s.brio.heard = some t0 →
    s.time.schedAfter 1000 (max s.brio.sched (max (t0 + 2000000 - 1) (s.now - 1))) = some r →
    exec (.brioSegmentTake 0) s = .next { (s.clockTo r.1) with brio := { (s.clockTo r.1).brio with running := true, sched := r.1 - 1 } }) ∧
  (∀ src b at_ s u, s.pathOn = true → s.brioOn = true → u = s.clockTo at_ → u.brioHeader 1 b 84 = none →
    (s.brio.running = true → src ≠ portMac 7 → exec (.brioCycleReceive 0 src b at_) s = .next ((u.segCount 7).firnEv 0x0A02 (zeros 8))) ∧
    (s.brio.running = false → ∃ t, exec (.brioCycleReceive 0 src b at_) s = .next t ∧ t.brio.heard = some u.now ∧
      t.brio.running = false ∧ ∃ st, t.brio.cur = some (rdBe32 b 4, st))) ∧
  Completes .brioSegCfg cmdBrioSegCfg (fun _ e t => { t with cfg.brioSeg := slice e.req.params 0 4, stored.brioSeg := slice e.req.params 0 4 })
    noResp noXp ∧
  Completes .brioStage cmdBrioStage (fun _ e t => t.setStaged { t.staged with
      stations := (regionRecs 32 (byteAt e.req.params 0) e.req).foldl (fun x b => putRec x (byteAt b 0) (byteAt b 1 == 1) b) t.staged.stations })
    (fun _ e _ => leBytes 2 (regionRecs 32 (byteAt e.req.params 0) e.req).length) noXp ∧
  Answers .brioRead cmdBrioRead noResp (fun _ e t =>
    some (((t.tablesOf (byteAt e.req.params 1)).stations.get? (byteAt e.req.params 0)).getD (leBytes 1 (byteAt e.req.params 0) ++ zeros 31))) ∧
  Answers .brioStatus cmdBrioStatus noResp (fun _ _ t => some t.brio.snap) ∧
  (∀ p e s t k x, Accepted cmdBrioStats p e s t → k = byteAt e.req.params 0 → t.brio.stations.get? k = some x →
    exec (.brioStats p) s = .next (State.complete (if byteAt e.req.params 1 = 1 then t.setStation k { x with counts := [] } else t)
      p stOK [] (some ((List.range 8).flatMap (fun i => leBytes 4 (x.counts.getD i 0)))))) ∧
  Completes .brioSegStatus cmdBrioSegStatus (fun _ e t => if byteAt e.req.params 0 = 1 then { t with brio.counts := [] } else t)
    (fun _ _ t => leBytes 1 t.brioMode ++ leBytes 1 (b2n t.brio.running + 2 * b2n t.beaconSeen) ++ leBytes 2 t.brioId)
    (fun _ _ t => some ((List.range 8).flatMap (fun i => leBytes 4 (t.brio.counts.getD i 0))))

/-! ## Ports (chapter 13) -/

/-- R30, R273 to R276, R278, R288, R289, R292. -/
def Obligations.PortLinks : Prop :=
  (∀ i s b, s.linkAllowed i = true → (s.port i).up = false → b = s.cfg.tables.port i → ∃ t, exec (.portLinkUp i) s = .next t ∧
    (t.port i).up = true ∧ (t.port i).change = s.stamp 17 ∧ (t.port i).speed = s.selectSpeed i ∧ (t.port i).peFailed = false ∧
    (t.port i).peSent = 0 ∧ ((t.port i).peActive = true ↔ i < 6 ∧ recPe b = true ∧ recPeVerify b = false) ∧
    (∀ j, j ≠ i → t.port j = s.port j) ∧ t.cfg = s.cfg ∧ t.ports.counters = s.ports.counters) ∧
  (∀ i s, s.linkAllowed i = false → exec (.portLinkUp i) s = .next s) ∧
  (∀ i s, i ≤ 9 → (s.port i).up = true → ∃ t, exec (.portLinkDown i 1) s = .next t ∧ (t.port i).up = false ∧
    (t.port i).change = s.stamp 17 ∧ (t.port i).speed = 0 ∧ (t.port i).peActive = false ∧ (∀ j, j ≠ i → t.port j = s.port j) ∧
    t.ports.counters.getD (64 * i + 56) 0 = inc32 (s.ports.counters.getD (64 * i + 56) 0) ∧ t.cfg = s.cfg) ∧
  (∀ i s, i < 6 → (∃ t, exec (.portLinkDown i 2) s = .next t ∧ (t.port i).up = false ∧ (t.port i).los = true) ∧
    (∃ t, exec (.portLinkDown i 3) s = .next t ∧ (t.port i).up = false ∧ (t.port i).pllUnlocked = true ∧
      (t.port i).relockDue = s.now + 100000000)) ∧
  (∀ i k s, (s.port i).pllUnlocked = true → exec (.laneRelockAttempt i k) s = .next ((s.clockTo (s.port i).relockDue).setPort i
    { s.port i with pllUnlocked := !k, relockDue := (s.port i).relockDue + 100000000 })) ∧
  (∀ i b s, i < 6 → (s.port i).present = false → ∃ t, exec (.sfpModAbsDeassert i (.ok b)) s = .next t ∧
    t.port i = { s.port i with present := true, id := some (padTo 512 b), pollDue := s.now + 1000000000 } ∧ t.cfg = s.cfg) ∧
  (∀ i s, i < 6 → (s.port i).present = true → ∃ t, exec (.sfpModAbsAssert i) s = .next t ∧ (t.port i).up = false ∧
    (t.port i).present = false ∧ (t.port i).id = none ∧ (t.port i).diag = none ∧ (t.port i).powerFault = false ∧
    (t.port i).txHeld = false ∧ (∀ j, j ≠ i → t.port j = s.port j)) ∧
  (∀ i s, i < 6 → (s.port i).present = true → (s.port i).txPulsed = false → exec (.sfpTxFault i) s =
    .next (s.setPort i { s.port i with txFault := true, txPulsed := true, txDue := s.now + 100000000 })) ∧
  (∀ i s, i < 6 → (s.port i).txPulsed = true → (s.port i).txHeld = false →
    (∃ t, exec (.sfpTxFaultCheck i true) s = .next t ∧ (t.port i).up = false ∧ (t.port i).txHeld = true ∧
      t.ports.counters.getD (64 * i + 61) 0 = inc32 (s.ports.counters.getD (64 * i + 61) 0)) ∧
    (s.diag.inj = [] → ∃ t, exec (.sfpTxFaultCheck i false) s = .next t ∧ (t.port i).txFault = false ∧ (t.port i).txPulsed = false ∧
      (t.port i).up = (s.port i).up)) ∧
  (∀ i b s, i < 6 → (s.port i).reportsDiag = true → exec (.sfpDiagPoll i (.ok b)) s = .next ((s.clockTo (s.port i).pollDue).setPort i
    { s.port i with pollDue := (s.port i).pollDue + 1000000000, diag := some (padTo 256 b) })) ∧
  (∀ i s, i < 6 → (s.port i).present = true → (s.port i).powerFault = false → ∃ t, exec (.cageOvercurrent i) s = .next t ∧
    (t.port i).up = false ∧ (t.port i).powerFault = true ∧ t.linkAllowed i = false ∧
    t.ports.counters.getD (64 * i + 61) 0 = inc32 (s.ports.counters.getD (64 * i + 61) 0)) ∧
  (∀ i s, s.verifying i = true →
    ((s.port i).peSent < 3 → ∃ t, exec (.peVerifySend i) s = .next t ∧ (t.port i).peSent = (s.port i).peSent + 1 ∧
      (t.port i).peDue = (s.port i).peDue + 1000000 * byteAt (s.cfg.tables.port i) 12 ∧ (t.port i).peActive = false) ∧
    (3 ≤ (s.port i).peSent → ∃ t, exec (.peVerifySend i) s = .next t ∧ (t.port i).peFailed = true ∧ (t.port i).peActive = false ∧
      t.ports.counters.getD (64 * i + 60) 0 = inc32 (s.ports.counters.getD (64 * i + 60) 0)) ∧
    (0 < (s.port i).peSent → s.diag.inj = [] → exec (.peVerifyResponse i) s = .next (s.setPort i { s.port i with peActive := true }))) ∧
  (∀ i q s, i < 8 → (s.port i).up = true → ∃ t, exec (.pauseFrameReceive i q) s = .next t ∧
    t.ports.counters.getD (64 * i + 6) 0 = inc32 (s.ports.counters.getD (64 * i + 6) 0) ∧
    (recPauseRx (s.cfg.tables.port i) = true → (t.port i).pauseUntil = s.now + ceilDiv (q * 51200) (rateOf (s.port i).speed) ∧
      t.ports.counters.getD (64 * i + 46) 0 = inc32 (s.ports.counters.getD (64 * i + 46) 0)) ∧
    (recPauseRx (s.cfg.tables.port i) = false → t.port i = s.port i)) ∧
  (∀ k a n s, (s.port 6).up = true → k ≠ 2 → ∃ t, exec (.p7PacketReceive k a n) s = .next t ∧ t.cfg = s.cfg ∧
    (k < 2 → a = le32 s.cfg.ip 0 → a ≠ 0 → t.ports.counters.getD 413 0 = inc32 (s.ports.counters.getD 413 0) ∧
      t.ports.counters.getD 447 0 = s.ports.counters.getD 447 0) ∧
    (2 < k ∨ a ≠ le32 s.cfg.ip 0 → t.ports.counters.getD 447 0 = inc32 (s.ports.counters.getD 447 0) ∧
      t.ports.counters.getD 413 0 = s.ports.counters.getD 413 0))

/-- R286, R290, R291, R293. -/
def Obligations.PortCommands : Prop :=
  Completes .portStage cmdPortStage (fun _ e t => t.setStaged { t.staged with
      ports := (regionRecs 64 (byteAt e.req.params 0) e.req).foldl (fun x b => x.set (byteAt b 0) b) t.staged.ports })
    (fun _ e _ => leBytes 2 (regionRecs 64 (byteAt e.req.params 0) e.req).length) noXp ∧
  Completes .portFilterStage cmdPortFilterStage (fun _ e t => t.setStaged { t.staged with
      filters := (regionRecs 32 (byteAt e.req.params 1) e.req).foldl
        (fun x b => putRec x (16 * byteAt e.req.params 0 + byteAt b 0) ((byteAt b 1).testBit 0) b) t.staged.filters })
    (fun _ e _ => leBytes 2 (regionRecs 32 (byteAt e.req.params 1) e.req).length) noXp ∧
  Answers .portRead cmdPortRead noResp (fun _ e t => some ((t.tablesOf (byteAt e.req.params 1)).port (byteAt e.req.params 0))) ∧
  Answers .portFilterRead cmdPortFilterRead noResp (fun _ e t => some (((List.range 16).map (fun f =>
      (t.tablesOf (byteAt e.req.params 1)).filters.getD (16 * byteAt e.req.params 0 + f) (leBytes 1 f ++ zeros 31))).flatten)) ∧
  Answers .portStatus cmdPortStatus noResp (fun _ e t => some (t.portStatusBytes (byteAt e.req.params 0))) ∧
  (∀ p e s t i, Accepted cmdPortStats p e s t → i = byteAt e.req.params 0 →
    ∃ u : State, exec (.portStats p) s = .next (u.complete p stOK [] (some (
        ((List.range 64).map (fun k => leBytes 4 (t.ports.counters.getD (64 * i + k) 0))).flatten ++ leBytes 8 (t.ports.half.getD i 0)))) ∧
      u.ports.half.get? i = none ∧ u.ports.port = t.ports.port ∧ (∀ j, j ≠ i → u.ports.half.get? j = t.ports.half.get? j) ∧
      (byteAt e.req.params 1 = 0 → u.ports.counters = t.ports.counters) ∧
      (byteAt e.req.params 1 = 1 → ∀ j, (j / 64 = i → u.ports.counters.get? j = none) ∧
        (j / 64 ≠ i → u.ports.counters.get? j = t.ports.counters.get? j))) ∧
  (∀ p e s t, Accepted cmdPortSfpRead p e s t →
    (∀ d, (t.port (byteAt e.req.params 0)).sfpBytes (byteAt e.req.params 1 == 1) = some d → exec (.portSfpRead p) s =
      .next (t.complete p stOK [] (some (slice d (byteAt e.req.params 2) (byteAt e.req.params 3))))) ∧
    ((t.port (byteAt e.req.params 0)).sfpBytes (byteAt e.req.params 1 == 1) = none →
      exec (.portSfpRead p) s = .next (t.complete p stFAULT))) ∧
  Completes .portIpCfg cmdPortIpCfg (fun _ e t => { t with
    stored.ip := padTo 12 e.req.params, mod.ipNew := some (padTo 12 e.req.params), mod.p7Close := some (t.now + 100000000) }) noResp noXp

/-! ## Switch core (chapter 14) -/

/-- R280, R283, R284, R296, R297, R299, R305, R307, R309, R310, R312, R313. -/
def Obligations.SwitchCore : Prop :=
  (∀ port (f : Frame) at_ s u, s.pathOn = true → port ≤ 6 → (s.port port).up = true → s.diag.inj = [] → u = s.clockTo at_ →
    f.pcsOk = true →
    (f.fcsOk = true → f.len ≤ 63 → exec (.frameReceive port f at_) s = .next (u.portCount port 0x38)) ∧
    (f.fcsOk = true → 64 ≤ f.len → f.len ≤ s.maxFrame port → ∀ v, v = (u.portCount port (0x1C + 4 * sizeBin f.len)).rxGood port f.len f.dst f.tag.isSome →
      (admitVlan (s.cfg.tables.port port) f = none → exec (.frameReceive port f at_) s = .next (v.portCount port 0x48)) ∧
      (∀ vid pcp, admitVlan (s.cfg.tables.port port) f = some (vid, pcp) →
        exec (.frameReceive port f at_) s = .next (v.dispose port f vid pcp (u.stamp 1)) ∧
        (∀ k q c o, f.content = .ptp k q c o → s.filterHit port vid f.dst = none → ∃ t, exec (.frameReceive port f at_) s = .next t ∧
          t.sw.queue = s.sw.queue ∧ t.ports.counters.getD (64 * port + 22) 0 = inc32 (s.ports.counters.getD (64 * port + 22) 0))))) ∧
  (∀ (s : State) i vid dst ps, s.forwardPorts i vid dst = some ps → ∀ e, e ∈ ps → e < 7 ∧ e ≠ i ∧ (s.port e).up = true ∧
    (byteAt (s.cfg.tables.vlans.getD vid []) 2).testBit e = true ∧ ¬(i < 2 ∧ (e = 2 ∨ e = 3)) ∧ ¬((i = 2 ∨ i = 3) ∧ e < 2)) ∧
  (∀ (s : State) i vid dst x, s.sw.fdbLookup dst vid = some x → x.drop = true → s.forwardPorts i vid dst = none ∨ s.forwardPorts i vid dst = some []) ∧
  (∀ (s : State) port mac vid k, macGroup mac = false → (byteAt s.cfg.tables.sw 4).testBit port = true → s.sw.fdbFind mac vid = none →
    s.sw.freeWay (fdbBucket mac vid) = some k → ∀ x : FdbEntry, x = ⟨mac, vid, 2 ^ port, false, false, 0⟩ →
      s.learn port mac vid = { s with sw.fdb := s.sw.fdb.set k x }) ∧
  (∀ (s : State) port mac vid k x, macGroup mac = false → (byteAt s.cfg.tables.sw 4).testBit port = true → s.sw.fdbFind mac vid = some k →
    s.sw.fdb.get? k = some x → x.static = false → x.dest = 2 ^ port →
    s.learn port mac vid = { s with sw.fdb := s.sw.fdb.set k { x with age := 0 } }) ∧
  (∀ (s : State) port c, s.nextCopy port = some c → c ∈ s.sw.queue ∧ c.port = port ∧ s.inTurn c = true ∧
    ∀ d, d ∈ s.sw.queue → d.port = port → d.cls ≤ 7 → s.inTurn d = true → d.cls ≤ c.cls) ∧
  (∀ s port c, port < 7 → (s.port port).up = true → (s.port port).pauseUntil ≤ s.now → (s.port port).busyUntil ≤ s.now →
    s.nextCopy port = some c → s.clsAge c.cls = 0 → s.leavesLen c ≤ s.maxFrame port → s.congMark c = false →
    ∃ t, exec (.egressTransmitStart port) s = .next t ∧ t.sw.queue = s.sw.queue.erase c ∧
      (t.port port).last.map (·.frame.dst) = some c.frame.dst ∧ (t.port port).last.map (·.len) = some (s.leavesLen c) ∧
      (t.port port).last.map (·.stomped) = some false ∧ t.cfg = s.cfg ∧ t.mem = s.mem ∧
      t.ports.counters.getD (64 * port + 29) 0 = inc32 (s.ports.counters.getD (64 * port + 29) 0)) ∧
  (∀ s port, s.nextCopy port = none → exec (.egressTransmitStart port) s = .next s) ∧
  (∀ s, .sw ∈ s.power.on → ∃ t, exec .fdbAgeSweep s = .next t ∧ t.cfg = s.cfg ∧
    ∀ x, x ∈ t.sw.fdb ↔ ∃ y, y ∈ s.sw.fdb ∧ x.1 = y.1 ∧ (y.2.static = true ∧ x.2 = y.2 ∨
      y.2.static = false ∧ y.2.age < 4 ∧ x.2 = { y.2 with age := y.2.age + 1 })) ∧
  (∀ s id c cs q, s.sw.queue.filter (fun x => seqKey x.src x.cls x.port == id) = c :: cs → q = s.sw.seqs.getD id {} →
    (c :: cs).any (fun x => x.num == q.expect) = false → id / 8 % 8 ≠ 7 → ∃ t, exec (.resequenceTimeout id) s = .next t ∧
      t.sw.seqs.getD id {} = { q with expect := c.num } ∧ t.sw.queue = s.sw.queue ∧ t.sw.reseqTimeout = inc32 s.sw.reseqTimeout) ∧
  Completes .swCfg cmdSwCfg (fun _ e t => t.setStaged { t.staged with sw := slice e.req.params 0 6 }) noResp noXp ∧
  Completes .swClassStage cmdSwClassStage (fun _ e t => t.setStaged { t.staged with classes := slice e.req.region 0 128 }) noResp noXp ∧
  Completes .swPcpStage cmdSwPcpStage (fun _ e t =>
    t.setStaged { t.staged with pcp := t.staged.pcp.set (byteAt e.req.params 0) (slice e.req.params 8 8) }) noResp noXp ∧
  Completes .swVlanStage cmdSwVlanStage (fun _ e t => t.setStaged { t.staged with
      vlans := (regionRecs 4 (byteAt e.req.params 0) e.req).foldl (fun x b => putRec x (le16 b 0) ((byteAt b 3).testBit 0) b) t.staged.vlans })
    (fun _ e _ => leBytes 2 (regionRecs 4 (byteAt e.req.params 0) e.req).length) noXp ∧
  Completes .swFdbStage cmdSwFdbStage (fun _ e t => t.setStaged { t.staged with
      fdb := (regionRecs 16 (byteAt e.req.params 0) e.req).foldl (fun x b => putRec x (fdbKey b) ((byteAt b 9).testBit 0) b) t.staged.fdb })
    (fun _ e _ => leBytes 2 (regionRecs 16 (byteAt e.req.params 0) e.req).length) noXp ∧
  Completes .swFdbFlush cmdSwFdbFlush (fun _ e t => { t with sw.fdb := t.sw.fdb.filter (fun x => !flushHit e.req.params x.2) })
    (fun _ e t => leBytes 4 (t.sw.fdb.filter (fun x => flushHit e.req.params x.2)).length) noXp ∧
  Answers .swCfgRead cmdSwCfgRead noResp (fun _ e t => some (swCfgBytes (t.tablesOf (byteAt e.req.params 1)) e.req.params)) ∧
  Completes .swStatus cmdSwStatus (fun _ e t => if byteAt e.req.params 0 = 1 then
      { t with sw.learnFull := 0, sw.moves := 0, sw.saViolation := 0, sw.reseqTimeout := 0 } else t)
    noResp (fun _ _ t => some t.swStatusBytes) ∧
  (∀ p e s t, Accepted cmdSwFdbRead p e s t → ∃ b, exec (.swFdbRead p) s = .next (t.complete p stOK [] (some b)) ∧
    b.length = 16 * le16 e.req.params 2 ∧ ∀ i x, i < le16 e.req.params 2 → t.sw.fdb.get? (le16 e.req.params 0 + i) = some x →
      slice b (16 * i) 16 = x.bytes)

/-! ## Time (chapter 15) -/

/-- R318, R319, R321, R330 to R336, R506. The number TIME_MANUAL_SET answers is the model's reading. -/
def Obligations.ClockMarks : Prop :=
  (∀ s, s.hostOn = true → exec .timeNsRead s = .next { s with time.wrapCap := (s.time.acc >>> 64).toNat, host.rdata := s.now % 4294967296 } ∧
    exec .timePpsNsRead s = .next { s with
      time.ppsCap := (s.time.ppsExt / 4294967296 % 4294967296, (s.time.ppsOfs % 4294967296).toNat), host.rdata := s.time.ppsExt % 4294967296 } ∧
    (∀ m, s.time.pend = some m → exec .timeMarkCurRead s = .next { s with
      time.markCap := [s.time.cur.ns / 4294967296, s.time.next.ns % 4294967296, s.time.next.ns / 4294967296,
        m.ns % 4294967296, m.ns / 4294967296, s.time.cur.sec % 4294967296]
      host.rdata := s.time.cur.ns % 4294967296 })) ∧
  (∀ n s, s.time.running = true → n ≤ s.time.next.sec → ∃ t, exec (.pendingMarkWrite n) s = .next t ∧ t.time.pend = s.time.pend ∧
    t.time.lateCnt = inc32 s.time.lateCnt ∧ t.time.evt.getLsbD 3 = true ∧ t.time.next = s.time.next) ∧
  (∀ n s m, s.time.running = true → s.time.next.sec < n → s.diag.inj = [] → m = s.time.nymingMark s.time.next →
    (s.time.next.ns + 500000000 ≤ m.ns → m.ns ≤ s.time.next.ns + 1500000000 → ∃ t, exec (.pendingMarkWrite n) s = .next t ∧
      t.time.pend = some m ∧ t.time.manualSec = none ∧ t.time.lateCnt = s.time.lateCnt)) ∧
  (∀ (t : TimeBlk) p, t.manualSec = none →
    (t.servo = .free ∨ t.servo = .holdover → (t.nymingMark p).ns = p.ns + 1000000000 ∧ (t.nymingMark p).sec = p.sec + 1 ∧
      (t.nymingMark p).gridStep = false) ∧
    (t.servo = .acquire ∨ t.servo = .locked → (t.secondNear (p.ns + 1000000000) (p.sec + 1)).1 = p.sec + 1 →
      (t.secondNear (p.ns + 1000000000) (p.sec + 1)).2.natAbs ≤ 1000000 → (t.nymingMark p).gridStep = false ∧
      (t.nymingMark p).sec = p.sec + 1 ∧ (t.nymingMark p).renumbered = false ∧
      p.ns + 999990000 ≤ (t.nymingMark p).ns ∧ (t.nymingMark p).ns ≤ p.ns + 1000010000)) ∧
  (∀ (t : TimeBlk) p n, t.manualSec = some n → t.servo = .free → n ≠ p.sec + 1 → (t.nymingMark p).sec = n ∧
    (t.nymingMark p).renumbered = true ∧ (t.nymingMark p).gridStep = true) ∧
  (∀ s, s.time.servo = .holdover → s.time.holdExpired = false → ∃ t, exec .holdoverExpired s = .next t ∧ t.time.holdExpired = true ∧
    t.time.servo = .holdover ∧ t.now = (s.clockTo (s.time.servoSince + 1000000000 * s.cfg.holdoverLimit)).now) ∧
  (∀ s, s.time.ppsOut = true → exec .ppsOutFall s = .next { s.clockTo (s.time.cur.ns + 1000000 * s.cfg.ppsWidth) with time.ppsOut := false }) ∧
  (∀ a s, s.cfg.ppsInMode = 0 ∨ (s.time.ppsSeen = true ∧ a - 11 < s.time.ppsExt + 500000000) → exec (.ppsInEdge a) s = .next (s.clockTo a)) ∧
  (∀ a s u o, s.cfg.ppsInMode = 1 → s.time.ppsSeen = false ∨ s.time.ppsExt + 500000000 ≤ a - 11 → s.diag.inj = [] → u = s.clockTo a →
    o = u.time.nearestOffset (a - 11) → ∃ t, exec (.ppsInEdge a) s = .next t ∧ t.time.ppsExt = a - 11 ∧ t.time.ppsOfs = satI32 o ∧
      t.time.ppsSeen = true ∧ t.time.incr = s.time.incr ∧ t.time.evt.getLsbD 4 = true ∧
      (s.cfg.ppsThr < o.natAbs → t.time.ppsAlarm = (s.time.ppsAlarm || decide (2 ≤ s.time.ppsBad))) ∧
      (o.natAbs ≤ s.cfg.ppsThr → t.time.ppsAlarm = (s.time.ppsAlarm && !decide (2 ≤ s.time.ppsGood)))) ∧
  (∀ p e s t b, Accepted cmdTimeCfg p e s t → b = padTo 48 e.req.params → ∃ u : State, exec (.timeCfg p) s = .next (u.complete p stOK) ∧
    u.cfg.time = b ∧ u.stored.time = b ∧ u.time.slavePort = 255 ∧ u.time.utc = (if t.time.utcValid then t.time.utc else byteAt b 20) ∧
    u.time.servo = (if t.time.servo = .locked then .holdover else t.time.servo)) ∧
  Answers .timeCfgRead cmdTimeCfgRead noResp (fun _ _ t => some (padTo 48 t.cfg.time)) ∧
  Answers .timeStatus cmdTimeStatus noResp (fun _ _ t => some t.timeStatusBytes) ∧
  Answers .timeMapRead cmdTimeMapRead (fun _ e t => leBytes 2 (t.mapSlice (le48 e.req.params 0) (le16 e.req.params 6)).length)
    (fun _ e t => some (((t.mapSlice (le48 e.req.params 0) (le16 e.req.params 6)).map Mark.bytes).flatten)) ∧
  (∀ p e s t i x, Accepted cmdTimePortStatus p e s t → i = byteAt e.req.params 0 → x = t.ptpPort i →
    ∃ b, exec (.timePortStatus p) s = .next (State.complete (if byteAt e.req.params 1 = 1 then
        t.setPtp i { x with syncs := 0, announces := 0, pdFail := 0, authFail := 0 } else t) p stOK [] (some b)) ∧
      slice b 12 4 = leBytes 4 x.syncs ∧ slice b 16 4 = leBytes 4 x.announces ∧ slice b 20 4 = leBytes 4 x.pdFail ∧
      slice b 24 4 = leBytes 4 x.authFail) ∧
  (∀ p e s t b, Accepted cmdTimeManualSet p e s t → b = e.req.params → ∃ (u : State) (r : Bytes), exec (.timeManualSet p) s = .next (u.complete p stOK r) ∧
    u.time.manualSec = (if (byteAt b 0).testBit 0 then some (le48 b 8) else t.time.manualSec) ∧
    u.time.utc = (if (byteAt b 0).testBit 1 && !t.time.utcValid then byteAt b 1 else t.time.utc) ∧ u.time.servo = t.time.servo)

/-- What a PTP message of the mask does beyond the clock, AUTH being off (R326). -/
def PtpUsed (s : State) (m : PtpMsg) : Prop := s.cfg.ptpMask m.port = true ∧ s.cfg.ptpAuth = false

/-- R322 to R329, R331. -/
def Obligations.PtpServo : Prop :=
  (∀ m a at_ s, s.cfg.ptpMask m.port = false → exec (.ptpAnnounceReceive m a at_) s = .next (s.clockTo at_)) ∧
  (∀ m a at_ s, s.cfg.ptpMask m.port = true → s.cfg.ptpAuth = true → s.cfg.ptpMon = false → s.ptpIcv m = false →
    ∃ t, exec (.ptpAnnounceReceive m a at_) s = .next t ∧ (t.ptpPort m.port).authFail = inc32 (s.ptpPort m.port).authFail ∧
      t.time.evt.getLsbD 6 = true ∧ (t.ptpPort m.port).foreign = (s.ptpPort m.port).foreign ∧ t.time.slavePort = s.time.slavePort) ∧
  (∀ m a at_ s, PtpUsed s m → s.cfg.ptpRole ≠ 2 → ∃ t, exec (.ptpAnnounceReceive m a at_) s = .next t ∧
    (t.ptpPort m.port).announces = inc32 (s.ptpPort m.port).announces ∧ t.time.servo = s.time.servo ∧ t.cfg = s.cfg ∧ t.mem = s.mem) ∧
  (∀ (s : State) d, (s.time.servo = .acquire ∨ s.time.servo = .locked) → d.utcValid = true →
    (s.parentAnnounce d).time.utc = (d.utcOffset % 65536).toNat ∧ (s.parentAnnounce d).time.utcValid = true) ∧
  (∀ (s : State) d, d.utcValid = false ∨ s.time.servo = .free ∨ s.time.servo = .holdover →
    (s.parentAnnounce d).time.utc = s.time.utc ∧ (s.parentAnnounce d).time.utcValid = s.time.utcValid) ∧
  (∀ (s : State) o, (s.servoSync o).time.servo =
    match s.time.servo with
    | .free => if 1 ≤ s.time.syncCount then .acquire else .free
    | .holdover => if 1 ≤ s.time.syncCount then .acquire else .holdover
    | .acquire => if o.natAbs ≤ 1000 ∧ 15 ≤ s.time.goodSyncs then .locked else .acquire
    | .locked => if 10000 < o.natAbs ∧ 3 ≤ s.time.badSyncs then .holdover else .locked) ∧
  (∀ (s : State) v, v ≠ s.time.servo → (s.servoTo v).time.servo = v ∧ (s.servoTo v).time.evt.getLsbD 1 = true ∧
    (s.servoTo v).time.servoSince = s.now ∧ (s.servoTo v).time.wasLocked = (s.time.wasLocked || decide (v = .locked)) ∧
    (s.servoTo v).time.holdExpired = false ∧ (v ≠ .holdover → (s.servoTo v).time.incr = s.time.incr)) ∧
  (∀ m o c at_ s u x, PtpUsed s m → s.cfg.ptpRole ≠ 2 → s.diag.inj = [] → u = (s.clockTo at_).ptpCount m.port 12 → x = u.ptpPort m.port →
    (u.time.slavePort = m.port → u.time.parent = m.clockId →
      exec (.ptpSyncReceive m o c true at_) s = .next (u.setPtp m.port { x with twoStep := some (m.seq, at_, c) }) ∧
      (u.syncValid m = true → exec (.ptpSyncReceive m o c false at_) s = .next ((u.setPtp m.port { x with
        rxSeq := some m.seq, syncDiff := u.taiNow at_ - o - c }).validSync at_ (o + c + x.meanDelay)))) ∧
    (u.time.slavePort ≠ m.port → exec (.ptpSyncReceive m o c false at_) s = .next u)) ∧
  (∀ m o c at_ s u x rx k, PtpUsed s m → s.cfg.ptpRole ≠ 2 → u = s.clockTo at_ → x = u.ptpPort m.port → x.twoStep = some (m.seq, rx, k) →
    u.time.slavePort = m.port → u.time.parent = m.clockId → u.syncValid m = true → ∃ v, exec (.ptpFollowUpReceive m o c at_) s =
      .next (State.validSync v rx (o + c + k + x.meanDelay)) ∧ (v.ptpPort m.port).twoStep = none ∧ (v.ptpPort m.port).rxSeq = some m.seq) ∧
  (∀ s, s.time.servo = .locked ∨ s.time.servo = .acquire → ∃ t, exec .ptpSourceLost s = .next t ∧
    t.time.servo = (if s.time.wasLocked then .holdover else .free)) ∧
  (∀ i s, s.cfg.ptpMask i = true → s.cfg.ptpProfile ≤ 1 → ∃ t, exec (.ptpPdelayReqSend i) s = .next t ∧
    (t.ptpPort i).reqSeq = ((s.ptpPort i).reqSeq + 1) % 65536 ∧ t.cfg = s.cfg ∧ t.time.servo = s.time.servo) ∧
  (∀ i s, s.cfg.ptpMask i = true → s.cfg.ptpProfile = 2 → s.time.slavePort = i → ∃ t, exec (.ptpDelayReqSend i) s = .next t ∧
    (t.ptpPort i).reqSeq = ((s.ptpPort i).reqSeq + 1) % 65536) ∧
  (∀ i s, s.cfg.ptpProfile = 2 → exec (.ptpPdelayReqSend i) s = .next s) ∧
  (∀ m at_ s, PtpUsed s m → s.cfg.ptpProfile ≤ 1 → exec (.ptpPdelayReqReceive m at_) s =
    .next ((s.clockTo at_).ptpSend m.port 3 m.seq 0 (some at_))) ∧
  (∀ m at_ s, PtpUsed s m → s.cfg.ptpProfile = 2 → (s.ptpPort m.port).state = 6 → exec (.ptpDelayReqReceive m at_) s =
    .next ((s.clockTo at_).ptpSend m.port 9 m.seq 0 none)) ∧
  (∀ m t3 c at_ s t1, PtpUsed s m → s.cfg.ptpProfile ≤ 1 → (s.ptpPort m.port).request = some (m.seq, t1) → at_ ≤ t1 + 500000000 →
    (0 ≤ (at_ : Int) - t1 - c → (at_ : Int) - t1 - c ≤ 200000 → ∃ t, exec (.ptpPdelayRespReceive m t3 c at_) s = .next t ∧
      (t.ptpPort m.port).delays = ((((at_ : Int) - t1 - c) / 2).toNat :: (s.ptpPort m.port).delays).take 8 ∧
      (t.ptpPort m.port).request = none ∧ (t.ptpPort m.port).pdFail = (s.ptpPort m.port).pdFail) ∧
    ((at_ : Int) - t1 - c < 0 ∨ 200000 < (at_ : Int) - t1 - c → ∃ t, exec (.ptpPdelayRespReceive m t3 c at_) s = .next t ∧
      (t.ptpPort m.port).delays = (s.ptpPort m.port).delays ∧ (t.ptpPort m.port).pdFail = inc32 (s.ptpPort m.port).pdFail)) ∧
  (∀ m (rx : Nat) c at_ s t3 d, PtpUsed s m → s.cfg.ptpProfile = 2 → s.time.slavePort = m.port → s.time.parent = m.clockId →
    (s.ptpPort m.port).request = some (m.seq, t3) → at_ ≤ t3 + 500000000 →
    d = (s.ptpPort m.port).syncDiff + ((rx : Int) - c - (s.clockTo at_).taiNow t3) → exec (.ptpDelayRespReceive m rx c at_) s = .next ((s.clockTo at_).delayDone m.port d)) ∧
  (∀ i s q t1, (s.ptpPort i).request = some (q, t1) → ∃ t, exec (.ptpPdelayTimeout i) s = .next t ∧ (t.ptpPort i).request = none ∧
    (t.ptpPort i).pdFail = inc32 (s.ptpPort i).pdFail) ∧
  (∀ i s, s.cfg.ptpMask i = true → (s.ptpPort i).state = 6 → (∃ t, exec (.ptpSyncSend i) s = .next t ∧
      (t.ptpPort i).syncSeq = ((s.ptpPort i).syncSeq + 1) % 65536) ∧
    (∃ t, exec (.ptpAnnounceSend i) s = .next t ∧ (t.ptpPort i).annSeq = ((s.ptpPort i).annSeq + 1) % 65536)) ∧
  (∀ i s, (s.ptpPort i).state ≠ 6 → exec (.ptpSyncSend i) s = .next s ∧ exec (.ptpAnnounceSend i) s = .next s)

/-! ## Real-time clock (chapter 16) -/

/-- R338 to R342, R344 to R347, R350. -/
def Obligations.RealTimeClock : Prop :=
  (∀ (c : Calendar), c.sec < 64 → c.min < 64 → c.hour < 32 → c.day < 32 → c.month < 16 → c.year < 256 → c.wday < 7 →
    ∀ d b, c.tick = (d, b) →
    (c.sec < 59 → d = { c with sec := c.sec + 1 } ∧ b = false) ∧
    (59 ≤ c.sec → d.sec = 0 ∧ (c.min < 59 → d.min = c.min + 1 ∧ d.hour = c.hour ∧ b = false)) ∧
    (59 ≤ c.sec → 59 ≤ c.min → c.hour < 23 → d.min = 0 ∧ d.hour = c.hour + 1 ∧ b = false ∧ d.day = c.day) ∧
    (59 ≤ c.sec → 59 ≤ c.min → 23 ≤ c.hour → b = true ∧ d.hour = 0 ∧ d.wday = (c.wday + 1) % 7 ∧
      (c.day < dim c.month c.year → d.day = c.day + 1 ∧ (1 ≤ c.month → c.month ≤ 12 → d.month = c.month ∧ d.year = c.year)) ∧
      (dim c.month c.year ≤ c.day → d.day = 1 ∧ (c.month < 12 → d.month = c.month + 1 ∧ d.year = c.year) ∧
        (c.month = 12 → d.month = 1 ∧ d.year = (c.year + 1) % 256)) ∧
      (12 < c.month → d.month = 1 ∧ d.year = (c.year + 1) % 256)) ∧
    d.sec < 64 ∧ d.min < 64 ∧ d.hour < 32 ∧ d.day < 32 ∧ d.month < 16 ∧ d.year < 256 ∧ d.wday < 7) ∧
  (∀ acc trim : Int, 0 ≤ acc → acc < 16777216 → -33554432 ≤ trim → trim ≤ 33554432 →
    0 ≤ (trimStep acc trim).1 ∧ (trimStep acc trim).1 < 16777216 ∧ 32766 ≤ (trimStep acc trim).2 ∧ (trimStep acc trim).2 ≤ 32770 ∧
    (trimStep acc trim).1 + 16777216 * (((trimStep acc trim).2 : Int) - 32768) = acc + trim) ∧
  (∀ at_ s u, u = s.clockTo at_ → s.rtc.loads = [] → s.rtc.newTrim = none → s.rtc.cfgNew = none →
    ∃ t, exec (.rtcSecondEnd at_) s = .next t ∧ t.rtc.cal = s.rtc.cal.tick.1 ∧ t.rtc.acc = (trimStep s.rtc.acc s.rtc.trim).1 ∧
      t.rtc.len = (trimStep s.rtc.acc s.rtc.trim).2 ∧ t.rtc.secStart = u.now ∧ t.rtc.trim = s.rtc.trim ∧ t.cfg = s.cfg ∧ t.mem = s.mem ∧
      (s.rtc.cal.tick.2 = true → t.rtc.evt.getLsbD 0 = true)) ∧
  (∀ at_ s b x p, s.rtc.loads = [(b, x, p)] → x + 10000000 ≤ (s.clockTo at_).now → byteAt b 7 = 1 → s.rtc.newTrim = none → s.rtc.cfgNew = none →
    ∃ u : State, exec (.rtcSecondEnd at_) s = .next (u.complete p stOK ((s.clockTo at_).stamp 17).bytes) ∧ u.rtc.cal.sec = byteAt b 5 ∧ u.rtc.cal.min = byteAt b 4 ∧
      u.rtc.cal.hour = byteAt b 3 ∧ u.rtc.cal.day = byteAt b 2 ∧ u.rtc.cal.month = byteAt b 1 ∧ u.rtc.cal.year = byteAt b 0 ∧
      u.rtc.cal.wday = s.rtc.cal.wday ∧ u.rtc.invalid = false ∧ u.rtc.loads = [] ∧ u.rtc.evt.getLsbD 2 = true) ∧
  (∀ s ph, s.cfg.rtcAlign = true → s.time.servo = .locked → 2 ≤ s.rtc.marksLocked → (s.rtc.marksLocked - 2) % 64 = 0 →
    ph = s.rtc.phase s.time.cur.ns ((s.time.cur.sec : Int) - s.time.cur.utc) → exec .rtcAlignCompare s =
      .next { s with rtc := { s.rtc with alignErr := satI32 ph, alignDue := s.rtc.alignDue || 2000 < ph.natAbs } }) ∧
  (∀ (s : State), s.rtc.alignDue = true → (s.alignLoad).rtc.aligned = true ∧ (s.alignLoad).rtc.invalid = false ∧
    (s.alignLoad).rtc.cal.wday = s.rtc.cal.wday ∧ (s.alignLoad).rtc.acc = s.rtc.acc ∧ (s.alignLoad).rtc.secStart = s.time.cur.ns ∧
    (s.alignLoad).rtc.evt.getLsbD 3 = true) ∧
  (∀ (n : Nat) s w v, s.rtc.window = some w → v = divRoundAway (((n : Int) - w.w * 32768) * 16777216) w.w → ∃ t, exec (.trimWindowClose n) s = .next t ∧
    t.rtc.window = none ∧ t.rtc.trim = s.rtc.trim ∧ (-33554432 ≤ v → v ≤ 33554432 → t.rtc.newTrim = some (v, s.now) ∧ t.rtc.trimLimit = false) ∧
    (33554432 < v → t.rtc.newTrim = some (33554432, s.now) ∧ t.rtc.trimLimit = true) ∧
    (v < -33554432 → t.rtc.newTrim = some (-33554432, s.now) ∧ t.rtc.trimLimit = true)) ∧
  (∀ s w, s.rtc.window = some w → s.windowFailed w = true → ∃ t, exec .trimWindowAbandon s = .next t ∧ t.rtc.window = none ∧
    t.rtc.trim = s.rtc.trim ∧ t.rtc.newTrim = s.rtc.newTrim ∧ t.rtc.evt.getLsbD 5 = true) ∧
  (∀ s w, s.rtc.window = some w → s.windowFailed w = false → exec .trimWindowAbandon s = .next s) ∧
  (∀ a s, exec (.mainsAbsentChange a) s = .next { s with power.mainsAbsent := a }) ∧
  (∀ s, s.power.mainsAbsent = false → s.rtc.window = none → s.cfg.trimSrc = 2 → exec .mainsZeroCrossing s =
    .next { s with rtc.window := some { src := 2, opened := s.now, w := s.cfg.mainsWindow } }) ∧
  (∀ s, s.power.mainsAbsent = true ∨ s.rtc.window ≠ none ∨ s.cfg.trimSrc ≤ 1 → exec .mainsZeroCrossing s = .next s) ∧
  (∀ s, s.hostOn = true → exec .rtcSubsecRead s = .next { s with
      rtc := { s.rtc with shadow := s.rtc.cal, shadowSub := s.rtc.subsec s.now, frozen := true }, host.rdata := s.rtc.subsec s.now } ∧
    (s.rtc.frozen = true → exec .rtcYearRead s = .next { s with rtc.frozen := false, host.rdata := s.rtc.shadow.year }) ∧
    (s.rtc.frozen = false → exec .rtcYearRead s = .next { s with rtc.frozen := false, host.rdata := s.rtc.cal.year })) ∧
  Answers .rtcRead cmdRtcRead (fun _ _ t => (calBytes t.rtc.cal 0).take 6 ++ leBytes 1 t.rtc.cal.wday ++ leBytes 1 t.rtc.status ++
    leBytes 2 (t.rtc.subsec t.now)) noXp ∧
  Begins .rtcSet cmdRtcSet (fun p e t => { t with rtc.loads := t.rtc.loads ++ [(padTo 8 e.req.params, t.now, p)] }) ∧
  Begins .rtcCfg cmdRtcCfg (fun p e t => { t with stored.rtc := padTo 12 e.req.params, rtc.cfgNew := some (p, t.now, padTo 12 e.req.params) })

/-! ## Disturbance recorder and Longe (chapter 17) -/

/-- R351, R353, R355, R357 to R362, R372, R373. -/
def Obligations.RecorderRuns : Prop :=
  (∀ kind count n, frameLen 4 count n = 8 + 8 * ((n + 63) / 64) + 16 * count ∧ frameLen kind count n % 8 = 0 ∧
    (kind ≤ 3 → 8 + 8 * ((n + 63) / 64) + 12 * count ≤ frameLen kind count n ∧ frameLen kind count n < 16 + 8 * ((n + 63) / 64) + 12 * count)) ∧
  (∀ (s : State) i g0 k, (s.recInst i).state = 1 ∨ (s.recInst i).state = 5 → (s.recInst i).nextFree = some k →
    ((s.recArmNow i g0).recInst i).state = 2 ∧ ((s.recArmNow i g0).recInst i).slot = some k ∧ ((s.recArmNow i g0).recInst i).next = some g0 ∧
    (∀ j, j ≠ i → (s.recArmNow i g0).recInst j = s.recInst j) ∧ (s.recArmNow i g0).mem = s.mem) ∧
  (∀ (s : State) i reason flag, ((s.recInst i).on = false → s.recStop i reason flag = s) ∧
    ((s.recInst i).on = true → ((s.recStop i reason flag).recInst i).state = 5 ∧ ((s.recStop i reason flag).recInst i).reason = reason ∧
      ∀ k g, (s.recInst i).slots.get? k = some g → g.closed = false → g.closeAt = none →
        (((s.recStop i reason flag).recInst i).slots.get? k).map (·.closeAt) = some (some (s.now + 5000000)) ∧
        (((s.recStop i reason flag).recInst i).slots.get? k).map (·.flags) = some (g.flags ||| flag))) ∧
  (∀ s i d g b r, s.pathOn = true → r = s.recInst i → r.on = true → .acq ∈ s.power.on → r.next.bind (fun g => s.capture r.kind g) = some (d, g) →
    s.buildFrame r d g = some b → r.postSeg = none →
    ∃ t, exec (.recorderFrame i) s = .next t ∧ t.mem = (s.memWrite (r.frameAt (r.slot.getD 0) r.ringOrd r.ord) b.bytes false).mem ∧
      slice b.bytes 0 4 = leBytes 4 d.sec ∧ b.bytes.length = r.frameLen ∧ (t.recInst i).ord = r.ord + 1 ∧
      (t.recInst i).next = some (g + 1) ∧ (t.recInst i).state = r.state ∧ t.cfg = s.cfg ∧ t.logic = s.logic ∧
      ∀ j, j ≠ i → t.recInst j = s.recInst j) ∧
  (∀ s i src x r f, s.pathOn = true → r = s.recInst i → r.trigs.find? (fun y => y.source = src) = some x →
    s.trigFrame r x.at_ = some (some f) → r.slots.find? (fun y => !y.2.closed && decide (y.2.firstOrd ≤ f.ord) && decide (f.ord ≤ y.2.lastOrd)) = none →
    r.on = true → r.postSeg = none →
    (∀ k old p, r.lastOrd = none → r.slot = some k → old = max (max r.armOrd r.ringOrd) (r.ord - r.capacity) → p = min r.preMax (f.ord - old) →
      (∀ first, r.ring.find? (fun y => y.ord = f.ord - p) = some first → r.ord ≤ f.ord + r.post → f.ord + r.post < first.ord + r.capacity →
        first.ord = f.ord - p → r.outX1 = false → r.outJ4 = false → ∃ t g, exec (.recorderTrigger i src) s = .next t ∧ (t.recInst i).slots.get? k = some g ∧
          g.record = r.record ∧ (t.recInst i).record = r.record + 1 ∧ g.segment = 0 ∧ g.pre = p ∧ g.trig = f ∧
          g.lastOrd = f.ord + r.post ∧ g.flags.testBit 0 = decide (p < r.preMax) ∧ (t.recInst i).state = 3 ∧
          g.trigs = [(s.stampOf x.at_ x.cls x.interp, x.source, x.term, 0)] ∧ t.cfg = s.cfg)) ∧
    (∀ last, r.lastOrd = some last → last < f.ord → f.ord ≤ last + s.holdFrames r → r.retrig = false →
      ∃ t, exec (.recorderTrigger i src) s = .next t ∧ (t.recInst i).missed = inc32 r.missed ∧ (t.recInst i).slots = r.slots ∧
        t.acq.log.head?.map (fun b => byteAt b 1) = some 2 ∧ t.mem = s.mem ∧ t.cfg = s.cfg)) ∧
  (∀ s i src r, s.pathOn = true → r = s.recInst i → r.trigs.find? (fun y => y.source = src) = none → exec (.recorderTrigger i src) s = .next s) ∧
  (∀ s i r, r = s.recInst i → r.on = true → ∃ t, exec (.recorderOverflow i) s = .next t ∧ (t.recInst i).state = 5 ∧
    (t.recInst i).reason = 3 ∧ (t.recInst i).overflows = inc32 r.overflows ∧ t.acq.log.head?.map (fun b => slice b 0 2) = some (leBytes 1 i ++ [3]) ∧
    t.mem = s.mem ∧ t.cfg = s.cfg) ∧
  (∀ s i r, r = s.recInst i → r.on = false → exec (.recorderOverflow i) s = .next s) ∧
  (∀ s i r last, r = s.recInst i → r.state = 4 → r.lastOrd = some last →
    (last + 1 + s.holdFrames r ≤ r.ord → exec (.rearmHoldoffEnd i) s = .next (s.setRec i { r with state := 2 })) ∧
    (r.ord < last + 1 + s.holdFrames r → exec (.rearmHoldoffEnd i) s = .next s)) ∧
  (∀ s i r k g t0, r = s.recInst i → r.slots = [(k, g)] → g.closed = false → g.closeAt = some t0 →
    ∃ t h, exec (.segmentClose i) s = .next t ∧ (t.recInst i).slots.get? k = some h ∧ h.closed = true ∧ h.frames = g.frames ∧ h.trigs = g.trigs ∧
      h.flags = g.flags ∧ (t.recInst i).closed = inc32 r.closed ∧ (t.recInst i).state = r.state ∧
      t.acq.log.head?.map (fun b => slice b 0 2) = some (leBytes 1 i ++ [1]) ∧ t.cfg = s.cfg) ∧
  (∀ s n rising at_, n ≤ 1 → ∃ t : State, exec (.trigInputEdge n rising at_) s = .next t ∧ t.mem = s.mem ∧ t.logic = s.logic ∧ t.cfg = s.cfg ∧
    ∀ i r, s.acq.inst.get? i = some r → (r.on = false → t.acq.inst.get? i = some r) ∧
      (r.on = true → ∀ b e, r.terms = [b] → e = (if rising then 1 else 2) → byteAt b 0 = 3 → le32 b 4 = n → byteAt b 1 &&& e ≠ 0 →
        t.acq.inst.get? i = some { r with trigs := r.trigs ++ [⟨at_ - 1800, 3, 0, 15, false⟩] })) ∧
  (∀ s x1 at_, lineSeen (if x1 then s.acq.j4 else s.acq.x1) at_ = true → ∃ t : State, exec (.xtrigEdge x1 at_) s = .next t ∧ t.mem = s.mem ∧ t.cfg = s.cfg ∧
    ∀ i r b, s.acq.inst.get? i = some r → r.on = true → r.terms = [b] → byteAt b 0 = 4 → le32 b 4 = (if x1 then 1 else 0) →
      t.acq.inst.get? i = some { r with trigs := r.trigs ++ [⟨at_ - (if x1 then 50 else 400), 4, 0, 16, false⟩] }) ∧
  (∀ s x1 at_, lineSeen (if x1 then s.acq.j4 else s.acq.x1) at_ = false → exec (.xtrigEdge x1 at_) s = .next (s.clockTo (at_ + 20000))) ∧
  (∀ t0 rel t, lineSeen none t = true ∧ lineSeen (some (t0, none)) t = false ∧ (lineSeen (some (t0, some rel)) t = true ↔ rel + 100000 ≤ t)) ∧
  (∀ s t0, s.acq.x1 = some (t0, none) → s.acq.j4 = none → ∀ u : State, u = s.clockTo (t0 + 1000000) →
    exec .xtrigPulseEnd s = .next { u with acq.x1 := some (t0, some (t0 + 1000000)), acq.j4 := none }) ∧
  (∀ s, s.acq.x1 = none → s.acq.j4 = none → exec .xtrigPulseEnd s = .next s) ∧
  Completes .recCfg cmdRecCfg (fun _ e t => State.acqPower (if byteAt e.req.region 1 = 0 then { t with acq.inst := t.acq.inst.del (byteAt e.req.params 0) }
    else t.setRec (byteAt e.req.params 0) (recOf e.req))) noResp noXp ∧
  Completes .recArm cmdRecArm (fun p e t => (t.holdChange p e).1) (fun p e t => leBytes 4 (t.holdChange p e).2) noXp ∧
  (∀ p e s t, Accepted cmdRecTrigger p e s t → ∃ (u : State), exec (.recTrigger p) s = .next (u.complete p stOK e.rx.bytes none) ∧ u.mem = t.mem ∧ u.cfg = t.cfg ∧
    u.logic = t.logic ∧ ∀ i r, t.acq.inst.get? i = some r → u.acq.inst.get? i =
      some (if (le16 e.req.params 0).testBit i && r.on && ((match p with | .vf _ => false | _ => true) || r.vfTrig) then
        { r with trigs := r.trigs ++ [⟨t.extOf e.rx, 6, 255, e.rx.src, false⟩] } else r)) ∧
  (∀ p e s t, Accepted cmdRecStatus p e s t → ∃ b, exec (.recStatus p) s = .next (t.complete p stOK [] (some b)) ∧ b.length = 512 ∧
    ∀ i r, i < 16 → r = t.recInst i → slice b (32 * i) 2 = leBytes 1 r.state ++ leBytes 1 r.reason ∧ slice b (32 * i + 8) 12 =
      leBytes 4 r.missed ++ leBytes 4 r.overflows ++ leBytes 4 r.closed) ∧
  (∀ p e s t r, Accepted cmdRecSlots p e s t → r = t.recInst (byteAt e.req.params 0) →
    ∃ b, exec (.recSlots p) s = .next (t.complete p stOK [] (some b)) ∧ b.length = 16 * r.slotCount ∧
      ∀ k g, k < r.slotCount → r.slots.get? k = some g → slice b (16 * k) 16 =
        leBytes 1 (if g.closed then 2 else 1) ++ [0] ++ leBytes 2 g.segment ++ leBytes 4 g.record ++ leBytes 8 (r.lo + k * r.slotBytes)) ∧
  (∀ p e s t r n, Accepted cmdRecRelease p e s t → r = t.recInst (byteAt e.req.params 0) → n = r.slots.del (le16 e.req.params 2) →
    exec (.recRelease p) s = .next ((t.setRec (byteAt e.req.params 0) { r with slots := n, state := if n.isEmpty && r.state = 5 then 1 else r.state }).complete p stOK [] none)) ∧
  Answers .recLogRead cmdRecLogRead
    (fun _ e t => leBytes 2 (min (le16 e.req.params 0) t.acq.log.length) ++ leBytes 4 t.acq.lost)
    (fun _ e t => some (((if byteAt e.req.params 2 = 1 then t.acq.log.reverse else t.acq.log).take (le16 e.req.params 0)).flatten))

/-- R366 to R371, R373. -/
def Obligations.LongeReplay : Prop :=
  (∀ (s : State) ord at_ k c, s.acq.longe.get? k = some c → (s.longeBegin ord at_).acq.running = true ∧
    ((s.longeBegin ord at_).acq.runs.get? k).map (·.running) = some true ∧ ((s.longeBegin ord at_).acq.runs.get? k).map (·.ord) = some ord ∧
    ((s.longeBegin ord at_).acq.runs.get? k).map (·.c) = some 0 ∧ (s.longeBegin ord at_).mem = s.mem) ∧
  (∀ s k c x l at_ y m, s.pathOn = true → s.acq.longe.get? k = some c → s.acq.runs.get? k = some x → x.running = true → s.acq.running = true →
    State.lgNext c (lgAsdus c.rec_) x s = (some (l, at_, y), m) → ∀ u : State, u = m.clockTo (at_ + lgDelay c.rec_) →
    exec (.longeSample k) s = .next (State.lgSend { u with acq.runs := u.acq.runs.set k { y with frames := inc32 x.frames } } k c.rec_ l)) ∧
  (∀ s k, s.pathOn = true → s.acq.running = false → exec (.longeSample k) s = .next s) ∧
  (∀ c n (x : LongeRun) (s m : State) l at_ y, State.lgNext c n x s = (some (l, at_, y), m) → l.length = n ∧
    ∀ a, a ∈ l → a.confRev = le32 c.rec_ 20 ∧ a.values.length = lgChans c.rec_ ∧ a.quality.length = lgChans c.rec_) ∧
  (∀ (s : State) b l port prp, ∃ v, (s.lgFrame b l port prp).content = .sv (le16 b 16) v ∧ v.sim = true ∧ v.asdus = l ∧ v.svid = lgSvid b ∧ v.prp = prp) ∧
  (∀ s k c x at_ y, s.acq.longe.get? k = some c → s.acq.runs.get? k = some x → x.running = true → s.lgTime c.rec_ x = some (at_, y) →
    (State.lgNext c (lgAsdus c.rec_) x s).1 = none → lgLoop c.rec_ = false →
    ∃ t, exec (.longeSourceEnd k) s = .next t ∧ (t.acq.runs.get? k).map (·.running) = some false ∧
      t.acq.log.head?.map (fun b => byteAt b 1) = some 7 ∧ t.mem = s.mem ∧ t.cfg = s.cfg ∧ t.acq.inst = s.acq.inst ∧
      (t.acq.running = true → t.acq.runs.any (fun z => z.2.running) = true)) ∧
  (∀ s k c x, s.acq.longe.get? k = some c → s.acq.runs.get? k = some x → (State.lgNext c (lgAsdus c.rec_) x s).1.isSome = true →
    exec (.longeSourceEnd k) s = .next s) ∧
  (∀ states (b : Bytes) loop at_ n (x : LongeRun), states.getD x.state [] = b → 0 < n → at_ < x.stateAt + stDur b ∨ stDur b = 0 → lgStates states loop at_ n x = some x) ∧
  (∀ b phi since, le32 b 0 = 0 → byteAt b 6 = 0 → le32 b 20 = 0 → fxRound (lgSynth b phi since) = int32 (le32 b 16)) ∧
  Completes .longeCfg cmdLongeCfg (fun _ e t =>
    State.acqPower { t with acq.longe := lgTable t.acq.longe ((lgParse (byteAt e.req.params 0) e.req.region).getD []) }) noResp noXp ∧
  Completes .longeStart cmdLongeStart (fun p e t => ((t.begin 12 (some p)).holdChange p e).1)
    (fun p e t => leBytes 4 ((t.begin 12 (some p)).holdChange p e).2) noXp ∧
  (∀ p e s t, Accepted cmdLongeStop p e s t → ∃ (u : State) (b : Bytes), exec (.longeStop p) s = .next (u.complete p stOK b none) ∧ u.acq.running = false ∧
    u.acq.runs.any (fun x => x.2.running) = false ∧ u.sv.marks.any (fun c => c.opcode == 0x0B11) = false ∧ u.cfg = t.cfg ∧ u.mem = t.mem) ∧
  (∀ p e s t, Accepted cmdLongeStatus p e s t → ∃ b, exec (.longeStatus p) s = .next (t.complete p stOK [] (some b)) ∧ b.length = 1024 ∧
    ∀ k x, k < 64 → x = t.acq.runs.getD k {} → slice b (16 * k) 16 =
      leBytes 1 (b2n x.running) ++ [0] ++ leBytes 4 x.frames ++ leBytes 2 x.smpCnt ++ leBytes 4 x.pos ++ zeros 4)

/-! ## Firn (chapter 18) -/

/-- R374, R375, R377 to R384. -/
def Obligations.FirnLog : Prop :=
  (∀ e : FirnEv, e.record.length = 32 ∧ slice e.record 14 2 = leBytes 1 (e.code / 256) ++ leBytes 1 (e.code % 256) ∧
    slice e.record 16 4 = leBytes 4 e.seq ∧ slice e.record 22 8 = padTo 8 e.data ∧ slice e.record 30 2 = leBytes 2 (crc16 (slice e.record 0 30)) ∧
    tornRecord e.record = false ∧ (e.seq < 4294967296 → recordSeq e.record = e.seq)) ∧
  (∀ s code data, firnKnown code = true → s.romServed = false → s.firn.full = false → s.firn.queue.length < 4096 →
    ∃ t e, exec (.firnEvent code data) s = .next t ∧ t.firn.queue = s.firn.queue ++ [e] ∧ e.seq = s.ao.firnSeq ∧ e.code = code ∧
      e.data = padTo 8 data ∧ e.stamp = s.stamp 11 ∧ e.held = (s.firn.frozen.isSome || s.firn.clear.isSome) ∧ e.boot = (s.mod.state == 0) ∧
      t = { s with ao.firnSeq := (s.ao.firnSeq + 1) % 4294967296, firn.queue := s.firn.queue ++ [e], firn.qMax := max s.firn.qMax (s.firn.queue.length + 1) }) ∧
  (∀ s code data, firnKnown code = true → s.romServed = false → s.firn.full = true ∨ 4096 ≤ s.firn.queue.length →
    ∃ t, exec (.firnEvent code data) s = .next t ∧ t.ao.firnSeq = (s.ao.firnSeq + 1) % 4294967296 ∧ t.firn.queue = s.firn.queue ∧
      t.firn.discarded = inc32 s.firn.discarded ∧ t.flash = s.flash ∧
      (s.firn.full = false → s.firn.lost = none → t.firn.lost = some (s.ao.firnSeq, 1))) ∧
  (∀ s code data, firnKnown code = false → exec (.firnEvent code data) s = .next s) ∧
  (∀ s e rest, .mgmt ∈ s.power.on → s.firn.frozen = none → s.firn.clear = none → s.firn.full = false → s.firn.queue = e :: rest →
    ∃ t, exec .firnRecordProgrammed s = .next t ∧
      (s.firn.lost = none → s.flash.firn.length + 1 ≠ 245760 → s.flash.firn.length + 1 ≠ 262143 →
        t.flash = { s.flash with firn := e.record :: s.flash.firn } ∧ t.firn = { s.firn with queue := rest } ∧ t.host.cause.getLsbD 10 = true) ∧
      (s.firn.lost = none → s.romServed = false → s.flash.firn.length + 1 = 245760 → rest.length < 4096 → t.firn.nearFull = true ∧
        t.firn.queue.map (·.code) = rest.map (·.code) ++ [0x0C04]) ∧
      (s.firn.lost = none → s.romServed = false → s.flash.firn.length + 1 = 262143 → t.firn.full = true ∧ t.firn.queue = [] ∧
        t.flash.firn.length = 262144 ∧ t.firn.discarded = (s.firn.discarded + rest.length) % 4294967296 ∧
        (t.flash.firn.head?.map (fun b => slice b 14 2)) = some [0x0C, 0x03])) ∧
  (∀ s, s.firn.frozen.isSome = true ∨ s.firn.clear.isSome = true ∨ s.firn.queue = [] ∨ s.firn.full = true → exec .firnRecordProgrammed s = .next s) ∧
  (∀ s t0, s.firn.frozen = some t0 → ∃ t, exec .firnAutoRelease s = .next t ∧ t.firn.frozen = none ∧ t.flash = s.flash ∧ t.cfg = s.cfg ∧
    t.active 4 = false ∧ (s.romServed = false → s.firn.full = false → s.firn.queue.length < 4096 → ∃ e, t.firn.queue = s.firn.queue ++ [e] ∧ e.code = 0x0C02 ∧
      e.held = true ∧ e.data = padTo 8 [0, 1])) ∧
  (∀ s, s.firn.frozen = none → exec .firnAutoRelease s = .next s) ∧
  (∀ s c, s.firn.clear = some c → ∃ (u : State), exec .firnEraseComplete s = .next (u.completeWaiting 0x0C04 stOK (leBytes 4 c.erased ++ leBytes 4 c.seq)) ∧
    u.flash = { s.flash with firn := [c.ev.record], clearMark := none } ∧
    u.firn = { s.firn with clear := none, discarded := 0, nearFull := false, full := false } ∧ u.host.cause.getLsbD 10 = true ∧ u.active 5 = false ∧
    u.cfg = s.cfg ∧ u.mem = s.mem) ∧
  (∀ s, s.firn.clear = none → exec .firnEraseComplete s = .next s) ∧
  Answers .firnStatus cmdFirnStatus noResp (fun _ _ t => some (leBytes 4 t.flash.firn.length ++ leBytes 4 t.ao.firnSeq ++ leBytes 4 t.firn.discarded ++
    leBytes 2 t.firn.queue.length ++ leBytes 2 t.firn.qMax ++
    leBytes 16 (b2n t.firn.frozen.isSome + 2 * b2n t.firn.nearFull + 4 * b2n t.firn.full + 8 * b2n t.firn.clear.isSome))) ∧
  (∀ p e s t l, Accepted cmdFirnRead p e s t → l = (t.flash.firn.reverse.drop (le32 e.req.params 0)).take (le16 e.req.params 4) →
    ∃ r b, exec (.firnRead p) s = .next (t.complete p stOK r (some b)) ∧ slice r 0 8 = leBytes 4 l.length ++ leBytes 4 (le32 e.req.params 0 + l.length) ∧
      (l.all (fun x => !tornRecord x) = true → b = l.flatten ∧ byteAt r 8 = 0)) ∧
  (∀ p e s t, Accepted cmdFirnFreeze p e s t → ∃ (u : State), exec (.firnFreeze p) s = .next (u.complete p stOK (t.stamp 17).bytes none) ∧ u.flash = t.flash ∧
    u.cfg = t.cfg ∧ (byteAt e.req.params 0 = 1 → u.firn.frozen = some t.now ∧ u.active 4 = true) ∧ (byteAt e.req.params 0 ≠ 1 → u.firn.frozen = none ∧ u.active 4 = false)) ∧
  (∀ p e s t, Accepted cmdFirnClear p e s t → ∃ (u : State), exec (.firnClear p) s = .next (u.goesOnAt p) ∧ u.active 5 = true ∧ u.cfg = t.cfg ∧
    ∃ c, u.firn.clear = some c ∧ c.keyId = le32 e.req.block 0 ∧ c.erased = u.flash.firn.length ∧ u.ao.firnSeq = (c.seq + 1) % 4294967296 ∧ c.ev.code = 0x0C01 ∧
      c.ev.data = leBytes 4 c.lastSeq ++ leBytes 4 c.keyId ∧ (t.firn.queue = [] → u.flash.firn = t.flash.firn ∧ c.seq = t.ao.firnSeq))

/-! ## Safety island and Harness (chapter 19) -/

/-- R387, R389 to R392, R394, R396 to R399, R409, R411. -/
def Obligations.SafetyIsland : Prop :=
  (∀ src v test, tpJudge 1 1 v test = (if v && test then 2 else 0) ∧ tpJudge 1 2 v test = (if v && !test then 3 else 0) ∧
    tpJudge 2 2 v test = (if v && test then 2 else 0) ∧ tpJudge 2 1 v test = (if v && !test then 3 else 0) ∧ tpJudge 0 src v test = 0) ∧
  (∀ k p, 0 < p → tpOf (k * (4 * p)) p = 1 ∧ tpOf (k * (4 * p) + 2 * p) p = 2) ∧
  (∀ (t : Terminal) v nf, (t.sample v nf).last = v ∧ (t.run < 65535 → (t.sample v nf).run = (if v = t.last then t.run + 1 else 1)) ∧
    (t.sample v nf).val = (if nf ≤ (if v = t.last then t.run + 1 else 1) then v else t.val)) ∧
  (∀ (s : State) n a b k, k = (s.safeIn n).state → ((s.inStep n a b).safeIn n).state =
    (if k = 1 then (if a && b then 1 else 2) else if k = 2 then (if !a && !b then 3 else 2) else if k = 3 then (if a && b then 1 else 3)
      else if k = 4 then (if !a && !b then 3 else 4) else k)) ∧
  (∀ (s : State) n k, ((s.inFaulted n k).safeIn n).state = 4 ∧ ((s.inFaulted n k).safeIn n).kind = k ∧ (s.inFaulted n k).safe.outs = s.safe.outs) ∧
  (∀ s n ch v b x t, s.safe.cfg = some b → n < 8 → inMode (blobIn b n) ≠ 0 → t = 2 * n + b2n ch → x = s.terminal t → x.val ≠ v → x.last = v →
    (inNf (blobIn b n) ≤ x.run + 1 → exec (.inputFilterChange n ch v) s = .next (s.setTerminal t { x with run := x.run + 1, val := v })) ∧
    (x.run + 1 < inNf (blobIn b n) → exec (.inputFilterChange n ch v) s = .next s)) ∧
  (∀ s n b x, s.safe.cfg = some b → n < 8 → inMode (blobIn b n) ≠ 0 → x = s.safeIn n → x.count < inDisc (blobIn b n) →
    (s.inChans n (blobIn b n)).1 ≠ (s.inChans n (blobIn b n)).2 →
    (x.count + 1 = inDisc (blobIn b n) → ∃ t, exec (.discrepancyFault n) s = .next t ∧ (t.safeIn n).state = 4 ∧ (t.safeIn n).kind = 1 ∧
      t.safe.counts.getD 0 0 = inc32 (s.safe.counts.getD 0 0) ∧ t.safe.outs = s.safe.outs ∧ t.cfg = s.cfg) ∧
    (x.count + 1 < inDisc (blobIn b n) → exec (.discrepancyFault n) s = .next s)) ∧
  (∀ (s : State) srst n r x c y, r = s.outRec n → x = s.safeOut n → c = (outEn r && s.outCond r) → y = (s.slotOut srst n).safeOut n →
    y.cond = c ∧ y.armed = (!s.safe.fv24Low && c && (if outManual r then x.armed || srst else true)) ∧ (s.outBlocked n ≠ 0 → y.on = false) ∧
    (s.outBlocked n = 0 → x.delay = none → (x.cond && !c && x.on && outCat1 r) = false → y.on = (c && y.armed)) ∧
    (s.outBlocked n = 0 → x.delay = none → x.cond = true → c = false → x.on = true → outCat1 r = true → 0 < le16 r 2 →
      y.on = true ∧ y.delay = some (s.now + 1000000 * le16 r 2)) ∧ ∀ m, m ≠ n → (s.slotOut srst n).safeOut m = s.safeOut m) ∧
  (∀ (s : State) n, s.halter = true → s.outBlocked n ≠ 0) ∧
  (∀ (s : State) c, c < 16 → (s.halterCause c).safe.causes = s.safe.causes ||| BitVec.twoPow 16 c ∧ (s.halterCause c).halter = true ∧
    (s.halter = false → (s.halterCause c).safe.halt = s.stamp 17 ∧ ∀ n, n < 4 → ((s.halterCause c).safeOut n).on = false ∧ ((s.halterCause c).safeOut n).armed = false) ∧
    (s.halter = true → (s.halterCause c).safe.outs = s.safe.outs ∧ (s.halterCause c).safe.halt = s.safe.halt)) ∧
  (∀ (s : State) (i : SlotInput), Domain.safe ∈ s.power.on → s.safe.ready = true → (s.safetySlot i).safe.slot = s.safe.slot + 1 ∧ (s.safetySlot i).cfg = s.cfg ∧ (s.safetySlot i).mem = s.mem ∧
    (s.safe.cfg ≠ none → (s.safetySlot i).halter = true → ∀ n, n < 4 → ((s.safetySlot i).safeOut n).on = false) ∧
    (s.diag.inj = [] → i.agree = false → s.safe.cross = 1 → (s.safetySlot i).safe.causes.getLsbD 1 = true)) ∧
  (∀ (s : State) (i : SlotInput), (List.range 5).any (fun c => hardCause c && (s.safetySlot i).safe.causes.getLsbD c) = false → exec (.safetySlot i) s = .next (s.safetySlot i)) ∧
  (∀ (s : State) (i : SlotInput), Domain.safe ∉ s.power.on ∨ s.safe.ready = false → s.safetySlot i = s) ∧
  (∀ s n d, (s.safeOut n).delay = some d → n < 4 → (s.safeOut n).on = true → ∃ t, exec (.offDelayExpiry n) s = .next t ∧ (t.safeOut n).on = false ∧
    (t.safeOut n).delay = none ∧ t.cfg = s.cfg ∧ ∀ m, m ≠ n → t.safeOut m = s.safeOut m) ∧
  (∀ s n high ok, n < 4 → (s.safeOut n).on = true → s.diag.inj = [] → (ok = true → exec (.outputDarkTest n high ok) s = .next s) ∧
    (ok = false → ∃ t, exec (.outputDarkTest n high ok) s = .next t ∧ (t.safeOut n).on = false ∧ (t.safeOut n).fault = true ∧ t.safe.causes.getLsbD 4 = true ∧ t.cfg = s.cfg)) ∧
  (∀ s n, n < 4 → (s.safeOut n).on = true → ∃ t, exec (.outputOverload n) s = .next t ∧ (t.safeOut n).on = false ∧ (t.safeOut n).fault = true ∧
    t.safe.causes.getLsbD 6 = true ∧ t.cfg = s.cfg) ∧
  (∀ s, s.safe.fv24Low = false → Domain.safe ∈ s.power.on → ∃ t, exec .fv24LowSet s = .next t ∧ t.safe.fv24Low = true ∧ t.safe.causes = s.safe.causes ∧ t.cfg = s.cfg ∧
    ∀ n, n < 4 → (t.safeOut n).on = false ∧ (t.safeOut n).armed = false) ∧
  (∀ s, s.safe.fv24Low = true → s.diag.inj = [] → ∃ t, exec .fv24LowClear s = .next t ∧ t.safe = { s.safe with fv24Low := false } ∧ t.cfg = s.cfg) ∧
  (∀ s, exec (.safetyBackgroundTest true) s = .next s ∧ (Domain.safe ∈ s.power.on → exec (.safetyBackgroundTest false) s = .next (s.halterCause 3))) ∧
  (∀ (s : State) (n : Nat), Domain.safe ∈ s.power.on → s.diag.inj = [] → (95703 ≤ n → n ≤ 99609 → exec (.clockMonitorFault false n) s = .next s) ∧
    (n < 95703 ∨ 99609 < n → exec (.clockMonitorFault false n) s = .next (s.halterCause 2)) ∧
    exec (.clockMonitorFault true n) s = .next (s.halterCause 2).rtcInvalidate) ∧
  Answers .safeStatus cmdSafeStatus noResp (fun _ _ t => some t.safeStatusBytes) ∧
  (∀ p e s t b, Accepted cmdSafeCfgLoad p e s t → b = e.req.region → t.safeBlobOk b = true ∧ ∃ (u : State), exec (.safeCfgLoad p) s =
    .next (u.complete p stOK (slice b 12 4) none) ∧ u.safe = { t.safe with staged := some b } ∧ u.cfg = t.cfg ∧ u.flash = t.flash) ∧
  (∀ p e s t, Accepted cmdSafeCfgCommit p e s t → ∃ (u : State) (b : Bytes) (w : Stamp), t.safe.staged = some b ∧ slice b 12 4 = slice e.req.params 0 4 ∧
    exec (.safeCfgCommit p) s = .next (u.complete p stOK w.bytes none) ∧ u.safe.cfg = some b ∧ u.safe.staged = none ∧ u.flash.safeCfg = some b ∧
    u.safe.causes.getLsbD 8 = true ∧ u.safe.causes.getLsbD 9 = false ∧ (∀ n, n < 4 → (u.safeOut n).on = false) ∧
    ∀ n, n < 8 → (u.safeIn n).state = (if inMode (blobIn b n) = 0 then 0 else 3)) ∧
  (∀ p e s t, Accepted cmdSafeCfgRead p e s t → ∃ b, (if byteAt e.req.params 0 = 1 then t.safe.staged else t.safe.cfg) = some b ∧
    exec (.safeCfgRead p) s = .next (t.complete p stOK [] (some b))) ∧
  Completes .safeHalter cmdSafeHalter (fun _ _ t => t.halterCause 10) (fun _ _ t => (t.halterCause 10).safe.halt.bytes) noXp ∧
  (∀ p e s t, Accepted cmdSafeReset p e s t → t.mayLeave = true ∧ ∃ (u : State), exec (.safeReset p) s = .next (u.complete p stOK (t.stamp 17).bytes none) ∧
    u.halter = false ∧ u.cfg = t.cfg ∧ ∀ n, (u.safeOut n).armed = (t.safeOut n).armed ∧ (u.safeOut n).on = (t.safeOut n).on)

/-- R402 to R407, R411. -/
def Obligations.HarnessConnections : Prop :=
  (∀ s port src b at_ g, s.safe.cfg = some g → (connList g).find? (fun r => cValid r && !cOut r && cId r == rdBe32 b 4 && (cPorts r).contains port) = none →
    exec (.harnessPduReceive port src b at_) s = .next (s.clockTo at_)) ∧
  (∀ s port src b at_ g r c u x, s.safe.cfg = some g → (connList g).find? (fun r => cValid r && !cOut r && cId r == rdBe32 b 4 && (cPorts r).contains port) = some r →
    c = cNo r → s.diag.inj = [] → u = s.clockTo at_ → x = s.conn c → cDual r = false →
    (macAt r 40 ≠ 0 → src ≠ macAt r 40 → ∃ t, exec (.harnessPduReceive port src b at_) s = .next t ∧ (t.conn c).a = x.a ∧ (t.conn c).state = x.state ∧
      (t.conn c).counts.getD 0 0 = inc32 (x.counts.getD 0 0) ∧ (t.conn c).acks = 0) ∧
    (macAt r 40 = 0 ∨ src = macAt r 40 →
      (pduCrc r b ≠ rdBe32 b 16 → ∃ t, exec (.harnessPduReceive port src b at_) s = .next t ∧ (t.conn c).a = x.a ∧ (t.conn c).state = x.state ∧
        (t.conn c).counts.getD 1 0 = inc32 (x.counts.getD 1 0)) ∧
      (b.length = 20 → byteAt b 0 = 1 → byteAt b 1 = 1 → byteAt b 2 ≤ 3 → byteAt b 3 = 0 → zeroAt b 12 4 = true → pduCrc r b = rdBe32 b 16 →
        (x.a.last = some (rdBe16 b 8) → ∃ t, exec (.harnessPduReceive port src b at_) s = .next t ∧ (t.conn c).a = x.a ∧ (t.conn c).state = x.state ∧
          (t.conn c).acks = x.acks ∧ (t.conn c).counts.getD 3 0 = inc32 (x.counts.getD 3 0)) ∧
        (∀ l, x.a.last = some l → 256 ≤ (rdBe16 b 8 + 65536 - l) % 65536 → ∃ t, exec (.harnessPduReceive port src b at_) s = .next t ∧ (t.conn c).a = x.a ∧
          (t.conn c).state = x.state ∧ (t.conn c).counts.getD 2 0 = inc32 (x.counts.getD 2 0)) ∧
        (x.a.last = none ∨ (∃ l, x.a.last = some l ∧ 0 < (rdBe16 b 8 + 65536 - l) % 65536 ∧ (rdBe16 b 8 + 65536 - l) % 65536 < 256) →
          ∃ t, exec (.harnessPduReceive port src b at_) s = .next t ∧ (t.conn c).a = ⟨some (rdBe16 b 8), rdBe16 b 10, (byteAt b 2).testBit 0, u.now, true⟩ ∧
            (t.conn c).rx = u.stamp 1 ∧ t.safe.outs = s.safe.outs ∧ (t.conn c).state = (if x.state = 1 then 2 else if x.state = 3 then 4
              else if x.state = 4 ∧ cAuto r = true ∧ 2 ≤ x.acks then 2 else x.state))))) ∧
  (∀ s c r x, s.connRec c = some r → cOut r = false → cDual r = false → x = s.conn c → x.a.alive = true → x.state = 2 →
    ∃ t, exec (.harnessWatchdogExpiry c false) s = .next t ∧ (t.conn c).state = 3 ∧ (t.conn c).reason = 1 ∧ (t.conn c).a.last = none ∧
      Conn.bits (t.conn c) false = 0 ∧ t.cfg = s.cfg ∧ ∀ k, k ≠ c → t.conn k = s.conn k) ∧
  (∀ s c r x, s.connRec c = some r → cOut r = false → cDual r = true → x = s.conn c → x.a.alive = true → x.b.alive = true → x.state = 2 →
    ∃ t, exec (.harnessWatchdogExpiry c true) s = .next t ∧ (t.conn c).state = 2 ∧ (t.conn c).degraded = true ∧ (t.conn c).b.alive = false ∧
      (t.conn c).a = x.a ∧ Conn.bits (t.conn c) true = x.a.bits) ∧
  (∀ s c r x, s.connRec c = some r → cOut r = false → cDual r = true → x = s.conn c → x.a.alive = true → x.b.alive = true → x.state = 2 →
    x.a.bits ≠ x.b.bits → (8 ≤ x.differ → ∃ t, exec (.harnessDualMismatch c) s = .next t ∧ (t.conn c).state = 3 ∧ (t.conn c).reason = 2 ∧ t.cfg = s.cfg) ∧
      (x.differ < 8 → exec (.harnessDualMismatch c) s = .next s)) ∧
  (∀ (x : Conn) dual, (x.state ≠ 2 → Conn.bits x dual = 0) ∧ (x.state = 2 → x.a.fs = true → Conn.bits x false = 0) ∧
    (x.state = 2 → x.a.alive = true → x.b.alive = true → Conn.bits x true = x.a.bits &&& x.b.bits)) ∧
  (∀ (s : State) r seq, s.gated = true → s.sendConn r seq = s) ∧
  (∀ r pathB fs seq data, (mkPdu r pathB fs seq data).length = 20 ∧ byteAt (mkPdu r pathB fs seq data) 1 = 1 ∧ pduCrc r (mkPdu r pathB fs seq data) = rdBe32 (mkPdu r pathB fs seq data) 16 ∧
    (seq < 65536 → rdBe16 (mkPdu r pathB fs seq data) 8 = seq) ∧ (data < 65536 → rdBe16 (mkPdu r pathB fs seq data) 10 = (if fs then 0 else data))) ∧
  (∀ s b r due q, s.safe.cfg = some b → (connList b).filter (fun r => cValid r && cOut r) = [r] → s.connCycle r = some (due, q) → ∀ u : State, u = s.clockTo due →
    exec .harnessOutputCycle s = .next ((u.setConn (cNo r) { u.conn (cNo r) with sched := due }).sendConn r q)) ∧
  (∀ s b, s.safe.cfg = some b → (connList b).filter (fun r => cValid r && cOut r) = [] → exec .harnessOutputCycle s = .next s) ∧
  (∀ p e s t, Accepted cmdSafeHarnessStatus p e s t → ∃ (u : State) (b : Bytes), exec (.safeHarnessStatus p) s = .next (u.complete p stOK [] (some b)) ∧
    b.length = 32 * byteAt e.req.params 1 ∧ (byteAt e.req.params 2 ≠ 1 → u = t) ∧ u.cfg = t.cfg ∧ u.safe.outs = t.safe.outs ∧
    ∀ i c, i < byteAt e.req.params 1 → c = byteAt e.req.params 0 + i → slice b (32 * i) 32 = t.harnessRecord c ∧
      (byteAt e.req.params 2 = 1 → (u.conn c).counts = [] ∧ (u.conn c).state = (t.conn c).state))

/-! ## Key store and security commands (chapter 20) -/

/-- R415, R418, R421 to R423, R425 to R427, R431, R434, R435, R439. The keys and signatures are opaque functions (log 3). -/
def Obligations.KeyStore : Prop :=
  (∀ p e s t i n type old g, Accepted cmdSecKeyImport p e s t → t.session p = some i → n = byteAt e.req.params 0 → type = byteAt e.req.params 1 →
    old = (t.sec.slots.get? n).bind (·.cur) → g = (match old with | some x => (x.gen + 1) % 4294967296 | none => 1) →
    ∃ (u : Bytes → State), exec (.secKeyImport p) s = .next (match Config.keyUnwrap (i.kek (slice e.req.region 0 64)) (slice e.req.region 64 (keyMaterial type + 8)) with
        | none => t.complete p stAUTH [] none
        | some m => (u m).complete p stOK (leBytes 4 g) none) ∧
      ∀ m, (u m).sec.slots = t.sec.slots.set n ⟨type, le16 e.req.params 2, some ⟨g, le32 e.req.params 4, padTo (keyMaterial type) m, t.stamp 17⟩, old⟩ ∧
        (u m).ao.keys = t.ao.keys.set n ⟨type, le16 e.req.params 2, some ⟨g, le32 e.req.params 4, padTo (keyMaterial type) m, t.stamp 17⟩, old⟩ ∧
        ((u m).sec.sessions.get? (chanKey p)).map (·.uses) = some (i.uses + 1) ∧ (u m).cfg = t.cfg ∧ (u m).flash = t.flash) ∧
  (∀ p e s t, Accepted cmdSecKeyImport p e s t → (t.session p).isSome = true ∧ t.importOk (byteAt e.req.params 0) (byteAt e.req.params 1) (le16 e.req.params 2) (le32 e.req.params 4) = true) ∧
  (∀ p e s t i n, Accepted cmdSecOperatorEnrol p e s t → t.session p = some i → n = byteAt e.req.params 0 → t.sec.slots.any (fun x => x.2.type == 3) = false ∧
    ∃ (u : Bytes → State) (g : Nat), exec (.secOperatorEnrol p) s = .next (match Config.keyUnwrap (i.kek (slice e.req.region 0 64)) (slice e.req.region 64 40) with
        | none => t.complete p stAUTH [] none
        | some m => (u m).complete p stOK (leBytes 4 g) none) ∧
      ∀ m, ∃ k, (u m).sec.slots.get? n = some k ∧ k.type = 3 ∧ k.usage = 160 ∧ k.cur.map (·.keyId) = some (le32 e.req.params 4) ∧ ∀ j, j ≠ n → (u m).sec.slots.get? j = t.sec.slots.get? j) ∧
  (∀ p e s t n k, Accepted cmdSecKeyRemove p e s t → n = byteAt e.req.params 0 → t.sec.slots.get? n = some k →
    ∃ (u : State), exec (.secKeyRemove p) s = .next (u.complete p stOK [] none) ∧ u.cfg = t.cfg ∧ u.flash = t.flash ∧
      (byteAt e.req.params 1 = 0 → u.sec.slots = t.sec.slots.del n ∧ u.ao.keys = t.ao.keys.del n) ∧
      (byteAt e.req.params 1 = 1 → k.cur.isSome = true → u.sec.slots = t.sec.slots.set n { k with prev := none } ∧ u.ao.keys = t.ao.keys.set n { k with prev := none })) ∧
  (∀ p e s t n, Accepted cmdSecKeyRemove p e s t → n = byteAt e.req.params 0 → t.sec.slots.get? n = none → exec (.secKeyRemove p) s = .next (t.complete p stOK [] none)) ∧
  (∀ p e s t, Accepted cmdSecRestore p e s t → t.blobOk e.req.region = true ∧ ∃ (xs : List (Nat × Nat × Nat × Bool × KeyGen)) (u : State),
    t.restoreEntries e.req.region = some xs ∧ exec (.secRestore p) s = .next (u.complete p stOK (leBytes 2 xs.length) none) ∧ u.cfg = t.cfg ∧
      (∀ n, n ∉ xs.map (·.1) → u.sec.slots.get? n = t.sec.slots.get? n ∧ u.ao.keys.get? n = t.ao.keys.get? n) ∧
      (∀ n ty us c g, xs = [(n, ty, us, c, g)] → u.sec.slots.get? n = some ⟨ty, us, if c then some g else none, if c then none else some g⟩)) ∧
  (∀ p e s t, Accepted cmdSecBackup p e s t → ∃ (u : State) (b : Bytes), exec (.secBackup p) s = .next (u.complete p stOK [] (some b)) ∧ b = t.backup ∧
    u.sec = t.sec ∧ u.cfg = t.cfg ∧ slice b 8 8 = leBytes 8 Config.serial.toNat) ∧
  Completes .secCfg cmdSecCfg (fun _ e t => State.secSettle { t with ao.tamperEn := byteAt e.req.params 0 == 1, cfg.tamperEn := byteAt e.req.params 0 == 1, stored.tamperEn := byteAt e.req.params 0 == 1 })
    noResp noXp ∧
  (∀ p e s t, Accepted cmdSecDebugDisable p e s t → ∃ (u : State), exec (.secDebugDisable p) s = .next (u.complete p stOK [] none) ∧
    u.flash = { t.flash with debugFuse := true } ∧ u.cfg = t.cfg ∧ u.sec.slots = t.sec.slots) ∧
  (∀ p e s t v, Accepted cmdSecRollbackCommit p e s t → v = max t.flash.rollback (min 64 t.runImage.svn) → t.mod.fallback = false ∧ ∃ (u : State),
    exec (.secRollbackCommit p) s = .next (u.complete p stOK (leBytes 1 v) none) ∧ u.flash = { t.flash with rollback := v } ∧ u.cfg = t.cfg) ∧
  (∀ p e s t, Accepted cmdSecKeyrev p e s t → t.runImage.keyIdx = 2 ∧ ∃ (u : State), exec (.secKeyrev p) s = .next (u.complete p stOK [] none) ∧
    u.flash = { t.flash with key1Revoked := true } ∧ u.cfg = t.cfg) ∧
  (∀ p e s t, Accepted cmdSecZeroise p e s t → ∃ (u : State), exec (.secZeroise p) s = .next (u.complete p stOK [] none) ∧ u.sec.slots = [] ∧ u.ao.keys = [] ∧
    u.sec.derived = t.sec.derived ∧ u.cfg = t.cfg) ∧
  (∀ p e s t, Accepted cmdSecTamperClear p e s t → t.sec.loopOpen = false ∧ ∃ (u : State), exec (.secTamperClear p) s = .next (u.complete p stOK [] none) ∧
    u.mod = { t.mod with resetReq := some .tamperClear, resetAt := t.now + 10000000 } ∧ u.sec = t.sec) ∧
  (∀ p e s t, Accepted cmdAuthNonce p e s t →
    (t.sec.entropyFail = true → exec (.authNonce p) s = .next (t.complete p stFAULT [] none)) ∧
    (t.sec.entropyFail = false → t.sec.zeroised = false → ∃ (u : State) (b : Bytes), exec (.authNonce p) s = .next (u.complete p stOK (t.stamp 17).bytes (some b)) ∧
      b.length = 16 ∧ u.sec = { t.sec with draws := t.sec.draws + 1 } ∧ (∀ n, p = .mb n → u.nonceOf p = some (b, t.now) ∧ ∀ m, m ≠ n → u.nonceOf (.mb m) = t.nonceOf (.mb m)))) ∧
  (∀ p e s t, Accepted cmdSecImportSession p e s t →
    (t.sec.entropyFail = true → exec (.secImportSession p) s = .next (t.complete p stFAULT [] none)) ∧
    (t.sec.entropyFail = false → t.sec.zeroised = false → ∃ (u : State) (b : Bytes) (i : ImportSession), exec (.secImportSession p) s = .next (u.complete p stOK [] (some b)) ∧
      b.length = 144 ∧ u.session p = some i ∧ i.uses = 0 ∧ i.since = t.now ∧ i.nonce = slice b 64 16 ∧ u.sec.slots = t.sec.slots ∧
      ∀ k, k ≠ chanKey p → u.sec.sessions.get? k = t.sec.sessions.get? k)) ∧
  (∀ s p i, s.sec.sessions.get? (chanKey p) = some i → ∃ t, exec (.importSessionExpiry p) s = .next t ∧ t.sec.sessions.get? (chanKey p) = none ∧ t.sec.slots = s.sec.slots ∧
    t.session p = none ∧ t.cfg = s.cfg) ∧
  (∀ p e s t, Accepted cmdSecAttest p e s t → t.sec.zeroised = false → ∃ (b : Bytes), exec (.secAttest p) s =
    .next (State.complete { t with sec.draws := t.sec.draws + 1 } p stOK [] (some b)) ∧ b.length = 256 ∧ slice b 0 4 = leBytes 4 0x31545441 ∧
    slice b 24 2 = leBytes 1 t.flash.rollback ++ leBytes 1 t.mod.state ∧ slice b 32 32 = slice e.req.region 0 32) ∧
  (∀ p e s t, Accepted cmdSecStatus p e s t → t.sec.lockout = none → ∃ (b : Bytes), exec (.secStatus p) s = .next (t.complete p stOK [] (some b)) ∧ b.length = 32 ∧
    byteAt b 0 = t.secureFlags % 256 ∧ slice b 4 4 = leBytes 4 t.ao.tamperCount ∧ slice b 20 2 = [0, 0]) ∧
  (∀ p e s t, Accepted cmdSecKeyInfo p e s t → ∃ (b : Bytes), exec (.secKeyInfo p) s = .next (t.complete p stOK [] (some b)) ∧ b.length = 32 * infoCount e.req ∧
    ∀ i, i < infoCount e.req → slice b (32 * i) 32 = t.slotInfo (byteAt e.req.params 0 + i)) ∧
  Answers .secCertRead cmdSecCertRead (fun _ _ _ => leBytes 2 Config.certChain.length) (fun _ _ _ => some Config.certChain) ∧
  (∀ s, s.keyCommand = true → exec .keyRemask s = .next s) ∧
  (∀ s, s.sec.derived = true → s.sec.zeroised = false → s.sec.entropyFail = false → s.keyCommand = false →
    exec .keyRemask s = .next { s with ao.keyMask := some s.sec.draws, sec.draws := s.sec.draws + 1, sec.slots := s.ao.keys }) ∧
  (∀ s, (s.sec.healthFails < 2 → exec .entropyHealthFail s = .next { s with sec.healthFails := s.sec.healthFails + 1 }) ∧
    (2 ≤ s.sec.healthFails → s.sec.entropyFail = false → ∃ t, exec .entropyHealthFail s = .next t ∧ t.sec.entropyFail = true ∧ t.sec.slots = s.sec.slots ∧ t.cfg = s.cfg))

/-! ## Memory and ECC (chapter 21) -/

/-- R440, R441, R443 to R446, R448 to R452, R455. -/
def Obligations.DramAndSram : Prop :=
  classify 0 = .clean ∧ classify poisonErr = .poison ∧
  (∀ i, i < 72 → classify (2 ^ i) = .corrected i ∧ ∀ j, j < i → classify (2 ^ i + 2 ^ j) = .poison ∨ classify (2 ^ i + 2 ^ j) = .uncorrectable) ∧
  (∀ d i, i < 64 → corrected (d ^^^ 2 ^ i) (2 ^ i) = (d, false)) ∧
  (∀ (s : State) a d p, s.mem.flipArmed = false → (s.wordWrite a d p).mem.stored a = (d % 2 ^ 64, if p then poisonErr else 0) ∧
    (∀ b, b + 8 ≤ a ∨ a + 8 ≤ b → (s.wordWrite a d p).mem.stored b = s.mem.stored b) ∧ (s.wordWrite a d p).cfg = s.cfg ∧
    (s.wordWrite a d p).mem.merge = s.mem.merge) ∧
  (∀ (s : State) a d p, s.mem.flipArmed = true → s.mem.flipAddr = a → (s.wordWrite a d p).mem.flipArmed = false ∧
    (s.wordWrite a d p).mem.stored a = ((d ^^^ (s.mem.flipMask % 2 ^ 64)) % 2 ^ 64, (if p then poisonErr else 0) ^^^ s.mem.flipMask)) ∧
  (∀ s off data a, s.hostOn = true → a = 1073741824 * s.host.window + off → off % 8 = 0 → data.length = 8 → off + 8 ≤ 1073741824 → firmwareEnd ≤ a →
    s.mem.entry (a / 64 * 64) = none → s.mem.flipArmed = false → ∃ t u, exec (.bar2Write off data false) s = .next t ∧ exec (.bar2Read off 8) t = .next u ∧
      u.host.bar2 = some (data, false) ∧ (∀ b, b + 8 ≤ a ∨ a + 8 ≤ b → t.mem.stored b = s.mem.stored b) ∧ t.mem.merge = s.mem.merge ∧ t.cfg = s.cfg) ∧
  (∀ s off v a, s.hostOn = true → a = 1073741824 * s.host.window + off → off < 1073741824 → firmwareEnd ≤ a → s.mem.entry (a / 64 * 64) = none →
    s.mem.merge.length < 16 → ∃ t u, exec (.bar2Write off [v] false) s = .next t ∧ exec (.bar2Read off 1) t = .next u ∧ u.host.bar2.map (·.1) = some [v] ∧
      t.mem.data = s.mem.data ∧ t.mem.err = s.mem.err ∧ t.mem.merge.length = s.mem.merge.length + 1) ∧
  (∀ s off len, s.hostOn = true → off + len ≤ 1073741824 → s.host.window < 2 → exec (.bar2Read off len) s = .next { s with host.bar2 := some (zeros len, false) }) ∧
  (∀ s off data p, s.hostOn = true → s.host.window < 2 → off + data.length ≤ 1073741824 → exec (.bar2Write off data p) s = .next s) ∧
  (∀ s l ls, s.mem.merge = l :: ls → ∃ t, exec .mergeBufferEvict s = .next t ∧ t.mem.merge = (l :: ls).filter (fun x => x.line != l.line) ∧ t.cfg = s.cfg) ∧
  (∀ s, s.mem.merge = [] → exec .mergeBufferEvict s = .next s) ∧
  (∀ (s : State) a src e, (classify e = .clean → s.detect a src e = s) ∧ (s.detect a src e).mem.data = s.mem.data ∧
    (∀ i, classify e = .corrected i → (s.detect a src e).mem.ceCnt = inc32 s.mem.ceCnt ∧ (s.detect a src e).mem.ce = ⟨a, syndrome e, i, src, s.stamp 17⟩ ∧
      (s.detect a src e).mem.ueCnt = s.mem.ueCnt ∧ (s.detect a src e).mem.evt.getLsbD 0 = true) ∧
    (classify e = .poison → (s.detect a src e).mem.poisonCnt = inc32 s.mem.poisonCnt ∧ (s.detect a src e).mem.ueCnt = s.mem.ueCnt ∧ (s.detect a src e).mem.ue = s.mem.ue ∧
      (s.detect a src e).mem.evt.getLsbD 2 = true) ∧
    (classify e = .uncorrectable → (s.detect a src e).mem.ueCnt = inc32 s.mem.ueCnt ∧ (s.detect a src e).mem.ue = ⟨a, syndrome e, 255, src, s.stamp 17⟩ ∧
      (s.detect a src e).mem.evt.getLsbD 1 = true)) ∧
  (∀ s, s.hostOn = true → exec .eccCeAddrRead s = .next { s with mem.ceCap := s.mem.ce, host.rdata := s.mem.ce.address % 4294967296 / 8 * 8 } ∧
    exec .eccUeAddrRead s = .next { s with mem.ueCap := s.mem.ue, host.rdata := s.mem.ue.address % 4294967296 / 8 * 8 }) ∧
  (∀ s, s.hostOn = true →
    ((s.mod.state = 1 ∨ s.mod.state = 3) → firmwareEnd ≤ s.mem.flipAddr → s.mem.flipArmed = false → exec .eccFlipArm s = .next { s with mem.flipArmed := true }) ∧
    (¬(s.mod.state = 1 ∨ s.mod.state = 3) ∨ s.mem.flipAddr < firmwareEnd ∨ s.mem.flipArmed = true → ∃ t, exec .eccFlipArm s = .next t ∧ t.mem.evt.getLsbD 6 = true ∧
      t.mem.flipArmed = s.mem.flipArmed ∧ t.mem.data = s.mem.data ∧ t.cfg = s.cfg) ∧
    exec (.eccFlipDisarm false) s = .next { s with mem.flipArmed := false } ∧ exec (.eccFlipDisarm true) s = .next s) ∧
  (∀ p e s t lo len, Accepted cmdMemFill p e s t → lo = le64 e.req.params 0 → len = le64 e.req.params 8 → rangeOk lo len = true ∧ ∃ (u : State),
    exec (.memFill p) s = .next (u.goesOnAt p) ∧ u.mem = { t.mem with fill := some ⟨lo, lo + len, t.now, le64 e.req.params 16⟩ } ∧ u.active 3 = true ∧ u.cfg = t.cfg) ∧
  (∀ s j, s.mem.fill = some j → ∃ (u : State), exec .fillComplete s = .next (u.completeWaiting 0x1101 stOK (u.stamp 17).bytes) ∧ u.mem.fill = none ∧ u.active 3 = false ∧
    u.cfg = s.cfg ∧ (j.hi = j.lo + 64 → j.lo % 64 = 0 → s.mem.merge = [] → s.mem.flipArmed = false →
      (∀ i, i < 8 → u.mem.stored (j.lo + 8 * i) = (j.pattern % 2 ^ 64, 0)) ∧ ∀ b, b + 8 ≤ j.lo ∨ j.hi ≤ b → u.mem.stored b = s.mem.stored b)) ∧
  (∀ s, s.mem.fill = none → exec .fillComplete s = .next s) ∧
  (∀ p e s t lo len, Accepted cmdMemScrub p e s t → byteAt e.req.params 16 = 0 → lo = le64 e.req.params 0 → len = le64 e.req.params 8 → ∃ (u : State),
    exec (.memScrub p) s = .next (u.goesOnAt p) ∧ u.mem = { t.mem with scrub := some ⟨lo, lo + len, t.now, 0⟩ } ∧ u.active 1 = true) ∧
  (∀ p e s t, Accepted cmdMemScrub p e s t → byteAt e.req.params 16 = 1 → ∃ j r, t.mem.scrub = some j ∧ r = t.scrubEnd j (j.progress t.now 4) ∧
    exec (.memScrub p) s = .next ((r.2.completeWaiting 0x1102 stABORTED r.1).complete p stOK r.1 none)) ∧
  (∀ s j r, s.mem.scrub = some j → r = (s.clockTo (j.start + (j.hi - j.lo) / 4)).scrubEnd j (j.hi - j.lo) →
    exec .scrubComplete s = .next (r.2.completeWaiting 0x1102 stOK r.1) ∧ r.2.mem.scrub = none ∧ r.2.active 1 = false) ∧
  (∀ s, s.mem.scrub = none → exec .scrubComplete s = .next s) ∧
  (∀ (s : State) a c m f i, s.mem.flipArmed = false → classify (s.mem.stored a).2 = .corrected i → (State.scrubWords 1 a (c, m, f) s).1 = (c + 1, m, f) ∧
    (State.scrubWords 1 a (c, m, f) s).2.mem.stored a = ((corrected (s.mem.stored a).1 (s.mem.stored a).2).1 % 2 ^ 64, 0)) ∧
  (∀ (s : State) a c m f, s.mem.flipArmed = false → classify (s.mem.stored a).2 = .uncorrectable → (State.scrubWords 1 a (c, m, f) s).1 = (c, m + 1, f) ∧
    (State.scrubWords 1 a (c, m, f) s).2.mem.stored a = ((s.mem.stored a).1 % 2 ^ 64, poisonErr)) ∧
  Answers .memStatus cmdMemStatus noResp (fun _ _ t => some (
    leBytes 4 (b2n t.mem.fill.isSome + 2 * b2n t.mem.scrub.isSome + 4 * b2n t.mem.flipArmed) ++
      leBytes 8 ((t.mem.fill.map (fun j => j.progress t.now 16)).getD 0) ++ leBytes 8 ((t.mem.scrub.map (fun j => j.progress t.now 4)).getD 0) ++
      leBytes 4 t.mem.sramUe ++ leBytes 2 t.mem.log.length ++ zeros 6)) ∧
  (∀ p e s t l, Accepted cmdMemEccLogRead p e s t →
    l = (if (byteAt e.req.params 2).testBit 0 then t.mem.log.reverse else t.mem.log).take (le16 e.req.params 0) → ∃ (u : State),
    exec (.memEccLogRead p) s = .next (u.complete p stOK (leBytes 2 l.length ++ leBytes 4 t.mem.overwritten) (some (l.map EccLog.bytes).flatten)) ∧
      ((byteAt e.req.params 2).testBit 1 = false → u = t) ∧
      ((byteAt e.req.params 2).testBit 1 = true → u = { t with mem := { t.mem with log := [], overwritten := 0, ceCnt := 0, ueCnt := 0, poisonCnt := 0, sramCeCnt := 0 } })) ∧
  (∀ s code row, .mgmt ∈ s.power.on → (∃ t, exec (.sramError code false row) s = .next t ∧ t.mem.sramCeCnt = inc32 s.mem.sramCeCnt ∧ t.mem.data = s.mem.data ∧ t.cfg = s.cfg) ∧
    exec (.sramError 0x10 true row) s = .next (s.resetWith .eccFw row) ∧ exec (.sramError 0x11 true row) s = .next (s.resetWith .eccSafe row) ∧
    (code < 0x10 ∨ 0x1A < code → exec (.sramError code true row) s = .next (s.resetWith .eccFw (2 ^ 62 + code))) ∧
    (∃ t, exec (.sramError 0x18 true row) s = .next t ∧ t.sec.slots = s.sec.slots.del row ∧ t.ao.keys = s.ao.keys ∧ t.mem.sramUe = inc32 s.mem.sramUe)) ∧
  (∀ s ce ue a ps, .mem ∈ s.power.on → s.romServed = false → (∀ x, x ∈ ce ++ ue → firmwareEnd ≤ x) → a < firmwareEnd →
    exec (.firmwareScrub ce ue []) s = .next s ∧ exec (.firmwareScrub ce ue (a :: ps)) s = .next (s.resetWith .eccFw (2 ^ 63 + a)))

/-! ## Redundant pair (chapter 22) -/

/-- R456, R458 to R460, R462, R463, R466, R468, R469, R480, R481, R483; log 40. -/
def Obligations.BridleArbiter : Prop :=
  (∀ (s : State) r t, s.mod.bridle = true → t = s.letGo r → t.mod.bridle = false ∧ t.red.out1 = false ∧ t.red.out2 = false ∧ t.red.claim = none ∧
    t.red.reason = r ∧ t.red.fault = (r != 11) ∧ t.red.released = (if r = 11 then some s.now else none) ∧ t.red.changes = inc32 s.red.changes ∧
    t.mod.role = (if 7 ≤ r ∧ r ≤ 11 then 1 else 2) ∧ t.cfg = s.cfg ∧ t.mem = s.mem ∧ t.logic = s.logic) ∧
  (∀ (s : State) r, s.mod.bridle = false → s.letGo r = s) ∧
  (∀ (s : State) o t, t = s.gain o → t.mod.bridle = true ∧ t.mod.role = 0 ∧ t.red.out1 = s.pairMode ∧ t.red.out2 = s.pairMode ∧ t.red.claim = none ∧
    t.red.fault = false ∧ t.cfg = s.cfg ∧ t.mem = s.mem) ∧
  (∀ (s : State) f b w, s.red.peer = some (b, w) → s.recentIs f = (decide (s.now ≤ w + 3000000) && f b)) ∧
  (∀ (s : State), s.pairMode = false → s.redSettle.mod.bridle = s.acting ∧ s.redSettle.mod.role = (if s.acting && !s.red.isolated then 0 else 2)) ∧
  (∀ (s : State), s.pairMode = true → s.redSettle.cfg = s.cfg ∧
    (s.acting = false ∨ s.red.isolated = true → s.redSettle.mod.bridle = false ∧ s.redSettle.red.armTake = false ∧ s.redSettle.red.claim = none ∧ s.redSettle.mod.role = 2) ∧
    (s.red.genFail = true → s.redSettle.mod.bridle = false ∧ s.redSettle.red.armTake = false) ∧
    (s.acting = true → s.red.isolated = false → s.red.genFail = false →
      (s.yields = [] → s.redSettle.mod.bridle = s.mod.bridle ∧ s.redSettle.red.armTake = true ∧ s.redSettle.red.claim = s.red.claim) ∧
      (s.yields ≠ [] → s.redSettle.mod.bridle = (s.mod.bridle && !s.peerReady) ∧ s.redSettle.red.armTake = false))) ∧
  (∀ (s : State) o, (s.claimStart o).red.out1 = true ∧ (s.claimStart o).red.claim = some (s.now, o) ∧ (s.claimStart o).mod = s.mod ∧ (s.claimStart o).red.out2 = s.red.out2 ∧
    (s.claimStart o).cfg = s.cfg) ∧
  (∀ (s u : State), u = s.redSettle → u.mayClaim = false → exec .bridleClaim s = .next u) ∧
  (∀ (s u v : State) f k w, u = s.redSettle → u.mayClaim = true → u.red.freeSince = some f → u.red.takeSince = some k →
    w = (if u.mod.role = 2 ∧ u.home = false then u.startWait else 0) → v = u.clockTo (max (f + 20000 + u.red.wait) (max k (f + 20000) + w)) → v.takeHb = true →
    exec .bridleClaim s = .next (v.claimStart false)) ∧
  (∀ (s u : State), u = s.redSettle → u.mayClaim = true → u.red.freeSince = none → (u.override = false → exec .bridleClaim s = .next u) ∧
    (u.override = true → u.takeHb = true → u.mod.role = 1 ∨ u.home = true → exec .bridleClaim s = .next (u.claimStart true))) ∧
  (∀ s t o, s.red.claim = some (t, o) → (s.red.armTake = true → s.acting = true → o = true ∨ s.linesReleased = true → exec .bridleClaimComplete s = .next ((s.clockTo (t + 20000)).gain o)) ∧
    (s.red.armTake = false ∨ s.acting = false ∨ (o = false ∧ s.linesReleased = false) → exec .bridleClaimComplete s = .next s)) ∧
  (∀ s, s.red.claim = none → exec .bridleClaimComplete s = .next s) ∧
  (∀ s, s.red.bothSince = none ∨ s.mod.bridle = false ∨ s.pairMode = false → exec .bridleContention s = .next s) ∧
  (∀ s k, s.red.bothSince = some k → s.mod.bridle = true → s.pairMode = true → ∃ t, exec .bridleContention s = .next t ∧ t.cfg = s.cfg ∧ t.red.bothSince = none ∧
    (s.red.peer = none → t.mod.bridle = !s.posB ∧ (s.posB = true → t.red.reason = 12)) ∧
    (∀ b w, s.red.peer = some (b, w) → hbFlag b 0 ≠ s.posB → t.mod.bridle = !s.posB) ∧
    (∀ b w, s.red.peer = some (b, w) → hbFlag b 0 = s.posB → t.mod.bridle = !decide (4294967296 * rdBe32 b 4 + rdBe32 b 8 < Config.serial.toNat))) ∧
  (∀ s line v, Domain.safe ∉ s.power.on → exec (.bridleLineChange line v) s = .next s) ∧
  (∀ s line v, Domain.safe ∈ s.power.on → line ≤ 1 → exec (.bridleLineChange line v) s = .next (s.brdIn line v).redSettle) ∧
  (∀ s v, Domain.safe ∈ s.power.on → s.red.hbw ≠ v → ∃ t, exec (.bridleLineChange 2 v) s = .next t ∧ t.red.hbw = v ∧ t.red.hbwAt = s.now ∧ t.red.hbwQuiet = false ∧ t.cfg = s.cfg) ∧
  (∀ s line v, Domain.safe ∈ s.power.on → (line = 2 ∧ s.red.hbw = v) ∨ 2 < line → exec (.bridleLineChange line v) s = .next s) ∧
  (∀ (s : State) t, s.red.in1 = false → (s.brdIn 0 true).red.in1 = true ∧ (s.brdIn 0 true).red.in2 = s.red.in2 ∧ (s.brdIn 0 true).red.freeSince = none ∧
    (s.red.claim = some (t, false) → (s.brdIn 0 true).red.claim = none ∧ (s.brdIn 0 true).red.out1 = false ∧ (s.brdIn 0 true).red.again = true) ∧
    (s.red.claim = some (t, true) → (s.brdIn 0 true).red.claim = some (t, true) ∧ (s.brdIn 0 true).red.out1 = s.red.out1)) ∧
  (∀ (s : State), s.red.in1 = true → s.red.in2 = false → (s.brdIn 0 false).red.freeSince = some s.now ∧ (s.brdIn 0 false).linesReleased = true ∧
    (s.red.again = false → (s.brdIn 0 false).red.wait = 0) ∧ (s.red.again = true → s.recent = none → ∃ r, r < 16 ∧ (s.brdIn 0 false).red.wait = 20000 * (1 + r))) ∧
  (∀ s, Domain.safe ∈ s.power.on → s.red.hbwQuiet = false → ∃ t, exec .hbwQuiet s = .next t ∧ t.red.hbwQuiet = true ∧ t.red.hbw = s.red.hbw ∧ t.cfg = s.cfg) ∧
  (∀ s, Domain.safe ∉ s.power.on ∨ s.red.hbwQuiet = true → exec .hbwQuiet s = .next s) ∧
  (∀ s v, Domain.safe ∈ s.power.on → s.red.brdDisc ≠ v → (s.red.in1 != s.red.in2) = v → ∃ t, exec (.brdDisc v) s = .next t ∧ t.red.brdDisc = v ∧ t.red.in1 = s.red.in1 ∧
    t.red.in2 = s.red.in2 ∧ t.cfg = s.cfg) ∧
  (∀ s v, s.red.brdDisc = v ∨ (s.red.in1 != s.red.in2) ≠ v → exec (.brdDisc v) s = .next s) ∧
  (∀ s r, (1 ≤ r ∧ r ≤ 6) ∨ r = 12 → exec (.bridleRelease r) s = .next (s.letGo r)) ∧
  (∀ s r, 7 ≤ r → r ≤ 10 → exec (.bridleRelease r) s = .next (if s.pairMode && s.yieldOn r && s.peerReady then s.letGo r else s)) ∧
  (∀ s, exec (.bridleRelease 11) s = .next (if s.red.handover.isSome then s.letGo 11 else s)) ∧
  (∀ s, Domain.neta ∈ s.power.on → exec .fwStall s = .next (State.redSettle { s with red.fwStall := true })) ∧
  (∀ s, s.pairMode = true → s.mod.bridle = true → ∃ t, exec .hbGenFail s = .next t ∧ t.red.genFail = true ∧ t.mod.bridle = false ∧ t.cfg = s.cfg) ∧
  (∀ s, s.pairMode = false → exec .hbGenFail s = .next s) ∧
  (∀ s, (∀ i, i < 4 → (s.port i).up = false) → exec .portsDown s = .next (State.redSettle { s with red.portsDown := true })) ∧
  (∀ s i, i < 4 → (s.port i).up = true → exec .portsDown s = .next s) ∧
  (∀ s v, s.power.cable = v → s.pairMode = true → ∃ t, exec (.presInChange v) s = .next t ∧ t.power.cable = !v ∧ t.cfg = s.cfg) ∧
  (∀ s v, s.power.cable = !v → exec (.presInChange v) s = .next s) ∧
  (∀ s, s.handoverDue = true → s.pairMode = true → ∃ t, exec .handoverRelease s = .next t ∧ t.mod.bridle = false ∧ t.red.reason = 11 ∧ t.cfg = s.cfg) ∧
  (∀ s, s.handoverDue = false → exec .handoverRelease s = .next s) ∧
  (∀ s w, s.red.released = some w → s.pairMode = true → ∃ t, exec .handoverAbort s = .next t ∧ t.red.released = none ∧ t.red.handover = none ∧ t.red.takeback = false ∧
    (s.mod.bridle = false → t.mod.bridle = false)) ∧
  (∀ s, s.red.released = none → exec .handoverAbort s = .next s) ∧
  (∀ s w, s.red.readySince = some w → s.pairMode = true → s.revert = true → s.home = true → s.mod.role = 1 → s.red.ready = true → s.red.takeback = false →
    s.active 6 = false → ∃ t, exec .takebackRequest s = .next t ∧ t.red.takeback = true ∧ t.active 7 = true ∧ t.mod = s.mod ∧ t.cfg = s.cfg) ∧
  (∀ s, s.red.readySince = none ∨ s.revert = false ∨ s.home = false ∨ s.mod.role ≠ 1 ∨ s.red.ready = false → exec .takebackRequest s = .next s) ∧
  Completes .redCfg cmdRedCfg (fun _ e t => { t with cfg.red := slice e.req.params 0 12, stored.red := slice e.req.params 0 12 }) noResp noXp ∧
  Answers .redCfgRead cmdRedCfgRead (fun _ _ t => padTo 12 t.cfg.red) noXp ∧
  (∀ p e s t, Accepted cmdRedSwitch p e s t → t.mod.bridle = true → ∃ u, exec (.redSwitch p) s = .next (State.complete u p stOK (leBytes 4 (t.markSec t.handoverMarks)) none) ∧
    u.red.handover = some (t.handoverMarks, t.markSec t.handoverMarks, false) ∧ u.active 7 = true ∧ u.mod = t.mod ∧ u.cfg = t.cfg) ∧
  (∀ p e s t, Accepted cmdRedSwitch p e s t → t.mod.bridle = false → ∃ u, exec (.redSwitch p) s = .next (State.complete u p stOK (leBytes 4 (t.markSec t.handoverMarks)) none) ∧
    u.red.takeback = true ∧ u.active 7 = true ∧ u.mod = t.mod ∧ u.cfg = t.cfg) ∧
  (∀ p e s t, Accepted cmdRedIsolate p e s t → ∃ u, exec (.redIsolate p) s = .next (State.complete u p stOK u.red.roleStamp.bytes none) ∧
    u = State.redSettle { t with red.isolated := byteAt e.req.params 0 == 1 } ∧ u.red.isolated = (byteAt e.req.params 0 == 1))

/-- R457, R464, R465, R467, R473 to R479, R483. -/
def Obligations.HeartbeatsAndMirror : Prop :=
  (∀ (s : State) seq final b, b = s.heartbeat seq final → b.length = 44 ∧ byteAt b 0 = 1 ∧ byteAt b 1 = 3 ∧ rdBe16 b 2 = s.pairId ∧
    (seq < 4294967296 → rdBe32 b 16 = seq) ∧ rdBe32 b 26 = s.cfgDigest ∧ rdBe16 b 34 = s.safetyBits ∧ byteAt b 36 = s.timeBits ∧
    4294967296 * rdBe32 b 4 + rdBe32 b 8 = Config.serial.toNat ∧
    hbFlag b 0 = s.posB ∧ hbFlag b 1 = s.home ∧ hbFlag b 2 = (s.mod.bridle && final.isNone) ∧ hbFlag b 3 = (s.red.fault || final.isSome) ∧ hbFlag b 4 = s.red.ready ∧
    hbFlag b 5 = s.red.takeback ∧ hbFlag b 6 = (s.red.handover.isSome && s.mod.bridle && final.isNone) ∧ hbFlag b 7 = final.isSome ∧
    ∀ c, c < 256 → final = some c → byteAt b 15 = c) ∧
  (∀ (s : State) f t, t = s.hbSend false f → t.red.h1.seq = (s.red.h1.seq + 1) % 4294967296 ∧ t.red.h1.last = some (s.heartbeat ((s.red.h1.seq + 1) % 4294967296) f) ∧
    t.red.h1.sentAt = s.now ∧ t.red.h2 = s.red.h2 ∧ t.red.genFail = false ∧ t.mod = s.mod ∧ t.cfg = s.cfg) ∧
  (∀ (s : State) f t, t = s.hbSend true f → t.red.h2.seq = (s.red.h2.seq + 1) % 4294967296 ∧ t.red.h2.last = some (s.heartbeat ((s.red.h2.seq + 1) % 4294967296) f) ∧
    t.red.h2.sentAt = s.now ∧ t.red.h1 = s.red.h1 ∧ t.red.genFail = false ∧ t.mod = s.mod ∧ t.cfg = s.cfg) ∧
  (∀ s, s.pairMode = true → Domain.neta ∈ s.power.on → exec .heartbeatH1Send s = .next ((s.clockTo (s.red.h1.sentAt + 100000)).hbSend false none) ∧
    exec .heartbeatH2Send s = .next ((s.clockTo (s.red.h2.sentAt + 1000000)).hbSend true none)) ∧
  (∀ s, s.pairMode = false ∨ Domain.neta ∉ s.power.on → exec .heartbeatH1Send s = .next s ∧ exec .heartbeatH2Send s = .next s) ∧
  (∀ (s : State) x b q, 44 ≤ b.length → x.peerSeq = some q → rdBe32 b 16 < 4294967296 → q < 4294967296 →
    (s.hbValid x b = true ↔ byteAt b 0 = 1 ∧ byteAt b 1 = 3 ∧ rdBe16 b 2 = s.pairId ∧ 4294967296 * rdBe32 b 4 + rdBe32 b 8 ≠ Config.serial.toNat ∧
      0 < (rdBe32 b 16 + 4294967296 - q) % 4294967296 ∧ (rdBe32 b 16 + 4294967296 - q) % 4294967296 < 2147483648)) ∧
  (∀ s path b at_ u x, u = s.clockTo at_ → x = (if path = 2 then u.red.h2 else u.red.h1) →
    (s.pairMode = false ∨ (path ≠ 1 ∧ path ≠ 2) ∨ u.hbValid x b = false → exec (.heartbeatReceive path b at_) s = .next u) ∧
    (s.pairMode = true → path = 1 ∨ path = 2 → u.hbValid x b = true → ∃ t, exec (.heartbeatReceive path b at_) s = .next t ∧ t.red.peer = some (padTo 44 b, u.now) ∧
      (if path = 2 then t.red.h2 else t.red.h1) = { x with peerSeq := some (rdBe32 b 16), got := true } ∧ t.red.pairCfg = (hbFlag b 0 == u.posB || hbFlag b 1 == u.home) ∧
      t.cfg = s.cfg)) ∧
  (∀ s path x, s.pairMode = true → Domain.neta ∈ s.power.on → path = 1 ∨ path = 2 → x = (if path = 2 then s.red.h2 else s.red.h1) →
    ∃ (t : State) (y : HbPath), exec (.heartbeatWindow path) s = .next t ∧ y = (if path = 2 then t.red.h2 else t.red.h1) ∧ y.got = false ∧ y.winAt = x.winAt + (if path = 2 then 1000000 else 100000) ∧
      y.missed = (if x.got then 0 else min 3 (x.missed + 1)) ∧ y.received = (if x.got then min 3 (x.received + 1) else 0) ∧ t.cfg = s.cfg ∧
      (x.alive = true → y.alive = (x.got || decide (x.missed < 2))) ∧ (x.alive = false → y.alive = (x.got && decide (2 ≤ x.received))) ∧
      (if path = 2 then t.red.h1 else t.red.h2) = (if path = 2 then s.red.h1 else s.red.h2) ∧
      t.red.h1Missed = (if path = 2 ∨ x.got = true then s.red.h1Missed else inc32 s.red.h1Missed)) ∧
  (∀ s path, s.pairMode = false ∨ Domain.neta ∉ s.power.on ∨ (path ≠ 1 ∧ path ≠ 2) → exec (.heartbeatWindow path) s = .next s) ∧
  (∀ (s : State) m, m = s.failChecks → m < 4096 ∧ m.testBit 0 = !s.red.h1.alive ∧ m.testBit 1 = !s.red.h2.alive ∧ (s.mod.bridle = true → m.testBit 2 = false) ∧
    (s.red.mismatch = none → m.testBit 3 = false) ∧ m.testBit 5 = s.red.pairCfg ∧ m.testBit 6 = (!s.power.cable || s.red.brdDisc || s.red.hbwQuiet) ∧
    (s.mod.state ≠ 2 → m.testBit 7 = true) ∧ m.testBit 9 = decide (s.healthDeficit < s.streamDeficit) ∧ m.testBit 11 = s.active 6 ∧
    ∀ b w, s.red.peer = some (b, w) → m.testBit 4 = (rdBe32 b 26 != s.cfgDigest) ∧ m.testBit 10 = (byteAt b 36 != s.timeBits)) ∧
  (∀ (s : State), s.pairMode = true → s.farrier.red.failMask = s.failChecks ∧ (s.failChecks ≠ 0 → s.farrier.red.ready = false ∧ s.farrier.red.cleanSince = none) ∧
    (s.failChecks = 0 → s.farrier.red.ready = s.red.ready ∧ s.farrier.red.cleanSince = some (s.red.cleanSince.getD s.now)) ∧ s.farrier.mod = s.mod ∧ s.farrier.cfg = s.cfg) ∧
  (∀ (s u v : State) t, s.pairMode = true → u = s.farrierOnward → u.red.cleanSince = some t → u.red.ready = false → v = (u.clockTo (t + 1000000000)).farrier →
    v.red.cleanSince.isSome = true → ∃ w, exec .farrierReady s = .next w ∧ w.red.ready = true ∧ w.red.readySince = some v.now ∧ w.mod = s.mod ∧ w.cfg = s.cfg) ∧
  (∀ (s u : State), u = s.farrierOnward → u.red.cleanSince = none ∨ u.red.ready = true → exec .farrierReady s = .next u) ∧
  (∀ s link (i : MirrorImage) at_ u, u = s.clockTo at_ → u.pairMode = true → u.mod.bridle = false → link ≤ 1 → i.crcOk = true → u.red.image = none → u.red.applied = none →
    exec (.mirrorImageReceive link i at_) s = .next { u with red := { u.red with image := some i, parts := i.digests } }) ∧
  (∀ s link (i : MirrorImage) at_ u, u = s.clockTo at_ → u.pairMode = false ∨ u.mod.bridle = true ∨ i.crcOk = false ∨ u.red.applied = some (i.sec, i.scan) →
    exec (.mirrorImageReceive link i at_) s = .next u) ∧
  (∀ (s : State) (i : MirrorImage) start t, t = s.mirrorTake i start → t.logic.img.m = BitVec.ofNat 32768 i.m ∧ t.logic.img.q = BitVec.ofNat 8192 i.q ∧
    t.logic.img.y = BitVec.ofNat 256 i.y ∧ t.logic.img.f = i.f ∧ t.logic.img.t.map (·.1) = i.t.map (·.idx) ∧ t.logic.img.c.map (·.1) = i.c.map (·.idx) ∧
    t.red.applied = some (i.sec, i.scan) ∧ t.red.images = inc32 s.red.images ∧ t.red.health = i.health ∧ t.red.image = none ∧ t.mod = s.mod ∧ t.cfg = s.cfg) ∧
  (∀ (s : State) start t, t = s.mirrorApply start → (s.mod.role ≠ 1 ∨ s.mod.bridle = true → t = s) ∧
    (s.pairMode = true → s.mod.role = 1 → s.mod.bridle = false →
      (s.red.image = none → t.red.misses = inc32 s.red.misses ∧ t.logic = s.logic ∧ (s.red.missRun = 2 → t.red.mirrorLost = true) ∧
        (s.red.missRun < 2 → t.red.mirrorLost = s.red.mirrorLost)) ∧
      (s.red.image ≠ none → t.red.misses = s.red.misses ∧ (2 ≤ s.red.okRun → t.red.mirrorLost = false) ∧ (s.red.okRun < 2 → t.red.mirrorLost = s.red.mirrorLost)))) ∧
  (∀ (s : State) g at_ v t, t = s.compareOne g at_ v → (at_ = none → t.red.skipped = inc32 s.red.skipped ∧ t.red.compared = s.red.compared ∧ t.red.mismatches = s.red.mismatches) ∧
    ∀ k x i y, at_ = some k → s.chanItem none v.chan 0 k = some x → s.chanStream v.chan = some (i, y) →
      ((s.alnOf i).basis ≠ 0 ∨ v.pflags ≠ 0 ∨ x.pflags ≠ 0 → t.red.skipped = inc32 s.red.skipped ∧ t.red.compared = s.red.compared) ∧
      ((s.alnOf i).basis = 0 → v.aflags = 0 → x.aflags = 0 → v.pflags = 0 → x.pflags = 0 → t.red.compared = inc32 s.red.compared ∧ t.red.skipped = s.red.skipped ∧
        t.red.mismatches = (if x.re = v.re ∧ x.im = v.im then s.red.mismatches else inc32 s.red.mismatches))) ∧
  (∀ s (g : PhasorGroup) at_ u, u = s.clockTo at_ → u.pairMode = false ∨ u.mod.bridle = true → exec (.phasorGroupReceive g at_) s = .next u) ∧
  (∀ s (g : PhasorGroup) at_ u, u = s.clockTo at_ → u.pairMode = true → u.mod.bridle = false → g.vals = [] → exec (.phasorGroupReceive g at_) s = .next u.farrier) ∧
  (∀ s (g : PhasorGroup) at_ u v c k, u = s.clockTo at_ → u.pairMode = true → u.mod.bridle = false → g.vals = [v] → v.chan / 256 = g.group →
    u.indexOf g.sec g.n = some k → u.chanMap v.chan k = some c →
    exec (.phasorGroupReceive g at_) s = .next (u.compareOne g (u.indexOf g.sec g.n) v).farrier) ∧
  (∀ p e s t, Accepted cmdRedStatus p e s t → ∃ u, exec (.redStatus p) s = .next (State.complete u p stOK [] (some t.redStatusBytes)) ∧ t.redStatusBytes.length = 32 ∧
    (byteAt e.req.params 0 = 0 → u = t) ∧ (byteAt e.req.params 0 = 1 → u = { t with red := { t.red with changes := 0, images := 0, misses := 0, h1Missed := 0 } })) ∧
  (∀ p e s t, Accepted cmdRedHealth p e s t → exec (.redHealth p) s = .next (t.farrier.complete p stOK [] (some t.farrier.redHealthBytes)) ∧ t.farrier.redHealthBytes.length = 80) ∧
  (∀ p e s t, Accepted cmdRedDeepTest p e s t → byteAt e.req.params 0 = 1 → ∃ u, exec (.redDeepTest p) s = .next (State.goesOnAt u p) ∧ u.active 6 = true ∧
    (t.pairMode = true → u.red.ready = false) ∧ u.cfg = t.cfg) ∧
  Ends .redDeepTest cmdRedDeepTest (fun _ e _ => byteAt e.req.params 0 = 0) stOK (fun _ _ t => t.deepStop stABORTED) (fun _ _ t => (t.stamp 17).bytes) noXp

/-! ## Diagnostics, activities and firmware (chapter 23) -/

/-- R484 to R488, R490 to R495. -/
def Obligations.DiagnosticsAndFirmware : Prop :=
  (∀ c, c = 0 ∨ c = 0x11 ∨ 0x22 < c → injRow c = none) ∧ (∀ c x, injRow c = some x → x.code = c) ∧
  (∀ p e s t, Accepted cmdDiagInject p e s t → injCancel e.req = false → ∃ (x : InjRow) (i : Injection), injRow (injCode e.req) = some x ∧
    exec (.diagInject p) s = .next (State.complete { t with diag.inj := t.diag.inj ++ [i] } p stOK (t.stamp 17).bytes none) ∧
    i.code = injCode e.req ∧ i.obj = x.obj e.req ∧ i.obj < x.objects ∧ i.sub = x.sub e.req ∧ i.force = injForce e.req ∧ i.armed = t.stamp 17 ∧
    (x.span = 1 → x.code ≠ 0x12 → i.remaining = injCount e.req) ∧ (x.span = 2 → i.until_ = some (t.now + 1000000 * injCount e.req)) ∧
    (∀ j, j ∈ t.diag.inj → j.code = i.code → j.obj ≠ i.obj) ∧ (injForce e.req = false → x.force = false ∧ (x.plant = true → t.mod.bridle = false)) ∧
    (i.code = 0x1E → t.mod.bridle = false)) ∧
  (∀ p e s t, Accepted cmdDiagInject p e s t → injCancel e.req = true → ∃ (l : List Injection),
    exec (.diagInject p) s = .next (State.complete { t with diag.inj := l } p stOK (t.stamp 17).bytes none) ∧
    (injCode e.req = 255 → l = []) ∧ (∀ i, i ∈ l → i ∈ t.diag.inj) ∧ (∀ i, i ∈ t.diag.inj → injCode e.req ≠ 255 → i.code ≠ injCode e.req → i ∈ l)) ∧
  (∀ (s : State) c o b, s.injection c o b = none → s.inject c o b = (false, s)) ∧
  (∀ (s : State) c o b i, s.injection c o b = some i → (s.inject c o b).1 = true ∧ (s.inject c o b).2.cfg = s.cfg ∧ (s.inject c o b).2.mod = s.mod ∧
    (i.lasting = true ∨ 2 ≤ i.remaining → (s.inject c o b).2.injection c o b = some { i.used s.now with lastApplied := s.stamp 17 }) ∧
    (i.lasting = false → i.remaining ≤ 1 → (s.inject c o b).2.injection c o b = none) ∧
    (∀ d q r, d ≠ c → (s.inject c o b).2.injection d q r = s.injection d q r)) ∧
  Answers .diagInjectStatus cmdDiagInjectStatus noResp (fun _ _ t => some (t.diag.inj.flatMap (fun i => i.bytes t.now))) ∧
  (∀ (i : Injection) now, (i.bytes now).length = 16) ∧
  Begins .diagBist cmdDiagBist (fun p e t => State.setProg (if byteAt e.req.params 0 = 4 then
      t.begin 2 (some p) (le64 e.req.params 8) (le64 e.req.params 8 + le64 e.req.params 16) else t.begin 13 (some p) (byteAt e.req.params 0) (byteAt e.req.params 0))
    p [t.now + bistTime (byteAt e.req.params 0) (le64 e.req.params 16)]) ∧
  (∀ (s : State) k lo hi d r, r = s.bistEnd k lo hi d → (k = 2 ∨ k = 3 → r.2.mem = s.mem ∧ r.2.safe = s.safe ∧ r.2.sec = s.sec) ∧
    (k = 1 → r.1.1 = true → r.2.sec.entropyFail = true) ∧ (k = 1 → r.1.1 = false → r.2.sec = s.sec ∧ r.2.mem = s.mem) ∧
    (k = 5 → r.1.1 = true → r.2.halter = true ∧ r.2.safe.causes.getLsbD 3 = true) ∧ (k = 5 → r.1.1 = false → r.2.safe = s.safe) ∧ r.1.2 < 4294967296) ∧
  (∀ (s : State) p e, s.waiting 0x1112 = some (p, e) → s.waiting 0x0F07 = none → s.now < e.prog.getD 0 0 → s.bistSweep = s) ∧
  Answers .diagActivities cmdDiagActivities noResp (fun _ _ t => some (t.activities.flatMap (fun a =>
    leBytes 1 a.code ++ leBytes 1 (pathNumber a.path) ++ [0, 0] ++ a.start.bytes ++ zeros 6))) ∧
  (∀ (s : State), s.diag.inj = [] → s.activities = s.diag.acts) ∧
  (∀ (s : State) i l, s.diag.inj = i :: l → s.activities = s.diag.acts ++ [{ code := 10, path := some i.path, start := i.armed }]) ∧
  (∀ s n, s.diag.inj[n]? = none → exec (.injectionApplied n) s = .next s ∧ exec (.injectionExpiry n) s = .next s) ∧
  (∀ s n i t, s.diag.inj[n]? = some i → t = (s.inject i.code i.obj i.sub).2 → (i.code ∈ injLasting → exec (.injectionApplied n) s = .next t) ∧
    (i.code = 0x03 → exec (.injectionApplied n) s = .next (t.linkDown i.obj 1)) ∧ (i.code = 0x04 → exec (.injectionApplied n) s = .next (t.sfpTxFault i.obj)) ∧
    (i.code = 0x12 → exec (.injectionApplied n) s = .next (if i.value = 2 then t.draw.2.sramUe i.sub t.draw.1 else t.draw.2.sramCe i.sub t.draw.1)) ∧
    (i.code = 0x18 → exec (.injectionApplied n) s = .next t.fv24Fall) ∧ (i.code = 0x1A → exec (.injectionApplied n) s = .next t.healthFail) ∧
    (i.code ∉ injLasting → i.code ∉ [0x03, 0x04, 0x12, 0x18, 0x1A] → exec (.injectionApplied n) s = .next s)) ∧
  (∀ s n i, s.diag.inj[n]? = some i → (i.until_ = none → exec (.injectionExpiry n) s = .next s) ∧
    ∀ w, i.until_ = some w → exec (.injectionExpiry n) s = .next { s.clockTo w with diag.inj := s.diag.inj.eraseIdx n }) ∧
  (∀ p e s t n, Accepted cmdFwInstall p e s t → byteAt e.req.params 0 = 0 → n = t.installSlot e.req → ∃ u, exec (.fwInstall p) s = .next (State.complete u p stOK [] none) ∧
    (u.image n).valid = false ∧ (u.image n).content = (t.image n).content.del 0 ∧ (n < 2 → u.image (1 - n) = t.image (1 - n)) ∧ u.flash.preferred = t.flash.preferred ∧
    u.flash.trial = t.flash.trial ∧ u.diag.install = some (n, le32 e.req.params 4) ∧ u.active 8 = true ∧ u.cfg = t.cfg) ∧
  (∀ p e s t n len, Accepted cmdFwInstall p e s t → byteAt e.req.params 0 = 1 → t.diag.install = some (n, len) → exec (.fwInstall p) s = .next (State.complete
    (t.setImage n { t.image n with content := writeChunk (t.image n).content (le32 e.req.params 4) e.req.region }) p stOK [] none)) ∧
  (∀ p e s t n len, Accepted cmdFwInstall p e s t → byteAt e.req.params 0 = 2 → t.diag.install = some (n, len) →
    (t.checkSlot n len = none → exec (.fwInstall p) s = .next (State.complete t p stBAD_PARAM [] none)) ∧
    (∀ i, t.checkSlot n len = some i → ∃ u, exec (.fwInstall p) s = .next (State.complete u p stOK (leBytes 1 i.svn ++ leBytes 1 i.keyIdx ++ [0, 0] ++ leBytes 4 i.build) none) ∧
      u.image n = i ∧ i.valid = true ∧ i.svn ≤ 64 ∧ t.flash.rollback ≤ i.svn ∧ u.diag.install = none ∧ u.active 8 = false ∧ u.flash.preferred = t.flash.preferred)) ∧
  (∀ p e s t x, Accepted cmdFwInstall p e s t → byteAt e.req.params 0 = 3 → t.diag.install = some x → ∃ u, exec (.fwInstall p) s = .next (State.complete u p stOK [] none) ∧
    u.diag.install = none ∧ u.active 8 = false ∧ u.flash = t.flash) ∧
  (∀ p e s t, Accepted cmdFwSelect p e s t → byteAt e.req.params 0 = 0 → ∃ u n, t.activateSlot = some n ∧ (t.image n).valid = true ∧
    exec (.fwSelect p) s = .next (State.complete u p stOK (leBytes 1 n ++ [1]) none) ∧ u.flash = { t.flash with preferred := n, trial := true } ∧ u.cfg = t.cfg) ∧
  (∀ p e s t, Accepted cmdFwSelect p e s t → byteAt e.req.params 0 = 1 → ∃ u, exec (.fwSelect p) s = .next (State.complete u p stOK (leBytes 1 t.flash.preferred ++ [0]) none) ∧
    u.flash = { t.flash with trial := false } ∧ u.cfg = t.cfg) ∧
  Answers .fwInfo cmdFwInfo noResp (fun _ _ t => some (leBytes 1 t.flash.preferred ++ leBytes 1 (b2n t.flash.trial) ++ leBytes 1 t.mod.slot ++ [0] ++
    t.flash.imageA.info ++ t.flash.imageB.info ++ zeros 4))

/-! ## The block as a whole -/

/-- The queue is the model's own (log 1). -/
def Obligations.StepRunsFront : Prop :=
  (∀ (c : Instr) (rest : List Instr) (s : State), step { s with pending := c :: rest } = exec c { s with pending := rest }) ∧
  (∀ (s : State), s.pending = [] → step s = .next s.idleTick) ∧
  (∀ (s : State), s.pending = [] → Domain.mgmt ∉ s.power.on → step s = .next s) ∧
  (∀ (c : Instr) (rest : List Instr) (s t : State), exec c { s with pending := rest } = .next t → step { s with pending := c :: rest } = .next t)

/-- The unit may hold or be armed to take the Bridle only in OPERATE or MAINTAIN (R456, R458, R468). -/
def BridleInState (s : State) : Prop := (s.mod.bridle = true ∨ s.red.armTake = true) → s.mod.state = 2 ∨ s.mod.state = 3

/-- R13, R62, R456, R458, R468, R469. -/
def Obligations.BridleStaysInState : Prop := ∀ (s t : State), BridleInState s → step s = .next t → BridleInState t

/-- R62, R84, R468; log 10. -/
def Obligations.ResetHoldsNothing : Prop :=
  BridleInState State.reset ∧ State.reset.mod.bridle = false ∧ State.reset.red.armTake = false ∧ State.reset.mod.role = 2 ∧ State.reset.mod.state = 0 ∧
  State.reset.pending = [] ∧ State.reset.mem.wf = true
end

