-- ==== Sys2Proof/Laws/Shared.lean ====
section
/-! SUPPORT. Everything each shared operation can change, said once: it answers its argument with only the named
blocks replaced. -/

namespace Sys2Proof
namespace Machine

variable (s : State)

/-! ## Interrupts -/

theorem raise_frame (b : Nat) : ∃ h, s.raise b = { s with host := h } := by
  unfold State.raise; split <;> exact ⟨_, rfl⟩

theorem raiseDma_frame (n : Nat) : ∃ h, s.raiseDma n = { s with host := h } := by
  unfold State.raiseDma; split <;> exact ⟨_, rfl⟩

theorem raiseVf_frame (n b : Nat) : ∃ f h, s.raiseVf n b = { s with fns := f, host := h } := by
  unfold State.raiseVf
  simp only [State.setFn]
  split
  · exact ⟨_, _, rfl⟩
  · split <;> exact ⟨_, _, rfl⟩

theorem timeEvt_frame (b : Nat) : ∃ t h, s.timeEvt b = { s with time := t, host := h } := by
  unfold State.timeEvt
  simp only
  split
  · exact ⟨_, _, rfl⟩
  · obtain ⟨h, e⟩ := raise_frame { s with time.evt := s.time.evt ||| BitVec.twoPow 8 b } intTIME
    exact ⟨_, h, e⟩

theorem rtcEvt_frame (b : Nat) : ∃ r h, s.rtcEvt b = { s with rtc := r, host := h } := by
  unfold State.rtcEvt
  simp only
  split
  · exact ⟨_, _, rfl⟩
  · obtain ⟨h, e⟩ := raise_frame { s with rtc.evt := s.rtc.evt ||| BitVec.twoPow 6 b } intRTC
    exact ⟨_, h, e⟩

theorem eccEvt_frame (b : Nat) : ∃ m h, s.eccEvt b = { s with mem := m, host := h } := by
  unfold State.eccEvt
  simp only
  split
  · exact ⟨_, _, rfl⟩
  · obtain ⟨h, e⟩ := raise_frame { s with mem.evt := s.mem.evt ||| BitVec.twoPow 7 b } intECC
    exact ⟨_, h, e⟩

/-! ## Firn and counters -/

theorem firnTake_frame (code : Nat) (st : Stamp) (ext : Nat) (d : Bytes) :
    ∃ q f h, s.firnTake code st ext d = { s with ao.firnSeq := q, firn := f, host := h } := by
  unfold State.firnTake
  simp only
  split
  · split
    · obtain ⟨h, e⟩ := raise_frame
        { s with
          ao.firnSeq := (s.ao.firnSeq + 1) % 4294967296
          firn := { s.firn with
            discarded := (s.firn.discarded + 1) % 4294967296
            lost := if s.firn.full then s.firn.lost else
              some (match s.firn.lost with | none => (s.ao.firnSeq, 1) | some l => (l.1, l.2 + 1)) } } intFIRN
      exact ⟨_, _, h, e⟩
    · exact ⟨_, _, _, rfl⟩
  · exact ⟨_, _, _, rfl⟩

theorem firnAt_frame (code : Nat) (st : Stamp) (ext : Nat) (d : Bytes) :
    ∃ q f h, s.firnAt code st ext d = { s with ao.firnSeq := q, firn := f, host := h } := by
  unfold State.firnAt
  split
  · exact ⟨_, _, _, rfl⟩
  · exact firnTake_frame s code st ext d

theorem firnEv_frame (code : Nat) (d : Bytes) :
    ∃ q f h, s.firnEv code d = { s with ao.firnSeq := q, firn := f, host := h } :=
  firnAt_frame s code (s.stamp 11) s.now d

theorem alarm_frame (b : Nat) (on : Bool) (detail : Nat) :
    ∃ q f h, s.alarm b on detail = { s with ao.firnSeq := q, firn := f, host := h } := by
  unfold State.alarm
  simp only
  split
  · obtain ⟨h, e⟩ := raise_frame s intALARM
    obtain ⟨q, f, h', e'⟩ := firnEv_frame { s with host := h } 0x0103
      ([BitVec.ofNat 8 b, BitVec.ofNat 8 (b2n on)] ++ leBytes 1 detail)
    exact ⟨q, f, h', by rw [e, e']⟩
  · exact firnEv_frame s _ _

theorem counted_frame (new opcode pos obj : Nat) :
    ∃ q f h, s.counted new opcode pos obj = { s with ao.firnSeq := q, firn := f, host := h } := by
  unfold State.counted
  split
  · exact firnEv_frame s _ _
  · exact ⟨_, _, _, rfl⟩

theorem portCount_frame (port off : Nat) : ∃ x h, s.portCount port off = { s with ports := x, host := h } := by
  unfold State.portCount
  simp only
  split
  · exact ⟨_, raise_frame _ intCNT |>.choose, (raise_frame _ intCNT).choose_spec⟩
  · exact ⟨_, _, rfl⟩

theorem portAdd_frame (port off n : Nat) : ∃ x h, s.portAdd port off n = { s with ports := x, host := h } := by
  unfold State.portAdd
  simp only
  split
  · exact ⟨_, raise_frame _ intCNT |>.choose, (raise_frame _ intCNT).choose_spec⟩
  · exact ⟨_, _, rfl⟩

/-! ## Free values and draws -/

theorem draw_frame : s.draw.2 = { s with free := s.free + 1 } := rfl

theorem random_frame (n : Nat) : (s.random n).2 = { s with sec.draws := s.sec.draws + 1 } := rfl

/-! ## Commands and completions -/

theorem setExec_frame (p : Path) (e : Option Exec) : ∃ h x, s.setExec p e = { s with host := h, p7 := x } := by
  cases p with
  | mb n => exact ⟨_, _, rfl⟩
  | vf n => exact ⟨_, _, rfl⟩
  | p7 n =>
    simp only [State.setExec]
    split <;> exact ⟨_, _, rfl⟩

theorem setNonce_frame (p : Path) (v : Option (Bytes × Nat)) : ∃ h x, s.setNonce p v = { s with host := h, p7 := x } := by
  cases p with
  | mb n => exact ⟨_, _, rfl⟩
  | vf n => exact ⟨_, _, rfl⟩
  | p7 n =>
    simp only [State.setNonce]
    split <;> exact ⟨_, _, rfl⟩

theorem raiseCq_frame (p : Path) : ∃ f h, s.raiseCq p = { s with fns := f, host := h } := by
  cases p with
  | mb n => obtain ⟨h, e⟩ := raise_frame s n; exact ⟨_, h, e⟩
  | vf n => exact raiseVf_frame s n 0
  | p7 n => exact ⟨_, _, rfl⟩

theorem logWrite_frame (n addr len : Nat) : ∃ f, s.logWrite n addr len = { s with fns := f } := by
  unfold State.logWrite
  split <;> exact ⟨_, rfl⟩

theorem post_frame (p : Path) (e : Exec) (st : Nat) (resp : Bytes) (xp : Option Bytes) :
    ∃ q f h x y, s.post p e st resp xp = { s with ao.firnSeq := q, firn := f, host := h, p7 := x, fns := y } := by
  unfold State.post
  simp only
  split
  · obtain ⟨q, f, h, e⟩ := firnEv_frame s 0x0106 _
    exact ⟨q, f, h, _, _, e⟩
  · cases p with
    | p7 n =>
      simp only
      split <;> exact ⟨_, _, _, _, _, rfl⟩
    | mb n =>
      simp only
      cases xp with
      | none =>
        obtain ⟨y, e1⟩ := logWrite_frame s 0 ((s.chan (.mb n)).cqBase + 32 * (s.chan (.mb n)).cqTail) 32
        simp only [e1, State.setChan]
        exact ⟨_, _, _, _, _, (raiseCq_frame _ (.mb n)).choose_spec.choose_spec⟩
      | some b =>
        simp only
        obtain ⟨y, e1⟩ := logWrite_frame s 0 ((s.chan (.mb n)).xpBase + e.req.xpOffset) b.length
        rw [e1]
        obtain ⟨y2, e2⟩ := logWrite_frame { s with fns := y } 0
          ((s.chan (.mb n)).cqBase + 32 * (s.chan (.mb n)).cqTail) 32
        simp only [e2, State.setChan]
        exact ⟨_, _, _, _, _, (raiseCq_frame _ (.mb n)).choose_spec.choose_spec⟩
    | vf n =>
      simp only
      cases xp with
      | none =>
        obtain ⟨y, e1⟩ := logWrite_frame s n ((s.chan (.vf n)).cqBase + 32 * (s.chan (.vf n)).cqTail) 32
        simp only [e1, State.setChan]
        exact ⟨_, _, _, _, _, (raiseCq_frame _ (.vf n)).choose_spec.choose_spec⟩
      | some b =>
        simp only
        obtain ⟨y, e1⟩ := logWrite_frame s n ((s.chan (.vf n)).xpBase + e.req.xpOffset) b.length
        rw [e1]
        obtain ⟨y2, e2⟩ := logWrite_frame { s with fns := y } n
          ((s.chan (.vf n)).cqBase + 32 * (s.chan (.vf n)).cqTail) 32
        simp only [e2, State.setChan]
        exact ⟨_, _, _, _, _, (raiseCq_frame _ (.vf n)).choose_spec.choose_spec⟩

theorem promote_frame (n : Nat) (w : List Exec) (s : State) :
    ∃ q f h x y, State.promote n w s = { s with ao.firnSeq := q, firn := f, host := h, p7 := x, fns := y } := by
  induction w generalizing s with
  | nil => exact ⟨_, _, _, _, _, rfl⟩
  | cons e rest ih =>
    unfold State.promote
    split
    · exact ⟨_, _, _, _, _, rfl⟩
    · obtain ⟨q, f, h, x, y, e1⟩ := post_frame s (.p7 n) e 1 [] none
      rw [e1]
      obtain ⟨q2, f2, h2, x2, y2, e2⟩ := ih { s with ao.firnSeq := q, firn := f, host := h, p7 := x, fns := y }
      exact ⟨q2, f2, h2, x2, y2, e2⟩

/-- A completion changes the path's channel or session, its interrupt, a function's dirty log, and, for a command a
reset cut off, Firn: nothing else. -/
theorem complete_frame (p : Path) (st : Nat) (resp : Bytes) (xp : Option Bytes) :
    ∃ q f h x y, s.complete p st resp xp = { s with ao.firnSeq := q, firn := f, host := h, p7 := x, fns := y } := by
  unfold State.complete
  split
  · exact ⟨_, _, _, _, _, rfl⟩
  · rename_i e _
    obtain ⟨q, f, h, x, y, e1⟩ := post_frame s p e st resp xp
    rw [e1]
    cases p with
    | mb n => exact ⟨_, _, _, _, _, rfl⟩
    | vf n => exact ⟨_, _, _, _, _, rfl⟩
    | p7 n =>
      simp only
      split
      · exact promote_frame n _ _
      · exact ⟨_, _, _, _, _, rfl⟩

/-! ## Authorisation and the checks of R98 -/

theorem authFailure_frame (p : Path) :
    ∃ c q f h, s.authFailure p = { s with sec := c, ao.firnSeq := q, firn := f, host := h } := by
  unfold State.authFailure
  simp only
  split
  · obtain ⟨q, f, h, e⟩ := firnEv_frame { s with sec := { s.sec with authFails := [], lockout := some s.now } } 0x0E04 _
    exact ⟨_, q, f, h, e⟩
  · exact ⟨_, _, _, _, rfl⟩

theorem useNonce_frame (p : Path) (r : Req) : ∃ h x, s.useNonce p r = { s with host := h, p7 := x } := by
  unfold State.useNonce
  repeat' split
  · exact setNonce_frame s p none
  all_goals exact ⟨_, _, rfl⟩

theorem authorise_frame (p : Path) (r : Req) : ∃ c q f h x,
    (s.authorise p r).2 = { s with sec := c, ao.firnSeq := q, firn := f, host := h, p7 := x } := by
  obtain ⟨h, x, e⟩ := useNonce_frame s p r
  unfold State.authorise
  split
  · dsimp only
    split
    · exact ⟨_, _, _, h, x, e⟩
    · exact ⟨_, _, _, _, _, rfl⟩
  · split
    · obtain ⟨c, q, f, h, e⟩ := authFailure_frame s p
      exact ⟨c, q, f, h, _, e⟩
    · simp only
      split
      · simp only [e]
        obtain ⟨c, q, f, h2, e2⟩ := authFailure_frame { s with host := h, p7 := x } p
        exact ⟨c, q, f, h2, x, e2⟩
      · exact ⟨_, _, _, h, x, e⟩

/-- The checks of a command change what authorisation changes, and nothing else. -/
theorem checks_frame (c : Cmd) (p : Path) (r : Req) : ∃ x q f h y,
    (s.checks c p r).2 = { s with sec := x, ao.firnSeq := q, firn := f, host := h, p7 := y } := by
  unfold State.checks
  split
  · exact ⟨_, _, _, _, _, rfl⟩
  · rename_i i _
    dsimp only
    split
    · exact ⟨_, _, _, _, _, rfl⟩
    · generalize ha : (if (i.priv && !s.sealOnly r) = true then s.authorise p r else (true, s)) = a
      have key : ∃ x q f h y, a.2 = { s with sec := x, ao.firnSeq := q, firn := f, host := h, p7 := y } := by
        subst ha
        split
        · exact authorise_frame s p r
        · exact ⟨_, _, _, _, _, rfl⟩
      repeat' split
      all_goals exact key

/-! ## Activities and injections -/

theorem inject_frame (code obj sub : Nat) : ∃ d q f h,
    (s.inject code obj sub).2 = { s with diag := d, ao.firnSeq := q, firn := f, host := h } := by
  unfold State.inject
  split
  · exact ⟨_, _, _, _, rfl⟩
  · rename_i i _
    obtain ⟨q, f, h, e⟩ := firnEv_frame s 0x1107
      ([BitVec.ofNat 8 code, BitVec.ofNat 8 sub] ++ leBytes 2 obj ++ leBytes 4 (i.used s.now).remaining)
    dsimp only
    rw [e]
    exact ⟨_, q, f, h, rfl⟩

end Machine
end Sys2Proof
end

