-- ==== Sys2Proof/Laws/Fields.lean ====
section
/-! SUPPORT. The blocks that each shared operation leaves alone, one lemma per block. -/

namespace Sys2Proof
namespace Machine

variable (s : State)

/-! ## raise -/

@[simp] theorem raise_pending (b : Nat) : (s.raise b).pending = s.pending := by
  obtain ⟨_, h⟩ := raise_frame s b; rw [h]
@[simp] theorem raise_free (b : Nat) : (s.raise b).free = s.free := by
  obtain ⟨_, h⟩ := raise_frame s b; rw [h]
@[simp] theorem raise_mod (b : Nat) : (s.raise b).mod = s.mod := by
  obtain ⟨_, h⟩ := raise_frame s b; rw [h]
@[simp] theorem raise_power (b : Nat) : (s.raise b).power = s.power := by
  obtain ⟨_, h⟩ := raise_frame s b; rw [h]
@[simp] theorem raise_ao (b : Nat) : (s.raise b).ao = s.ao := by
  obtain ⟨_, h⟩ := raise_frame s b; rw [h]
@[simp] theorem raise_flash (b : Nat) : (s.raise b).flash = s.flash := by
  obtain ⟨_, h⟩ := raise_frame s b; rw [h]
@[simp] theorem raise_time (b : Nat) : (s.raise b).time = s.time := by
  obtain ⟨_, h⟩ := raise_frame s b; rw [h]
@[simp] theorem raise_p7 (b : Nat) : (s.raise b).p7 = s.p7 := by
  obtain ⟨_, h⟩ := raise_frame s b; rw [h]
@[simp] theorem raise_firn (b : Nat) : (s.raise b).firn = s.firn := by
  obtain ⟨_, h⟩ := raise_frame s b; rw [h]
@[simp] theorem raise_sec (b : Nat) : (s.raise b).sec = s.sec := by
  obtain ⟨_, h⟩ := raise_frame s b; rw [h]
@[simp] theorem raise_diag (b : Nat) : (s.raise b).diag = s.diag := by
  obtain ⟨_, h⟩ := raise_frame s b; rw [h]
@[simp] theorem raise_fns (b : Nat) : (s.raise b).fns = s.fns := by
  obtain ⟨_, h⟩ := raise_frame s b; rw [h]
@[simp] theorem raise_sched (b : Nat) : (s.raise b).sched = s.sched := by
  obtain ⟨_, h⟩ := raise_frame s b; rw [h]
@[simp] theorem raise_dma (b : Nat) : (s.raise b).dma = s.dma := by
  obtain ⟨_, h⟩ := raise_frame s b; rw [h]
@[simp] theorem raise_ports (b : Nat) : (s.raise b).ports = s.ports := by
  obtain ⟨_, h⟩ := raise_frame s b; rw [h]
@[simp] theorem raise_sw (b : Nat) : (s.raise b).sw = s.sw := by
  obtain ⟨_, h⟩ := raise_frame s b; rw [h]
@[simp] theorem raise_goose (b : Nat) : (s.raise b).goose = s.goose := by
  obtain ⟨_, h⟩ := raise_frame s b; rw [h]
@[simp] theorem raise_sv (b : Nat) : (s.raise b).sv = s.sv := by
  obtain ⟨_, h⟩ := raise_frame s b; rw [h]
@[simp] theorem raise_aln (b : Nat) : (s.raise b).aln = s.aln := by
  obtain ⟨_, h⟩ := raise_frame s b; rw [h]
@[simp] theorem raise_ph (b : Nat) : (s.raise b).ph = s.ph := by
  obtain ⟨_, h⟩ := raise_frame s b; rw [h]
@[simp] theorem raise_grd (b : Nat) : (s.raise b).grd = s.grd := by
  obtain ⟨_, h⟩ := raise_frame s b; rw [h]
@[simp] theorem raise_logic (b : Nat) : (s.raise b).logic = s.logic := by
  obtain ⟨_, h⟩ := raise_frame s b; rw [h]
@[simp] theorem raise_brio (b : Nat) : (s.raise b).brio = s.brio := by
  obtain ⟨_, h⟩ := raise_frame s b; rw [h]
@[simp] theorem raise_safe (b : Nat) : (s.raise b).safe = s.safe := by
  obtain ⟨_, h⟩ := raise_frame s b; rw [h]
@[simp] theorem raise_red (b : Nat) : (s.raise b).red = s.red := by
  obtain ⟨_, h⟩ := raise_frame s b; rw [h]
@[simp] theorem raise_acq (b : Nat) : (s.raise b).acq = s.acq := by
  obtain ⟨_, h⟩ := raise_frame s b; rw [h]
@[simp] theorem raise_stg (b : Nat) : (s.raise b).stg = s.stg := by
  obtain ⟨_, h⟩ := raise_frame s b; rw [h]
@[simp] theorem raise_mem (b : Nat) : (s.raise b).mem = s.mem := by
  obtain ⟨_, h⟩ := raise_frame s b; rw [h]
@[simp] theorem raise_rtc (b : Nat) : (s.raise b).rtc = s.rtc := by
  obtain ⟨_, h⟩ := raise_frame s b; rw [h]
@[simp] theorem raise_cfg (b : Nat) : (s.raise b).cfg = s.cfg := by
  obtain ⟨_, h⟩ := raise_frame s b; rw [h]
@[simp] theorem raise_stored (b : Nat) : (s.raise b).stored = s.stored := by
  obtain ⟨_, h⟩ := raise_frame s b; rw [h]

/-! ## raiseDma -/

@[simp] theorem raiseDma_pending (n : Nat) : (s.raiseDma n).pending = s.pending := by
  obtain ⟨_, h⟩ := raiseDma_frame s n; rw [h]
@[simp] theorem raiseDma_free (n : Nat) : (s.raiseDma n).free = s.free := by
  obtain ⟨_, h⟩ := raiseDma_frame s n; rw [h]
@[simp] theorem raiseDma_mod (n : Nat) : (s.raiseDma n).mod = s.mod := by
  obtain ⟨_, h⟩ := raiseDma_frame s n; rw [h]
@[simp] theorem raiseDma_power (n : Nat) : (s.raiseDma n).power = s.power := by
  obtain ⟨_, h⟩ := raiseDma_frame s n; rw [h]
@[simp] theorem raiseDma_ao (n : Nat) : (s.raiseDma n).ao = s.ao := by
  obtain ⟨_, h⟩ := raiseDma_frame s n; rw [h]
@[simp] theorem raiseDma_flash (n : Nat) : (s.raiseDma n).flash = s.flash := by
  obtain ⟨_, h⟩ := raiseDma_frame s n; rw [h]
@[simp] theorem raiseDma_time (n : Nat) : (s.raiseDma n).time = s.time := by
  obtain ⟨_, h⟩ := raiseDma_frame s n; rw [h]
@[simp] theorem raiseDma_p7 (n : Nat) : (s.raiseDma n).p7 = s.p7 := by
  obtain ⟨_, h⟩ := raiseDma_frame s n; rw [h]
@[simp] theorem raiseDma_firn (n : Nat) : (s.raiseDma n).firn = s.firn := by
  obtain ⟨_, h⟩ := raiseDma_frame s n; rw [h]
@[simp] theorem raiseDma_sec (n : Nat) : (s.raiseDma n).sec = s.sec := by
  obtain ⟨_, h⟩ := raiseDma_frame s n; rw [h]
@[simp] theorem raiseDma_diag (n : Nat) : (s.raiseDma n).diag = s.diag := by
  obtain ⟨_, h⟩ := raiseDma_frame s n; rw [h]
@[simp] theorem raiseDma_fns (n : Nat) : (s.raiseDma n).fns = s.fns := by
  obtain ⟨_, h⟩ := raiseDma_frame s n; rw [h]
@[simp] theorem raiseDma_sched (n : Nat) : (s.raiseDma n).sched = s.sched := by
  obtain ⟨_, h⟩ := raiseDma_frame s n; rw [h]
@[simp] theorem raiseDma_dma (n : Nat) : (s.raiseDma n).dma = s.dma := by
  obtain ⟨_, h⟩ := raiseDma_frame s n; rw [h]
@[simp] theorem raiseDma_ports (n : Nat) : (s.raiseDma n).ports = s.ports := by
  obtain ⟨_, h⟩ := raiseDma_frame s n; rw [h]
@[simp] theorem raiseDma_sw (n : Nat) : (s.raiseDma n).sw = s.sw := by
  obtain ⟨_, h⟩ := raiseDma_frame s n; rw [h]
@[simp] theorem raiseDma_goose (n : Nat) : (s.raiseDma n).goose = s.goose := by
  obtain ⟨_, h⟩ := raiseDma_frame s n; rw [h]
@[simp] theorem raiseDma_sv (n : Nat) : (s.raiseDma n).sv = s.sv := by
  obtain ⟨_, h⟩ := raiseDma_frame s n; rw [h]
@[simp] theorem raiseDma_aln (n : Nat) : (s.raiseDma n).aln = s.aln := by
  obtain ⟨_, h⟩ := raiseDma_frame s n; rw [h]
@[simp] theorem raiseDma_ph (n : Nat) : (s.raiseDma n).ph = s.ph := by
  obtain ⟨_, h⟩ := raiseDma_frame s n; rw [h]
@[simp] theorem raiseDma_grd (n : Nat) : (s.raiseDma n).grd = s.grd := by
  obtain ⟨_, h⟩ := raiseDma_frame s n; rw [h]
@[simp] theorem raiseDma_logic (n : Nat) : (s.raiseDma n).logic = s.logic := by
  obtain ⟨_, h⟩ := raiseDma_frame s n; rw [h]
@[simp] theorem raiseDma_brio (n : Nat) : (s.raiseDma n).brio = s.brio := by
  obtain ⟨_, h⟩ := raiseDma_frame s n; rw [h]
@[simp] theorem raiseDma_safe (n : Nat) : (s.raiseDma n).safe = s.safe := by
  obtain ⟨_, h⟩ := raiseDma_frame s n; rw [h]
@[simp] theorem raiseDma_red (n : Nat) : (s.raiseDma n).red = s.red := by
  obtain ⟨_, h⟩ := raiseDma_frame s n; rw [h]
@[simp] theorem raiseDma_acq (n : Nat) : (s.raiseDma n).acq = s.acq := by
  obtain ⟨_, h⟩ := raiseDma_frame s n; rw [h]
@[simp] theorem raiseDma_stg (n : Nat) : (s.raiseDma n).stg = s.stg := by
  obtain ⟨_, h⟩ := raiseDma_frame s n; rw [h]
@[simp] theorem raiseDma_mem (n : Nat) : (s.raiseDma n).mem = s.mem := by
  obtain ⟨_, h⟩ := raiseDma_frame s n; rw [h]
@[simp] theorem raiseDma_rtc (n : Nat) : (s.raiseDma n).rtc = s.rtc := by
  obtain ⟨_, h⟩ := raiseDma_frame s n; rw [h]
@[simp] theorem raiseDma_cfg (n : Nat) : (s.raiseDma n).cfg = s.cfg := by
  obtain ⟨_, h⟩ := raiseDma_frame s n; rw [h]
@[simp] theorem raiseDma_stored (n : Nat) : (s.raiseDma n).stored = s.stored := by
  obtain ⟨_, h⟩ := raiseDma_frame s n; rw [h]

/-! ## raiseVf -/

@[simp] theorem raiseVf_pending (n b : Nat) : (s.raiseVf n b).pending = s.pending := by
  obtain ⟨_, _, h⟩ := raiseVf_frame s n b; rw [h]
@[simp] theorem raiseVf_free (n b : Nat) : (s.raiseVf n b).free = s.free := by
  obtain ⟨_, _, h⟩ := raiseVf_frame s n b; rw [h]
@[simp] theorem raiseVf_mod (n b : Nat) : (s.raiseVf n b).mod = s.mod := by
  obtain ⟨_, _, h⟩ := raiseVf_frame s n b; rw [h]
@[simp] theorem raiseVf_power (n b : Nat) : (s.raiseVf n b).power = s.power := by
  obtain ⟨_, _, h⟩ := raiseVf_frame s n b; rw [h]
@[simp] theorem raiseVf_ao (n b : Nat) : (s.raiseVf n b).ao = s.ao := by
  obtain ⟨_, _, h⟩ := raiseVf_frame s n b; rw [h]
@[simp] theorem raiseVf_flash (n b : Nat) : (s.raiseVf n b).flash = s.flash := by
  obtain ⟨_, _, h⟩ := raiseVf_frame s n b; rw [h]
@[simp] theorem raiseVf_time (n b : Nat) : (s.raiseVf n b).time = s.time := by
  obtain ⟨_, _, h⟩ := raiseVf_frame s n b; rw [h]
@[simp] theorem raiseVf_p7 (n b : Nat) : (s.raiseVf n b).p7 = s.p7 := by
  obtain ⟨_, _, h⟩ := raiseVf_frame s n b; rw [h]
@[simp] theorem raiseVf_firn (n b : Nat) : (s.raiseVf n b).firn = s.firn := by
  obtain ⟨_, _, h⟩ := raiseVf_frame s n b; rw [h]
@[simp] theorem raiseVf_sec (n b : Nat) : (s.raiseVf n b).sec = s.sec := by
  obtain ⟨_, _, h⟩ := raiseVf_frame s n b; rw [h]
@[simp] theorem raiseVf_diag (n b : Nat) : (s.raiseVf n b).diag = s.diag := by
  obtain ⟨_, _, h⟩ := raiseVf_frame s n b; rw [h]
@[simp] theorem raiseVf_sched (n b : Nat) : (s.raiseVf n b).sched = s.sched := by
  obtain ⟨_, _, h⟩ := raiseVf_frame s n b; rw [h]
@[simp] theorem raiseVf_dma (n b : Nat) : (s.raiseVf n b).dma = s.dma := by
  obtain ⟨_, _, h⟩ := raiseVf_frame s n b; rw [h]
@[simp] theorem raiseVf_ports (n b : Nat) : (s.raiseVf n b).ports = s.ports := by
  obtain ⟨_, _, h⟩ := raiseVf_frame s n b; rw [h]
@[simp] theorem raiseVf_sw (n b : Nat) : (s.raiseVf n b).sw = s.sw := by
  obtain ⟨_, _, h⟩ := raiseVf_frame s n b; rw [h]
@[simp] theorem raiseVf_goose (n b : Nat) : (s.raiseVf n b).goose = s.goose := by
  obtain ⟨_, _, h⟩ := raiseVf_frame s n b; rw [h]
@[simp] theorem raiseVf_sv (n b : Nat) : (s.raiseVf n b).sv = s.sv := by
  obtain ⟨_, _, h⟩ := raiseVf_frame s n b; rw [h]
@[simp] theorem raiseVf_aln (n b : Nat) : (s.raiseVf n b).aln = s.aln := by
  obtain ⟨_, _, h⟩ := raiseVf_frame s n b; rw [h]
@[simp] theorem raiseVf_ph (n b : Nat) : (s.raiseVf n b).ph = s.ph := by
  obtain ⟨_, _, h⟩ := raiseVf_frame s n b; rw [h]
@[simp] theorem raiseVf_grd (n b : Nat) : (s.raiseVf n b).grd = s.grd := by
  obtain ⟨_, _, h⟩ := raiseVf_frame s n b; rw [h]
@[simp] theorem raiseVf_logic (n b : Nat) : (s.raiseVf n b).logic = s.logic := by
  obtain ⟨_, _, h⟩ := raiseVf_frame s n b; rw [h]
@[simp] theorem raiseVf_brio (n b : Nat) : (s.raiseVf n b).brio = s.brio := by
  obtain ⟨_, _, h⟩ := raiseVf_frame s n b; rw [h]
@[simp] theorem raiseVf_safe (n b : Nat) : (s.raiseVf n b).safe = s.safe := by
  obtain ⟨_, _, h⟩ := raiseVf_frame s n b; rw [h]
@[simp] theorem raiseVf_red (n b : Nat) : (s.raiseVf n b).red = s.red := by
  obtain ⟨_, _, h⟩ := raiseVf_frame s n b; rw [h]
@[simp] theorem raiseVf_acq (n b : Nat) : (s.raiseVf n b).acq = s.acq := by
  obtain ⟨_, _, h⟩ := raiseVf_frame s n b; rw [h]
@[simp] theorem raiseVf_stg (n b : Nat) : (s.raiseVf n b).stg = s.stg := by
  obtain ⟨_, _, h⟩ := raiseVf_frame s n b; rw [h]
@[simp] theorem raiseVf_mem (n b : Nat) : (s.raiseVf n b).mem = s.mem := by
  obtain ⟨_, _, h⟩ := raiseVf_frame s n b; rw [h]
@[simp] theorem raiseVf_rtc (n b : Nat) : (s.raiseVf n b).rtc = s.rtc := by
  obtain ⟨_, _, h⟩ := raiseVf_frame s n b; rw [h]
@[simp] theorem raiseVf_cfg (n b : Nat) : (s.raiseVf n b).cfg = s.cfg := by
  obtain ⟨_, _, h⟩ := raiseVf_frame s n b; rw [h]
@[simp] theorem raiseVf_stored (n b : Nat) : (s.raiseVf n b).stored = s.stored := by
  obtain ⟨_, _, h⟩ := raiseVf_frame s n b; rw [h]

/-! ## timeEvt -/

@[simp] theorem timeEvt_pending (b : Nat) : (s.timeEvt b).pending = s.pending := by
  obtain ⟨_, _, h⟩ := timeEvt_frame s b; rw [h]
@[simp] theorem timeEvt_free (b : Nat) : (s.timeEvt b).free = s.free := by
  obtain ⟨_, _, h⟩ := timeEvt_frame s b; rw [h]
@[simp] theorem timeEvt_mod (b : Nat) : (s.timeEvt b).mod = s.mod := by
  obtain ⟨_, _, h⟩ := timeEvt_frame s b; rw [h]
@[simp] theorem timeEvt_power (b : Nat) : (s.timeEvt b).power = s.power := by
  obtain ⟨_, _, h⟩ := timeEvt_frame s b; rw [h]
@[simp] theorem timeEvt_ao (b : Nat) : (s.timeEvt b).ao = s.ao := by
  obtain ⟨_, _, h⟩ := timeEvt_frame s b; rw [h]
@[simp] theorem timeEvt_flash (b : Nat) : (s.timeEvt b).flash = s.flash := by
  obtain ⟨_, _, h⟩ := timeEvt_frame s b; rw [h]
@[simp] theorem timeEvt_p7 (b : Nat) : (s.timeEvt b).p7 = s.p7 := by
  obtain ⟨_, _, h⟩ := timeEvt_frame s b; rw [h]
@[simp] theorem timeEvt_firn (b : Nat) : (s.timeEvt b).firn = s.firn := by
  obtain ⟨_, _, h⟩ := timeEvt_frame s b; rw [h]
@[simp] theorem timeEvt_sec (b : Nat) : (s.timeEvt b).sec = s.sec := by
  obtain ⟨_, _, h⟩ := timeEvt_frame s b; rw [h]
@[simp] theorem timeEvt_diag (b : Nat) : (s.timeEvt b).diag = s.diag := by
  obtain ⟨_, _, h⟩ := timeEvt_frame s b; rw [h]
@[simp] theorem timeEvt_fns (b : Nat) : (s.timeEvt b).fns = s.fns := by
  obtain ⟨_, _, h⟩ := timeEvt_frame s b; rw [h]
@[simp] theorem timeEvt_sched (b : Nat) : (s.timeEvt b).sched = s.sched := by
  obtain ⟨_, _, h⟩ := timeEvt_frame s b; rw [h]
@[simp] theorem timeEvt_dma (b : Nat) : (s.timeEvt b).dma = s.dma := by
  obtain ⟨_, _, h⟩ := timeEvt_frame s b; rw [h]
@[simp] theorem timeEvt_ports (b : Nat) : (s.timeEvt b).ports = s.ports := by
  obtain ⟨_, _, h⟩ := timeEvt_frame s b; rw [h]
@[simp] theorem timeEvt_sw (b : Nat) : (s.timeEvt b).sw = s.sw := by
  obtain ⟨_, _, h⟩ := timeEvt_frame s b; rw [h]
@[simp] theorem timeEvt_goose (b : Nat) : (s.timeEvt b).goose = s.goose := by
  obtain ⟨_, _, h⟩ := timeEvt_frame s b; rw [h]
@[simp] theorem timeEvt_sv (b : Nat) : (s.timeEvt b).sv = s.sv := by
  obtain ⟨_, _, h⟩ := timeEvt_frame s b; rw [h]
@[simp] theorem timeEvt_aln (b : Nat) : (s.timeEvt b).aln = s.aln := by
  obtain ⟨_, _, h⟩ := timeEvt_frame s b; rw [h]
@[simp] theorem timeEvt_ph (b : Nat) : (s.timeEvt b).ph = s.ph := by
  obtain ⟨_, _, h⟩ := timeEvt_frame s b; rw [h]
@[simp] theorem timeEvt_grd (b : Nat) : (s.timeEvt b).grd = s.grd := by
  obtain ⟨_, _, h⟩ := timeEvt_frame s b; rw [h]
@[simp] theorem timeEvt_logic (b : Nat) : (s.timeEvt b).logic = s.logic := by
  obtain ⟨_, _, h⟩ := timeEvt_frame s b; rw [h]
@[simp] theorem timeEvt_brio (b : Nat) : (s.timeEvt b).brio = s.brio := by
  obtain ⟨_, _, h⟩ := timeEvt_frame s b; rw [h]
@[simp] theorem timeEvt_safe (b : Nat) : (s.timeEvt b).safe = s.safe := by
  obtain ⟨_, _, h⟩ := timeEvt_frame s b; rw [h]
@[simp] theorem timeEvt_red (b : Nat) : (s.timeEvt b).red = s.red := by
  obtain ⟨_, _, h⟩ := timeEvt_frame s b; rw [h]
@[simp] theorem timeEvt_acq (b : Nat) : (s.timeEvt b).acq = s.acq := by
  obtain ⟨_, _, h⟩ := timeEvt_frame s b; rw [h]
@[simp] theorem timeEvt_stg (b : Nat) : (s.timeEvt b).stg = s.stg := by
  obtain ⟨_, _, h⟩ := timeEvt_frame s b; rw [h]
@[simp] theorem timeEvt_mem (b : Nat) : (s.timeEvt b).mem = s.mem := by
  obtain ⟨_, _, h⟩ := timeEvt_frame s b; rw [h]
@[simp] theorem timeEvt_rtc (b : Nat) : (s.timeEvt b).rtc = s.rtc := by
  obtain ⟨_, _, h⟩ := timeEvt_frame s b; rw [h]
@[simp] theorem timeEvt_cfg (b : Nat) : (s.timeEvt b).cfg = s.cfg := by
  obtain ⟨_, _, h⟩ := timeEvt_frame s b; rw [h]
@[simp] theorem timeEvt_stored (b : Nat) : (s.timeEvt b).stored = s.stored := by
  obtain ⟨_, _, h⟩ := timeEvt_frame s b; rw [h]

/-! ## rtcEvt -/

@[simp] theorem rtcEvt_pending (b : Nat) : (s.rtcEvt b).pending = s.pending := by
  obtain ⟨_, _, h⟩ := rtcEvt_frame s b; rw [h]
@[simp] theorem rtcEvt_free (b : Nat) : (s.rtcEvt b).free = s.free := by
  obtain ⟨_, _, h⟩ := rtcEvt_frame s b; rw [h]
@[simp] theorem rtcEvt_mod (b : Nat) : (s.rtcEvt b).mod = s.mod := by
  obtain ⟨_, _, h⟩ := rtcEvt_frame s b; rw [h]
@[simp] theorem rtcEvt_power (b : Nat) : (s.rtcEvt b).power = s.power := by
  obtain ⟨_, _, h⟩ := rtcEvt_frame s b; rw [h]
@[simp] theorem rtcEvt_ao (b : Nat) : (s.rtcEvt b).ao = s.ao := by
  obtain ⟨_, _, h⟩ := rtcEvt_frame s b; rw [h]
@[simp] theorem rtcEvt_flash (b : Nat) : (s.rtcEvt b).flash = s.flash := by
  obtain ⟨_, _, h⟩ := rtcEvt_frame s b; rw [h]
@[simp] theorem rtcEvt_time (b : Nat) : (s.rtcEvt b).time = s.time := by
  obtain ⟨_, _, h⟩ := rtcEvt_frame s b; rw [h]
@[simp] theorem rtcEvt_p7 (b : Nat) : (s.rtcEvt b).p7 = s.p7 := by
  obtain ⟨_, _, h⟩ := rtcEvt_frame s b; rw [h]
@[simp] theorem rtcEvt_firn (b : Nat) : (s.rtcEvt b).firn = s.firn := by
  obtain ⟨_, _, h⟩ := rtcEvt_frame s b; rw [h]
@[simp] theorem rtcEvt_sec (b : Nat) : (s.rtcEvt b).sec = s.sec := by
  obtain ⟨_, _, h⟩ := rtcEvt_frame s b; rw [h]
@[simp] theorem rtcEvt_diag (b : Nat) : (s.rtcEvt b).diag = s.diag := by
  obtain ⟨_, _, h⟩ := rtcEvt_frame s b; rw [h]
@[simp] theorem rtcEvt_fns (b : Nat) : (s.rtcEvt b).fns = s.fns := by
  obtain ⟨_, _, h⟩ := rtcEvt_frame s b; rw [h]
@[simp] theorem rtcEvt_sched (b : Nat) : (s.rtcEvt b).sched = s.sched := by
  obtain ⟨_, _, h⟩ := rtcEvt_frame s b; rw [h]
@[simp] theorem rtcEvt_dma (b : Nat) : (s.rtcEvt b).dma = s.dma := by
  obtain ⟨_, _, h⟩ := rtcEvt_frame s b; rw [h]
@[simp] theorem rtcEvt_ports (b : Nat) : (s.rtcEvt b).ports = s.ports := by
  obtain ⟨_, _, h⟩ := rtcEvt_frame s b; rw [h]
@[simp] theorem rtcEvt_sw (b : Nat) : (s.rtcEvt b).sw = s.sw := by
  obtain ⟨_, _, h⟩ := rtcEvt_frame s b; rw [h]
@[simp] theorem rtcEvt_goose (b : Nat) : (s.rtcEvt b).goose = s.goose := by
  obtain ⟨_, _, h⟩ := rtcEvt_frame s b; rw [h]
@[simp] theorem rtcEvt_sv (b : Nat) : (s.rtcEvt b).sv = s.sv := by
  obtain ⟨_, _, h⟩ := rtcEvt_frame s b; rw [h]
@[simp] theorem rtcEvt_aln (b : Nat) : (s.rtcEvt b).aln = s.aln := by
  obtain ⟨_, _, h⟩ := rtcEvt_frame s b; rw [h]
@[simp] theorem rtcEvt_ph (b : Nat) : (s.rtcEvt b).ph = s.ph := by
  obtain ⟨_, _, h⟩ := rtcEvt_frame s b; rw [h]
@[simp] theorem rtcEvt_grd (b : Nat) : (s.rtcEvt b).grd = s.grd := by
  obtain ⟨_, _, h⟩ := rtcEvt_frame s b; rw [h]
@[simp] theorem rtcEvt_logic (b : Nat) : (s.rtcEvt b).logic = s.logic := by
  obtain ⟨_, _, h⟩ := rtcEvt_frame s b; rw [h]
@[simp] theorem rtcEvt_brio (b : Nat) : (s.rtcEvt b).brio = s.brio := by
  obtain ⟨_, _, h⟩ := rtcEvt_frame s b; rw [h]
@[simp] theorem rtcEvt_safe (b : Nat) : (s.rtcEvt b).safe = s.safe := by
  obtain ⟨_, _, h⟩ := rtcEvt_frame s b; rw [h]
@[simp] theorem rtcEvt_red (b : Nat) : (s.rtcEvt b).red = s.red := by
  obtain ⟨_, _, h⟩ := rtcEvt_frame s b; rw [h]
@[simp] theorem rtcEvt_acq (b : Nat) : (s.rtcEvt b).acq = s.acq := by
  obtain ⟨_, _, h⟩ := rtcEvt_frame s b; rw [h]
@[simp] theorem rtcEvt_stg (b : Nat) : (s.rtcEvt b).stg = s.stg := by
  obtain ⟨_, _, h⟩ := rtcEvt_frame s b; rw [h]
@[simp] theorem rtcEvt_mem (b : Nat) : (s.rtcEvt b).mem = s.mem := by
  obtain ⟨_, _, h⟩ := rtcEvt_frame s b; rw [h]
@[simp] theorem rtcEvt_cfg (b : Nat) : (s.rtcEvt b).cfg = s.cfg := by
  obtain ⟨_, _, h⟩ := rtcEvt_frame s b; rw [h]
@[simp] theorem rtcEvt_stored (b : Nat) : (s.rtcEvt b).stored = s.stored := by
  obtain ⟨_, _, h⟩ := rtcEvt_frame s b; rw [h]

/-! ## eccEvt -/

@[simp] theorem eccEvt_pending (b : Nat) : (s.eccEvt b).pending = s.pending := by
  obtain ⟨_, _, h⟩ := eccEvt_frame s b; rw [h]
@[simp] theorem eccEvt_free (b : Nat) : (s.eccEvt b).free = s.free := by
  obtain ⟨_, _, h⟩ := eccEvt_frame s b; rw [h]
@[simp] theorem eccEvt_mod (b : Nat) : (s.eccEvt b).mod = s.mod := by
  obtain ⟨_, _, h⟩ := eccEvt_frame s b; rw [h]
@[simp] theorem eccEvt_power (b : Nat) : (s.eccEvt b).power = s.power := by
  obtain ⟨_, _, h⟩ := eccEvt_frame s b; rw [h]
@[simp] theorem eccEvt_ao (b : Nat) : (s.eccEvt b).ao = s.ao := by
  obtain ⟨_, _, h⟩ := eccEvt_frame s b; rw [h]
@[simp] theorem eccEvt_flash (b : Nat) : (s.eccEvt b).flash = s.flash := by
  obtain ⟨_, _, h⟩ := eccEvt_frame s b; rw [h]
@[simp] theorem eccEvt_time (b : Nat) : (s.eccEvt b).time = s.time := by
  obtain ⟨_, _, h⟩ := eccEvt_frame s b; rw [h]
@[simp] theorem eccEvt_p7 (b : Nat) : (s.eccEvt b).p7 = s.p7 := by
  obtain ⟨_, _, h⟩ := eccEvt_frame s b; rw [h]
@[simp] theorem eccEvt_firn (b : Nat) : (s.eccEvt b).firn = s.firn := by
  obtain ⟨_, _, h⟩ := eccEvt_frame s b; rw [h]
@[simp] theorem eccEvt_sec (b : Nat) : (s.eccEvt b).sec = s.sec := by
  obtain ⟨_, _, h⟩ := eccEvt_frame s b; rw [h]
@[simp] theorem eccEvt_diag (b : Nat) : (s.eccEvt b).diag = s.diag := by
  obtain ⟨_, _, h⟩ := eccEvt_frame s b; rw [h]
@[simp] theorem eccEvt_fns (b : Nat) : (s.eccEvt b).fns = s.fns := by
  obtain ⟨_, _, h⟩ := eccEvt_frame s b; rw [h]
@[simp] theorem eccEvt_sched (b : Nat) : (s.eccEvt b).sched = s.sched := by
  obtain ⟨_, _, h⟩ := eccEvt_frame s b; rw [h]
@[simp] theorem eccEvt_dma (b : Nat) : (s.eccEvt b).dma = s.dma := by
  obtain ⟨_, _, h⟩ := eccEvt_frame s b; rw [h]
@[simp] theorem eccEvt_ports (b : Nat) : (s.eccEvt b).ports = s.ports := by
  obtain ⟨_, _, h⟩ := eccEvt_frame s b; rw [h]
@[simp] theorem eccEvt_sw (b : Nat) : (s.eccEvt b).sw = s.sw := by
  obtain ⟨_, _, h⟩ := eccEvt_frame s b; rw [h]
@[simp] theorem eccEvt_goose (b : Nat) : (s.eccEvt b).goose = s.goose := by
  obtain ⟨_, _, h⟩ := eccEvt_frame s b; rw [h]
@[simp] theorem eccEvt_sv (b : Nat) : (s.eccEvt b).sv = s.sv := by
  obtain ⟨_, _, h⟩ := eccEvt_frame s b; rw [h]
@[simp] theorem eccEvt_aln (b : Nat) : (s.eccEvt b).aln = s.aln := by
  obtain ⟨_, _, h⟩ := eccEvt_frame s b; rw [h]
@[simp] theorem eccEvt_ph (b : Nat) : (s.eccEvt b).ph = s.ph := by
  obtain ⟨_, _, h⟩ := eccEvt_frame s b; rw [h]
@[simp] theorem eccEvt_grd (b : Nat) : (s.eccEvt b).grd = s.grd := by
  obtain ⟨_, _, h⟩ := eccEvt_frame s b; rw [h]
@[simp] theorem eccEvt_logic (b : Nat) : (s.eccEvt b).logic = s.logic := by
  obtain ⟨_, _, h⟩ := eccEvt_frame s b; rw [h]
@[simp] theorem eccEvt_brio (b : Nat) : (s.eccEvt b).brio = s.brio := by
  obtain ⟨_, _, h⟩ := eccEvt_frame s b; rw [h]
@[simp] theorem eccEvt_safe (b : Nat) : (s.eccEvt b).safe = s.safe := by
  obtain ⟨_, _, h⟩ := eccEvt_frame s b; rw [h]
@[simp] theorem eccEvt_red (b : Nat) : (s.eccEvt b).red = s.red := by
  obtain ⟨_, _, h⟩ := eccEvt_frame s b; rw [h]
@[simp] theorem eccEvt_acq (b : Nat) : (s.eccEvt b).acq = s.acq := by
  obtain ⟨_, _, h⟩ := eccEvt_frame s b; rw [h]
@[simp] theorem eccEvt_stg (b : Nat) : (s.eccEvt b).stg = s.stg := by
  obtain ⟨_, _, h⟩ := eccEvt_frame s b; rw [h]
@[simp] theorem eccEvt_rtc (b : Nat) : (s.eccEvt b).rtc = s.rtc := by
  obtain ⟨_, _, h⟩ := eccEvt_frame s b; rw [h]
@[simp] theorem eccEvt_cfg (b : Nat) : (s.eccEvt b).cfg = s.cfg := by
  obtain ⟨_, _, h⟩ := eccEvt_frame s b; rw [h]
@[simp] theorem eccEvt_stored (b : Nat) : (s.eccEvt b).stored = s.stored := by
  obtain ⟨_, _, h⟩ := eccEvt_frame s b; rw [h]

/-! ## firnEv -/

@[simp] theorem firnEv_pending (c : Nat) (d : Bytes) : (s.firnEv c d).pending = s.pending := by
  obtain ⟨_, _, _, h⟩ := firnEv_frame s c d; rw [h]
@[simp] theorem firnEv_free (c : Nat) (d : Bytes) : (s.firnEv c d).free = s.free := by
  obtain ⟨_, _, _, h⟩ := firnEv_frame s c d; rw [h]
@[simp] theorem firnEv_mod (c : Nat) (d : Bytes) : (s.firnEv c d).mod = s.mod := by
  obtain ⟨_, _, _, h⟩ := firnEv_frame s c d; rw [h]
@[simp] theorem firnEv_power (c : Nat) (d : Bytes) : (s.firnEv c d).power = s.power := by
  obtain ⟨_, _, _, h⟩ := firnEv_frame s c d; rw [h]
@[simp] theorem firnEv_flash (c : Nat) (d : Bytes) : (s.firnEv c d).flash = s.flash := by
  obtain ⟨_, _, _, h⟩ := firnEv_frame s c d; rw [h]
@[simp] theorem firnEv_time (c : Nat) (d : Bytes) : (s.firnEv c d).time = s.time := by
  obtain ⟨_, _, _, h⟩ := firnEv_frame s c d; rw [h]
@[simp] theorem firnEv_p7 (c : Nat) (d : Bytes) : (s.firnEv c d).p7 = s.p7 := by
  obtain ⟨_, _, _, h⟩ := firnEv_frame s c d; rw [h]
@[simp] theorem firnEv_sec (c : Nat) (d : Bytes) : (s.firnEv c d).sec = s.sec := by
  obtain ⟨_, _, _, h⟩ := firnEv_frame s c d; rw [h]
@[simp] theorem firnEv_diag (c : Nat) (d : Bytes) : (s.firnEv c d).diag = s.diag := by
  obtain ⟨_, _, _, h⟩ := firnEv_frame s c d; rw [h]
@[simp] theorem firnEv_fns (c : Nat) (d : Bytes) : (s.firnEv c d).fns = s.fns := by
  obtain ⟨_, _, _, h⟩ := firnEv_frame s c d; rw [h]
@[simp] theorem firnEv_sched (c : Nat) (d : Bytes) : (s.firnEv c d).sched = s.sched := by
  obtain ⟨_, _, _, h⟩ := firnEv_frame s c d; rw [h]
@[simp] theorem firnEv_dma (c : Nat) (d : Bytes) : (s.firnEv c d).dma = s.dma := by
  obtain ⟨_, _, _, h⟩ := firnEv_frame s c d; rw [h]
@[simp] theorem firnEv_ports (c : Nat) (d : Bytes) : (s.firnEv c d).ports = s.ports := by
  obtain ⟨_, _, _, h⟩ := firnEv_frame s c d; rw [h]
@[simp] theorem firnEv_sw (c : Nat) (d : Bytes) : (s.firnEv c d).sw = s.sw := by
  obtain ⟨_, _, _, h⟩ := firnEv_frame s c d; rw [h]
@[simp] theorem firnEv_goose (c : Nat) (d : Bytes) : (s.firnEv c d).goose = s.goose := by
  obtain ⟨_, _, _, h⟩ := firnEv_frame s c d; rw [h]
@[simp] theorem firnEv_sv (c : Nat) (d : Bytes) : (s.firnEv c d).sv = s.sv := by
  obtain ⟨_, _, _, h⟩ := firnEv_frame s c d; rw [h]
@[simp] theorem firnEv_aln (c : Nat) (d : Bytes) : (s.firnEv c d).aln = s.aln := by
  obtain ⟨_, _, _, h⟩ := firnEv_frame s c d; rw [h]
@[simp] theorem firnEv_ph (c : Nat) (d : Bytes) : (s.firnEv c d).ph = s.ph := by
  obtain ⟨_, _, _, h⟩ := firnEv_frame s c d; rw [h]
@[simp] theorem firnEv_grd (c : Nat) (d : Bytes) : (s.firnEv c d).grd = s.grd := by
  obtain ⟨_, _, _, h⟩ := firnEv_frame s c d; rw [h]
@[simp] theorem firnEv_logic (c : Nat) (d : Bytes) : (s.firnEv c d).logic = s.logic := by
  obtain ⟨_, _, _, h⟩ := firnEv_frame s c d; rw [h]
@[simp] theorem firnEv_brio (c : Nat) (d : Bytes) : (s.firnEv c d).brio = s.brio := by
  obtain ⟨_, _, _, h⟩ := firnEv_frame s c d; rw [h]
@[simp] theorem firnEv_safe (c : Nat) (d : Bytes) : (s.firnEv c d).safe = s.safe := by
  obtain ⟨_, _, _, h⟩ := firnEv_frame s c d; rw [h]
@[simp] theorem firnEv_red (c : Nat) (d : Bytes) : (s.firnEv c d).red = s.red := by
  obtain ⟨_, _, _, h⟩ := firnEv_frame s c d; rw [h]
@[simp] theorem firnEv_acq (c : Nat) (d : Bytes) : (s.firnEv c d).acq = s.acq := by
  obtain ⟨_, _, _, h⟩ := firnEv_frame s c d; rw [h]
@[simp] theorem firnEv_stg (c : Nat) (d : Bytes) : (s.firnEv c d).stg = s.stg := by
  obtain ⟨_, _, _, h⟩ := firnEv_frame s c d; rw [h]
@[simp] theorem firnEv_mem (c : Nat) (d : Bytes) : (s.firnEv c d).mem = s.mem := by
  obtain ⟨_, _, _, h⟩ := firnEv_frame s c d; rw [h]
@[simp] theorem firnEv_rtc (c : Nat) (d : Bytes) : (s.firnEv c d).rtc = s.rtc := by
  obtain ⟨_, _, _, h⟩ := firnEv_frame s c d; rw [h]
@[simp] theorem firnEv_cfg (c : Nat) (d : Bytes) : (s.firnEv c d).cfg = s.cfg := by
  obtain ⟨_, _, _, h⟩ := firnEv_frame s c d; rw [h]
@[simp] theorem firnEv_stored (c : Nat) (d : Bytes) : (s.firnEv c d).stored = s.stored := by
  obtain ⟨_, _, _, h⟩ := firnEv_frame s c d; rw [h]

/-! ## firnAt -/

@[simp] theorem firnAt_pending (c : Nat) (st : Stamp) (x : Nat) (d : Bytes) : (s.firnAt c st x d).pending = s.pending := by
  obtain ⟨_, _, _, h⟩ := firnAt_frame s c st x d; rw [h]
@[simp] theorem firnAt_free (c : Nat) (st : Stamp) (x : Nat) (d : Bytes) : (s.firnAt c st x d).free = s.free := by
  obtain ⟨_, _, _, h⟩ := firnAt_frame s c st x d; rw [h]
@[simp] theorem firnAt_mod (c : Nat) (st : Stamp) (x : Nat) (d : Bytes) : (s.firnAt c st x d).mod = s.mod := by
  obtain ⟨_, _, _, h⟩ := firnAt_frame s c st x d; rw [h]
@[simp] theorem firnAt_power (c : Nat) (st : Stamp) (x : Nat) (d : Bytes) : (s.firnAt c st x d).power = s.power := by
  obtain ⟨_, _, _, h⟩ := firnAt_frame s c st x d; rw [h]
@[simp] theorem firnAt_flash (c : Nat) (st : Stamp) (x : Nat) (d : Bytes) : (s.firnAt c st x d).flash = s.flash := by
  obtain ⟨_, _, _, h⟩ := firnAt_frame s c st x d; rw [h]
@[simp] theorem firnAt_time (c : Nat) (st : Stamp) (x : Nat) (d : Bytes) : (s.firnAt c st x d).time = s.time := by
  obtain ⟨_, _, _, h⟩ := firnAt_frame s c st x d; rw [h]
@[simp] theorem firnAt_p7 (c : Nat) (st : Stamp) (x : Nat) (d : Bytes) : (s.firnAt c st x d).p7 = s.p7 := by
  obtain ⟨_, _, _, h⟩ := firnAt_frame s c st x d; rw [h]
@[simp] theorem firnAt_sec (c : Nat) (st : Stamp) (x : Nat) (d : Bytes) : (s.firnAt c st x d).sec = s.sec := by
  obtain ⟨_, _, _, h⟩ := firnAt_frame s c st x d; rw [h]
@[simp] theorem firnAt_diag (c : Nat) (st : Stamp) (x : Nat) (d : Bytes) : (s.firnAt c st x d).diag = s.diag := by
  obtain ⟨_, _, _, h⟩ := firnAt_frame s c st x d; rw [h]
@[simp] theorem firnAt_fns (c : Nat) (st : Stamp) (x : Nat) (d : Bytes) : (s.firnAt c st x d).fns = s.fns := by
  obtain ⟨_, _, _, h⟩ := firnAt_frame s c st x d; rw [h]
@[simp] theorem firnAt_sched (c : Nat) (st : Stamp) (x : Nat) (d : Bytes) : (s.firnAt c st x d).sched = s.sched := by
  obtain ⟨_, _, _, h⟩ := firnAt_frame s c st x d; rw [h]
@[simp] theorem firnAt_dma (c : Nat) (st : Stamp) (x : Nat) (d : Bytes) : (s.firnAt c st x d).dma = s.dma := by
  obtain ⟨_, _, _, h⟩ := firnAt_frame s c st x d; rw [h]
@[simp] theorem firnAt_ports (c : Nat) (st : Stamp) (x : Nat) (d : Bytes) : (s.firnAt c st x d).ports = s.ports := by
  obtain ⟨_, _, _, h⟩ := firnAt_frame s c st x d; rw [h]
@[simp] theorem firnAt_sw (c : Nat) (st : Stamp) (x : Nat) (d : Bytes) : (s.firnAt c st x d).sw = s.sw := by
  obtain ⟨_, _, _, h⟩ := firnAt_frame s c st x d; rw [h]
@[simp] theorem firnAt_goose (c : Nat) (st : Stamp) (x : Nat) (d : Bytes) : (s.firnAt c st x d).goose = s.goose := by
  obtain ⟨_, _, _, h⟩ := firnAt_frame s c st x d; rw [h]
@[simp] theorem firnAt_sv (c : Nat) (st : Stamp) (x : Nat) (d : Bytes) : (s.firnAt c st x d).sv = s.sv := by
  obtain ⟨_, _, _, h⟩ := firnAt_frame s c st x d; rw [h]
@[simp] theorem firnAt_aln (c : Nat) (st : Stamp) (x : Nat) (d : Bytes) : (s.firnAt c st x d).aln = s.aln := by
  obtain ⟨_, _, _, h⟩ := firnAt_frame s c st x d; rw [h]
@[simp] theorem firnAt_ph (c : Nat) (st : Stamp) (x : Nat) (d : Bytes) : (s.firnAt c st x d).ph = s.ph := by
  obtain ⟨_, _, _, h⟩ := firnAt_frame s c st x d; rw [h]
@[simp] theorem firnAt_grd (c : Nat) (st : Stamp) (x : Nat) (d : Bytes) : (s.firnAt c st x d).grd = s.grd := by
  obtain ⟨_, _, _, h⟩ := firnAt_frame s c st x d; rw [h]
@[simp] theorem firnAt_logic (c : Nat) (st : Stamp) (x : Nat) (d : Bytes) : (s.firnAt c st x d).logic = s.logic := by
  obtain ⟨_, _, _, h⟩ := firnAt_frame s c st x d; rw [h]
@[simp] theorem firnAt_brio (c : Nat) (st : Stamp) (x : Nat) (d : Bytes) : (s.firnAt c st x d).brio = s.brio := by
  obtain ⟨_, _, _, h⟩ := firnAt_frame s c st x d; rw [h]
@[simp] theorem firnAt_safe (c : Nat) (st : Stamp) (x : Nat) (d : Bytes) : (s.firnAt c st x d).safe = s.safe := by
  obtain ⟨_, _, _, h⟩ := firnAt_frame s c st x d; rw [h]
@[simp] theorem firnAt_red (c : Nat) (st : Stamp) (x : Nat) (d : Bytes) : (s.firnAt c st x d).red = s.red := by
  obtain ⟨_, _, _, h⟩ := firnAt_frame s c st x d; rw [h]
@[simp] theorem firnAt_acq (c : Nat) (st : Stamp) (x : Nat) (d : Bytes) : (s.firnAt c st x d).acq = s.acq := by
  obtain ⟨_, _, _, h⟩ := firnAt_frame s c st x d; rw [h]
@[simp] theorem firnAt_stg (c : Nat) (st : Stamp) (x : Nat) (d : Bytes) : (s.firnAt c st x d).stg = s.stg := by
  obtain ⟨_, _, _, h⟩ := firnAt_frame s c st x d; rw [h]
@[simp] theorem firnAt_mem (c : Nat) (st : Stamp) (x : Nat) (d : Bytes) : (s.firnAt c st x d).mem = s.mem := by
  obtain ⟨_, _, _, h⟩ := firnAt_frame s c st x d; rw [h]
@[simp] theorem firnAt_rtc (c : Nat) (st : Stamp) (x : Nat) (d : Bytes) : (s.firnAt c st x d).rtc = s.rtc := by
  obtain ⟨_, _, _, h⟩ := firnAt_frame s c st x d; rw [h]
@[simp] theorem firnAt_cfg (c : Nat) (st : Stamp) (x : Nat) (d : Bytes) : (s.firnAt c st x d).cfg = s.cfg := by
  obtain ⟨_, _, _, h⟩ := firnAt_frame s c st x d; rw [h]
@[simp] theorem firnAt_stored (c : Nat) (st : Stamp) (x : Nat) (d : Bytes) : (s.firnAt c st x d).stored = s.stored := by
  obtain ⟨_, _, _, h⟩ := firnAt_frame s c st x d; rw [h]

/-! ## alarm -/

@[simp] theorem alarm_pending (b : Nat) (on : Bool) (d : Nat) : (s.alarm b on d).pending = s.pending := by
  obtain ⟨_, _, _, h⟩ := alarm_frame s b on d; rw [h]
@[simp] theorem alarm_free (b : Nat) (on : Bool) (d : Nat) : (s.alarm b on d).free = s.free := by
  obtain ⟨_, _, _, h⟩ := alarm_frame s b on d; rw [h]
@[simp] theorem alarm_mod (b : Nat) (on : Bool) (d : Nat) : (s.alarm b on d).mod = s.mod := by
  obtain ⟨_, _, _, h⟩ := alarm_frame s b on d; rw [h]
@[simp] theorem alarm_power (b : Nat) (on : Bool) (d : Nat) : (s.alarm b on d).power = s.power := by
  obtain ⟨_, _, _, h⟩ := alarm_frame s b on d; rw [h]
@[simp] theorem alarm_flash (b : Nat) (on : Bool) (d : Nat) : (s.alarm b on d).flash = s.flash := by
  obtain ⟨_, _, _, h⟩ := alarm_frame s b on d; rw [h]
@[simp] theorem alarm_time (b : Nat) (on : Bool) (d : Nat) : (s.alarm b on d).time = s.time := by
  obtain ⟨_, _, _, h⟩ := alarm_frame s b on d; rw [h]
@[simp] theorem alarm_p7 (b : Nat) (on : Bool) (d : Nat) : (s.alarm b on d).p7 = s.p7 := by
  obtain ⟨_, _, _, h⟩ := alarm_frame s b on d; rw [h]
@[simp] theorem alarm_sec (b : Nat) (on : Bool) (d : Nat) : (s.alarm b on d).sec = s.sec := by
  obtain ⟨_, _, _, h⟩ := alarm_frame s b on d; rw [h]
@[simp] theorem alarm_diag (b : Nat) (on : Bool) (d : Nat) : (s.alarm b on d).diag = s.diag := by
  obtain ⟨_, _, _, h⟩ := alarm_frame s b on d; rw [h]
@[simp] theorem alarm_fns (b : Nat) (on : Bool) (d : Nat) : (s.alarm b on d).fns = s.fns := by
  obtain ⟨_, _, _, h⟩ := alarm_frame s b on d; rw [h]
@[simp] theorem alarm_sched (b : Nat) (on : Bool) (d : Nat) : (s.alarm b on d).sched = s.sched := by
  obtain ⟨_, _, _, h⟩ := alarm_frame s b on d; rw [h]
@[simp] theorem alarm_dma (b : Nat) (on : Bool) (d : Nat) : (s.alarm b on d).dma = s.dma := by
  obtain ⟨_, _, _, h⟩ := alarm_frame s b on d; rw [h]
@[simp] theorem alarm_ports (b : Nat) (on : Bool) (d : Nat) : (s.alarm b on d).ports = s.ports := by
  obtain ⟨_, _, _, h⟩ := alarm_frame s b on d; rw [h]
@[simp] theorem alarm_sw (b : Nat) (on : Bool) (d : Nat) : (s.alarm b on d).sw = s.sw := by
  obtain ⟨_, _, _, h⟩ := alarm_frame s b on d; rw [h]
@[simp] theorem alarm_goose (b : Nat) (on : Bool) (d : Nat) : (s.alarm b on d).goose = s.goose := by
  obtain ⟨_, _, _, h⟩ := alarm_frame s b on d; rw [h]
@[simp] theorem alarm_sv (b : Nat) (on : Bool) (d : Nat) : (s.alarm b on d).sv = s.sv := by
  obtain ⟨_, _, _, h⟩ := alarm_frame s b on d; rw [h]
@[simp] theorem alarm_aln (b : Nat) (on : Bool) (d : Nat) : (s.alarm b on d).aln = s.aln := by
  obtain ⟨_, _, _, h⟩ := alarm_frame s b on d; rw [h]
@[simp] theorem alarm_ph (b : Nat) (on : Bool) (d : Nat) : (s.alarm b on d).ph = s.ph := by
  obtain ⟨_, _, _, h⟩ := alarm_frame s b on d; rw [h]
@[simp] theorem alarm_grd (b : Nat) (on : Bool) (d : Nat) : (s.alarm b on d).grd = s.grd := by
  obtain ⟨_, _, _, h⟩ := alarm_frame s b on d; rw [h]
@[simp] theorem alarm_logic (b : Nat) (on : Bool) (d : Nat) : (s.alarm b on d).logic = s.logic := by
  obtain ⟨_, _, _, h⟩ := alarm_frame s b on d; rw [h]
@[simp] theorem alarm_brio (b : Nat) (on : Bool) (d : Nat) : (s.alarm b on d).brio = s.brio := by
  obtain ⟨_, _, _, h⟩ := alarm_frame s b on d; rw [h]
@[simp] theorem alarm_safe (b : Nat) (on : Bool) (d : Nat) : (s.alarm b on d).safe = s.safe := by
  obtain ⟨_, _, _, h⟩ := alarm_frame s b on d; rw [h]
@[simp] theorem alarm_red (b : Nat) (on : Bool) (d : Nat) : (s.alarm b on d).red = s.red := by
  obtain ⟨_, _, _, h⟩ := alarm_frame s b on d; rw [h]
@[simp] theorem alarm_acq (b : Nat) (on : Bool) (d : Nat) : (s.alarm b on d).acq = s.acq := by
  obtain ⟨_, _, _, h⟩ := alarm_frame s b on d; rw [h]
@[simp] theorem alarm_stg (b : Nat) (on : Bool) (d : Nat) : (s.alarm b on d).stg = s.stg := by
  obtain ⟨_, _, _, h⟩ := alarm_frame s b on d; rw [h]
@[simp] theorem alarm_mem (b : Nat) (on : Bool) (d : Nat) : (s.alarm b on d).mem = s.mem := by
  obtain ⟨_, _, _, h⟩ := alarm_frame s b on d; rw [h]
@[simp] theorem alarm_rtc (b : Nat) (on : Bool) (d : Nat) : (s.alarm b on d).rtc = s.rtc := by
  obtain ⟨_, _, _, h⟩ := alarm_frame s b on d; rw [h]
@[simp] theorem alarm_cfg (b : Nat) (on : Bool) (d : Nat) : (s.alarm b on d).cfg = s.cfg := by
  obtain ⟨_, _, _, h⟩ := alarm_frame s b on d; rw [h]
@[simp] theorem alarm_stored (b : Nat) (on : Bool) (d : Nat) : (s.alarm b on d).stored = s.stored := by
  obtain ⟨_, _, _, h⟩ := alarm_frame s b on d; rw [h]

/-! ## counted -/

@[simp] theorem counted_pending (n o p x : Nat) : (s.counted n o p x).pending = s.pending := by
  obtain ⟨_, _, _, h⟩ := counted_frame s n o p x; rw [h]
@[simp] theorem counted_free (n o p x : Nat) : (s.counted n o p x).free = s.free := by
  obtain ⟨_, _, _, h⟩ := counted_frame s n o p x; rw [h]
@[simp] theorem counted_mod (n o p x : Nat) : (s.counted n o p x).mod = s.mod := by
  obtain ⟨_, _, _, h⟩ := counted_frame s n o p x; rw [h]
@[simp] theorem counted_power (n o p x : Nat) : (s.counted n o p x).power = s.power := by
  obtain ⟨_, _, _, h⟩ := counted_frame s n o p x; rw [h]
@[simp] theorem counted_flash (n o p x : Nat) : (s.counted n o p x).flash = s.flash := by
  obtain ⟨_, _, _, h⟩ := counted_frame s n o p x; rw [h]
@[simp] theorem counted_time (n o p x : Nat) : (s.counted n o p x).time = s.time := by
  obtain ⟨_, _, _, h⟩ := counted_frame s n o p x; rw [h]
@[simp] theorem counted_p7 (n o p x : Nat) : (s.counted n o p x).p7 = s.p7 := by
  obtain ⟨_, _, _, h⟩ := counted_frame s n o p x; rw [h]
@[simp] theorem counted_sec (n o p x : Nat) : (s.counted n o p x).sec = s.sec := by
  obtain ⟨_, _, _, h⟩ := counted_frame s n o p x; rw [h]
@[simp] theorem counted_diag (n o p x : Nat) : (s.counted n o p x).diag = s.diag := by
  obtain ⟨_, _, _, h⟩ := counted_frame s n o p x; rw [h]
@[simp] theorem counted_fns (n o p x : Nat) : (s.counted n o p x).fns = s.fns := by
  obtain ⟨_, _, _, h⟩ := counted_frame s n o p x; rw [h]
@[simp] theorem counted_sched (n o p x : Nat) : (s.counted n o p x).sched = s.sched := by
  obtain ⟨_, _, _, h⟩ := counted_frame s n o p x; rw [h]
@[simp] theorem counted_dma (n o p x : Nat) : (s.counted n o p x).dma = s.dma := by
  obtain ⟨_, _, _, h⟩ := counted_frame s n o p x; rw [h]
@[simp] theorem counted_ports (n o p x : Nat) : (s.counted n o p x).ports = s.ports := by
  obtain ⟨_, _, _, h⟩ := counted_frame s n o p x; rw [h]
@[simp] theorem counted_sw (n o p x : Nat) : (s.counted n o p x).sw = s.sw := by
  obtain ⟨_, _, _, h⟩ := counted_frame s n o p x; rw [h]
@[simp] theorem counted_goose (n o p x : Nat) : (s.counted n o p x).goose = s.goose := by
  obtain ⟨_, _, _, h⟩ := counted_frame s n o p x; rw [h]
@[simp] theorem counted_sv (n o p x : Nat) : (s.counted n o p x).sv = s.sv := by
  obtain ⟨_, _, _, h⟩ := counted_frame s n o p x; rw [h]
@[simp] theorem counted_aln (n o p x : Nat) : (s.counted n o p x).aln = s.aln := by
  obtain ⟨_, _, _, h⟩ := counted_frame s n o p x; rw [h]
@[simp] theorem counted_ph (n o p x : Nat) : (s.counted n o p x).ph = s.ph := by
  obtain ⟨_, _, _, h⟩ := counted_frame s n o p x; rw [h]
@[simp] theorem counted_grd (n o p x : Nat) : (s.counted n o p x).grd = s.grd := by
  obtain ⟨_, _, _, h⟩ := counted_frame s n o p x; rw [h]
@[simp] theorem counted_logic (n o p x : Nat) : (s.counted n o p x).logic = s.logic := by
  obtain ⟨_, _, _, h⟩ := counted_frame s n o p x; rw [h]
@[simp] theorem counted_brio (n o p x : Nat) : (s.counted n o p x).brio = s.brio := by
  obtain ⟨_, _, _, h⟩ := counted_frame s n o p x; rw [h]
@[simp] theorem counted_safe (n o p x : Nat) : (s.counted n o p x).safe = s.safe := by
  obtain ⟨_, _, _, h⟩ := counted_frame s n o p x; rw [h]
@[simp] theorem counted_red (n o p x : Nat) : (s.counted n o p x).red = s.red := by
  obtain ⟨_, _, _, h⟩ := counted_frame s n o p x; rw [h]
@[simp] theorem counted_acq (n o p x : Nat) : (s.counted n o p x).acq = s.acq := by
  obtain ⟨_, _, _, h⟩ := counted_frame s n o p x; rw [h]
@[simp] theorem counted_stg (n o p x : Nat) : (s.counted n o p x).stg = s.stg := by
  obtain ⟨_, _, _, h⟩ := counted_frame s n o p x; rw [h]
@[simp] theorem counted_mem (n o p x : Nat) : (s.counted n o p x).mem = s.mem := by
  obtain ⟨_, _, _, h⟩ := counted_frame s n o p x; rw [h]
@[simp] theorem counted_rtc (n o p x : Nat) : (s.counted n o p x).rtc = s.rtc := by
  obtain ⟨_, _, _, h⟩ := counted_frame s n o p x; rw [h]
@[simp] theorem counted_cfg (n o p x : Nat) : (s.counted n o p x).cfg = s.cfg := by
  obtain ⟨_, _, _, h⟩ := counted_frame s n o p x; rw [h]
@[simp] theorem counted_stored (n o p x : Nat) : (s.counted n o p x).stored = s.stored := by
  obtain ⟨_, _, _, h⟩ := counted_frame s n o p x; rw [h]

/-! ## portCount -/

@[simp] theorem portCount_pending (p o : Nat) : (s.portCount p o).pending = s.pending := by
  obtain ⟨_, _, h⟩ := portCount_frame s p o; rw [h]
@[simp] theorem portCount_free (p o : Nat) : (s.portCount p o).free = s.free := by
  obtain ⟨_, _, h⟩ := portCount_frame s p o; rw [h]
@[simp] theorem portCount_mod (p o : Nat) : (s.portCount p o).mod = s.mod := by
  obtain ⟨_, _, h⟩ := portCount_frame s p o; rw [h]
@[simp] theorem portCount_power (p o : Nat) : (s.portCount p o).power = s.power := by
  obtain ⟨_, _, h⟩ := portCount_frame s p o; rw [h]
@[simp] theorem portCount_ao (p o : Nat) : (s.portCount p o).ao = s.ao := by
  obtain ⟨_, _, h⟩ := portCount_frame s p o; rw [h]
@[simp] theorem portCount_flash (p o : Nat) : (s.portCount p o).flash = s.flash := by
  obtain ⟨_, _, h⟩ := portCount_frame s p o; rw [h]
@[simp] theorem portCount_time (p o : Nat) : (s.portCount p o).time = s.time := by
  obtain ⟨_, _, h⟩ := portCount_frame s p o; rw [h]
@[simp] theorem portCount_p7 (p o : Nat) : (s.portCount p o).p7 = s.p7 := by
  obtain ⟨_, _, h⟩ := portCount_frame s p o; rw [h]
@[simp] theorem portCount_firn (p o : Nat) : (s.portCount p o).firn = s.firn := by
  obtain ⟨_, _, h⟩ := portCount_frame s p o; rw [h]
@[simp] theorem portCount_sec (p o : Nat) : (s.portCount p o).sec = s.sec := by
  obtain ⟨_, _, h⟩ := portCount_frame s p o; rw [h]
@[simp] theorem portCount_diag (p o : Nat) : (s.portCount p o).diag = s.diag := by
  obtain ⟨_, _, h⟩ := portCount_frame s p o; rw [h]
@[simp] theorem portCount_fns (p o : Nat) : (s.portCount p o).fns = s.fns := by
  obtain ⟨_, _, h⟩ := portCount_frame s p o; rw [h]
@[simp] theorem portCount_sched (p o : Nat) : (s.portCount p o).sched = s.sched := by
  obtain ⟨_, _, h⟩ := portCount_frame s p o; rw [h]
@[simp] theorem portCount_dma (p o : Nat) : (s.portCount p o).dma = s.dma := by
  obtain ⟨_, _, h⟩ := portCount_frame s p o; rw [h]
@[simp] theorem portCount_sw (p o : Nat) : (s.portCount p o).sw = s.sw := by
  obtain ⟨_, _, h⟩ := portCount_frame s p o; rw [h]
@[simp] theorem portCount_goose (p o : Nat) : (s.portCount p o).goose = s.goose := by
  obtain ⟨_, _, h⟩ := portCount_frame s p o; rw [h]
@[simp] theorem portCount_sv (p o : Nat) : (s.portCount p o).sv = s.sv := by
  obtain ⟨_, _, h⟩ := portCount_frame s p o; rw [h]
@[simp] theorem portCount_aln (p o : Nat) : (s.portCount p o).aln = s.aln := by
  obtain ⟨_, _, h⟩ := portCount_frame s p o; rw [h]
@[simp] theorem portCount_ph (p o : Nat) : (s.portCount p o).ph = s.ph := by
  obtain ⟨_, _, h⟩ := portCount_frame s p o; rw [h]
@[simp] theorem portCount_grd (p o : Nat) : (s.portCount p o).grd = s.grd := by
  obtain ⟨_, _, h⟩ := portCount_frame s p o; rw [h]
@[simp] theorem portCount_logic (p o : Nat) : (s.portCount p o).logic = s.logic := by
  obtain ⟨_, _, h⟩ := portCount_frame s p o; rw [h]
@[simp] theorem portCount_brio (p o : Nat) : (s.portCount p o).brio = s.brio := by
  obtain ⟨_, _, h⟩ := portCount_frame s p o; rw [h]
@[simp] theorem portCount_safe (p o : Nat) : (s.portCount p o).safe = s.safe := by
  obtain ⟨_, _, h⟩ := portCount_frame s p o; rw [h]
@[simp] theorem portCount_red (p o : Nat) : (s.portCount p o).red = s.red := by
  obtain ⟨_, _, h⟩ := portCount_frame s p o; rw [h]
@[simp] theorem portCount_acq (p o : Nat) : (s.portCount p o).acq = s.acq := by
  obtain ⟨_, _, h⟩ := portCount_frame s p o; rw [h]
@[simp] theorem portCount_stg (p o : Nat) : (s.portCount p o).stg = s.stg := by
  obtain ⟨_, _, h⟩ := portCount_frame s p o; rw [h]
@[simp] theorem portCount_mem (p o : Nat) : (s.portCount p o).mem = s.mem := by
  obtain ⟨_, _, h⟩ := portCount_frame s p o; rw [h]
@[simp] theorem portCount_rtc (p o : Nat) : (s.portCount p o).rtc = s.rtc := by
  obtain ⟨_, _, h⟩ := portCount_frame s p o; rw [h]
@[simp] theorem portCount_cfg (p o : Nat) : (s.portCount p o).cfg = s.cfg := by
  obtain ⟨_, _, h⟩ := portCount_frame s p o; rw [h]
@[simp] theorem portCount_stored (p o : Nat) : (s.portCount p o).stored = s.stored := by
  obtain ⟨_, _, h⟩ := portCount_frame s p o; rw [h]

/-! ## portAdd -/

@[simp] theorem portAdd_pending (p o n : Nat) : (s.portAdd p o n).pending = s.pending := by
  obtain ⟨_, _, h⟩ := portAdd_frame s p o n; rw [h]
@[simp] theorem portAdd_free (p o n : Nat) : (s.portAdd p o n).free = s.free := by
  obtain ⟨_, _, h⟩ := portAdd_frame s p o n; rw [h]
@[simp] theorem portAdd_mod (p o n : Nat) : (s.portAdd p o n).mod = s.mod := by
  obtain ⟨_, _, h⟩ := portAdd_frame s p o n; rw [h]
@[simp] theorem portAdd_power (p o n : Nat) : (s.portAdd p o n).power = s.power := by
  obtain ⟨_, _, h⟩ := portAdd_frame s p o n; rw [h]
@[simp] theorem portAdd_ao (p o n : Nat) : (s.portAdd p o n).ao = s.ao := by
  obtain ⟨_, _, h⟩ := portAdd_frame s p o n; rw [h]
@[simp] theorem portAdd_flash (p o n : Nat) : (s.portAdd p o n).flash = s.flash := by
  obtain ⟨_, _, h⟩ := portAdd_frame s p o n; rw [h]
@[simp] theorem portAdd_time (p o n : Nat) : (s.portAdd p o n).time = s.time := by
  obtain ⟨_, _, h⟩ := portAdd_frame s p o n; rw [h]
@[simp] theorem portAdd_p7 (p o n : Nat) : (s.portAdd p o n).p7 = s.p7 := by
  obtain ⟨_, _, h⟩ := portAdd_frame s p o n; rw [h]
@[simp] theorem portAdd_firn (p o n : Nat) : (s.portAdd p o n).firn = s.firn := by
  obtain ⟨_, _, h⟩ := portAdd_frame s p o n; rw [h]
@[simp] theorem portAdd_sec (p o n : Nat) : (s.portAdd p o n).sec = s.sec := by
  obtain ⟨_, _, h⟩ := portAdd_frame s p o n; rw [h]
@[simp] theorem portAdd_diag (p o n : Nat) : (s.portAdd p o n).diag = s.diag := by
  obtain ⟨_, _, h⟩ := portAdd_frame s p o n; rw [h]
@[simp] theorem portAdd_fns (p o n : Nat) : (s.portAdd p o n).fns = s.fns := by
  obtain ⟨_, _, h⟩ := portAdd_frame s p o n; rw [h]
@[simp] theorem portAdd_sched (p o n : Nat) : (s.portAdd p o n).sched = s.sched := by
  obtain ⟨_, _, h⟩ := portAdd_frame s p o n; rw [h]
@[simp] theorem portAdd_dma (p o n : Nat) : (s.portAdd p o n).dma = s.dma := by
  obtain ⟨_, _, h⟩ := portAdd_frame s p o n; rw [h]
@[simp] theorem portAdd_sw (p o n : Nat) : (s.portAdd p o n).sw = s.sw := by
  obtain ⟨_, _, h⟩ := portAdd_frame s p o n; rw [h]
@[simp] theorem portAdd_goose (p o n : Nat) : (s.portAdd p o n).goose = s.goose := by
  obtain ⟨_, _, h⟩ := portAdd_frame s p o n; rw [h]
@[simp] theorem portAdd_sv (p o n : Nat) : (s.portAdd p o n).sv = s.sv := by
  obtain ⟨_, _, h⟩ := portAdd_frame s p o n; rw [h]
@[simp] theorem portAdd_aln (p o n : Nat) : (s.portAdd p o n).aln = s.aln := by
  obtain ⟨_, _, h⟩ := portAdd_frame s p o n; rw [h]
@[simp] theorem portAdd_ph (p o n : Nat) : (s.portAdd p o n).ph = s.ph := by
  obtain ⟨_, _, h⟩ := portAdd_frame s p o n; rw [h]
@[simp] theorem portAdd_grd (p o n : Nat) : (s.portAdd p o n).grd = s.grd := by
  obtain ⟨_, _, h⟩ := portAdd_frame s p o n; rw [h]
@[simp] theorem portAdd_logic (p o n : Nat) : (s.portAdd p o n).logic = s.logic := by
  obtain ⟨_, _, h⟩ := portAdd_frame s p o n; rw [h]
@[simp] theorem portAdd_brio (p o n : Nat) : (s.portAdd p o n).brio = s.brio := by
  obtain ⟨_, _, h⟩ := portAdd_frame s p o n; rw [h]
@[simp] theorem portAdd_safe (p o n : Nat) : (s.portAdd p o n).safe = s.safe := by
  obtain ⟨_, _, h⟩ := portAdd_frame s p o n; rw [h]
@[simp] theorem portAdd_red (p o n : Nat) : (s.portAdd p o n).red = s.red := by
  obtain ⟨_, _, h⟩ := portAdd_frame s p o n; rw [h]
@[simp] theorem portAdd_acq (p o n : Nat) : (s.portAdd p o n).acq = s.acq := by
  obtain ⟨_, _, h⟩ := portAdd_frame s p o n; rw [h]
@[simp] theorem portAdd_stg (p o n : Nat) : (s.portAdd p o n).stg = s.stg := by
  obtain ⟨_, _, h⟩ := portAdd_frame s p o n; rw [h]
@[simp] theorem portAdd_mem (p o n : Nat) : (s.portAdd p o n).mem = s.mem := by
  obtain ⟨_, _, h⟩ := portAdd_frame s p o n; rw [h]
@[simp] theorem portAdd_rtc (p o n : Nat) : (s.portAdd p o n).rtc = s.rtc := by
  obtain ⟨_, _, h⟩ := portAdd_frame s p o n; rw [h]
@[simp] theorem portAdd_cfg (p o n : Nat) : (s.portAdd p o n).cfg = s.cfg := by
  obtain ⟨_, _, h⟩ := portAdd_frame s p o n; rw [h]
@[simp] theorem portAdd_stored (p o n : Nat) : (s.portAdd p o n).stored = s.stored := by
  obtain ⟨_, _, h⟩ := portAdd_frame s p o n; rw [h]

/-! ## setExec -/

@[simp] theorem setExec_pending (p : Path) (e : Option Exec) : (s.setExec p e).pending = s.pending := by
  obtain ⟨_, _, h⟩ := setExec_frame s p e; rw [h]
@[simp] theorem setExec_free (p : Path) (e : Option Exec) : (s.setExec p e).free = s.free := by
  obtain ⟨_, _, h⟩ := setExec_frame s p e; rw [h]
@[simp] theorem setExec_mod (p : Path) (e : Option Exec) : (s.setExec p e).mod = s.mod := by
  obtain ⟨_, _, h⟩ := setExec_frame s p e; rw [h]
@[simp] theorem setExec_power (p : Path) (e : Option Exec) : (s.setExec p e).power = s.power := by
  obtain ⟨_, _, h⟩ := setExec_frame s p e; rw [h]
@[simp] theorem setExec_ao (p : Path) (e : Option Exec) : (s.setExec p e).ao = s.ao := by
  obtain ⟨_, _, h⟩ := setExec_frame s p e; rw [h]
@[simp] theorem setExec_flash (p : Path) (e : Option Exec) : (s.setExec p e).flash = s.flash := by
  obtain ⟨_, _, h⟩ := setExec_frame s p e; rw [h]
@[simp] theorem setExec_time (p : Path) (e : Option Exec) : (s.setExec p e).time = s.time := by
  obtain ⟨_, _, h⟩ := setExec_frame s p e; rw [h]
@[simp] theorem setExec_firn (p : Path) (e : Option Exec) : (s.setExec p e).firn = s.firn := by
  obtain ⟨_, _, h⟩ := setExec_frame s p e; rw [h]
@[simp] theorem setExec_sec (p : Path) (e : Option Exec) : (s.setExec p e).sec = s.sec := by
  obtain ⟨_, _, h⟩ := setExec_frame s p e; rw [h]
@[simp] theorem setExec_diag (p : Path) (e : Option Exec) : (s.setExec p e).diag = s.diag := by
  obtain ⟨_, _, h⟩ := setExec_frame s p e; rw [h]
@[simp] theorem setExec_fns (p : Path) (e : Option Exec) : (s.setExec p e).fns = s.fns := by
  obtain ⟨_, _, h⟩ := setExec_frame s p e; rw [h]
@[simp] theorem setExec_sched (p : Path) (e : Option Exec) : (s.setExec p e).sched = s.sched := by
  obtain ⟨_, _, h⟩ := setExec_frame s p e; rw [h]
@[simp] theorem setExec_dma (p : Path) (e : Option Exec) : (s.setExec p e).dma = s.dma := by
  obtain ⟨_, _, h⟩ := setExec_frame s p e; rw [h]
@[simp] theorem setExec_ports (p : Path) (e : Option Exec) : (s.setExec p e).ports = s.ports := by
  obtain ⟨_, _, h⟩ := setExec_frame s p e; rw [h]
@[simp] theorem setExec_sw (p : Path) (e : Option Exec) : (s.setExec p e).sw = s.sw := by
  obtain ⟨_, _, h⟩ := setExec_frame s p e; rw [h]
@[simp] theorem setExec_goose (p : Path) (e : Option Exec) : (s.setExec p e).goose = s.goose := by
  obtain ⟨_, _, h⟩ := setExec_frame s p e; rw [h]
@[simp] theorem setExec_sv (p : Path) (e : Option Exec) : (s.setExec p e).sv = s.sv := by
  obtain ⟨_, _, h⟩ := setExec_frame s p e; rw [h]
@[simp] theorem setExec_aln (p : Path) (e : Option Exec) : (s.setExec p e).aln = s.aln := by
  obtain ⟨_, _, h⟩ := setExec_frame s p e; rw [h]
@[simp] theorem setExec_ph (p : Path) (e : Option Exec) : (s.setExec p e).ph = s.ph := by
  obtain ⟨_, _, h⟩ := setExec_frame s p e; rw [h]
@[simp] theorem setExec_grd (p : Path) (e : Option Exec) : (s.setExec p e).grd = s.grd := by
  obtain ⟨_, _, h⟩ := setExec_frame s p e; rw [h]
@[simp] theorem setExec_logic (p : Path) (e : Option Exec) : (s.setExec p e).logic = s.logic := by
  obtain ⟨_, _, h⟩ := setExec_frame s p e; rw [h]
@[simp] theorem setExec_brio (p : Path) (e : Option Exec) : (s.setExec p e).brio = s.brio := by
  obtain ⟨_, _, h⟩ := setExec_frame s p e; rw [h]
@[simp] theorem setExec_safe (p : Path) (e : Option Exec) : (s.setExec p e).safe = s.safe := by
  obtain ⟨_, _, h⟩ := setExec_frame s p e; rw [h]
@[simp] theorem setExec_red (p : Path) (e : Option Exec) : (s.setExec p e).red = s.red := by
  obtain ⟨_, _, h⟩ := setExec_frame s p e; rw [h]
@[simp] theorem setExec_acq (p : Path) (e : Option Exec) : (s.setExec p e).acq = s.acq := by
  obtain ⟨_, _, h⟩ := setExec_frame s p e; rw [h]
@[simp] theorem setExec_stg (p : Path) (e : Option Exec) : (s.setExec p e).stg = s.stg := by
  obtain ⟨_, _, h⟩ := setExec_frame s p e; rw [h]
@[simp] theorem setExec_mem (p : Path) (e : Option Exec) : (s.setExec p e).mem = s.mem := by
  obtain ⟨_, _, h⟩ := setExec_frame s p e; rw [h]
@[simp] theorem setExec_rtc (p : Path) (e : Option Exec) : (s.setExec p e).rtc = s.rtc := by
  obtain ⟨_, _, h⟩ := setExec_frame s p e; rw [h]
@[simp] theorem setExec_cfg (p : Path) (e : Option Exec) : (s.setExec p e).cfg = s.cfg := by
  obtain ⟨_, _, h⟩ := setExec_frame s p e; rw [h]
@[simp] theorem setExec_stored (p : Path) (e : Option Exec) : (s.setExec p e).stored = s.stored := by
  obtain ⟨_, _, h⟩ := setExec_frame s p e; rw [h]

/-! ## setNonce -/

@[simp] theorem setNonce_pending (p : Path) (v : Option (Bytes × Nat)) : (s.setNonce p v).pending = s.pending := by
  obtain ⟨_, _, h⟩ := setNonce_frame s p v; rw [h]
@[simp] theorem setNonce_free (p : Path) (v : Option (Bytes × Nat)) : (s.setNonce p v).free = s.free := by
  obtain ⟨_, _, h⟩ := setNonce_frame s p v; rw [h]
@[simp] theorem setNonce_mod (p : Path) (v : Option (Bytes × Nat)) : (s.setNonce p v).mod = s.mod := by
  obtain ⟨_, _, h⟩ := setNonce_frame s p v; rw [h]
@[simp] theorem setNonce_power (p : Path) (v : Option (Bytes × Nat)) : (s.setNonce p v).power = s.power := by
  obtain ⟨_, _, h⟩ := setNonce_frame s p v; rw [h]
@[simp] theorem setNonce_ao (p : Path) (v : Option (Bytes × Nat)) : (s.setNonce p v).ao = s.ao := by
  obtain ⟨_, _, h⟩ := setNonce_frame s p v; rw [h]
@[simp] theorem setNonce_flash (p : Path) (v : Option (Bytes × Nat)) : (s.setNonce p v).flash = s.flash := by
  obtain ⟨_, _, h⟩ := setNonce_frame s p v; rw [h]
@[simp] theorem setNonce_time (p : Path) (v : Option (Bytes × Nat)) : (s.setNonce p v).time = s.time := by
  obtain ⟨_, _, h⟩ := setNonce_frame s p v; rw [h]
@[simp] theorem setNonce_firn (p : Path) (v : Option (Bytes × Nat)) : (s.setNonce p v).firn = s.firn := by
  obtain ⟨_, _, h⟩ := setNonce_frame s p v; rw [h]
@[simp] theorem setNonce_sec (p : Path) (v : Option (Bytes × Nat)) : (s.setNonce p v).sec = s.sec := by
  obtain ⟨_, _, h⟩ := setNonce_frame s p v; rw [h]
@[simp] theorem setNonce_diag (p : Path) (v : Option (Bytes × Nat)) : (s.setNonce p v).diag = s.diag := by
  obtain ⟨_, _, h⟩ := setNonce_frame s p v; rw [h]
@[simp] theorem setNonce_fns (p : Path) (v : Option (Bytes × Nat)) : (s.setNonce p v).fns = s.fns := by
  obtain ⟨_, _, h⟩ := setNonce_frame s p v; rw [h]
@[simp] theorem setNonce_sched (p : Path) (v : Option (Bytes × Nat)) : (s.setNonce p v).sched = s.sched := by
  obtain ⟨_, _, h⟩ := setNonce_frame s p v; rw [h]
@[simp] theorem setNonce_dma (p : Path) (v : Option (Bytes × Nat)) : (s.setNonce p v).dma = s.dma := by
  obtain ⟨_, _, h⟩ := setNonce_frame s p v; rw [h]
@[simp] theorem setNonce_ports (p : Path) (v : Option (Bytes × Nat)) : (s.setNonce p v).ports = s.ports := by
  obtain ⟨_, _, h⟩ := setNonce_frame s p v; rw [h]
@[simp] theorem setNonce_sw (p : Path) (v : Option (Bytes × Nat)) : (s.setNonce p v).sw = s.sw := by
  obtain ⟨_, _, h⟩ := setNonce_frame s p v; rw [h]
@[simp] theorem setNonce_goose (p : Path) (v : Option (Bytes × Nat)) : (s.setNonce p v).goose = s.goose := by
  obtain ⟨_, _, h⟩ := setNonce_frame s p v; rw [h]
@[simp] theorem setNonce_sv (p : Path) (v : Option (Bytes × Nat)) : (s.setNonce p v).sv = s.sv := by
  obtain ⟨_, _, h⟩ := setNonce_frame s p v; rw [h]
@[simp] theorem setNonce_aln (p : Path) (v : Option (Bytes × Nat)) : (s.setNonce p v).aln = s.aln := by
  obtain ⟨_, _, h⟩ := setNonce_frame s p v; rw [h]
@[simp] theorem setNonce_ph (p : Path) (v : Option (Bytes × Nat)) : (s.setNonce p v).ph = s.ph := by
  obtain ⟨_, _, h⟩ := setNonce_frame s p v; rw [h]
@[simp] theorem setNonce_grd (p : Path) (v : Option (Bytes × Nat)) : (s.setNonce p v).grd = s.grd := by
  obtain ⟨_, _, h⟩ := setNonce_frame s p v; rw [h]
@[simp] theorem setNonce_logic (p : Path) (v : Option (Bytes × Nat)) : (s.setNonce p v).logic = s.logic := by
  obtain ⟨_, _, h⟩ := setNonce_frame s p v; rw [h]
@[simp] theorem setNonce_brio (p : Path) (v : Option (Bytes × Nat)) : (s.setNonce p v).brio = s.brio := by
  obtain ⟨_, _, h⟩ := setNonce_frame s p v; rw [h]
@[simp] theorem setNonce_safe (p : Path) (v : Option (Bytes × Nat)) : (s.setNonce p v).safe = s.safe := by
  obtain ⟨_, _, h⟩ := setNonce_frame s p v; rw [h]
@[simp] theorem setNonce_red (p : Path) (v : Option (Bytes × Nat)) : (s.setNonce p v).red = s.red := by
  obtain ⟨_, _, h⟩ := setNonce_frame s p v; rw [h]
@[simp] theorem setNonce_acq (p : Path) (v : Option (Bytes × Nat)) : (s.setNonce p v).acq = s.acq := by
  obtain ⟨_, _, h⟩ := setNonce_frame s p v; rw [h]
@[simp] theorem setNonce_stg (p : Path) (v : Option (Bytes × Nat)) : (s.setNonce p v).stg = s.stg := by
  obtain ⟨_, _, h⟩ := setNonce_frame s p v; rw [h]
@[simp] theorem setNonce_mem (p : Path) (v : Option (Bytes × Nat)) : (s.setNonce p v).mem = s.mem := by
  obtain ⟨_, _, h⟩ := setNonce_frame s p v; rw [h]
@[simp] theorem setNonce_rtc (p : Path) (v : Option (Bytes × Nat)) : (s.setNonce p v).rtc = s.rtc := by
  obtain ⟨_, _, h⟩ := setNonce_frame s p v; rw [h]
@[simp] theorem setNonce_cfg (p : Path) (v : Option (Bytes × Nat)) : (s.setNonce p v).cfg = s.cfg := by
  obtain ⟨_, _, h⟩ := setNonce_frame s p v; rw [h]
@[simp] theorem setNonce_stored (p : Path) (v : Option (Bytes × Nat)) : (s.setNonce p v).stored = s.stored := by
  obtain ⟨_, _, h⟩ := setNonce_frame s p v; rw [h]

/-! ## raiseCq -/

@[simp] theorem raiseCq_pending (p : Path) : (s.raiseCq p).pending = s.pending := by
  obtain ⟨_, _, h⟩ := raiseCq_frame s p; rw [h]
@[simp] theorem raiseCq_free (p : Path) : (s.raiseCq p).free = s.free := by
  obtain ⟨_, _, h⟩ := raiseCq_frame s p; rw [h]
@[simp] theorem raiseCq_mod (p : Path) : (s.raiseCq p).mod = s.mod := by
  obtain ⟨_, _, h⟩ := raiseCq_frame s p; rw [h]
@[simp] theorem raiseCq_power (p : Path) : (s.raiseCq p).power = s.power := by
  obtain ⟨_, _, h⟩ := raiseCq_frame s p; rw [h]
@[simp] theorem raiseCq_ao (p : Path) : (s.raiseCq p).ao = s.ao := by
  obtain ⟨_, _, h⟩ := raiseCq_frame s p; rw [h]
@[simp] theorem raiseCq_flash (p : Path) : (s.raiseCq p).flash = s.flash := by
  obtain ⟨_, _, h⟩ := raiseCq_frame s p; rw [h]
@[simp] theorem raiseCq_time (p : Path) : (s.raiseCq p).time = s.time := by
  obtain ⟨_, _, h⟩ := raiseCq_frame s p; rw [h]
@[simp] theorem raiseCq_p7 (p : Path) : (s.raiseCq p).p7 = s.p7 := by
  obtain ⟨_, _, h⟩ := raiseCq_frame s p; rw [h]
@[simp] theorem raiseCq_firn (p : Path) : (s.raiseCq p).firn = s.firn := by
  obtain ⟨_, _, h⟩ := raiseCq_frame s p; rw [h]
@[simp] theorem raiseCq_sec (p : Path) : (s.raiseCq p).sec = s.sec := by
  obtain ⟨_, _, h⟩ := raiseCq_frame s p; rw [h]
@[simp] theorem raiseCq_diag (p : Path) : (s.raiseCq p).diag = s.diag := by
  obtain ⟨_, _, h⟩ := raiseCq_frame s p; rw [h]
@[simp] theorem raiseCq_sched (p : Path) : (s.raiseCq p).sched = s.sched := by
  obtain ⟨_, _, h⟩ := raiseCq_frame s p; rw [h]
@[simp] theorem raiseCq_dma (p : Path) : (s.raiseCq p).dma = s.dma := by
  obtain ⟨_, _, h⟩ := raiseCq_frame s p; rw [h]
@[simp] theorem raiseCq_ports (p : Path) : (s.raiseCq p).ports = s.ports := by
  obtain ⟨_, _, h⟩ := raiseCq_frame s p; rw [h]
@[simp] theorem raiseCq_sw (p : Path) : (s.raiseCq p).sw = s.sw := by
  obtain ⟨_, _, h⟩ := raiseCq_frame s p; rw [h]
@[simp] theorem raiseCq_goose (p : Path) : (s.raiseCq p).goose = s.goose := by
  obtain ⟨_, _, h⟩ := raiseCq_frame s p; rw [h]
@[simp] theorem raiseCq_sv (p : Path) : (s.raiseCq p).sv = s.sv := by
  obtain ⟨_, _, h⟩ := raiseCq_frame s p; rw [h]
@[simp] theorem raiseCq_aln (p : Path) : (s.raiseCq p).aln = s.aln := by
  obtain ⟨_, _, h⟩ := raiseCq_frame s p; rw [h]
@[simp] theorem raiseCq_ph (p : Path) : (s.raiseCq p).ph = s.ph := by
  obtain ⟨_, _, h⟩ := raiseCq_frame s p; rw [h]
@[simp] theorem raiseCq_grd (p : Path) : (s.raiseCq p).grd = s.grd := by
  obtain ⟨_, _, h⟩ := raiseCq_frame s p; rw [h]
@[simp] theorem raiseCq_logic (p : Path) : (s.raiseCq p).logic = s.logic := by
  obtain ⟨_, _, h⟩ := raiseCq_frame s p; rw [h]
@[simp] theorem raiseCq_brio (p : Path) : (s.raiseCq p).brio = s.brio := by
  obtain ⟨_, _, h⟩ := raiseCq_frame s p; rw [h]
@[simp] theorem raiseCq_safe (p : Path) : (s.raiseCq p).safe = s.safe := by
  obtain ⟨_, _, h⟩ := raiseCq_frame s p; rw [h]
@[simp] theorem raiseCq_red (p : Path) : (s.raiseCq p).red = s.red := by
  obtain ⟨_, _, h⟩ := raiseCq_frame s p; rw [h]
@[simp] theorem raiseCq_acq (p : Path) : (s.raiseCq p).acq = s.acq := by
  obtain ⟨_, _, h⟩ := raiseCq_frame s p; rw [h]
@[simp] theorem raiseCq_stg (p : Path) : (s.raiseCq p).stg = s.stg := by
  obtain ⟨_, _, h⟩ := raiseCq_frame s p; rw [h]
@[simp] theorem raiseCq_mem (p : Path) : (s.raiseCq p).mem = s.mem := by
  obtain ⟨_, _, h⟩ := raiseCq_frame s p; rw [h]
@[simp] theorem raiseCq_rtc (p : Path) : (s.raiseCq p).rtc = s.rtc := by
  obtain ⟨_, _, h⟩ := raiseCq_frame s p; rw [h]
@[simp] theorem raiseCq_cfg (p : Path) : (s.raiseCq p).cfg = s.cfg := by
  obtain ⟨_, _, h⟩ := raiseCq_frame s p; rw [h]
@[simp] theorem raiseCq_stored (p : Path) : (s.raiseCq p).stored = s.stored := by
  obtain ⟨_, _, h⟩ := raiseCq_frame s p; rw [h]

/-! ## logWrite -/

@[simp] theorem logWrite_pending (n a l : Nat) : (s.logWrite n a l).pending = s.pending := by
  obtain ⟨_, h⟩ := logWrite_frame s n a l; rw [h]
@[simp] theorem logWrite_free (n a l : Nat) : (s.logWrite n a l).free = s.free := by
  obtain ⟨_, h⟩ := logWrite_frame s n a l; rw [h]
@[simp] theorem logWrite_mod (n a l : Nat) : (s.logWrite n a l).mod = s.mod := by
  obtain ⟨_, h⟩ := logWrite_frame s n a l; rw [h]
@[simp] theorem logWrite_power (n a l : Nat) : (s.logWrite n a l).power = s.power := by
  obtain ⟨_, h⟩ := logWrite_frame s n a l; rw [h]
@[simp] theorem logWrite_ao (n a l : Nat) : (s.logWrite n a l).ao = s.ao := by
  obtain ⟨_, h⟩ := logWrite_frame s n a l; rw [h]
@[simp] theorem logWrite_flash (n a l : Nat) : (s.logWrite n a l).flash = s.flash := by
  obtain ⟨_, h⟩ := logWrite_frame s n a l; rw [h]
@[simp] theorem logWrite_time (n a l : Nat) : (s.logWrite n a l).time = s.time := by
  obtain ⟨_, h⟩ := logWrite_frame s n a l; rw [h]
@[simp] theorem logWrite_host (n a l : Nat) : (s.logWrite n a l).host = s.host := by
  obtain ⟨_, h⟩ := logWrite_frame s n a l; rw [h]
@[simp] theorem logWrite_p7 (n a l : Nat) : (s.logWrite n a l).p7 = s.p7 := by
  obtain ⟨_, h⟩ := logWrite_frame s n a l; rw [h]
@[simp] theorem logWrite_firn (n a l : Nat) : (s.logWrite n a l).firn = s.firn := by
  obtain ⟨_, h⟩ := logWrite_frame s n a l; rw [h]
@[simp] theorem logWrite_sec (n a l : Nat) : (s.logWrite n a l).sec = s.sec := by
  obtain ⟨_, h⟩ := logWrite_frame s n a l; rw [h]
@[simp] theorem logWrite_diag (n a l : Nat) : (s.logWrite n a l).diag = s.diag := by
  obtain ⟨_, h⟩ := logWrite_frame s n a l; rw [h]
@[simp] theorem logWrite_sched (n a l : Nat) : (s.logWrite n a l).sched = s.sched := by
  obtain ⟨_, h⟩ := logWrite_frame s n a l; rw [h]
@[simp] theorem logWrite_dma (n a l : Nat) : (s.logWrite n a l).dma = s.dma := by
  obtain ⟨_, h⟩ := logWrite_frame s n a l; rw [h]
@[simp] theorem logWrite_ports (n a l : Nat) : (s.logWrite n a l).ports = s.ports := by
  obtain ⟨_, h⟩ := logWrite_frame s n a l; rw [h]
@[simp] theorem logWrite_sw (n a l : Nat) : (s.logWrite n a l).sw = s.sw := by
  obtain ⟨_, h⟩ := logWrite_frame s n a l; rw [h]
@[simp] theorem logWrite_goose (n a l : Nat) : (s.logWrite n a l).goose = s.goose := by
  obtain ⟨_, h⟩ := logWrite_frame s n a l; rw [h]
@[simp] theorem logWrite_sv (n a l : Nat) : (s.logWrite n a l).sv = s.sv := by
  obtain ⟨_, h⟩ := logWrite_frame s n a l; rw [h]
@[simp] theorem logWrite_aln (n a l : Nat) : (s.logWrite n a l).aln = s.aln := by
  obtain ⟨_, h⟩ := logWrite_frame s n a l; rw [h]
@[simp] theorem logWrite_ph (n a l : Nat) : (s.logWrite n a l).ph = s.ph := by
  obtain ⟨_, h⟩ := logWrite_frame s n a l; rw [h]
@[simp] theorem logWrite_grd (n a l : Nat) : (s.logWrite n a l).grd = s.grd := by
  obtain ⟨_, h⟩ := logWrite_frame s n a l; rw [h]
@[simp] theorem logWrite_logic (n a l : Nat) : (s.logWrite n a l).logic = s.logic := by
  obtain ⟨_, h⟩ := logWrite_frame s n a l; rw [h]
@[simp] theorem logWrite_brio (n a l : Nat) : (s.logWrite n a l).brio = s.brio := by
  obtain ⟨_, h⟩ := logWrite_frame s n a l; rw [h]
@[simp] theorem logWrite_safe (n a l : Nat) : (s.logWrite n a l).safe = s.safe := by
  obtain ⟨_, h⟩ := logWrite_frame s n a l; rw [h]
@[simp] theorem logWrite_red (n a l : Nat) : (s.logWrite n a l).red = s.red := by
  obtain ⟨_, h⟩ := logWrite_frame s n a l; rw [h]
@[simp] theorem logWrite_acq (n a l : Nat) : (s.logWrite n a l).acq = s.acq := by
  obtain ⟨_, h⟩ := logWrite_frame s n a l; rw [h]
@[simp] theorem logWrite_stg (n a l : Nat) : (s.logWrite n a l).stg = s.stg := by
  obtain ⟨_, h⟩ := logWrite_frame s n a l; rw [h]
@[simp] theorem logWrite_mem (n a l : Nat) : (s.logWrite n a l).mem = s.mem := by
  obtain ⟨_, h⟩ := logWrite_frame s n a l; rw [h]
@[simp] theorem logWrite_rtc (n a l : Nat) : (s.logWrite n a l).rtc = s.rtc := by
  obtain ⟨_, h⟩ := logWrite_frame s n a l; rw [h]
@[simp] theorem logWrite_cfg (n a l : Nat) : (s.logWrite n a l).cfg = s.cfg := by
  obtain ⟨_, h⟩ := logWrite_frame s n a l; rw [h]
@[simp] theorem logWrite_stored (n a l : Nat) : (s.logWrite n a l).stored = s.stored := by
  obtain ⟨_, h⟩ := logWrite_frame s n a l; rw [h]

/-! ## post -/

@[simp] theorem post_pending (p : Path) (e : Exec) (st : Nat) (r : Bytes) (x : Option Bytes) : (s.post p e st r x).pending = s.pending := by
  obtain ⟨_, _, _, _, _, h⟩ := post_frame s p e st r x; rw [h]
@[simp] theorem post_free (p : Path) (e : Exec) (st : Nat) (r : Bytes) (x : Option Bytes) : (s.post p e st r x).free = s.free := by
  obtain ⟨_, _, _, _, _, h⟩ := post_frame s p e st r x; rw [h]
@[simp] theorem post_mod (p : Path) (e : Exec) (st : Nat) (r : Bytes) (x : Option Bytes) : (s.post p e st r x).mod = s.mod := by
  obtain ⟨_, _, _, _, _, h⟩ := post_frame s p e st r x; rw [h]
@[simp] theorem post_power (p : Path) (e : Exec) (st : Nat) (r : Bytes) (x : Option Bytes) : (s.post p e st r x).power = s.power := by
  obtain ⟨_, _, _, _, _, h⟩ := post_frame s p e st r x; rw [h]
@[simp] theorem post_flash (p : Path) (e : Exec) (st : Nat) (r : Bytes) (x : Option Bytes) : (s.post p e st r x).flash = s.flash := by
  obtain ⟨_, _, _, _, _, h⟩ := post_frame s p e st r x; rw [h]
@[simp] theorem post_time (p : Path) (e : Exec) (st : Nat) (r : Bytes) (x : Option Bytes) : (s.post p e st r x).time = s.time := by
  obtain ⟨_, _, _, _, _, h⟩ := post_frame s p e st r x; rw [h]
@[simp] theorem post_sec (p : Path) (e : Exec) (st : Nat) (r : Bytes) (x : Option Bytes) : (s.post p e st r x).sec = s.sec := by
  obtain ⟨_, _, _, _, _, h⟩ := post_frame s p e st r x; rw [h]
@[simp] theorem post_diag (p : Path) (e : Exec) (st : Nat) (r : Bytes) (x : Option Bytes) : (s.post p e st r x).diag = s.diag := by
  obtain ⟨_, _, _, _, _, h⟩ := post_frame s p e st r x; rw [h]
@[simp] theorem post_sched (p : Path) (e : Exec) (st : Nat) (r : Bytes) (x : Option Bytes) : (s.post p e st r x).sched = s.sched := by
  obtain ⟨_, _, _, _, _, h⟩ := post_frame s p e st r x; rw [h]
@[simp] theorem post_dma (p : Path) (e : Exec) (st : Nat) (r : Bytes) (x : Option Bytes) : (s.post p e st r x).dma = s.dma := by
  obtain ⟨_, _, _, _, _, h⟩ := post_frame s p e st r x; rw [h]
@[simp] theorem post_ports (p : Path) (e : Exec) (st : Nat) (r : Bytes) (x : Option Bytes) : (s.post p e st r x).ports = s.ports := by
  obtain ⟨_, _, _, _, _, h⟩ := post_frame s p e st r x; rw [h]
@[simp] theorem post_sw (p : Path) (e : Exec) (st : Nat) (r : Bytes) (x : Option Bytes) : (s.post p e st r x).sw = s.sw := by
  obtain ⟨_, _, _, _, _, h⟩ := post_frame s p e st r x; rw [h]
@[simp] theorem post_goose (p : Path) (e : Exec) (st : Nat) (r : Bytes) (x : Option Bytes) : (s.post p e st r x).goose = s.goose := by
  obtain ⟨_, _, _, _, _, h⟩ := post_frame s p e st r x; rw [h]
@[simp] theorem post_sv (p : Path) (e : Exec) (st : Nat) (r : Bytes) (x : Option Bytes) : (s.post p e st r x).sv = s.sv := by
  obtain ⟨_, _, _, _, _, h⟩ := post_frame s p e st r x; rw [h]
@[simp] theorem post_aln (p : Path) (e : Exec) (st : Nat) (r : Bytes) (x : Option Bytes) : (s.post p e st r x).aln = s.aln := by
  obtain ⟨_, _, _, _, _, h⟩ := post_frame s p e st r x; rw [h]
@[simp] theorem post_ph (p : Path) (e : Exec) (st : Nat) (r : Bytes) (x : Option Bytes) : (s.post p e st r x).ph = s.ph := by
  obtain ⟨_, _, _, _, _, h⟩ := post_frame s p e st r x; rw [h]
@[simp] theorem post_grd (p : Path) (e : Exec) (st : Nat) (r : Bytes) (x : Option Bytes) : (s.post p e st r x).grd = s.grd := by
  obtain ⟨_, _, _, _, _, h⟩ := post_frame s p e st r x; rw [h]
@[simp] theorem post_logic (p : Path) (e : Exec) (st : Nat) (r : Bytes) (x : Option Bytes) : (s.post p e st r x).logic = s.logic := by
  obtain ⟨_, _, _, _, _, h⟩ := post_frame s p e st r x; rw [h]
@[simp] theorem post_brio (p : Path) (e : Exec) (st : Nat) (r : Bytes) (x : Option Bytes) : (s.post p e st r x).brio = s.brio := by
  obtain ⟨_, _, _, _, _, h⟩ := post_frame s p e st r x; rw [h]
@[simp] theorem post_safe (p : Path) (e : Exec) (st : Nat) (r : Bytes) (x : Option Bytes) : (s.post p e st r x).safe = s.safe := by
  obtain ⟨_, _, _, _, _, h⟩ := post_frame s p e st r x; rw [h]
@[simp] theorem post_red (p : Path) (e : Exec) (st : Nat) (r : Bytes) (x : Option Bytes) : (s.post p e st r x).red = s.red := by
  obtain ⟨_, _, _, _, _, h⟩ := post_frame s p e st r x; rw [h]
@[simp] theorem post_acq (p : Path) (e : Exec) (st : Nat) (r : Bytes) (x : Option Bytes) : (s.post p e st r x).acq = s.acq := by
  obtain ⟨_, _, _, _, _, h⟩ := post_frame s p e st r x; rw [h]
@[simp] theorem post_stg (p : Path) (e : Exec) (st : Nat) (r : Bytes) (x : Option Bytes) : (s.post p e st r x).stg = s.stg := by
  obtain ⟨_, _, _, _, _, h⟩ := post_frame s p e st r x; rw [h]
@[simp] theorem post_mem (p : Path) (e : Exec) (st : Nat) (r : Bytes) (x : Option Bytes) : (s.post p e st r x).mem = s.mem := by
  obtain ⟨_, _, _, _, _, h⟩ := post_frame s p e st r x; rw [h]
@[simp] theorem post_rtc (p : Path) (e : Exec) (st : Nat) (r : Bytes) (x : Option Bytes) : (s.post p e st r x).rtc = s.rtc := by
  obtain ⟨_, _, _, _, _, h⟩ := post_frame s p e st r x; rw [h]
@[simp] theorem post_cfg (p : Path) (e : Exec) (st : Nat) (r : Bytes) (x : Option Bytes) : (s.post p e st r x).cfg = s.cfg := by
  obtain ⟨_, _, _, _, _, h⟩ := post_frame s p e st r x; rw [h]
@[simp] theorem post_stored (p : Path) (e : Exec) (st : Nat) (r : Bytes) (x : Option Bytes) : (s.post p e st r x).stored = s.stored := by
  obtain ⟨_, _, _, _, _, h⟩ := post_frame s p e st r x; rw [h]

/-! ## complete -/

@[simp] theorem complete_pending (p : Path) (st : Nat) (r : Bytes) (x : Option Bytes) : (s.complete p st r x).pending = s.pending := by
  obtain ⟨_, _, _, _, _, h⟩ := complete_frame s p st r x; rw [h]
@[simp] theorem complete_free (p : Path) (st : Nat) (r : Bytes) (x : Option Bytes) : (s.complete p st r x).free = s.free := by
  obtain ⟨_, _, _, _, _, h⟩ := complete_frame s p st r x; rw [h]
@[simp] theorem complete_mod (p : Path) (st : Nat) (r : Bytes) (x : Option Bytes) : (s.complete p st r x).mod = s.mod := by
  obtain ⟨_, _, _, _, _, h⟩ := complete_frame s p st r x; rw [h]
@[simp] theorem complete_power (p : Path) (st : Nat) (r : Bytes) (x : Option Bytes) : (s.complete p st r x).power = s.power := by
  obtain ⟨_, _, _, _, _, h⟩ := complete_frame s p st r x; rw [h]
@[simp] theorem complete_flash (p : Path) (st : Nat) (r : Bytes) (x : Option Bytes) : (s.complete p st r x).flash = s.flash := by
  obtain ⟨_, _, _, _, _, h⟩ := complete_frame s p st r x; rw [h]
@[simp] theorem complete_time (p : Path) (st : Nat) (r : Bytes) (x : Option Bytes) : (s.complete p st r x).time = s.time := by
  obtain ⟨_, _, _, _, _, h⟩ := complete_frame s p st r x; rw [h]
@[simp] theorem complete_sec (p : Path) (st : Nat) (r : Bytes) (x : Option Bytes) : (s.complete p st r x).sec = s.sec := by
  obtain ⟨_, _, _, _, _, h⟩ := complete_frame s p st r x; rw [h]
@[simp] theorem complete_diag (p : Path) (st : Nat) (r : Bytes) (x : Option Bytes) : (s.complete p st r x).diag = s.diag := by
  obtain ⟨_, _, _, _, _, h⟩ := complete_frame s p st r x; rw [h]
@[simp] theorem complete_sched (p : Path) (st : Nat) (r : Bytes) (x : Option Bytes) : (s.complete p st r x).sched = s.sched := by
  obtain ⟨_, _, _, _, _, h⟩ := complete_frame s p st r x; rw [h]
@[simp] theorem complete_dma (p : Path) (st : Nat) (r : Bytes) (x : Option Bytes) : (s.complete p st r x).dma = s.dma := by
  obtain ⟨_, _, _, _, _, h⟩ := complete_frame s p st r x; rw [h]
@[simp] theorem complete_ports (p : Path) (st : Nat) (r : Bytes) (x : Option Bytes) : (s.complete p st r x).ports = s.ports := by
  obtain ⟨_, _, _, _, _, h⟩ := complete_frame s p st r x; rw [h]
@[simp] theorem complete_sw (p : Path) (st : Nat) (r : Bytes) (x : Option Bytes) : (s.complete p st r x).sw = s.sw := by
  obtain ⟨_, _, _, _, _, h⟩ := complete_frame s p st r x; rw [h]
@[simp] theorem complete_goose (p : Path) (st : Nat) (r : Bytes) (x : Option Bytes) : (s.complete p st r x).goose = s.goose := by
  obtain ⟨_, _, _, _, _, h⟩ := complete_frame s p st r x; rw [h]
@[simp] theorem complete_sv (p : Path) (st : Nat) (r : Bytes) (x : Option Bytes) : (s.complete p st r x).sv = s.sv := by
  obtain ⟨_, _, _, _, _, h⟩ := complete_frame s p st r x; rw [h]
@[simp] theorem complete_aln (p : Path) (st : Nat) (r : Bytes) (x : Option Bytes) : (s.complete p st r x).aln = s.aln := by
  obtain ⟨_, _, _, _, _, h⟩ := complete_frame s p st r x; rw [h]
@[simp] theorem complete_ph (p : Path) (st : Nat) (r : Bytes) (x : Option Bytes) : (s.complete p st r x).ph = s.ph := by
  obtain ⟨_, _, _, _, _, h⟩ := complete_frame s p st r x; rw [h]
@[simp] theorem complete_grd (p : Path) (st : Nat) (r : Bytes) (x : Option Bytes) : (s.complete p st r x).grd = s.grd := by
  obtain ⟨_, _, _, _, _, h⟩ := complete_frame s p st r x; rw [h]
@[simp] theorem complete_logic (p : Path) (st : Nat) (r : Bytes) (x : Option Bytes) : (s.complete p st r x).logic = s.logic := by
  obtain ⟨_, _, _, _, _, h⟩ := complete_frame s p st r x; rw [h]
@[simp] theorem complete_brio (p : Path) (st : Nat) (r : Bytes) (x : Option Bytes) : (s.complete p st r x).brio = s.brio := by
  obtain ⟨_, _, _, _, _, h⟩ := complete_frame s p st r x; rw [h]
@[simp] theorem complete_safe (p : Path) (st : Nat) (r : Bytes) (x : Option Bytes) : (s.complete p st r x).safe = s.safe := by
  obtain ⟨_, _, _, _, _, h⟩ := complete_frame s p st r x; rw [h]
@[simp] theorem complete_red (p : Path) (st : Nat) (r : Bytes) (x : Option Bytes) : (s.complete p st r x).red = s.red := by
  obtain ⟨_, _, _, _, _, h⟩ := complete_frame s p st r x; rw [h]
@[simp] theorem complete_acq (p : Path) (st : Nat) (r : Bytes) (x : Option Bytes) : (s.complete p st r x).acq = s.acq := by
  obtain ⟨_, _, _, _, _, h⟩ := complete_frame s p st r x; rw [h]
@[simp] theorem complete_stg (p : Path) (st : Nat) (r : Bytes) (x : Option Bytes) : (s.complete p st r x).stg = s.stg := by
  obtain ⟨_, _, _, _, _, h⟩ := complete_frame s p st r x; rw [h]
@[simp] theorem complete_mem (p : Path) (st : Nat) (r : Bytes) (x : Option Bytes) : (s.complete p st r x).mem = s.mem := by
  obtain ⟨_, _, _, _, _, h⟩ := complete_frame s p st r x; rw [h]
@[simp] theorem complete_rtc (p : Path) (st : Nat) (r : Bytes) (x : Option Bytes) : (s.complete p st r x).rtc = s.rtc := by
  obtain ⟨_, _, _, _, _, h⟩ := complete_frame s p st r x; rw [h]
@[simp] theorem complete_cfg (p : Path) (st : Nat) (r : Bytes) (x : Option Bytes) : (s.complete p st r x).cfg = s.cfg := by
  obtain ⟨_, _, _, _, _, h⟩ := complete_frame s p st r x; rw [h]
@[simp] theorem complete_stored (p : Path) (st : Nat) (r : Bytes) (x : Option Bytes) : (s.complete p st r x).stored = s.stored := by
  obtain ⟨_, _, _, _, _, h⟩ := complete_frame s p st r x; rw [h]

/-! ## authFailure -/

@[simp] theorem authFailure_pending (p : Path) : (s.authFailure p).pending = s.pending := by
  obtain ⟨_, _, _, _, h⟩ := authFailure_frame s p; rw [h]
@[simp] theorem authFailure_free (p : Path) : (s.authFailure p).free = s.free := by
  obtain ⟨_, _, _, _, h⟩ := authFailure_frame s p; rw [h]
@[simp] theorem authFailure_mod (p : Path) : (s.authFailure p).mod = s.mod := by
  obtain ⟨_, _, _, _, h⟩ := authFailure_frame s p; rw [h]
@[simp] theorem authFailure_power (p : Path) : (s.authFailure p).power = s.power := by
  obtain ⟨_, _, _, _, h⟩ := authFailure_frame s p; rw [h]
@[simp] theorem authFailure_flash (p : Path) : (s.authFailure p).flash = s.flash := by
  obtain ⟨_, _, _, _, h⟩ := authFailure_frame s p; rw [h]
@[simp] theorem authFailure_time (p : Path) : (s.authFailure p).time = s.time := by
  obtain ⟨_, _, _, _, h⟩ := authFailure_frame s p; rw [h]
@[simp] theorem authFailure_p7 (p : Path) : (s.authFailure p).p7 = s.p7 := by
  obtain ⟨_, _, _, _, h⟩ := authFailure_frame s p; rw [h]
@[simp] theorem authFailure_diag (p : Path) : (s.authFailure p).diag = s.diag := by
  obtain ⟨_, _, _, _, h⟩ := authFailure_frame s p; rw [h]
@[simp] theorem authFailure_fns (p : Path) : (s.authFailure p).fns = s.fns := by
  obtain ⟨_, _, _, _, h⟩ := authFailure_frame s p; rw [h]
@[simp] theorem authFailure_sched (p : Path) : (s.authFailure p).sched = s.sched := by
  obtain ⟨_, _, _, _, h⟩ := authFailure_frame s p; rw [h]
@[simp] theorem authFailure_dma (p : Path) : (s.authFailure p).dma = s.dma := by
  obtain ⟨_, _, _, _, h⟩ := authFailure_frame s p; rw [h]
@[simp] theorem authFailure_ports (p : Path) : (s.authFailure p).ports = s.ports := by
  obtain ⟨_, _, _, _, h⟩ := authFailure_frame s p; rw [h]
@[simp] theorem authFailure_sw (p : Path) : (s.authFailure p).sw = s.sw := by
  obtain ⟨_, _, _, _, h⟩ := authFailure_frame s p; rw [h]
@[simp] theorem authFailure_goose (p : Path) : (s.authFailure p).goose = s.goose := by
  obtain ⟨_, _, _, _, h⟩ := authFailure_frame s p; rw [h]
@[simp] theorem authFailure_sv (p : Path) : (s.authFailure p).sv = s.sv := by
  obtain ⟨_, _, _, _, h⟩ := authFailure_frame s p; rw [h]
@[simp] theorem authFailure_aln (p : Path) : (s.authFailure p).aln = s.aln := by
  obtain ⟨_, _, _, _, h⟩ := authFailure_frame s p; rw [h]
@[simp] theorem authFailure_ph (p : Path) : (s.authFailure p).ph = s.ph := by
  obtain ⟨_, _, _, _, h⟩ := authFailure_frame s p; rw [h]
@[simp] theorem authFailure_grd (p : Path) : (s.authFailure p).grd = s.grd := by
  obtain ⟨_, _, _, _, h⟩ := authFailure_frame s p; rw [h]
@[simp] theorem authFailure_logic (p : Path) : (s.authFailure p).logic = s.logic := by
  obtain ⟨_, _, _, _, h⟩ := authFailure_frame s p; rw [h]
@[simp] theorem authFailure_brio (p : Path) : (s.authFailure p).brio = s.brio := by
  obtain ⟨_, _, _, _, h⟩ := authFailure_frame s p; rw [h]
@[simp] theorem authFailure_safe (p : Path) : (s.authFailure p).safe = s.safe := by
  obtain ⟨_, _, _, _, h⟩ := authFailure_frame s p; rw [h]
@[simp] theorem authFailure_red (p : Path) : (s.authFailure p).red = s.red := by
  obtain ⟨_, _, _, _, h⟩ := authFailure_frame s p; rw [h]
@[simp] theorem authFailure_acq (p : Path) : (s.authFailure p).acq = s.acq := by
  obtain ⟨_, _, _, _, h⟩ := authFailure_frame s p; rw [h]
@[simp] theorem authFailure_stg (p : Path) : (s.authFailure p).stg = s.stg := by
  obtain ⟨_, _, _, _, h⟩ := authFailure_frame s p; rw [h]
@[simp] theorem authFailure_mem (p : Path) : (s.authFailure p).mem = s.mem := by
  obtain ⟨_, _, _, _, h⟩ := authFailure_frame s p; rw [h]
@[simp] theorem authFailure_rtc (p : Path) : (s.authFailure p).rtc = s.rtc := by
  obtain ⟨_, _, _, _, h⟩ := authFailure_frame s p; rw [h]
@[simp] theorem authFailure_cfg (p : Path) : (s.authFailure p).cfg = s.cfg := by
  obtain ⟨_, _, _, _, h⟩ := authFailure_frame s p; rw [h]
@[simp] theorem authFailure_stored (p : Path) : (s.authFailure p).stored = s.stored := by
  obtain ⟨_, _, _, _, h⟩ := authFailure_frame s p; rw [h]

/-! ## checks -/

@[simp] theorem checks_pending (c : Cmd) (p : Path) (r : Req) : ((s.checks c p r).2).pending = s.pending := by
  obtain ⟨_, _, _, _, _, h⟩ := checks_frame s c p r; rw [h]
@[simp] theorem checks_free (c : Cmd) (p : Path) (r : Req) : ((s.checks c p r).2).free = s.free := by
  obtain ⟨_, _, _, _, _, h⟩ := checks_frame s c p r; rw [h]
@[simp] theorem checks_mod (c : Cmd) (p : Path) (r : Req) : ((s.checks c p r).2).mod = s.mod := by
  obtain ⟨_, _, _, _, _, h⟩ := checks_frame s c p r; rw [h]
@[simp] theorem checks_power (c : Cmd) (p : Path) (r : Req) : ((s.checks c p r).2).power = s.power := by
  obtain ⟨_, _, _, _, _, h⟩ := checks_frame s c p r; rw [h]
@[simp] theorem checks_flash (c : Cmd) (p : Path) (r : Req) : ((s.checks c p r).2).flash = s.flash := by
  obtain ⟨_, _, _, _, _, h⟩ := checks_frame s c p r; rw [h]
@[simp] theorem checks_time (c : Cmd) (p : Path) (r : Req) : ((s.checks c p r).2).time = s.time := by
  obtain ⟨_, _, _, _, _, h⟩ := checks_frame s c p r; rw [h]
@[simp] theorem checks_diag (c : Cmd) (p : Path) (r : Req) : ((s.checks c p r).2).diag = s.diag := by
  obtain ⟨_, _, _, _, _, h⟩ := checks_frame s c p r; rw [h]
@[simp] theorem checks_fns (c : Cmd) (p : Path) (r : Req) : ((s.checks c p r).2).fns = s.fns := by
  obtain ⟨_, _, _, _, _, h⟩ := checks_frame s c p r; rw [h]
@[simp] theorem checks_sched (c : Cmd) (p : Path) (r : Req) : ((s.checks c p r).2).sched = s.sched := by
  obtain ⟨_, _, _, _, _, h⟩ := checks_frame s c p r; rw [h]
@[simp] theorem checks_dma (c : Cmd) (p : Path) (r : Req) : ((s.checks c p r).2).dma = s.dma := by
  obtain ⟨_, _, _, _, _, h⟩ := checks_frame s c p r; rw [h]
@[simp] theorem checks_ports (c : Cmd) (p : Path) (r : Req) : ((s.checks c p r).2).ports = s.ports := by
  obtain ⟨_, _, _, _, _, h⟩ := checks_frame s c p r; rw [h]
@[simp] theorem checks_sw (c : Cmd) (p : Path) (r : Req) : ((s.checks c p r).2).sw = s.sw := by
  obtain ⟨_, _, _, _, _, h⟩ := checks_frame s c p r; rw [h]
@[simp] theorem checks_goose (c : Cmd) (p : Path) (r : Req) : ((s.checks c p r).2).goose = s.goose := by
  obtain ⟨_, _, _, _, _, h⟩ := checks_frame s c p r; rw [h]
@[simp] theorem checks_sv (c : Cmd) (p : Path) (r : Req) : ((s.checks c p r).2).sv = s.sv := by
  obtain ⟨_, _, _, _, _, h⟩ := checks_frame s c p r; rw [h]
@[simp] theorem checks_aln (c : Cmd) (p : Path) (r : Req) : ((s.checks c p r).2).aln = s.aln := by
  obtain ⟨_, _, _, _, _, h⟩ := checks_frame s c p r; rw [h]
@[simp] theorem checks_ph (c : Cmd) (p : Path) (r : Req) : ((s.checks c p r).2).ph = s.ph := by
  obtain ⟨_, _, _, _, _, h⟩ := checks_frame s c p r; rw [h]
@[simp] theorem checks_grd (c : Cmd) (p : Path) (r : Req) : ((s.checks c p r).2).grd = s.grd := by
  obtain ⟨_, _, _, _, _, h⟩ := checks_frame s c p r; rw [h]
@[simp] theorem checks_logic (c : Cmd) (p : Path) (r : Req) : ((s.checks c p r).2).logic = s.logic := by
  obtain ⟨_, _, _, _, _, h⟩ := checks_frame s c p r; rw [h]
@[simp] theorem checks_brio (c : Cmd) (p : Path) (r : Req) : ((s.checks c p r).2).brio = s.brio := by
  obtain ⟨_, _, _, _, _, h⟩ := checks_frame s c p r; rw [h]
@[simp] theorem checks_safe (c : Cmd) (p : Path) (r : Req) : ((s.checks c p r).2).safe = s.safe := by
  obtain ⟨_, _, _, _, _, h⟩ := checks_frame s c p r; rw [h]
@[simp] theorem checks_red (c : Cmd) (p : Path) (r : Req) : ((s.checks c p r).2).red = s.red := by
  obtain ⟨_, _, _, _, _, h⟩ := checks_frame s c p r; rw [h]
@[simp] theorem checks_acq (c : Cmd) (p : Path) (r : Req) : ((s.checks c p r).2).acq = s.acq := by
  obtain ⟨_, _, _, _, _, h⟩ := checks_frame s c p r; rw [h]
@[simp] theorem checks_stg (c : Cmd) (p : Path) (r : Req) : ((s.checks c p r).2).stg = s.stg := by
  obtain ⟨_, _, _, _, _, h⟩ := checks_frame s c p r; rw [h]
@[simp] theorem checks_mem (c : Cmd) (p : Path) (r : Req) : ((s.checks c p r).2).mem = s.mem := by
  obtain ⟨_, _, _, _, _, h⟩ := checks_frame s c p r; rw [h]
@[simp] theorem checks_rtc (c : Cmd) (p : Path) (r : Req) : ((s.checks c p r).2).rtc = s.rtc := by
  obtain ⟨_, _, _, _, _, h⟩ := checks_frame s c p r; rw [h]
@[simp] theorem checks_cfg (c : Cmd) (p : Path) (r : Req) : ((s.checks c p r).2).cfg = s.cfg := by
  obtain ⟨_, _, _, _, _, h⟩ := checks_frame s c p r; rw [h]
@[simp] theorem checks_stored (c : Cmd) (p : Path) (r : Req) : ((s.checks c p r).2).stored = s.stored := by
  obtain ⟨_, _, _, _, _, h⟩ := checks_frame s c p r; rw [h]

/-! ## inject -/

@[simp] theorem inject_pending (c o u : Nat) : ((s.inject c o u).2).pending = s.pending := by
  obtain ⟨_, _, _, _, h⟩ := inject_frame s c o u; rw [h]
@[simp] theorem inject_free (c o u : Nat) : ((s.inject c o u).2).free = s.free := by
  obtain ⟨_, _, _, _, h⟩ := inject_frame s c o u; rw [h]
@[simp] theorem inject_mod (c o u : Nat) : ((s.inject c o u).2).mod = s.mod := by
  obtain ⟨_, _, _, _, h⟩ := inject_frame s c o u; rw [h]
@[simp] theorem inject_power (c o u : Nat) : ((s.inject c o u).2).power = s.power := by
  obtain ⟨_, _, _, _, h⟩ := inject_frame s c o u; rw [h]
@[simp] theorem inject_flash (c o u : Nat) : ((s.inject c o u).2).flash = s.flash := by
  obtain ⟨_, _, _, _, h⟩ := inject_frame s c o u; rw [h]
@[simp] theorem inject_time (c o u : Nat) : ((s.inject c o u).2).time = s.time := by
  obtain ⟨_, _, _, _, h⟩ := inject_frame s c o u; rw [h]
@[simp] theorem inject_p7 (c o u : Nat) : ((s.inject c o u).2).p7 = s.p7 := by
  obtain ⟨_, _, _, _, h⟩ := inject_frame s c o u; rw [h]
@[simp] theorem inject_sec (c o u : Nat) : ((s.inject c o u).2).sec = s.sec := by
  obtain ⟨_, _, _, _, h⟩ := inject_frame s c o u; rw [h]
@[simp] theorem inject_fns (c o u : Nat) : ((s.inject c o u).2).fns = s.fns := by
  obtain ⟨_, _, _, _, h⟩ := inject_frame s c o u; rw [h]
@[simp] theorem inject_sched (c o u : Nat) : ((s.inject c o u).2).sched = s.sched := by
  obtain ⟨_, _, _, _, h⟩ := inject_frame s c o u; rw [h]
@[simp] theorem inject_dma (c o u : Nat) : ((s.inject c o u).2).dma = s.dma := by
  obtain ⟨_, _, _, _, h⟩ := inject_frame s c o u; rw [h]
@[simp] theorem inject_ports (c o u : Nat) : ((s.inject c o u).2).ports = s.ports := by
  obtain ⟨_, _, _, _, h⟩ := inject_frame s c o u; rw [h]
@[simp] theorem inject_sw (c o u : Nat) : ((s.inject c o u).2).sw = s.sw := by
  obtain ⟨_, _, _, _, h⟩ := inject_frame s c o u; rw [h]
@[simp] theorem inject_goose (c o u : Nat) : ((s.inject c o u).2).goose = s.goose := by
  obtain ⟨_, _, _, _, h⟩ := inject_frame s c o u; rw [h]
@[simp] theorem inject_sv (c o u : Nat) : ((s.inject c o u).2).sv = s.sv := by
  obtain ⟨_, _, _, _, h⟩ := inject_frame s c o u; rw [h]
@[simp] theorem inject_aln (c o u : Nat) : ((s.inject c o u).2).aln = s.aln := by
  obtain ⟨_, _, _, _, h⟩ := inject_frame s c o u; rw [h]
@[simp] theorem inject_ph (c o u : Nat) : ((s.inject c o u).2).ph = s.ph := by
  obtain ⟨_, _, _, _, h⟩ := inject_frame s c o u; rw [h]
@[simp] theorem inject_grd (c o u : Nat) : ((s.inject c o u).2).grd = s.grd := by
  obtain ⟨_, _, _, _, h⟩ := inject_frame s c o u; rw [h]
@[simp] theorem inject_logic (c o u : Nat) : ((s.inject c o u).2).logic = s.logic := by
  obtain ⟨_, _, _, _, h⟩ := inject_frame s c o u; rw [h]
@[simp] theorem inject_brio (c o u : Nat) : ((s.inject c o u).2).brio = s.brio := by
  obtain ⟨_, _, _, _, h⟩ := inject_frame s c o u; rw [h]
@[simp] theorem inject_safe (c o u : Nat) : ((s.inject c o u).2).safe = s.safe := by
  obtain ⟨_, _, _, _, h⟩ := inject_frame s c o u; rw [h]
@[simp] theorem inject_red (c o u : Nat) : ((s.inject c o u).2).red = s.red := by
  obtain ⟨_, _, _, _, h⟩ := inject_frame s c o u; rw [h]
@[simp] theorem inject_acq (c o u : Nat) : ((s.inject c o u).2).acq = s.acq := by
  obtain ⟨_, _, _, _, h⟩ := inject_frame s c o u; rw [h]
@[simp] theorem inject_stg (c o u : Nat) : ((s.inject c o u).2).stg = s.stg := by
  obtain ⟨_, _, _, _, h⟩ := inject_frame s c o u; rw [h]
@[simp] theorem inject_mem (c o u : Nat) : ((s.inject c o u).2).mem = s.mem := by
  obtain ⟨_, _, _, _, h⟩ := inject_frame s c o u; rw [h]
@[simp] theorem inject_rtc (c o u : Nat) : ((s.inject c o u).2).rtc = s.rtc := by
  obtain ⟨_, _, _, _, h⟩ := inject_frame s c o u; rw [h]
@[simp] theorem inject_cfg (c o u : Nat) : ((s.inject c o u).2).cfg = s.cfg := by
  obtain ⟨_, _, _, _, h⟩ := inject_frame s c o u; rw [h]
@[simp] theorem inject_stored (c o u : Nat) : ((s.inject c o u).2).stored = s.stored := by
  obtain ⟨_, _, _, _, h⟩ := inject_frame s c o u; rw [h]

end Machine
end Sys2Proof
end

