-- ==== Sys2Proof/Laws/Commands.lean ====
section
/-! SUPPORT. How a mailbox command's frame of checks turns into its own effect. -/

namespace Sys2Proof
namespace Machine

variable {c : Cmd} {p : Path} {e : Exec} {s t u : State}

/-- A path that holds no command: nothing happens. -/
theorem run_idle (h : s.execOf p = none) : s.run c p = s := by
  simp [State.run, h]

/-- The path holds a command that has started, or another opcode: nothing happens. -/
theorem run_other (h : s.execOf p = some e) (h2 : e.started = true ∨ e.req.opcode ≠ c.opcode) : s.run c p = s := by
  rcases h2 with h2 | h2 <;> simp [State.run, h, h2]

/-- A command that a check refuses is completed with the status of that check. -/
theorem run_refused {k : Nat} (h : Holds c p e s) (hk : s.checks c p e.req = (k, t)) (h0 : k ≠ 0) :
    s.run c p = t.complete p k := by
  obtain ⟨h1, h2, h3⟩ := h
  simp [State.run, h1, h2, h3, hk, h0]

/-- A command that is accepted and done has its effect, and its completion is posted. -/
theorem run_done {st : Nat} {resp : Bytes} {xp : Option Bytes} (h : Accepted c p e s t)
    (hb : c.body p e t = .done u st resp xp) : s.run c p = u.complete p st resp xp := by
  obtain ⟨⟨h1, h2, h3⟩, h4⟩ := h
  simp [State.run, h1, h2, h3, h4, hb]

/-- A command that is accepted and waits has its first effect, and has started. -/
theorem run_wait (h : Accepted c p e s t) (hb : c.body p e t = .wait u) : s.run c p = u.goesOnAt p := by
  obtain ⟨⟨h1, h2, h3⟩, h4⟩ := h
  unfold State.run State.goesOnAt
  simp only [h1, h2, h3, h4, hb, Bool.false_or, bne_self_eq_false, Bool.false_eq_true, if_false, ne_eq, not_true] <;> rfl

/-- What acceptance changes: what authorisation changes. -/
theorem accepted_frame (h : Accepted c p e s t) : ∃ x q f k y,
    t = { s with sec := x, ao.firnSeq := q, firn := f, host := k, p7 := y } := by
  have := checks_frame s c p e.req
  rw [h.2] at this
  exact this

end Machine
end Sys2Proof
end

