-- ==== Sys2Proof/Laws/Host.lean ====
section
/-! SUPPORT. What messages and PBA bits can change: the MSI-X table alone. -/

namespace Sys2Proof
namespace Machine

theorem message_frame (h : HostBlk) (fn vec : Nat) : ∃ m, h.message fn vec = { h with msix := m } := ⟨_, rfl⟩

theorem settle_frame (h : HostBlk) (fn vec : Nat) (c : Bool) : ∃ m, h.settle fn vec c = { h with msix := m } := by
  unfold HostBlk.settle; split <;> exact ⟨_, rfl⟩

/-- A fold of operations that change the MSI-X table alone. -/
theorem msix_foldl {α : Type} {f : HostBlk → α → HostBlk} (hf : ∀ h a, ∃ m, f h a = { h with msix := m }) (l : List α)
    (h : HostBlk) : ∃ m, l.foldl f h = { h with msix := m } := by
  induction l generalizing h with
  | nil => exact ⟨_, rfl⟩
  | cons a l ih =>
    obtain ⟨m, e⟩ := hf h a
    obtain ⟨m2, e2⟩ := ih (f h a)
    rw [List.foldl_cons, e2, e]
    exact ⟨_, rfl⟩

theorem messages_frame (h : HostBlk) (w : BitVec 16) : ∃ m, h.messages w = { h with msix := m } :=
  msix_foldl (fun h b => by split; exact message_frame _ _ _; exact ⟨_, rfl⟩) _ _

theorem settleAll_frame (h : HostBlk) : ∃ m, h.settleAll = { h with msix := m } :=
  msix_foldl (fun h b => settle_frame _ _ _ _) _ _

theorem dmaMessages_frame (h : HostBlk) (w : Word) : ∃ m, h.dmaMessages w = { h with msix := m } :=
  msix_foldl (fun h b => by split; exact message_frame _ _ _; exact ⟨_, rfl⟩) _ _

theorem dmaSettleAll_frame (h : HostBlk) : ∃ m, h.dmaSettleAll = { h with msix := m } :=
  msix_foldl (fun h b => settle_frame _ _ _ _) _ _

theorem vfSettle_frame (s : State) (n : Nat) (send : Bool) : ∃ m, s.vfSettle n send = { s with host.msix := m } := by
  unfold State.vfSettle
  cases send
  · obtain ⟨m, e⟩ := settle_frame s.host n 0 (((s.fn n).cause &&& ~~~(s.fn n).mask) != 0)
    exact ⟨m, by simp only [Bool.false_eq_true, if_false]; rw [e]⟩
  · obtain ⟨m1, e1⟩ := message_frame s.host n 0
    obtain ⟨m, e⟩ := settle_frame { s.host with msix := m1 } n 0 (((s.fn n).cause &&& ~~~(s.fn n).mask) != 0)
    exact ⟨m, by simp only [if_true]; rw [e1, e]⟩

end Machine
end Sys2Proof
end

