-- ==== Sys2Proof/Laws/Memory.lean ====
section
/-! SUPPORT. The canonical form of memory and of tables: every operation keeps it, and a read finds what was written. -/

namespace Sys2Proof
namespace Machine

/-! ## Cells -/

theorem cellSet_keys (m : List Host.Cell) (k : Nat) (v : Byte) (lo : Nat) (hk : lo < k)
    (hm : ∀ x ∈ m, lo < x.1) : ∀ x ∈ cellSet m k v, lo < x.1 := by
  induction m with
  | nil => simp [cellSet, hk]
  | cons c t ih =>
    obtain ⟨a, b⟩ := c
    have ha : lo < a := hm (a, b) (by simp)
    have ht : ∀ x ∈ t, lo < x.1 := fun x hx => hm x (by simp [hx])
    intro x hx
    simp only [cellSet] at hx
    split at hx
    · simp only [List.mem_cons] at hx
      rcases hx with rfl | rfl | hx
      · exact hk
      · exact ha
      · exact ht x hx
    · split at hx
      · simp only [List.mem_cons] at hx
        rcases hx with rfl | hx
        · exact hk
        · exact ht x hx
      · simp only [List.mem_cons] at hx
        rcases hx with rfl | hx
        · exact ha
        · exact ih ht x hx

theorem wf_cons {c : Host.Cell} {t : List Host.Cell} :
    Memory.wf (c :: t) = true ↔ (∀ x ∈ t, c.1 < x.1) ∧ Memory.wf t = true := by
  simp [Memory.wf, List.pairwise_cons]

/-- Storing a byte keeps the addresses strictly rising. -/
theorem cellSet_wf (m : List Host.Cell) (k : Nat) (v : Byte) (h : Memory.wf m = true) :
    Memory.wf (cellSet m k v) = true := by
  induction m with
  | nil => simp [cellSet, Memory.wf]
  | cons c t ih =>
    obtain ⟨a, b⟩ := c
    obtain ⟨h1, h2⟩ := wf_cons.1 h
    simp only [cellSet]
    split
    · rename_i hk
      refine wf_cons.2 ⟨?_, h⟩
      intro x hx
      simp only [List.mem_cons] at hx
      rcases hx with rfl | hx
      · exact hk
      · exact Nat.lt_trans hk (h1 x hx)
    · split
      · rename_i hk
        subst hk
        exact wf_cons.2 ⟨h1, h2⟩
      · rename_i hk hne
        exact wf_cons.2 ⟨cellSet_keys t k v a (by omega) h1, ih h2⟩

/-- A byte just stored is read back. -/
theorem cellAt_cellSet_same (m : List Host.Cell) (k : Nat) (v : Byte) : cellAt (cellSet m k v) k = some v := by
  induction m with
  | nil => simp [cellSet, cellAt]
  | cons c t ih =>
    obtain ⟨a, b⟩ := c
    simp only [cellSet]
    split
    · simp [cellAt]
    · split
      · simp [cellAt]
      · rename_i hne; simp [cellAt, hne, ih]

/-- Every other byte is left alone. -/
theorem cellAt_cellSet_other (m : List Host.Cell) (k j : Nat) (v : Byte) (h : j ≠ k) :
    cellAt (cellSet m k v) j = cellAt m j := by
  induction m with
  | nil => simp [cellSet, cellAt, Ne.symm h]
  | cons c t ih =>
    obtain ⟨a, b⟩ := c
    simp only [cellSet]
    split
    · simp [cellAt, Ne.symm h]
    · split
      · rename_i hk; subst hk; simp [cellAt, Ne.symm h]
      · simp only [cellAt, ih]

theorem cellSets_wf (l : List Nat) (f : Nat → Nat) (g : Nat → Byte) (m : List Host.Cell) (h : Memory.wf m = true) :
    Memory.wf (l.foldl (fun m i => cellSet m (f i) (g i)) m) = true := by
  induction l generalizing m with
  | nil => exact h
  | cons x t ih => exact ih _ (cellSet_wf m _ _ h)

/-! ## Tables -/

theorem tbl_wf_cons {α : Type} {c : Nat × α} {t : Tbl α} :
    Tbl.wf (c :: t) = true ↔ (∀ x ∈ t, c.1 < x.1) ∧ Tbl.wf t = true := by
  simp [Tbl.wf, List.pairwise_cons]

theorem tbl_set_keys {α : Type} (t : Tbl α) (k : Nat) (v : α) (lo : Nat) (hk : lo < k)
    (ht : ∀ x ∈ t, lo < x.1) : ∀ x ∈ Tbl.set t k v, lo < x.1 := by
  induction t with
  | nil => simp [Tbl.set, hk]
  | cons c r ih =>
    obtain ⟨a, b⟩ := c
    have ha : lo < a := ht (a, b) (by simp)
    have hr : ∀ x ∈ r, lo < x.1 := fun x hx => ht x (by simp [hx])
    intro x hx
    simp only [Tbl.set] at hx
    split at hx
    · simp only [List.mem_cons] at hx
      rcases hx with rfl | rfl | hx
      · exact hk
      · exact ha
      · exact hr x hx
    · split at hx
      · simp only [List.mem_cons] at hx
        rcases hx with rfl | hx
        · exact hk
        · exact hr x hx
      · simp only [List.mem_cons] at hx
        rcases hx with rfl | hx
        · exact ha
        · exact ih hr x hx

/-- Writing an entry keeps a table's canonical form. -/
theorem tbl_set_wf {α : Type} (t : Tbl α) (k : Nat) (v : α) (h : Tbl.wf t = true) : Tbl.wf (Tbl.set t k v) = true := by
  induction t with
  | nil => simp [Tbl.set, Tbl.wf]
  | cons c r ih =>
    obtain ⟨a, b⟩ := c
    obtain ⟨h1, h2⟩ := tbl_wf_cons.1 h
    simp only [Tbl.set]
    split
    · rename_i hk
      refine tbl_wf_cons.2 ⟨?_, h⟩
      intro x hx
      simp only [List.mem_cons] at hx
      rcases hx with rfl | hx
      · exact hk
      · exact Nat.lt_trans hk (h1 x hx)
    · split
      · rename_i hk
        subst hk
        exact tbl_wf_cons.2 ⟨h1, h2⟩
      · rename_i hk hne
        exact tbl_wf_cons.2 ⟨tbl_set_keys r k v a (by omega) h1, ih h2⟩

/-- Removing an entry keeps it. -/
theorem tbl_del_wf {α : Type} (t : Tbl α) (k : Nat) (h : Tbl.wf t = true) : Tbl.wf (Tbl.del t k) = true := by
  induction t with
  | nil => exact h
  | cons c r ih =>
    obtain ⟨h1, h2⟩ := tbl_wf_cons.1 h
    simp only [Tbl.del, List.filter_cons]
    split
    · exact tbl_wf_cons.2 ⟨fun x hx => h1 x (List.mem_filter.1 hx).1, ih h2⟩
    · exact ih h2

/-- An entry just written is read back. -/
theorem tbl_get_set_same {α : Type} (t : Tbl α) (k : Nat) (v : α) : Tbl.get? (Tbl.set t k v) k = some v := by
  induction t with
  | nil => simp [Tbl.set, Tbl.get?]
  | cons c r ih =>
    obtain ⟨a, b⟩ := c
    simp only [Tbl.set]
    split
    · simp [Tbl.get?]
    · split
      · simp [Tbl.get?]
      · rename_i hne; simp [Tbl.get?, hne, ih]

/-- Every other entry is left alone. -/
theorem tbl_get_set_other {α : Type} (t : Tbl α) (k j : Nat) (v : α) (h : j ≠ k) :
    Tbl.get? (Tbl.set t k v) j = Tbl.get? t j := by
  induction t with
  | nil => simp [Tbl.set, Tbl.get?, Ne.symm h]
  | cons c r ih =>
    obtain ⟨a, b⟩ := c
    simp only [Tbl.set]
    split
    · simp [Tbl.get?, Ne.symm h]
    · split
      · rename_i hk; subst hk; simp [Tbl.get?, Ne.symm h]
      · simp only [Tbl.get?, ih]

/-! ## Detections and accesses -/

variable (s : State)

theorem logAdd_frame (m : MemBlk) (e : EccLog) : ∃ l n, m.logAdd e = { m with log := l, overwritten := n } := by
  unfold MemBlk.logAdd
  split
  · split
    · exact ⟨_, _, rfl⟩
    · split <;> exact ⟨_, _, rfl⟩
  · exact ⟨_, _, rfl⟩

theorem logEcc_cells (m : MemBlk) (e : EccLog) : (s.logEcc m e).mem.data = m.data ∧
    (s.logEcc m e).mem.err = m.err ∧ (s.logEcc m e).mem.merge = m.merge := by
  obtain ⟨l, n, h⟩ := logAdd_frame m e
  simp [State.logEcc, h]

theorem eccEvt_cells (b : Nat) : (s.eccEvt b).mem.data = s.mem.data ∧ (s.eccEvt b).mem.err = s.mem.err ∧
    (s.eccEvt b).mem.merge = s.mem.merge := by
  unfold State.eccEvt
  dsimp only
  split <;> simp

theorem ceRecord_cells (a : Nat) : (s.ceRecord a).mem.data = s.mem.data ∧ (s.ceRecord a).mem.err = s.mem.err ∧
    (s.ceRecord a).mem.merge = s.mem.merge := by
  unfold State.ceRecord
  split <;> simp

theorem ueRecord_cells (a k : Nat) : (s.ueRecord a k).mem.data = s.mem.data ∧
    (s.ueRecord a k).mem.err = s.mem.err ∧ (s.ueRecord a k).mem.merge = s.mem.merge := by
  unfold State.ueRecord
  split <;> simp

/-- A detection stores nothing: cells, differences and the merge buffer stay. -/
theorem detect_cells (a src e : Nat) : (s.detect a src e).mem.data = s.mem.data ∧
    (s.detect a src e).mem.err = s.mem.err ∧ (s.detect a src e).mem.merge = s.mem.merge := by
  unfold State.detect
  split
  · simp
  · simp only [ceRecord_cells, counted_mem, eccEvt_cells, logEcc_cells, and_self]
  · simp only [ueRecord_cells, counted_mem, eccEvt_cells, logEcc_cells, and_self]
  · simp only [ueRecord_cells, counted_mem, eccEvt_cells, logEcc_cells, and_self]

theorem wordRead_cells (a src : Nat) : (s.wordRead a src).2.2.mem.data = s.mem.data ∧
    (s.wordRead a src).2.2.mem.err = s.mem.err ∧ (s.wordRead a src).2.2.mem.merge = s.mem.merge :=
  detect_cells s a src _

theorem detect_wf (a src e : Nat) (h : s.mem.wf = true) : (s.detect a src e).mem.wf = true := by
  obtain ⟨h1, h2, _⟩ := detect_cells s a src e
  simpa [MemBlk.wf, h1, h2] using h

/-- Storing a word keeps the canonical form. -/
theorem wordWrite_wf (a d : Nat) (p : Bool) (h : s.mem.wf = true) : (s.wordWrite a d p).mem.wf = true := by
  simp only [MemBlk.wf, Bool.and_eq_true] at h
  have hd : ∀ (v : Nat), Memory.wf ((List.range 8).foldl
      (fun m i => cellSet m (a + i) (BitVec.ofNat 8 (v / 256 ^ i))) s.mem.data) = true :=
    fun v => cellSets_wf _ _ _ _ h.1
  have he : ∀ (e : Nat), Tbl.wf (if e = 0 then s.mem.err.del a else s.mem.err.set a e) = true := by
    intro e
    split
    · exact tbl_del_wf _ _ h.2
    · exact tbl_set_wf _ _ _ h.2
  unfold State.wordWrite
  dsimp only
  split
  · simp only [MemBlk.wf, firnEv_mem, eccEvt_cells, Bool.and_eq_true]
    exact ⟨hd _, he _⟩
  · simp only [MemBlk.wf, Bool.and_eq_true]
    exact ⟨hd _, he _⟩

theorem foldl_keeps {α σ : Type} (P : σ → Prop) (f : σ → α → σ) (hf : ∀ s a, P s → P (f s a)) (l : List α) (s : σ)
    (h : P s) : P (l.foldl f s) := by
  induction l generalizing s with
  | nil => exact h
  | cons a t ih => exact ih _ (hf s a h)

theorem lineStore_wf (l : MergeLine) (h : s.mem.wf = true) : (s.lineStore l).mem.wf = true := by
  unfold State.lineStore
  refine foldl_keeps (fun t : State => t.mem.wf = true) _ ?_ _ _ h
  intro t i ht
  split
  · exact ht
  · exact wordWrite_wf t _ _ _ ht

theorem lineMerge_wf (l : MergeLine) (h : s.mem.wf = true) : (s.lineMerge l).mem.wf = true := by
  unfold State.lineMerge
  refine foldl_keeps (fun t : State => t.mem.wf = true) _ ?_ _ _ h
  intro t i ht
  dsimp only
  split
  · exact wordWrite_wf t _ _ _ ht
  · exact wordWrite_wf _ _ _ _ (detect_wf t _ _ _ ht)

theorem evict_wf (l : MergeLine) (h : s.mem.wf = true) : (s.evict l).mem.wf = true := by
  unfold State.evict
  split
  · exact lineStore_wf _ _ h
  · exact lineMerge_wf _ _ h

theorem linePre_wf (line : Nat) (whole : Bool) (h : s.mem.wf = true) : (s.linePre line whole).mem.wf = true := by
  unfold State.linePre
  split
  · split
    · exact evict_wf _ _ h
    · exact h
  · exact h

theorem mergeRoom_wf (h : s.mem.wf = true) : s.mergeRoom.mem.wf = true := by
  unfold State.mergeRoom
  split
  · split
    · exact evict_wf _ _ h
    · exact h
  · exact h

theorem lineNew_wf (l : MergeLine) (h : s.mem.wf = true) : (s.lineNew l).mem.wf = true := by
  unfold State.lineNew
  dsimp only
  split
  · exact lineStore_wf _ _ h
  · have := mergeRoom_wf _ (lineStore_wf s { l with bytes := l.bytes.delIf (fun k => !l.full (k / 8)) } h)
    simpa [MemBlk.wf] using this

/-- A write within one line keeps the canonical form. -/
theorem lineWrite_wf (a : Nat) (b : Bytes) (p : Bool) (h : s.mem.wf = true) : (s.lineWrite a b p).mem.wf = true := by
  unfold State.lineWrite
  dsimp only
  have ht := linePre_wf s (a / 64 * 64) (decide (a % 64 = 0) && decide (b.length = 64)) h
  split
  · split
    · exact evict_wf _ _ ht
    · exact ht
  · exact lineNew_wf _ _ ht

/-- A write to DRAM keeps the canonical form. -/
theorem memWrite_wf (a : Nat) (b : Bytes) (p : Bool) (h : s.mem.wf = true) : (s.memWrite a b p).mem.wf = true := by
  unfold State.memWrite
  exact foldl_keeps (fun t : State => t.mem.wf = true) _ (fun t x ht => lineWrite_wf t _ _ _ ht) _ _ h

theorem wordFetch_wf (a src : Nat) (h : s.mem.wf = true) : (s.wordFetch a src).2.2.mem.wf = true := by
  unfold State.wordFetch
  split
  · dsimp only
    split
    · exact h
    · exact detect_wf s _ _ _ h
  · exact detect_wf s _ _ _ h

theorem wordsFetch_wf (src n a : Nat) (s : State) (h : s.mem.wf = true) :
    (State.wordsFetch src n a s).2.mem.wf = true := by
  induction n generalizing a s with
  | zero => exact h
  | succ n ih => exact ih _ _ (wordFetch_wf s a src h)

/-- A read of DRAM keeps it. -/
theorem memRead_wf (a len src : Nat) (h : s.mem.wf = true) : (s.memRead a len src).2.mem.wf = true := by
  unfold State.memRead
  exact wordsFetch_wf _ _ _ _ h

theorem fillWords_wf (lo hi v : Nat) (h : s.mem.wf = true) : (s.fillWords lo hi v).mem.wf = true := by
  unfold State.fillWords
  exact foldl_keeps (fun t : State => t.mem.wf = true) _ (fun t x ht => lineWrite_wf t _ _ _ ht) _ _ h

theorem scrubWords_wf (n a : Nat) (k : Nat × Nat × Nat) (s : State) (h : s.mem.wf = true) :
    (State.scrubWords n a k s).2.mem.wf = true := by
  induction n generalizing a k s with
  | zero => exact h
  | succ n ih =>
    unfold State.scrubWords
    have hd := detect_wf s a 5 (s.mem.stored a).2 h
    dsimp only
    split
    · exact ih _ _ _ hd
    · exact ih _ _ _ (wordWrite_wf _ _ _ _ hd)
    · exact ih _ _ _ (wordWrite_wf _ _ _ _ hd)
    · exact ih _ _ _ hd

/-- Reset's memory lists nothing. -/
theorem reset_mem_wf : State.reset.mem.wf = true := by decide

end Machine
end Sys2Proof
end

