-- ==== Sys2Proof/Laws/Sending.lean ====
section
/-! SUPPORT. What a frame of the switch core, or of the module's own sources, can change on its way, and what a
heartbeat can. -/

namespace Sys2Proof
namespace Machine

/-- `t` is `s` but for Firn, the host interface, the ports, the switch core, the trip log, the functions and the PTP
ports. -/
def Sends (s t : State) : Prop := ∃ q f h p w g y tp,
  t = { s with ao.firnSeq := q, firn := f, host := h, ports := p, sw := w, goose := g, fns := y, time.ports := tp }

namespace Sends

theorem refl (s : State) : Sends s s := ⟨_, _, _, _, _, _, _, _, rfl⟩

theorem trans {s t u : State} (a : Sends s t) (b : Sends t u) : Sends s u := by
  obtain ⟨_, _, _, _, _, _, _, _, rfl⟩ := a
  obtain ⟨_, _, _, _, _, _, _, _, rfl⟩ := b
  exact ⟨_, _, _, _, _, _, _, _, rfl⟩

/-- Nothing but these parts may go through a fold. -/
theorem foldl {α : Type} {f : State → α → State} (h : ∀ s a, Sends s (f s a)) (l : List α) (s : State) :
    Sends s (l.foldl f s) := by
  induction l generalizing s with
  | nil => exact refl s
  | cons a l ih => exact (h s a).trans (ih _)

end Sends

variable (s : State)

theorem firnEv_sends (code : Nat) (d : Bytes) : Sends s (s.firnEv code d) := by
  obtain ⟨_, _, _, e⟩ := firnEv_frame s code d; exact ⟨_, _, _, _, _, _, _, _, e⟩
theorem counted_sends (v o p k : Nat) : Sends s (s.counted v o p k) := by
  obtain ⟨_, _, _, e⟩ := counted_frame s v o p k; exact ⟨_, _, _, _, _, _, _, _, e⟩
theorem portCount_sends (p o : Nat) : Sends s (s.portCount p o) := by
  obtain ⟨_, _, e⟩ := portCount_frame s p o; exact ⟨_, _, _, _, _, _, _, _, e⟩
theorem portAdd_sends (p o n : Nat) : Sends s (s.portAdd p o n) := by
  obtain ⟨_, _, e⟩ := portAdd_frame s p o n; exact ⟨_, _, _, _, _, _, _, _, e⟩
theorem logWrite_sends (n a l : Nat) : Sends s (s.logWrite n a l) := by
  obtain ⟨_, e⟩ := logWrite_frame s n a l; exact ⟨_, _, _, _, _, _, _, _, e⟩
theorem setPort_sends (i : Nat) (p : Port) : Sends s (s.setPort i p) := ⟨_, _, _, _, _, _, _, _, rfl⟩
theorem setFn_sends (n : Nat) (f : Fn) : Sends s (s.setFn n f) := ⟨_, _, _, _, _, _, _, _, rfl⟩
theorem setQueue_sends (n q : Nat) (x : Queue) : Sends s (s.setQueue n q x) := ⟨_, _, _, _, _, _, _, _, rfl⟩
theorem queueMsg_sends (n v : Nat) (w : Bool) : Sends s (s.queueMsg n v w) := by
  unfold State.queueMsg; split <;> exact ⟨_, _, _, _, _, _, _, _, rfl⟩
theorem skipCopy_sends (c : Copy) : Sends s (s.skipCopy c) := ⟨_, _, _, _, _, _, _, _, rfl⟩
theorem passCopy_sends (c : Copy) : Sends s (s.passCopy c) := ⟨_, _, _, _, _, _, _, _, rfl⟩
theorem hold_sends (a b c : Nat) : Sends s (s.hold a b c) := ⟨_, _, _, _, _, _, _, _, rfl⟩
theorem release_sends (f : Nat) : Sends s (s.release f) := by
  unfold State.release
  split
  · split <;> exact ⟨_, _, _, _, _, _, _, _, rfl⟩
  · exact .refl s

theorem countKind_sends (p o d : Nat) : Sends s (s.countKind p o d) := by
  unfold State.countKind
  split
  · exact portCount_sends ..
  · split <;> exact portCount_sends ..

theorem txCount_sends (p l d c : Nat) (t : Bool) : Sends s (s.txCount p l d c t) := by
  unfold State.txCount
  simp only
  have h1 := ((portAdd_sends s p 0x70 l).trans (portCount_sends _ p 0x74)).trans (countKind_sends _ p 0x78 d)
  cases t <;> simp only [if_true, Bool.false_eq_true, if_false]
  · split
    · exact (h1.trans (portCount_sends _ _ _)).trans (portCount_sends _ _ _)
    · exact h1.trans (portCount_sends _ _ _)
  · have h2 := h1.trans (portCount_sends _ p 0x84)
    split
    · exact (h2.trans (portCount_sends _ _ _)).trans (portCount_sends _ _ _)
    · exact h2.trans (portCount_sends _ _ _)

theorem rxDropFn_sends (n : Nat) : Sends s (s.rxDropFn n) := (setFn_sends s _ _).trans (counted_sends _ _ _ _ _)

/-! ## Admission -/

theorem evictTail_sends (d : Dest) (v : Nat) : Sends s (s.evictTail d v) := by
  unfold State.evictTail
  split
  · split
    · rename_i i _ x q _
      have h : Sends s { s with sw.queue := q } := ⟨_, _, _, _, _, _, _, _, rfl⟩
      exact ((h.trans (skipCopy_sends _ _)).trans (release_sends _ _)).trans (portCount_sends _ _ _)
    · exact .refl s
  · split
    · exact ((setFn_sends _ _ _).trans (release_sends _ _)).trans (rxDropFn_sends _ _)
    · exact .refl s

theorem pushOut_sends (d : Dest) (c n own k : Nat) (s : State) : Sends s (State.pushOut d c n own k s).2 := by
  induction k generalizing s with
  | zero => exact .refl s
  | succ k ih =>
    unfold State.pushOut
    split
    · exact .refl s
    · split
      · exact (evictTail_sends _ _ _).trans (ih _)
      · exact .refl s

theorem admission_sends (d : Dest) (c n own : Nat) : Sends s (s.admission d c n own).2 := by
  unfold State.admission
  split
  · exact .refl s
  · split
    · exact pushOut_sends ..
    · exact .refl s

/-! ## Egress -/

theorem loseCopy_sends (c : Copy) : Sends s (s.loseCopy c) := by
  have h : Sends s ((s.skipCopy c).release c.fid) := (skipCopy_sends _ _).trans (release_sends _ _)
  unfold State.loseCopy
  simp only
  split
  · split
    · exact h
    · split
      · exact h.trans (setQueue_sends _ _ _ _)
      · exact h
  · exact h

theorem tripTx_sends (num port : Nat) : Sends s (s.tripTx num port) := by
  unfold State.tripTx
  split
  · exact .refl s
  · simp only
    have h : ∀ l, Sends s { s with goose.log := l } := fun _ => ⟨_, _, _, _, _, _, _, _, rfl⟩
    split
    · exact (((h _).trans (setPort_sends _ _ _)).trans (firnEv_sends _ _ _)).trans (counted_sends _ _ _ _ _)
    · exact h _

theorem class7Start_sends (port len : Nat) : Sends s (s.class7Start port len) := by
  unfold State.class7Start
  simp only
  have h := setPort_sends s port
  split
  · split
    · exact ((((h _).trans (setPort_sends _ _ _)).trans (counted_sends _ _ _ _ _)).trans (setPort_sends _ _ _)).trans
        (counted_sends _ _ _ _ _)
    · exact ((h _).trans (setPort_sends _ _ _)).trans (counted_sends _ _ _ _ _)
  · split
    · exact ((h _).trans (setPort_sends _ _ _)).trans (counted_sends _ _ _ _ _)
    · exact h _

theorem preempt_sends (port cls : Nat) : Sends s (s.preempt port cls) := by
  unfold State.preempt
  simp only
  split
  · split
    · exact portCount_sends ..
    · exact (((setPort_sends _ _ _).trans (portCount_sends _ _ _)).trans (portCount_sends _ _ _)).trans (portCount_sends _ _ _)
  · exact .refl s

theorem fnTxDone_sends (n q idx : Nat) : Sends s (s.fnTxDone n q idx) := by
  unfold State.fnTxDone
  simp only
  split
  · exact ((setQueue_sends _ _ _ _).trans (logWrite_sends _ _ _ _)).trans (queueMsg_sends _ _ _ _)
  · exact .refl s

theorem ptpSent_sends (port : Nat) (c : Content) : Sends s (s.ptpSent port c) := by
  unfold State.ptpSent
  simp only
  split
  · exact ⟨_, _, _, _, _, _, _, _, rfl⟩
  · split <;> exact ⟨_, _, _, _, _, _, _, _, rfl⟩
  · exact .refl s

theorem countIf_sends (c : Bool) (p o : Nat) : Sends s (s.countIf c p o) := by
  unfold State.countIf
  split
  · exact portCount_sends ..
  · exact .refl s

theorem sendCounts_sends (c : Copy) (n : Nat) (a b d e : Bool) : Sends s (s.sendCounts c n a b d e) := by
  have h : Sends s (if c.cls = 7 then s.class7Start c.port n else s) := by
    split
    · exact class7Start_sends ..
    · exact .refl s
  exact (((((h.trans (preempt_sends _ _ _)).trans (txCount_sends _ _ _ _ _ _)).trans (countIf_sends _ _ _ _)).trans
    (countIf_sends _ _ _ _)).trans (countIf_sends _ _ _ _)).trans (countIf_sends _ _ _ _)

theorem sendTold_sends (c : Copy) : Sends s (s.sendTold c) := by
  unfold State.sendTold
  split
  · exact fnTxDone_sends ..
  · exact tripTx_sends ..
  · exact ptpSent_sends ..
  · exact .refl s

theorem send_sends (c : Copy) (mark stomp : Bool) : Sends s (s.send c mark stomp) := by
  unfold State.send
  simp only
  split
  · exact (portCount_sends _ _ _).trans (loseCopy_sends _ _)
  · have h : ∀ (t : State) n a b d, Sends t (t.sendPort c n a b d) := fun _ _ _ _ _ => setPort_sends ..
    exact ((((sendCounts_sends _ _ _ _ _ _ _).trans (h _ _ _ _ _)).trans (passCopy_sends _ _)).trans (release_sends _ _)).trans
      (sendTold_sends _ _)

theorem enqueue_sends (m : Meta) (port : Nat) : Sends s (s.enqueue m port).2 := by
  have h0 : Sends s (s.number m port).2 := ⟨_, _, _, _, _, _, _, _, rfl⟩
  have h1 := h0.trans (admission_sends _ (.port port) m.cls m.hold ((s.number m port).2.ownCells m.fid))
  have hq : ∀ (t : State) q, Sends t { t with sw.queue := q } := fun _ _ => ⟨_, _, _, _, _, _, _, _, rfl⟩
  unfold State.enqueue
  simp only
  split
  · rename_i e
    rename_i part u
    rw [e] at h1
    have h2 := h1.trans (hold_sends u m.fid (s.number m port).1.cells part)
    split
    · split
      · exact h2.trans (send_sends _ _ _ _)
      · exact h2.trans (hq _ _)
    · exact h2.trans (hq _ _)
  · rename_i e
    rw [e] at h1
    exact h1.trans (skipCopy_sends _ _)

theorem enqueueAll_sends (m : Meta) (l : List Nat) (s : State) : Sends s (State.enqueueAll m l s).2 := by
  induction l generalizing s with
  | nil => exact .refl s
  | cons p ps ih => exact (enqueue_sends s m p).trans (ih _)

/-- A frame of the module's own sources changes only what a frame can. -/
theorem modSend_sends (ports : List Nat) (f : Frame) (cls : Nat) (o : Origin) : Sends s (s.modSend ports f cls o) := by
  unfold State.modSend
  have h : Sends s (s.newFrame cls).2 := ⟨_, _, _, _, _, _, _, _, rfl⟩
  exact (h.trans (enqueueAll_sends _ _ _)).trans (Sends.foldl (fun s p => portCount_sends s p _) _ _)

/-- A heartbeat changes what a frame can, and its path's part of the redundancy block. -/
theorem hbSend_sends (h2 : Bool) (final : Option Nat) : ∃ r, Sends { s with red := r } (s.hbSend h2 final) := by
  unfold State.hbSend
  cases h2
  · simp only [Bool.false_eq_true, if_false, Bool.not_false, if_true]
    split
    · exact ⟨_, .refl _⟩
    · refine ⟨_, Sends.foldl (fun s i => ?_) _ _⟩
      split
      · exact txCount_sends ..
      · exact .refl _
  · simp only [if_true, Bool.not_true, Bool.false_eq_true, if_false]
    split
    · exact ⟨_, .refl _⟩
    · refine ⟨_, Sends.foldl (fun s g => ?_) _ _⟩
      have h : Sends s { s with sw.prpSeq := s.sw.prpSeq.set g.1 ((s.sw.prpSeq.getD g.1 0 + 1) % 65536) } :=
        ⟨_, _, _, _, _, _, _, _, rfl⟩
      exact h.trans (modSend_sends _ _ _ _ _)

/-- The final heartbeat changes the redundancy block and what a frame can. -/
theorem finalHeartbeat_frame (reason : Nat) : ∃ r q f h p w g y tp, s.finalHeartbeat reason = { s with
    red := r, ao.firnSeq := q, firn := f, host := h, ports := p, sw := w, goose := g, fns := y, time.ports := tp } := by
  unfold State.finalHeartbeat
  split
  · obtain ⟨r, q, f, h, p, w, g, y, tp, e⟩ := hbSend_sends s false (some reason)
    rw [e]
    obtain ⟨r2, q2, f2, h2, p2, w2, g2, y2, tp2, e2⟩ := hbSend_sends
      { s with red := r, ao.firnSeq := q, firn := f, host := h, ports := p, sw := w, goose := g, fns := y, time.ports := tp }
      true (some reason)
    rw [e2]
    exact ⟨_, _, _, _, _, _, _, _, _, rfl⟩
  · exact ⟨_, _, _, _, _, _, _, _, _, rfl⟩

end Machine
end Sys2Proof
end

