-- ==== Sys2Proof/Laws/State.lean ====
section
/-! SUPPORT. What each named update of the state changes, one lemma per field and update. -/

namespace Sys2Proof
namespace Machine

variable (s : State)

/-! ## setChan -/

@[simp] theorem setChan_pending (p : Path) (c : Chan) : (s.setChan p c).pending = s.pending := rfl
@[simp] theorem setChan_free (p : Path) (c : Chan) : (s.setChan p c).free = s.free := rfl
@[simp] theorem setChan_mod (p : Path) (c : Chan) : (s.setChan p c).mod = s.mod := rfl
@[simp] theorem setChan_power (p : Path) (c : Chan) : (s.setChan p c).power = s.power := rfl
@[simp] theorem setChan_ao (p : Path) (c : Chan) : (s.setChan p c).ao = s.ao := rfl
@[simp] theorem setChan_flash (p : Path) (c : Chan) : (s.setChan p c).flash = s.flash := rfl
@[simp] theorem setChan_time (p : Path) (c : Chan) : (s.setChan p c).time = s.time := rfl
@[simp] theorem setChan_host (p : Path) (c : Chan) : (s.setChan p c).host = { s.host with chans := s.host.chans.set (chanKey p) c } := rfl
@[simp] theorem setChan_p7 (p : Path) (c : Chan) : (s.setChan p c).p7 = s.p7 := rfl
@[simp] theorem setChan_firn (p : Path) (c : Chan) : (s.setChan p c).firn = s.firn := rfl
@[simp] theorem setChan_sec (p : Path) (c : Chan) : (s.setChan p c).sec = s.sec := rfl
@[simp] theorem setChan_diag (p : Path) (c : Chan) : (s.setChan p c).diag = s.diag := rfl
@[simp] theorem setChan_fns (p : Path) (c : Chan) : (s.setChan p c).fns = s.fns := rfl
@[simp] theorem setChan_sched (p : Path) (c : Chan) : (s.setChan p c).sched = s.sched := rfl
@[simp] theorem setChan_dma (p : Path) (c : Chan) : (s.setChan p c).dma = s.dma := rfl
@[simp] theorem setChan_ports (p : Path) (c : Chan) : (s.setChan p c).ports = s.ports := rfl
@[simp] theorem setChan_sw (p : Path) (c : Chan) : (s.setChan p c).sw = s.sw := rfl
@[simp] theorem setChan_goose (p : Path) (c : Chan) : (s.setChan p c).goose = s.goose := rfl
@[simp] theorem setChan_sv (p : Path) (c : Chan) : (s.setChan p c).sv = s.sv := rfl
@[simp] theorem setChan_aln (p : Path) (c : Chan) : (s.setChan p c).aln = s.aln := rfl
@[simp] theorem setChan_ph (p : Path) (c : Chan) : (s.setChan p c).ph = s.ph := rfl
@[simp] theorem setChan_grd (p : Path) (c : Chan) : (s.setChan p c).grd = s.grd := rfl
@[simp] theorem setChan_logic (p : Path) (c : Chan) : (s.setChan p c).logic = s.logic := rfl
@[simp] theorem setChan_brio (p : Path) (c : Chan) : (s.setChan p c).brio = s.brio := rfl
@[simp] theorem setChan_safe (p : Path) (c : Chan) : (s.setChan p c).safe = s.safe := rfl
@[simp] theorem setChan_red (p : Path) (c : Chan) : (s.setChan p c).red = s.red := rfl
@[simp] theorem setChan_acq (p : Path) (c : Chan) : (s.setChan p c).acq = s.acq := rfl
@[simp] theorem setChan_stg (p : Path) (c : Chan) : (s.setChan p c).stg = s.stg := rfl
@[simp] theorem setChan_mem (p : Path) (c : Chan) : (s.setChan p c).mem = s.mem := rfl
@[simp] theorem setChan_rtc (p : Path) (c : Chan) : (s.setChan p c).rtc = s.rtc := rfl
@[simp] theorem setChan_cfg (p : Path) (c : Chan) : (s.setChan p c).cfg = s.cfg := rfl
@[simp] theorem setChan_stored (p : Path) (c : Chan) : (s.setChan p c).stored = s.stored := rfl

/-! ## setFn -/

@[simp] theorem setFn_pending (n : Nat) (f : Fn) : (s.setFn n f).pending = s.pending := rfl
@[simp] theorem setFn_free (n : Nat) (f : Fn) : (s.setFn n f).free = s.free := rfl
@[simp] theorem setFn_mod (n : Nat) (f : Fn) : (s.setFn n f).mod = s.mod := rfl
@[simp] theorem setFn_power (n : Nat) (f : Fn) : (s.setFn n f).power = s.power := rfl
@[simp] theorem setFn_ao (n : Nat) (f : Fn) : (s.setFn n f).ao = s.ao := rfl
@[simp] theorem setFn_flash (n : Nat) (f : Fn) : (s.setFn n f).flash = s.flash := rfl
@[simp] theorem setFn_time (n : Nat) (f : Fn) : (s.setFn n f).time = s.time := rfl
@[simp] theorem setFn_host (n : Nat) (f : Fn) : (s.setFn n f).host = s.host := rfl
@[simp] theorem setFn_p7 (n : Nat) (f : Fn) : (s.setFn n f).p7 = s.p7 := rfl
@[simp] theorem setFn_firn (n : Nat) (f : Fn) : (s.setFn n f).firn = s.firn := rfl
@[simp] theorem setFn_sec (n : Nat) (f : Fn) : (s.setFn n f).sec = s.sec := rfl
@[simp] theorem setFn_diag (n : Nat) (f : Fn) : (s.setFn n f).diag = s.diag := rfl
@[simp] theorem setFn_fns (n : Nat) (f : Fn) : (s.setFn n f).fns = s.fns.set n f := rfl
@[simp] theorem setFn_sched (n : Nat) (f : Fn) : (s.setFn n f).sched = s.sched := rfl
@[simp] theorem setFn_dma (n : Nat) (f : Fn) : (s.setFn n f).dma = s.dma := rfl
@[simp] theorem setFn_ports (n : Nat) (f : Fn) : (s.setFn n f).ports = s.ports := rfl
@[simp] theorem setFn_sw (n : Nat) (f : Fn) : (s.setFn n f).sw = s.sw := rfl
@[simp] theorem setFn_goose (n : Nat) (f : Fn) : (s.setFn n f).goose = s.goose := rfl
@[simp] theorem setFn_sv (n : Nat) (f : Fn) : (s.setFn n f).sv = s.sv := rfl
@[simp] theorem setFn_aln (n : Nat) (f : Fn) : (s.setFn n f).aln = s.aln := rfl
@[simp] theorem setFn_ph (n : Nat) (f : Fn) : (s.setFn n f).ph = s.ph := rfl
@[simp] theorem setFn_grd (n : Nat) (f : Fn) : (s.setFn n f).grd = s.grd := rfl
@[simp] theorem setFn_logic (n : Nat) (f : Fn) : (s.setFn n f).logic = s.logic := rfl
@[simp] theorem setFn_brio (n : Nat) (f : Fn) : (s.setFn n f).brio = s.brio := rfl
@[simp] theorem setFn_safe (n : Nat) (f : Fn) : (s.setFn n f).safe = s.safe := rfl
@[simp] theorem setFn_red (n : Nat) (f : Fn) : (s.setFn n f).red = s.red := rfl
@[simp] theorem setFn_acq (n : Nat) (f : Fn) : (s.setFn n f).acq = s.acq := rfl
@[simp] theorem setFn_stg (n : Nat) (f : Fn) : (s.setFn n f).stg = s.stg := rfl
@[simp] theorem setFn_mem (n : Nat) (f : Fn) : (s.setFn n f).mem = s.mem := rfl
@[simp] theorem setFn_rtc (n : Nat) (f : Fn) : (s.setFn n f).rtc = s.rtc := rfl
@[simp] theorem setFn_cfg (n : Nat) (f : Fn) : (s.setFn n f).cfg = s.cfg := rfl
@[simp] theorem setFn_stored (n : Nat) (f : Fn) : (s.setFn n f).stored = s.stored := rfl

/-! ## setDma -/

@[simp] theorem setDma_pending (n : Nat) (c : DmaChan) : (s.setDma n c).pending = s.pending := rfl
@[simp] theorem setDma_free (n : Nat) (c : DmaChan) : (s.setDma n c).free = s.free := rfl
@[simp] theorem setDma_mod (n : Nat) (c : DmaChan) : (s.setDma n c).mod = s.mod := rfl
@[simp] theorem setDma_power (n : Nat) (c : DmaChan) : (s.setDma n c).power = s.power := rfl
@[simp] theorem setDma_ao (n : Nat) (c : DmaChan) : (s.setDma n c).ao = s.ao := rfl
@[simp] theorem setDma_flash (n : Nat) (c : DmaChan) : (s.setDma n c).flash = s.flash := rfl
@[simp] theorem setDma_time (n : Nat) (c : DmaChan) : (s.setDma n c).time = s.time := rfl
@[simp] theorem setDma_host (n : Nat) (c : DmaChan) : (s.setDma n c).host = s.host := rfl
@[simp] theorem setDma_p7 (n : Nat) (c : DmaChan) : (s.setDma n c).p7 = s.p7 := rfl
@[simp] theorem setDma_firn (n : Nat) (c : DmaChan) : (s.setDma n c).firn = s.firn := rfl
@[simp] theorem setDma_sec (n : Nat) (c : DmaChan) : (s.setDma n c).sec = s.sec := rfl
@[simp] theorem setDma_diag (n : Nat) (c : DmaChan) : (s.setDma n c).diag = s.diag := rfl
@[simp] theorem setDma_fns (n : Nat) (c : DmaChan) : (s.setDma n c).fns = s.fns := rfl
@[simp] theorem setDma_sched (n : Nat) (c : DmaChan) : (s.setDma n c).sched = s.sched := rfl
@[simp] theorem setDma_dma (n : Nat) (c : DmaChan) : (s.setDma n c).dma = { s.dma with chans := s.dma.chans.set n c } := rfl
@[simp] theorem setDma_ports (n : Nat) (c : DmaChan) : (s.setDma n c).ports = s.ports := rfl
@[simp] theorem setDma_sw (n : Nat) (c : DmaChan) : (s.setDma n c).sw = s.sw := rfl
@[simp] theorem setDma_goose (n : Nat) (c : DmaChan) : (s.setDma n c).goose = s.goose := rfl
@[simp] theorem setDma_sv (n : Nat) (c : DmaChan) : (s.setDma n c).sv = s.sv := rfl
@[simp] theorem setDma_aln (n : Nat) (c : DmaChan) : (s.setDma n c).aln = s.aln := rfl
@[simp] theorem setDma_ph (n : Nat) (c : DmaChan) : (s.setDma n c).ph = s.ph := rfl
@[simp] theorem setDma_grd (n : Nat) (c : DmaChan) : (s.setDma n c).grd = s.grd := rfl
@[simp] theorem setDma_logic (n : Nat) (c : DmaChan) : (s.setDma n c).logic = s.logic := rfl
@[simp] theorem setDma_brio (n : Nat) (c : DmaChan) : (s.setDma n c).brio = s.brio := rfl
@[simp] theorem setDma_safe (n : Nat) (c : DmaChan) : (s.setDma n c).safe = s.safe := rfl
@[simp] theorem setDma_red (n : Nat) (c : DmaChan) : (s.setDma n c).red = s.red := rfl
@[simp] theorem setDma_acq (n : Nat) (c : DmaChan) : (s.setDma n c).acq = s.acq := rfl
@[simp] theorem setDma_stg (n : Nat) (c : DmaChan) : (s.setDma n c).stg = s.stg := rfl
@[simp] theorem setDma_mem (n : Nat) (c : DmaChan) : (s.setDma n c).mem = s.mem := rfl
@[simp] theorem setDma_rtc (n : Nat) (c : DmaChan) : (s.setDma n c).rtc = s.rtc := rfl
@[simp] theorem setDma_cfg (n : Nat) (c : DmaChan) : (s.setDma n c).cfg = s.cfg := rfl
@[simp] theorem setDma_stored (n : Nat) (c : DmaChan) : (s.setDma n c).stored = s.stored := rfl

/-! ## setPort -/

@[simp] theorem setPort_pending (i : Nat) (x : Port) : (s.setPort i x).pending = s.pending := rfl
@[simp] theorem setPort_free (i : Nat) (x : Port) : (s.setPort i x).free = s.free := rfl
@[simp] theorem setPort_mod (i : Nat) (x : Port) : (s.setPort i x).mod = s.mod := rfl
@[simp] theorem setPort_power (i : Nat) (x : Port) : (s.setPort i x).power = s.power := rfl
@[simp] theorem setPort_ao (i : Nat) (x : Port) : (s.setPort i x).ao = s.ao := rfl
@[simp] theorem setPort_flash (i : Nat) (x : Port) : (s.setPort i x).flash = s.flash := rfl
@[simp] theorem setPort_time (i : Nat) (x : Port) : (s.setPort i x).time = s.time := rfl
@[simp] theorem setPort_host (i : Nat) (x : Port) : (s.setPort i x).host = s.host := rfl
@[simp] theorem setPort_p7 (i : Nat) (x : Port) : (s.setPort i x).p7 = s.p7 := rfl
@[simp] theorem setPort_firn (i : Nat) (x : Port) : (s.setPort i x).firn = s.firn := rfl
@[simp] theorem setPort_sec (i : Nat) (x : Port) : (s.setPort i x).sec = s.sec := rfl
@[simp] theorem setPort_diag (i : Nat) (x : Port) : (s.setPort i x).diag = s.diag := rfl
@[simp] theorem setPort_fns (i : Nat) (x : Port) : (s.setPort i x).fns = s.fns := rfl
@[simp] theorem setPort_sched (i : Nat) (x : Port) : (s.setPort i x).sched = s.sched := rfl
@[simp] theorem setPort_dma (i : Nat) (x : Port) : (s.setPort i x).dma = s.dma := rfl
@[simp] theorem setPort_ports (i : Nat) (x : Port) : (s.setPort i x).ports = { s.ports with port := s.ports.port.set i x } := rfl
@[simp] theorem setPort_sw (i : Nat) (x : Port) : (s.setPort i x).sw = s.sw := rfl
@[simp] theorem setPort_goose (i : Nat) (x : Port) : (s.setPort i x).goose = s.goose := rfl
@[simp] theorem setPort_sv (i : Nat) (x : Port) : (s.setPort i x).sv = s.sv := rfl
@[simp] theorem setPort_aln (i : Nat) (x : Port) : (s.setPort i x).aln = s.aln := rfl
@[simp] theorem setPort_ph (i : Nat) (x : Port) : (s.setPort i x).ph = s.ph := rfl
@[simp] theorem setPort_grd (i : Nat) (x : Port) : (s.setPort i x).grd = s.grd := rfl
@[simp] theorem setPort_logic (i : Nat) (x : Port) : (s.setPort i x).logic = s.logic := rfl
@[simp] theorem setPort_brio (i : Nat) (x : Port) : (s.setPort i x).brio = s.brio := rfl
@[simp] theorem setPort_safe (i : Nat) (x : Port) : (s.setPort i x).safe = s.safe := rfl
@[simp] theorem setPort_red (i : Nat) (x : Port) : (s.setPort i x).red = s.red := rfl
@[simp] theorem setPort_acq (i : Nat) (x : Port) : (s.setPort i x).acq = s.acq := rfl
@[simp] theorem setPort_stg (i : Nat) (x : Port) : (s.setPort i x).stg = s.stg := rfl
@[simp] theorem setPort_mem (i : Nat) (x : Port) : (s.setPort i x).mem = s.mem := rfl
@[simp] theorem setPort_rtc (i : Nat) (x : Port) : (s.setPort i x).rtc = s.rtc := rfl
@[simp] theorem setPort_cfg (i : Nat) (x : Port) : (s.setPort i x).cfg = s.cfg := rfl
@[simp] theorem setPort_stored (i : Nat) (x : Port) : (s.setPort i x).stored = s.stored := rfl

/-! ## setStaged -/

@[simp] theorem setStaged_pending (t : Tables) : (s.setStaged t).pending = s.pending := rfl
@[simp] theorem setStaged_free (t : Tables) : (s.setStaged t).free = s.free := rfl
@[simp] theorem setStaged_mod (t : Tables) : (s.setStaged t).mod = s.mod := rfl
@[simp] theorem setStaged_power (t : Tables) : (s.setStaged t).power = s.power := rfl
@[simp] theorem setStaged_ao (t : Tables) : (s.setStaged t).ao = s.ao := rfl
@[simp] theorem setStaged_flash (t : Tables) : (s.setStaged t).flash = s.flash := rfl
@[simp] theorem setStaged_time (t : Tables) : (s.setStaged t).time = s.time := rfl
@[simp] theorem setStaged_host (t : Tables) : (s.setStaged t).host = s.host := rfl
@[simp] theorem setStaged_p7 (t : Tables) : (s.setStaged t).p7 = s.p7 := rfl
@[simp] theorem setStaged_firn (t : Tables) : (s.setStaged t).firn = s.firn := rfl
@[simp] theorem setStaged_sec (t : Tables) : (s.setStaged t).sec = s.sec := rfl
@[simp] theorem setStaged_diag (t : Tables) : (s.setStaged t).diag = s.diag := rfl
@[simp] theorem setStaged_fns (t : Tables) : (s.setStaged t).fns = s.fns := rfl
@[simp] theorem setStaged_sched (t : Tables) : (s.setStaged t).sched = s.sched := rfl
@[simp] theorem setStaged_dma (t : Tables) : (s.setStaged t).dma = s.dma := rfl
@[simp] theorem setStaged_ports (t : Tables) : (s.setStaged t).ports = s.ports := rfl
@[simp] theorem setStaged_sw (t : Tables) : (s.setStaged t).sw = s.sw := rfl
@[simp] theorem setStaged_goose (t : Tables) : (s.setStaged t).goose = s.goose := rfl
@[simp] theorem setStaged_sv (t : Tables) : (s.setStaged t).sv = s.sv := rfl
@[simp] theorem setStaged_aln (t : Tables) : (s.setStaged t).aln = s.aln := rfl
@[simp] theorem setStaged_ph (t : Tables) : (s.setStaged t).ph = s.ph := rfl
@[simp] theorem setStaged_grd (t : Tables) : (s.setStaged t).grd = s.grd := rfl
@[simp] theorem setStaged_logic (t : Tables) : (s.setStaged t).logic = s.logic := rfl
@[simp] theorem setStaged_brio (t : Tables) : (s.setStaged t).brio = s.brio := rfl
@[simp] theorem setStaged_safe (t : Tables) : (s.setStaged t).safe = s.safe := rfl
@[simp] theorem setStaged_red (t : Tables) : (s.setStaged t).red = s.red := rfl
@[simp] theorem setStaged_acq (t : Tables) : (s.setStaged t).acq = s.acq := rfl
@[simp] theorem setStaged_stg (t : Tables) : (s.setStaged t).stg = some t := rfl
@[simp] theorem setStaged_mem (t : Tables) : (s.setStaged t).mem = s.mem := rfl
@[simp] theorem setStaged_rtc (t : Tables) : (s.setStaged t).rtc = s.rtc := rfl
@[simp] theorem setStaged_cfg (t : Tables) : (s.setStaged t).cfg = s.cfg := rfl
@[simp] theorem setStaged_stored (t : Tables) : (s.setStaged t).stored = s.stored := rfl

/-! ## setAln -/

@[simp] theorem setAln_pending (k : Nat) (x : AlnStream) : (s.setAln k x).pending = s.pending := rfl
@[simp] theorem setAln_free (k : Nat) (x : AlnStream) : (s.setAln k x).free = s.free := rfl
@[simp] theorem setAln_mod (k : Nat) (x : AlnStream) : (s.setAln k x).mod = s.mod := rfl
@[simp] theorem setAln_power (k : Nat) (x : AlnStream) : (s.setAln k x).power = s.power := rfl
@[simp] theorem setAln_ao (k : Nat) (x : AlnStream) : (s.setAln k x).ao = s.ao := rfl
@[simp] theorem setAln_flash (k : Nat) (x : AlnStream) : (s.setAln k x).flash = s.flash := rfl
@[simp] theorem setAln_time (k : Nat) (x : AlnStream) : (s.setAln k x).time = s.time := rfl
@[simp] theorem setAln_host (k : Nat) (x : AlnStream) : (s.setAln k x).host = s.host := rfl
@[simp] theorem setAln_p7 (k : Nat) (x : AlnStream) : (s.setAln k x).p7 = s.p7 := rfl
@[simp] theorem setAln_firn (k : Nat) (x : AlnStream) : (s.setAln k x).firn = s.firn := rfl
@[simp] theorem setAln_sec (k : Nat) (x : AlnStream) : (s.setAln k x).sec = s.sec := rfl
@[simp] theorem setAln_diag (k : Nat) (x : AlnStream) : (s.setAln k x).diag = s.diag := rfl
@[simp] theorem setAln_fns (k : Nat) (x : AlnStream) : (s.setAln k x).fns = s.fns := rfl
@[simp] theorem setAln_sched (k : Nat) (x : AlnStream) : (s.setAln k x).sched = s.sched := rfl
@[simp] theorem setAln_dma (k : Nat) (x : AlnStream) : (s.setAln k x).dma = s.dma := rfl
@[simp] theorem setAln_ports (k : Nat) (x : AlnStream) : (s.setAln k x).ports = s.ports := rfl
@[simp] theorem setAln_sw (k : Nat) (x : AlnStream) : (s.setAln k x).sw = s.sw := rfl
@[simp] theorem setAln_goose (k : Nat) (x : AlnStream) : (s.setAln k x).goose = s.goose := rfl
@[simp] theorem setAln_sv (k : Nat) (x : AlnStream) : (s.setAln k x).sv = s.sv := rfl
@[simp] theorem setAln_aln (k : Nat) (x : AlnStream) : (s.setAln k x).aln = { s.aln with streams := s.aln.streams.set k x } := rfl
@[simp] theorem setAln_ph (k : Nat) (x : AlnStream) : (s.setAln k x).ph = s.ph := rfl
@[simp] theorem setAln_grd (k : Nat) (x : AlnStream) : (s.setAln k x).grd = s.grd := rfl
@[simp] theorem setAln_logic (k : Nat) (x : AlnStream) : (s.setAln k x).logic = s.logic := rfl
@[simp] theorem setAln_brio (k : Nat) (x : AlnStream) : (s.setAln k x).brio = s.brio := rfl
@[simp] theorem setAln_safe (k : Nat) (x : AlnStream) : (s.setAln k x).safe = s.safe := rfl
@[simp] theorem setAln_red (k : Nat) (x : AlnStream) : (s.setAln k x).red = s.red := rfl
@[simp] theorem setAln_acq (k : Nat) (x : AlnStream) : (s.setAln k x).acq = s.acq := rfl
@[simp] theorem setAln_stg (k : Nat) (x : AlnStream) : (s.setAln k x).stg = s.stg := rfl
@[simp] theorem setAln_mem (k : Nat) (x : AlnStream) : (s.setAln k x).mem = s.mem := rfl
@[simp] theorem setAln_rtc (k : Nat) (x : AlnStream) : (s.setAln k x).rtc = s.rtc := rfl
@[simp] theorem setAln_cfg (k : Nat) (x : AlnStream) : (s.setAln k x).cfg = s.cfg := rfl
@[simp] theorem setAln_stored (k : Nat) (x : AlnStream) : (s.setAln k x).stored = s.stored := rfl

/-! ## setSv -/

@[simp] theorem setSv_pending (k : Nat) (x : SvStream) : (s.setSv k x).pending = s.pending := rfl
@[simp] theorem setSv_free (k : Nat) (x : SvStream) : (s.setSv k x).free = s.free := rfl
@[simp] theorem setSv_mod (k : Nat) (x : SvStream) : (s.setSv k x).mod = s.mod := rfl
@[simp] theorem setSv_power (k : Nat) (x : SvStream) : (s.setSv k x).power = s.power := rfl
@[simp] theorem setSv_ao (k : Nat) (x : SvStream) : (s.setSv k x).ao = s.ao := rfl
@[simp] theorem setSv_flash (k : Nat) (x : SvStream) : (s.setSv k x).flash = s.flash := rfl
@[simp] theorem setSv_time (k : Nat) (x : SvStream) : (s.setSv k x).time = s.time := rfl
@[simp] theorem setSv_host (k : Nat) (x : SvStream) : (s.setSv k x).host = s.host := rfl
@[simp] theorem setSv_p7 (k : Nat) (x : SvStream) : (s.setSv k x).p7 = s.p7 := rfl
@[simp] theorem setSv_firn (k : Nat) (x : SvStream) : (s.setSv k x).firn = s.firn := rfl
@[simp] theorem setSv_sec (k : Nat) (x : SvStream) : (s.setSv k x).sec = s.sec := rfl
@[simp] theorem setSv_diag (k : Nat) (x : SvStream) : (s.setSv k x).diag = s.diag := rfl
@[simp] theorem setSv_fns (k : Nat) (x : SvStream) : (s.setSv k x).fns = s.fns := rfl
@[simp] theorem setSv_sched (k : Nat) (x : SvStream) : (s.setSv k x).sched = s.sched := rfl
@[simp] theorem setSv_dma (k : Nat) (x : SvStream) : (s.setSv k x).dma = s.dma := rfl
@[simp] theorem setSv_ports (k : Nat) (x : SvStream) : (s.setSv k x).ports = s.ports := rfl
@[simp] theorem setSv_sw (k : Nat) (x : SvStream) : (s.setSv k x).sw = s.sw := rfl
@[simp] theorem setSv_goose (k : Nat) (x : SvStream) : (s.setSv k x).goose = s.goose := rfl
@[simp] theorem setSv_sv (k : Nat) (x : SvStream) : (s.setSv k x).sv = { s.sv with streams := s.sv.streams.set k x } := rfl
@[simp] theorem setSv_aln (k : Nat) (x : SvStream) : (s.setSv k x).aln = s.aln := rfl
@[simp] theorem setSv_ph (k : Nat) (x : SvStream) : (s.setSv k x).ph = s.ph := rfl
@[simp] theorem setSv_grd (k : Nat) (x : SvStream) : (s.setSv k x).grd = s.grd := rfl
@[simp] theorem setSv_logic (k : Nat) (x : SvStream) : (s.setSv k x).logic = s.logic := rfl
@[simp] theorem setSv_brio (k : Nat) (x : SvStream) : (s.setSv k x).brio = s.brio := rfl
@[simp] theorem setSv_safe (k : Nat) (x : SvStream) : (s.setSv k x).safe = s.safe := rfl
@[simp] theorem setSv_red (k : Nat) (x : SvStream) : (s.setSv k x).red = s.red := rfl
@[simp] theorem setSv_acq (k : Nat) (x : SvStream) : (s.setSv k x).acq = s.acq := rfl
@[simp] theorem setSv_stg (k : Nat) (x : SvStream) : (s.setSv k x).stg = s.stg := rfl
@[simp] theorem setSv_mem (k : Nat) (x : SvStream) : (s.setSv k x).mem = s.mem := rfl
@[simp] theorem setSv_rtc (k : Nat) (x : SvStream) : (s.setSv k x).rtc = s.rtc := rfl
@[simp] theorem setSv_cfg (k : Nat) (x : SvStream) : (s.setSv k x).cfg = s.cfg := rfl
@[simp] theorem setSv_stored (k : Nat) (x : SvStream) : (s.setSv k x).stored = s.stored := rfl

/-! ## setPub -/

@[simp] theorem setPub_pending (p : Nat) (x : Pub) : (s.setPub p x).pending = s.pending := rfl
@[simp] theorem setPub_free (p : Nat) (x : Pub) : (s.setPub p x).free = s.free := rfl
@[simp] theorem setPub_mod (p : Nat) (x : Pub) : (s.setPub p x).mod = s.mod := rfl
@[simp] theorem setPub_power (p : Nat) (x : Pub) : (s.setPub p x).power = s.power := rfl
@[simp] theorem setPub_ao (p : Nat) (x : Pub) : (s.setPub p x).ao = s.ao := rfl
@[simp] theorem setPub_flash (p : Nat) (x : Pub) : (s.setPub p x).flash = s.flash := rfl
@[simp] theorem setPub_time (p : Nat) (x : Pub) : (s.setPub p x).time = s.time := rfl
@[simp] theorem setPub_host (p : Nat) (x : Pub) : (s.setPub p x).host = s.host := rfl
@[simp] theorem setPub_p7 (p : Nat) (x : Pub) : (s.setPub p x).p7 = s.p7 := rfl
@[simp] theorem setPub_firn (p : Nat) (x : Pub) : (s.setPub p x).firn = s.firn := rfl
@[simp] theorem setPub_sec (p : Nat) (x : Pub) : (s.setPub p x).sec = s.sec := rfl
@[simp] theorem setPub_diag (p : Nat) (x : Pub) : (s.setPub p x).diag = s.diag := rfl
@[simp] theorem setPub_fns (p : Nat) (x : Pub) : (s.setPub p x).fns = s.fns := rfl
@[simp] theorem setPub_sched (p : Nat) (x : Pub) : (s.setPub p x).sched = s.sched := rfl
@[simp] theorem setPub_dma (p : Nat) (x : Pub) : (s.setPub p x).dma = s.dma := rfl
@[simp] theorem setPub_ports (p : Nat) (x : Pub) : (s.setPub p x).ports = s.ports := rfl
@[simp] theorem setPub_sw (p : Nat) (x : Pub) : (s.setPub p x).sw = s.sw := rfl
@[simp] theorem setPub_goose (p : Nat) (x : Pub) : (s.setPub p x).goose = { s.goose with pubs := s.goose.pubs.set p x } := rfl
@[simp] theorem setPub_sv (p : Nat) (x : Pub) : (s.setPub p x).sv = s.sv := rfl
@[simp] theorem setPub_aln (p : Nat) (x : Pub) : (s.setPub p x).aln = s.aln := rfl
@[simp] theorem setPub_ph (p : Nat) (x : Pub) : (s.setPub p x).ph = s.ph := rfl
@[simp] theorem setPub_grd (p : Nat) (x : Pub) : (s.setPub p x).grd = s.grd := rfl
@[simp] theorem setPub_logic (p : Nat) (x : Pub) : (s.setPub p x).logic = s.logic := rfl
@[simp] theorem setPub_brio (p : Nat) (x : Pub) : (s.setPub p x).brio = s.brio := rfl
@[simp] theorem setPub_safe (p : Nat) (x : Pub) : (s.setPub p x).safe = s.safe := rfl
@[simp] theorem setPub_red (p : Nat) (x : Pub) : (s.setPub p x).red = s.red := rfl
@[simp] theorem setPub_acq (p : Nat) (x : Pub) : (s.setPub p x).acq = s.acq := rfl
@[simp] theorem setPub_stg (p : Nat) (x : Pub) : (s.setPub p x).stg = s.stg := rfl
@[simp] theorem setPub_mem (p : Nat) (x : Pub) : (s.setPub p x).mem = s.mem := rfl
@[simp] theorem setPub_rtc (p : Nat) (x : Pub) : (s.setPub p x).rtc = s.rtc := rfl
@[simp] theorem setPub_cfg (p : Nat) (x : Pub) : (s.setPub p x).cfg = s.cfg := rfl
@[simp] theorem setPub_stored (p : Nat) (x : Pub) : (s.setPub p x).stored = s.stored := rfl

/-! ## setSub -/

@[simp] theorem setSub_pending (g : Nat) (x : GooseSub) : (s.setSub g x).pending = s.pending := rfl
@[simp] theorem setSub_free (g : Nat) (x : GooseSub) : (s.setSub g x).free = s.free := rfl
@[simp] theorem setSub_mod (g : Nat) (x : GooseSub) : (s.setSub g x).mod = s.mod := rfl
@[simp] theorem setSub_power (g : Nat) (x : GooseSub) : (s.setSub g x).power = s.power := rfl
@[simp] theorem setSub_ao (g : Nat) (x : GooseSub) : (s.setSub g x).ao = s.ao := rfl
@[simp] theorem setSub_flash (g : Nat) (x : GooseSub) : (s.setSub g x).flash = s.flash := rfl
@[simp] theorem setSub_time (g : Nat) (x : GooseSub) : (s.setSub g x).time = s.time := rfl
@[simp] theorem setSub_host (g : Nat) (x : GooseSub) : (s.setSub g x).host = s.host := rfl
@[simp] theorem setSub_p7 (g : Nat) (x : GooseSub) : (s.setSub g x).p7 = s.p7 := rfl
@[simp] theorem setSub_firn (g : Nat) (x : GooseSub) : (s.setSub g x).firn = s.firn := rfl
@[simp] theorem setSub_sec (g : Nat) (x : GooseSub) : (s.setSub g x).sec = s.sec := rfl
@[simp] theorem setSub_diag (g : Nat) (x : GooseSub) : (s.setSub g x).diag = s.diag := rfl
@[simp] theorem setSub_fns (g : Nat) (x : GooseSub) : (s.setSub g x).fns = s.fns := rfl
@[simp] theorem setSub_sched (g : Nat) (x : GooseSub) : (s.setSub g x).sched = s.sched := rfl
@[simp] theorem setSub_dma (g : Nat) (x : GooseSub) : (s.setSub g x).dma = s.dma := rfl
@[simp] theorem setSub_ports (g : Nat) (x : GooseSub) : (s.setSub g x).ports = s.ports := rfl
@[simp] theorem setSub_sw (g : Nat) (x : GooseSub) : (s.setSub g x).sw = s.sw := rfl
@[simp] theorem setSub_goose (g : Nat) (x : GooseSub) : (s.setSub g x).goose = { s.goose with subs := s.goose.subs.set g x } := rfl
@[simp] theorem setSub_sv (g : Nat) (x : GooseSub) : (s.setSub g x).sv = s.sv := rfl
@[simp] theorem setSub_aln (g : Nat) (x : GooseSub) : (s.setSub g x).aln = s.aln := rfl
@[simp] theorem setSub_ph (g : Nat) (x : GooseSub) : (s.setSub g x).ph = s.ph := rfl
@[simp] theorem setSub_grd (g : Nat) (x : GooseSub) : (s.setSub g x).grd = s.grd := rfl
@[simp] theorem setSub_logic (g : Nat) (x : GooseSub) : (s.setSub g x).logic = s.logic := rfl
@[simp] theorem setSub_brio (g : Nat) (x : GooseSub) : (s.setSub g x).brio = s.brio := rfl
@[simp] theorem setSub_safe (g : Nat) (x : GooseSub) : (s.setSub g x).safe = s.safe := rfl
@[simp] theorem setSub_red (g : Nat) (x : GooseSub) : (s.setSub g x).red = s.red := rfl
@[simp] theorem setSub_acq (g : Nat) (x : GooseSub) : (s.setSub g x).acq = s.acq := rfl
@[simp] theorem setSub_stg (g : Nat) (x : GooseSub) : (s.setSub g x).stg = s.stg := rfl
@[simp] theorem setSub_mem (g : Nat) (x : GooseSub) : (s.setSub g x).mem = s.mem := rfl
@[simp] theorem setSub_rtc (g : Nat) (x : GooseSub) : (s.setSub g x).rtc = s.rtc := rfl
@[simp] theorem setSub_cfg (g : Nat) (x : GooseSub) : (s.setSub g x).cfg = s.cfg := rfl
@[simp] theorem setSub_stored (g : Nat) (x : GooseSub) : (s.setSub g x).stored = s.stored := rfl

/-! ## setEl -/

@[simp] theorem setEl_pending (i : Nat) (x : GrdEl) : (s.setEl i x).pending = s.pending := rfl
@[simp] theorem setEl_free (i : Nat) (x : GrdEl) : (s.setEl i x).free = s.free := rfl
@[simp] theorem setEl_mod (i : Nat) (x : GrdEl) : (s.setEl i x).mod = s.mod := rfl
@[simp] theorem setEl_power (i : Nat) (x : GrdEl) : (s.setEl i x).power = s.power := rfl
@[simp] theorem setEl_ao (i : Nat) (x : GrdEl) : (s.setEl i x).ao = s.ao := rfl
@[simp] theorem setEl_flash (i : Nat) (x : GrdEl) : (s.setEl i x).flash = s.flash := rfl
@[simp] theorem setEl_time (i : Nat) (x : GrdEl) : (s.setEl i x).time = s.time := rfl
@[simp] theorem setEl_host (i : Nat) (x : GrdEl) : (s.setEl i x).host = s.host := rfl
@[simp] theorem setEl_p7 (i : Nat) (x : GrdEl) : (s.setEl i x).p7 = s.p7 := rfl
@[simp] theorem setEl_firn (i : Nat) (x : GrdEl) : (s.setEl i x).firn = s.firn := rfl
@[simp] theorem setEl_sec (i : Nat) (x : GrdEl) : (s.setEl i x).sec = s.sec := rfl
@[simp] theorem setEl_diag (i : Nat) (x : GrdEl) : (s.setEl i x).diag = s.diag := rfl
@[simp] theorem setEl_fns (i : Nat) (x : GrdEl) : (s.setEl i x).fns = s.fns := rfl
@[simp] theorem setEl_sched (i : Nat) (x : GrdEl) : (s.setEl i x).sched = s.sched := rfl
@[simp] theorem setEl_dma (i : Nat) (x : GrdEl) : (s.setEl i x).dma = s.dma := rfl
@[simp] theorem setEl_ports (i : Nat) (x : GrdEl) : (s.setEl i x).ports = s.ports := rfl
@[simp] theorem setEl_sw (i : Nat) (x : GrdEl) : (s.setEl i x).sw = s.sw := rfl
@[simp] theorem setEl_goose (i : Nat) (x : GrdEl) : (s.setEl i x).goose = s.goose := rfl
@[simp] theorem setEl_sv (i : Nat) (x : GrdEl) : (s.setEl i x).sv = s.sv := rfl
@[simp] theorem setEl_aln (i : Nat) (x : GrdEl) : (s.setEl i x).aln = s.aln := rfl
@[simp] theorem setEl_ph (i : Nat) (x : GrdEl) : (s.setEl i x).ph = s.ph := rfl
@[simp] theorem setEl_grd (i : Nat) (x : GrdEl) : (s.setEl i x).grd = { s.grd with els := s.grd.els.set i x } := rfl
@[simp] theorem setEl_logic (i : Nat) (x : GrdEl) : (s.setEl i x).logic = s.logic := rfl
@[simp] theorem setEl_brio (i : Nat) (x : GrdEl) : (s.setEl i x).brio = s.brio := rfl
@[simp] theorem setEl_safe (i : Nat) (x : GrdEl) : (s.setEl i x).safe = s.safe := rfl
@[simp] theorem setEl_red (i : Nat) (x : GrdEl) : (s.setEl i x).red = s.red := rfl
@[simp] theorem setEl_acq (i : Nat) (x : GrdEl) : (s.setEl i x).acq = s.acq := rfl
@[simp] theorem setEl_stg (i : Nat) (x : GrdEl) : (s.setEl i x).stg = s.stg := rfl
@[simp] theorem setEl_mem (i : Nat) (x : GrdEl) : (s.setEl i x).mem = s.mem := rfl
@[simp] theorem setEl_rtc (i : Nat) (x : GrdEl) : (s.setEl i x).rtc = s.rtc := rfl
@[simp] theorem setEl_cfg (i : Nat) (x : GrdEl) : (s.setEl i x).cfg = s.cfg := rfl
@[simp] theorem setEl_stored (i : Nat) (x : GrdEl) : (s.setEl i x).stored = s.stored := rfl

/-! ## setRec -/

@[simp] theorem setRec_pending (i : Nat) (x : RecInst) : (s.setRec i x).pending = s.pending := rfl
@[simp] theorem setRec_free (i : Nat) (x : RecInst) : (s.setRec i x).free = s.free := rfl
@[simp] theorem setRec_mod (i : Nat) (x : RecInst) : (s.setRec i x).mod = s.mod := rfl
@[simp] theorem setRec_power (i : Nat) (x : RecInst) : (s.setRec i x).power = s.power := rfl
@[simp] theorem setRec_ao (i : Nat) (x : RecInst) : (s.setRec i x).ao = s.ao := rfl
@[simp] theorem setRec_flash (i : Nat) (x : RecInst) : (s.setRec i x).flash = s.flash := rfl
@[simp] theorem setRec_time (i : Nat) (x : RecInst) : (s.setRec i x).time = s.time := rfl
@[simp] theorem setRec_host (i : Nat) (x : RecInst) : (s.setRec i x).host = s.host := rfl
@[simp] theorem setRec_p7 (i : Nat) (x : RecInst) : (s.setRec i x).p7 = s.p7 := rfl
@[simp] theorem setRec_firn (i : Nat) (x : RecInst) : (s.setRec i x).firn = s.firn := rfl
@[simp] theorem setRec_sec (i : Nat) (x : RecInst) : (s.setRec i x).sec = s.sec := rfl
@[simp] theorem setRec_diag (i : Nat) (x : RecInst) : (s.setRec i x).diag = s.diag := rfl
@[simp] theorem setRec_fns (i : Nat) (x : RecInst) : (s.setRec i x).fns = s.fns := rfl
@[simp] theorem setRec_sched (i : Nat) (x : RecInst) : (s.setRec i x).sched = s.sched := rfl
@[simp] theorem setRec_dma (i : Nat) (x : RecInst) : (s.setRec i x).dma = s.dma := rfl
@[simp] theorem setRec_ports (i : Nat) (x : RecInst) : (s.setRec i x).ports = s.ports := rfl
@[simp] theorem setRec_sw (i : Nat) (x : RecInst) : (s.setRec i x).sw = s.sw := rfl
@[simp] theorem setRec_goose (i : Nat) (x : RecInst) : (s.setRec i x).goose = s.goose := rfl
@[simp] theorem setRec_sv (i : Nat) (x : RecInst) : (s.setRec i x).sv = s.sv := rfl
@[simp] theorem setRec_aln (i : Nat) (x : RecInst) : (s.setRec i x).aln = s.aln := rfl
@[simp] theorem setRec_ph (i : Nat) (x : RecInst) : (s.setRec i x).ph = s.ph := rfl
@[simp] theorem setRec_grd (i : Nat) (x : RecInst) : (s.setRec i x).grd = s.grd := rfl
@[simp] theorem setRec_logic (i : Nat) (x : RecInst) : (s.setRec i x).logic = s.logic := rfl
@[simp] theorem setRec_brio (i : Nat) (x : RecInst) : (s.setRec i x).brio = s.brio := rfl
@[simp] theorem setRec_safe (i : Nat) (x : RecInst) : (s.setRec i x).safe = s.safe := rfl
@[simp] theorem setRec_red (i : Nat) (x : RecInst) : (s.setRec i x).red = s.red := rfl
@[simp] theorem setRec_acq (i : Nat) (x : RecInst) : (s.setRec i x).acq = { s.acq with inst := s.acq.inst.set i x } := rfl
@[simp] theorem setRec_stg (i : Nat) (x : RecInst) : (s.setRec i x).stg = s.stg := rfl
@[simp] theorem setRec_mem (i : Nat) (x : RecInst) : (s.setRec i x).mem = s.mem := rfl
@[simp] theorem setRec_rtc (i : Nat) (x : RecInst) : (s.setRec i x).rtc = s.rtc := rfl
@[simp] theorem setRec_cfg (i : Nat) (x : RecInst) : (s.setRec i x).cfg = s.cfg := rfl
@[simp] theorem setRec_stored (i : Nat) (x : RecInst) : (s.setRec i x).stored = s.stored := rfl

/-! ## setConn -/

@[simp] theorem setConn_pending (c : Nat) (x : Conn) : (s.setConn c x).pending = s.pending := rfl
@[simp] theorem setConn_free (c : Nat) (x : Conn) : (s.setConn c x).free = s.free := rfl
@[simp] theorem setConn_mod (c : Nat) (x : Conn) : (s.setConn c x).mod = s.mod := rfl
@[simp] theorem setConn_power (c : Nat) (x : Conn) : (s.setConn c x).power = s.power := rfl
@[simp] theorem setConn_ao (c : Nat) (x : Conn) : (s.setConn c x).ao = s.ao := rfl
@[simp] theorem setConn_flash (c : Nat) (x : Conn) : (s.setConn c x).flash = s.flash := rfl
@[simp] theorem setConn_time (c : Nat) (x : Conn) : (s.setConn c x).time = s.time := rfl
@[simp] theorem setConn_host (c : Nat) (x : Conn) : (s.setConn c x).host = s.host := rfl
@[simp] theorem setConn_p7 (c : Nat) (x : Conn) : (s.setConn c x).p7 = s.p7 := rfl
@[simp] theorem setConn_firn (c : Nat) (x : Conn) : (s.setConn c x).firn = s.firn := rfl
@[simp] theorem setConn_sec (c : Nat) (x : Conn) : (s.setConn c x).sec = s.sec := rfl
@[simp] theorem setConn_diag (c : Nat) (x : Conn) : (s.setConn c x).diag = s.diag := rfl
@[simp] theorem setConn_fns (c : Nat) (x : Conn) : (s.setConn c x).fns = s.fns := rfl
@[simp] theorem setConn_sched (c : Nat) (x : Conn) : (s.setConn c x).sched = s.sched := rfl
@[simp] theorem setConn_dma (c : Nat) (x : Conn) : (s.setConn c x).dma = s.dma := rfl
@[simp] theorem setConn_ports (c : Nat) (x : Conn) : (s.setConn c x).ports = s.ports := rfl
@[simp] theorem setConn_sw (c : Nat) (x : Conn) : (s.setConn c x).sw = s.sw := rfl
@[simp] theorem setConn_goose (c : Nat) (x : Conn) : (s.setConn c x).goose = s.goose := rfl
@[simp] theorem setConn_sv (c : Nat) (x : Conn) : (s.setConn c x).sv = s.sv := rfl
@[simp] theorem setConn_aln (c : Nat) (x : Conn) : (s.setConn c x).aln = s.aln := rfl
@[simp] theorem setConn_ph (c : Nat) (x : Conn) : (s.setConn c x).ph = s.ph := rfl
@[simp] theorem setConn_grd (c : Nat) (x : Conn) : (s.setConn c x).grd = s.grd := rfl
@[simp] theorem setConn_logic (c : Nat) (x : Conn) : (s.setConn c x).logic = s.logic := rfl
@[simp] theorem setConn_brio (c : Nat) (x : Conn) : (s.setConn c x).brio = s.brio := rfl
@[simp] theorem setConn_safe (c : Nat) (x : Conn) : (s.setConn c x).safe = { s.safe with conns := s.safe.conns.set c x } := rfl
@[simp] theorem setConn_red (c : Nat) (x : Conn) : (s.setConn c x).red = s.red := rfl
@[simp] theorem setConn_acq (c : Nat) (x : Conn) : (s.setConn c x).acq = s.acq := rfl
@[simp] theorem setConn_stg (c : Nat) (x : Conn) : (s.setConn c x).stg = s.stg := rfl
@[simp] theorem setConn_mem (c : Nat) (x : Conn) : (s.setConn c x).mem = s.mem := rfl
@[simp] theorem setConn_rtc (c : Nat) (x : Conn) : (s.setConn c x).rtc = s.rtc := rfl
@[simp] theorem setConn_cfg (c : Nat) (x : Conn) : (s.setConn c x).cfg = s.cfg := rfl
@[simp] theorem setConn_stored (c : Nat) (x : Conn) : (s.setConn c x).stored = s.stored := rfl

/-! ## setSafeOut -/

@[simp] theorem setSafeOut_pending (n : Nat) (x : SafeOut) : (s.setSafeOut n x).pending = s.pending := rfl
@[simp] theorem setSafeOut_free (n : Nat) (x : SafeOut) : (s.setSafeOut n x).free = s.free := rfl
@[simp] theorem setSafeOut_mod (n : Nat) (x : SafeOut) : (s.setSafeOut n x).mod = s.mod := rfl
@[simp] theorem setSafeOut_power (n : Nat) (x : SafeOut) : (s.setSafeOut n x).power = s.power := rfl
@[simp] theorem setSafeOut_ao (n : Nat) (x : SafeOut) : (s.setSafeOut n x).ao = s.ao := rfl
@[simp] theorem setSafeOut_flash (n : Nat) (x : SafeOut) : (s.setSafeOut n x).flash = s.flash := rfl
@[simp] theorem setSafeOut_time (n : Nat) (x : SafeOut) : (s.setSafeOut n x).time = s.time := rfl
@[simp] theorem setSafeOut_host (n : Nat) (x : SafeOut) : (s.setSafeOut n x).host = s.host := rfl
@[simp] theorem setSafeOut_p7 (n : Nat) (x : SafeOut) : (s.setSafeOut n x).p7 = s.p7 := rfl
@[simp] theorem setSafeOut_firn (n : Nat) (x : SafeOut) : (s.setSafeOut n x).firn = s.firn := rfl
@[simp] theorem setSafeOut_sec (n : Nat) (x : SafeOut) : (s.setSafeOut n x).sec = s.sec := rfl
@[simp] theorem setSafeOut_diag (n : Nat) (x : SafeOut) : (s.setSafeOut n x).diag = s.diag := rfl
@[simp] theorem setSafeOut_fns (n : Nat) (x : SafeOut) : (s.setSafeOut n x).fns = s.fns := rfl
@[simp] theorem setSafeOut_sched (n : Nat) (x : SafeOut) : (s.setSafeOut n x).sched = s.sched := rfl
@[simp] theorem setSafeOut_dma (n : Nat) (x : SafeOut) : (s.setSafeOut n x).dma = s.dma := rfl
@[simp] theorem setSafeOut_ports (n : Nat) (x : SafeOut) : (s.setSafeOut n x).ports = s.ports := rfl
@[simp] theorem setSafeOut_sw (n : Nat) (x : SafeOut) : (s.setSafeOut n x).sw = s.sw := rfl
@[simp] theorem setSafeOut_goose (n : Nat) (x : SafeOut) : (s.setSafeOut n x).goose = s.goose := rfl
@[simp] theorem setSafeOut_sv (n : Nat) (x : SafeOut) : (s.setSafeOut n x).sv = s.sv := rfl
@[simp] theorem setSafeOut_aln (n : Nat) (x : SafeOut) : (s.setSafeOut n x).aln = s.aln := rfl
@[simp] theorem setSafeOut_ph (n : Nat) (x : SafeOut) : (s.setSafeOut n x).ph = s.ph := rfl
@[simp] theorem setSafeOut_grd (n : Nat) (x : SafeOut) : (s.setSafeOut n x).grd = s.grd := rfl
@[simp] theorem setSafeOut_logic (n : Nat) (x : SafeOut) : (s.setSafeOut n x).logic = s.logic := rfl
@[simp] theorem setSafeOut_brio (n : Nat) (x : SafeOut) : (s.setSafeOut n x).brio = s.brio := rfl
@[simp] theorem setSafeOut_safe (n : Nat) (x : SafeOut) : (s.setSafeOut n x).safe = { s.safe with outs := s.safe.outs.set n x } := rfl
@[simp] theorem setSafeOut_red (n : Nat) (x : SafeOut) : (s.setSafeOut n x).red = s.red := rfl
@[simp] theorem setSafeOut_acq (n : Nat) (x : SafeOut) : (s.setSafeOut n x).acq = s.acq := rfl
@[simp] theorem setSafeOut_stg (n : Nat) (x : SafeOut) : (s.setSafeOut n x).stg = s.stg := rfl
@[simp] theorem setSafeOut_mem (n : Nat) (x : SafeOut) : (s.setSafeOut n x).mem = s.mem := rfl
@[simp] theorem setSafeOut_rtc (n : Nat) (x : SafeOut) : (s.setSafeOut n x).rtc = s.rtc := rfl
@[simp] theorem setSafeOut_cfg (n : Nat) (x : SafeOut) : (s.setSafeOut n x).cfg = s.cfg := rfl
@[simp] theorem setSafeOut_stored (n : Nat) (x : SafeOut) : (s.setSafeOut n x).stored = s.stored := rfl

/-! ## setSafeIn -/

@[simp] theorem setSafeIn_pending (n : Nat) (x : SafeInput) : (s.setSafeIn n x).pending = s.pending := rfl
@[simp] theorem setSafeIn_free (n : Nat) (x : SafeInput) : (s.setSafeIn n x).free = s.free := rfl
@[simp] theorem setSafeIn_mod (n : Nat) (x : SafeInput) : (s.setSafeIn n x).mod = s.mod := rfl
@[simp] theorem setSafeIn_power (n : Nat) (x : SafeInput) : (s.setSafeIn n x).power = s.power := rfl
@[simp] theorem setSafeIn_ao (n : Nat) (x : SafeInput) : (s.setSafeIn n x).ao = s.ao := rfl
@[simp] theorem setSafeIn_flash (n : Nat) (x : SafeInput) : (s.setSafeIn n x).flash = s.flash := rfl
@[simp] theorem setSafeIn_time (n : Nat) (x : SafeInput) : (s.setSafeIn n x).time = s.time := rfl
@[simp] theorem setSafeIn_host (n : Nat) (x : SafeInput) : (s.setSafeIn n x).host = s.host := rfl
@[simp] theorem setSafeIn_p7 (n : Nat) (x : SafeInput) : (s.setSafeIn n x).p7 = s.p7 := rfl
@[simp] theorem setSafeIn_firn (n : Nat) (x : SafeInput) : (s.setSafeIn n x).firn = s.firn := rfl
@[simp] theorem setSafeIn_sec (n : Nat) (x : SafeInput) : (s.setSafeIn n x).sec = s.sec := rfl
@[simp] theorem setSafeIn_diag (n : Nat) (x : SafeInput) : (s.setSafeIn n x).diag = s.diag := rfl
@[simp] theorem setSafeIn_fns (n : Nat) (x : SafeInput) : (s.setSafeIn n x).fns = s.fns := rfl
@[simp] theorem setSafeIn_sched (n : Nat) (x : SafeInput) : (s.setSafeIn n x).sched = s.sched := rfl
@[simp] theorem setSafeIn_dma (n : Nat) (x : SafeInput) : (s.setSafeIn n x).dma = s.dma := rfl
@[simp] theorem setSafeIn_ports (n : Nat) (x : SafeInput) : (s.setSafeIn n x).ports = s.ports := rfl
@[simp] theorem setSafeIn_sw (n : Nat) (x : SafeInput) : (s.setSafeIn n x).sw = s.sw := rfl
@[simp] theorem setSafeIn_goose (n : Nat) (x : SafeInput) : (s.setSafeIn n x).goose = s.goose := rfl
@[simp] theorem setSafeIn_sv (n : Nat) (x : SafeInput) : (s.setSafeIn n x).sv = s.sv := rfl
@[simp] theorem setSafeIn_aln (n : Nat) (x : SafeInput) : (s.setSafeIn n x).aln = s.aln := rfl
@[simp] theorem setSafeIn_ph (n : Nat) (x : SafeInput) : (s.setSafeIn n x).ph = s.ph := rfl
@[simp] theorem setSafeIn_grd (n : Nat) (x : SafeInput) : (s.setSafeIn n x).grd = s.grd := rfl
@[simp] theorem setSafeIn_logic (n : Nat) (x : SafeInput) : (s.setSafeIn n x).logic = s.logic := rfl
@[simp] theorem setSafeIn_brio (n : Nat) (x : SafeInput) : (s.setSafeIn n x).brio = s.brio := rfl
@[simp] theorem setSafeIn_safe (n : Nat) (x : SafeInput) : (s.setSafeIn n x).safe = { s.safe with inputs := s.safe.inputs.set n x } := rfl
@[simp] theorem setSafeIn_red (n : Nat) (x : SafeInput) : (s.setSafeIn n x).red = s.red := rfl
@[simp] theorem setSafeIn_acq (n : Nat) (x : SafeInput) : (s.setSafeIn n x).acq = s.acq := rfl
@[simp] theorem setSafeIn_stg (n : Nat) (x : SafeInput) : (s.setSafeIn n x).stg = s.stg := rfl
@[simp] theorem setSafeIn_mem (n : Nat) (x : SafeInput) : (s.setSafeIn n x).mem = s.mem := rfl
@[simp] theorem setSafeIn_rtc (n : Nat) (x : SafeInput) : (s.setSafeIn n x).rtc = s.rtc := rfl
@[simp] theorem setSafeIn_cfg (n : Nat) (x : SafeInput) : (s.setSafeIn n x).cfg = s.cfg := rfl
@[simp] theorem setSafeIn_stored (n : Nat) (x : SafeInput) : (s.setSafeIn n x).stored = s.stored := rfl

/-! ## clockTo -/

@[simp] theorem clockTo_pending (due : Nat) : (s.clockTo due).pending = s.pending := rfl
@[simp] theorem clockTo_free (due : Nat) : (s.clockTo due).free = s.free := rfl
@[simp] theorem clockTo_mod (due : Nat) : (s.clockTo due).mod = s.mod := rfl
@[simp] theorem clockTo_power (due : Nat) : (s.clockTo due).power = s.power := rfl
@[simp] theorem clockTo_ao (due : Nat) : (s.clockTo due).ao = s.ao := rfl
@[simp] theorem clockTo_flash (due : Nat) : (s.clockTo due).flash = s.flash := rfl
@[simp] theorem clockTo_time (due : Nat) : (s.clockTo due).time = s.time.tick (s.time.ticksTo due) := rfl
@[simp] theorem clockTo_host (due : Nat) : (s.clockTo due).host = s.host := rfl
@[simp] theorem clockTo_p7 (due : Nat) : (s.clockTo due).p7 = s.p7 := rfl
@[simp] theorem clockTo_firn (due : Nat) : (s.clockTo due).firn = s.firn := rfl
@[simp] theorem clockTo_sec (due : Nat) : (s.clockTo due).sec = s.sec := rfl
@[simp] theorem clockTo_diag (due : Nat) : (s.clockTo due).diag = s.diag := rfl
@[simp] theorem clockTo_fns (due : Nat) : (s.clockTo due).fns = s.fns := rfl
@[simp] theorem clockTo_sched (due : Nat) : (s.clockTo due).sched = s.sched := rfl
@[simp] theorem clockTo_dma (due : Nat) : (s.clockTo due).dma = s.dma := rfl
@[simp] theorem clockTo_ports (due : Nat) : (s.clockTo due).ports = s.ports := rfl
@[simp] theorem clockTo_sw (due : Nat) : (s.clockTo due).sw = s.sw := rfl
@[simp] theorem clockTo_goose (due : Nat) : (s.clockTo due).goose = s.goose := rfl
@[simp] theorem clockTo_sv (due : Nat) : (s.clockTo due).sv = s.sv := rfl
@[simp] theorem clockTo_aln (due : Nat) : (s.clockTo due).aln = s.aln := rfl
@[simp] theorem clockTo_ph (due : Nat) : (s.clockTo due).ph = s.ph := rfl
@[simp] theorem clockTo_grd (due : Nat) : (s.clockTo due).grd = s.grd := rfl
@[simp] theorem clockTo_logic (due : Nat) : (s.clockTo due).logic = s.logic := rfl
@[simp] theorem clockTo_brio (due : Nat) : (s.clockTo due).brio = s.brio := rfl
@[simp] theorem clockTo_safe (due : Nat) : (s.clockTo due).safe = s.safe := rfl
@[simp] theorem clockTo_red (due : Nat) : (s.clockTo due).red = s.red := rfl
@[simp] theorem clockTo_acq (due : Nat) : (s.clockTo due).acq = s.acq := rfl
@[simp] theorem clockTo_stg (due : Nat) : (s.clockTo due).stg = s.stg := rfl
@[simp] theorem clockTo_mem (due : Nat) : (s.clockTo due).mem = s.mem := rfl
@[simp] theorem clockTo_rtc (due : Nat) : (s.clockTo due).rtc = s.rtc := rfl
@[simp] theorem clockTo_cfg (due : Nat) : (s.clockTo due).cfg = s.cfg := rfl
@[simp] theorem clockTo_stored (due : Nat) : (s.clockTo due).stored = s.stored := rfl

/-! ## begin -/

@[simp] theorem begin_pending (code : Nat) (p : Option Path) (lo hi : Nat) : (s.begin code p lo hi).pending = s.pending := rfl
@[simp] theorem begin_free (code : Nat) (p : Option Path) (lo hi : Nat) : (s.begin code p lo hi).free = s.free := rfl
@[simp] theorem begin_mod (code : Nat) (p : Option Path) (lo hi : Nat) : (s.begin code p lo hi).mod = s.mod := rfl
@[simp] theorem begin_power (code : Nat) (p : Option Path) (lo hi : Nat) : (s.begin code p lo hi).power = s.power := rfl
@[simp] theorem begin_ao (code : Nat) (p : Option Path) (lo hi : Nat) : (s.begin code p lo hi).ao = s.ao := rfl
@[simp] theorem begin_flash (code : Nat) (p : Option Path) (lo hi : Nat) : (s.begin code p lo hi).flash = s.flash := rfl
@[simp] theorem begin_time (code : Nat) (p : Option Path) (lo hi : Nat) : (s.begin code p lo hi).time = s.time := rfl
@[simp] theorem begin_host (code : Nat) (p : Option Path) (lo hi : Nat) : (s.begin code p lo hi).host = s.host := rfl
@[simp] theorem begin_p7 (code : Nat) (p : Option Path) (lo hi : Nat) : (s.begin code p lo hi).p7 = s.p7 := rfl
@[simp] theorem begin_firn (code : Nat) (p : Option Path) (lo hi : Nat) : (s.begin code p lo hi).firn = s.firn := rfl
@[simp] theorem begin_sec (code : Nat) (p : Option Path) (lo hi : Nat) : (s.begin code p lo hi).sec = s.sec := rfl
@[simp] theorem begin_fns (code : Nat) (p : Option Path) (lo hi : Nat) : (s.begin code p lo hi).fns = s.fns := rfl
@[simp] theorem begin_sched (code : Nat) (p : Option Path) (lo hi : Nat) : (s.begin code p lo hi).sched = s.sched := rfl
@[simp] theorem begin_dma (code : Nat) (p : Option Path) (lo hi : Nat) : (s.begin code p lo hi).dma = s.dma := rfl
@[simp] theorem begin_ports (code : Nat) (p : Option Path) (lo hi : Nat) : (s.begin code p lo hi).ports = s.ports := rfl
@[simp] theorem begin_sw (code : Nat) (p : Option Path) (lo hi : Nat) : (s.begin code p lo hi).sw = s.sw := rfl
@[simp] theorem begin_goose (code : Nat) (p : Option Path) (lo hi : Nat) : (s.begin code p lo hi).goose = s.goose := rfl
@[simp] theorem begin_sv (code : Nat) (p : Option Path) (lo hi : Nat) : (s.begin code p lo hi).sv = s.sv := rfl
@[simp] theorem begin_aln (code : Nat) (p : Option Path) (lo hi : Nat) : (s.begin code p lo hi).aln = s.aln := rfl
@[simp] theorem begin_ph (code : Nat) (p : Option Path) (lo hi : Nat) : (s.begin code p lo hi).ph = s.ph := rfl
@[simp] theorem begin_grd (code : Nat) (p : Option Path) (lo hi : Nat) : (s.begin code p lo hi).grd = s.grd := rfl
@[simp] theorem begin_logic (code : Nat) (p : Option Path) (lo hi : Nat) : (s.begin code p lo hi).logic = s.logic := rfl
@[simp] theorem begin_brio (code : Nat) (p : Option Path) (lo hi : Nat) : (s.begin code p lo hi).brio = s.brio := rfl
@[simp] theorem begin_safe (code : Nat) (p : Option Path) (lo hi : Nat) : (s.begin code p lo hi).safe = s.safe := rfl
@[simp] theorem begin_red (code : Nat) (p : Option Path) (lo hi : Nat) : (s.begin code p lo hi).red = s.red := rfl
@[simp] theorem begin_acq (code : Nat) (p : Option Path) (lo hi : Nat) : (s.begin code p lo hi).acq = s.acq := rfl
@[simp] theorem begin_stg (code : Nat) (p : Option Path) (lo hi : Nat) : (s.begin code p lo hi).stg = s.stg := rfl
@[simp] theorem begin_mem (code : Nat) (p : Option Path) (lo hi : Nat) : (s.begin code p lo hi).mem = s.mem := rfl
@[simp] theorem begin_rtc (code : Nat) (p : Option Path) (lo hi : Nat) : (s.begin code p lo hi).rtc = s.rtc := rfl
@[simp] theorem begin_cfg (code : Nat) (p : Option Path) (lo hi : Nat) : (s.begin code p lo hi).cfg = s.cfg := rfl
@[simp] theorem begin_stored (code : Nat) (p : Option Path) (lo hi : Nat) : (s.begin code p lo hi).stored = s.stored := rfl

/-! ## finish -/

@[simp] theorem finish_pending (code : Nat) : (s.finish code).pending = s.pending := rfl
@[simp] theorem finish_free (code : Nat) : (s.finish code).free = s.free := rfl
@[simp] theorem finish_mod (code : Nat) : (s.finish code).mod = s.mod := rfl
@[simp] theorem finish_power (code : Nat) : (s.finish code).power = s.power := rfl
@[simp] theorem finish_ao (code : Nat) : (s.finish code).ao = s.ao := rfl
@[simp] theorem finish_flash (code : Nat) : (s.finish code).flash = s.flash := rfl
@[simp] theorem finish_time (code : Nat) : (s.finish code).time = s.time := rfl
@[simp] theorem finish_host (code : Nat) : (s.finish code).host = s.host := rfl
@[simp] theorem finish_p7 (code : Nat) : (s.finish code).p7 = s.p7 := rfl
@[simp] theorem finish_firn (code : Nat) : (s.finish code).firn = s.firn := rfl
@[simp] theorem finish_sec (code : Nat) : (s.finish code).sec = s.sec := rfl
@[simp] theorem finish_diag (code : Nat) : (s.finish code).diag = { s.diag with acts := s.diag.acts.filter (·.code != code) } := rfl
@[simp] theorem finish_fns (code : Nat) : (s.finish code).fns = s.fns := rfl
@[simp] theorem finish_sched (code : Nat) : (s.finish code).sched = s.sched := rfl
@[simp] theorem finish_dma (code : Nat) : (s.finish code).dma = s.dma := rfl
@[simp] theorem finish_ports (code : Nat) : (s.finish code).ports = s.ports := rfl
@[simp] theorem finish_sw (code : Nat) : (s.finish code).sw = s.sw := rfl
@[simp] theorem finish_goose (code : Nat) : (s.finish code).goose = s.goose := rfl
@[simp] theorem finish_sv (code : Nat) : (s.finish code).sv = s.sv := rfl
@[simp] theorem finish_aln (code : Nat) : (s.finish code).aln = s.aln := rfl
@[simp] theorem finish_ph (code : Nat) : (s.finish code).ph = s.ph := rfl
@[simp] theorem finish_grd (code : Nat) : (s.finish code).grd = s.grd := rfl
@[simp] theorem finish_logic (code : Nat) : (s.finish code).logic = s.logic := rfl
@[simp] theorem finish_brio (code : Nat) : (s.finish code).brio = s.brio := rfl
@[simp] theorem finish_safe (code : Nat) : (s.finish code).safe = s.safe := rfl
@[simp] theorem finish_red (code : Nat) : (s.finish code).red = s.red := rfl
@[simp] theorem finish_acq (code : Nat) : (s.finish code).acq = s.acq := rfl
@[simp] theorem finish_stg (code : Nat) : (s.finish code).stg = s.stg := rfl
@[simp] theorem finish_mem (code : Nat) : (s.finish code).mem = s.mem := rfl
@[simp] theorem finish_rtc (code : Nat) : (s.finish code).rtc = s.rtc := rfl
@[simp] theorem finish_cfg (code : Nat) : (s.finish code).cfg = s.cfg := rfl
@[simp] theorem finish_stored (code : Nat) : (s.finish code).stored = s.stored := rfl

end Machine
end Sys2Proof
end

