-- ==== Sys2Proof/Tests/Slice0.lean ====
section
/-! SUPPORT. The model's own tests: one step each on small states, the well-formedness smoke test, and for every statement
a state and operands that meet its hypotheses. -/

namespace Sys2Proof
namespace Machine

/-! ## Witness states for mailbox commands -/

/-- An operator key with SEC_ADMIN (R419, R420). -/
def wSlot : KeySlot :=
  { type := 3, usage := 160, cur := some { gen := 1, keyId := 1, material := zeros 32, stamp := {} }, prev := none }

/-- The block up to its MAC: key 1 and the path's nonce. -/
def wHead : Bytes := leBytes 4 1 ++ zeros 28

/-- A request without its block. -/
def wBare (op : Nat) (auth : Bool) (params region : Bytes) : Req :=
  { opcode := op, tag := 1, auth := auth, xp := true, reserved := 0, xpOffset := 0, xpLen := 65536
    params := padTo 48 params, block := [], region := region }

/-- A request that authorises itself where it must. -/
def wReq (op : Nat) (auth : Bool) (params region : Bytes) : Req :=
  let r := wBare op auth params region
  if auth then
    { r with block := wHead ++ padTo 32 (Config.hmacSha256 (zeros 32) (reqEntry r ++ wHead ++ region)) }
  else r

/-- The command as a path holds it. -/
def wExec (r : Req) : Exec := { req := r, rx := {}, sqHead := 1 }

/-- The channel that holds it. -/
def wChan (s : State) (r : Req) (nonce : Bool) : Chan :=
  { en := true, enabled := true, idle := false, xpPages := 16, exec := some (wExec r)
    nonce := if nonce then some (zeros 16, s.now) else none }

/-- A base state with the request on MB0, the operator key in slot 1 and every seal switch ON. -/
def wState (s : State) (r : Req) (nonce : Bool) : State :=
  { s with
    host := { s.host with chans := (0, wChan s r nonce) :: s.host.chans }
    sec := { s.sec with derived := true, zeroised := false, lockout := none, slots := (1, wSlot) :: s.sec.slots }
    power := { s.power with seals := [true, true, true, true] } }

/-- The module in a state, every domain powered. -/
def wBase (st : Nat) : State := { State.reset with mod := { State.reset.mod with state := st } }

/-- The checks of R98 after authorisation. -/
def wPasses (c : Cmd) (i : OpInfo) (p : Path) (r : Req) (s : State) : Bool :=
  s.sealsOn (c.needed i s r) && s.regionOk p r i.priv (c.xpNeed s r) && c.param s p r && legal i.cls s.mod.state p &&
    c.state s p r == 0 && !(keyCommands.contains c.opcode && s.cryptoTest) && c.busy s p r == 0

theorem padTo_length (n : Nat) (b : Bytes) : (padTo n b).length = n := by
  simp [padTo, slice, zeros]

theorem slice_append_right (a b : Bytes) (n : Nat) (h : b.length = n) : slice (a ++ b) a.length n = b := by
  simp [slice, zeros, ← h]

theorem wReq_block (op : Nat) (ps rg : Bytes) : (wReq op true ps rg).block =
    wHead ++ padTo 32 (Config.hmacSha256 (zeros 32) (reqEntry (wBare op true ps rg) ++ wHead ++ rg)) := rfl

theorem wReq_authorised (s : State) (op : Nat) (ps rg : Bytes) :
    (wState s (wReq op true ps rg) true).authorise (.mb 0) (wReq op true ps rg) =
      (true, wState s (wReq op true ps rg) false) := by
  have hmac := padTo_length 32 (Config.hmacSha256 (zeros 32) (reqEntry (wBare op true ps rg) ++ wHead ++ rg))
  have h1 : slice (wReq op true ps rg).block 32 32 =
      padTo 32 (Config.hmacSha256 (zeros 32) (reqEntry (wBare op true ps rg) ++ wHead ++ rg)) := by
    rw [wReq_block]; exact slice_append_right wHead _ 32 hmac
  have h2 : slice (wReq op true ps rg).block 0 32 = wHead := by
    rw [wReq_block]; rfl
  have h3 : slice (wReq op true ps rg).block 4 16 = zeros 16 := by
    rw [wReq_block]; rfl
  have h4 : le32 (wReq op true ps rg).block 0 = 1 := by
    rw [wReq_block]; rfl
  have h5 : (wReq op true ps rg).block.length = 64 := by
    rw [wReq_block, List.length_append, hmac]; rfl
  have hkey : findKey (wState s (wReq op true ps rg) true).sec.slots 1 =
      some (1, wSlot, { gen := 1, keyId := 1, material := zeros 32, stamp := {} }) := rfl
  have hn : (wState s (wReq op true ps rg) true).nonceOf (.mb 0) = some (zeros 16, s.now) := rfl
  have hnow : (wState s (wReq op true ps rg) true).now = s.now := rfl
  have hb : (wState s (wReq op true ps rg) true).blockOk (.mb 0) (wReq op true ps rg) = true := by
    unfold State.blockOk
    simp only [hn, h4, hkey, h3, h1, h2, hnow]
    have he : reqEntry (wReq op true ps rg) = reqEntry (wBare op true ps rg) := rfl
    have hr : (wReq op true ps rg).region = rg := rfl
    simp only [he, hr, wSlot, beq_self_eq_true, Bool.and_true, Bool.true_and]
    simp only [Bool.and_eq_true, decide_eq_true_eq]
    exact ⟨by decide, by omega⟩
  have hl : (wState s (wReq op true ps rg) true).lockedOut = false := rfl
  have hset : (wState s (wReq op true ps rg) true).setNonce (.mb 0) none = wState s (wReq op true ps rg) false := rfl
  have huse : (wState s (wReq op true ps rg) true).useNonce (.mb 0) (wReq op true ps rg) = wState s (wReq op true ps rg) false := by
    unfold State.useNonce
    simp only [hn, h3, if_true, hset]
  have hsec : (wState s (wReq op true ps rg) false).secAdmin (wReq op true ps rg) = true := by
    unfold State.secAdmin
    rw [h4]; rfl
  unfold State.authorise
  simp only [hl, hb, h5, huse, hsec]
  simp [wReq, wBare]

/-- A privileged command that its checks let pass is accepted. -/
theorem accepted_priv (c : Cmd) (i : OpInfo) (s : State) (ps rg : Bytes) (hi : opInfo c.opcode = some i)
    (hp : i.priv = true) (hs : s.mod.state ≠ 4)
    (h : wPasses c i (.mb 0) (wReq c.opcode true ps rg) (wState s (wReq c.opcode true ps rg) false) = true) :
    Accepted c (.mb 0) (wExec (wReq c.opcode true ps rg)) (wState s (wReq c.opcode true ps rg) true)
      (wState s (wReq c.opcode true ps rg) false) := by
  refine ⟨⟨rfl, rfl, rfl⟩, ?_⟩
  have hso : ∀ b, (wState s (wReq c.opcode true ps rg) b).sealOnly (wReq c.opcode true ps rg) = false := by
    intro b; simp [State.sealOnly, wState, hs]
  have hnk : (wState s (wReq c.opcode true ps rg) true).noKeys = false := rfl
  have ha := wReq_authorised s c.opcode ps rg
  simp only [wPasses, Bool.and_eq_true, beq_iff_eq, Bool.not_eq_true'] at h
  obtain ⟨⟨⟨⟨⟨⟨h1, h2⟩, h3⟩, h4⟩, h5⟩, h6⟩, h7⟩ := h
  rw [hp] at h2
  unfold State.checks
  simp only [wExec, hi, hso, hp, hnk, ha, h1, h2, h3, h4, h5, h6, h7, Bool.not_false, Bool.and_false, Bool.not_true,
    Bool.false_and, Bool.and_true, Bool.or_false, Bool.false_eq_true, if_false, if_true, ne_eq, not_true]

/-- A command that needs no authorisation and that its checks let pass is accepted. -/
theorem accepted_open (c : Cmd) (i : OpInfo) (s : State) (ps rg : Bytes) (hi : opInfo c.opcode = some i)
    (hp : i.priv = false) (hs : (wState s (wReq c.opcode false ps rg) false).sealOnly (wReq c.opcode false ps rg) = false)
    (h : wPasses c i (.mb 0) (wReq c.opcode false ps rg) (wState s (wReq c.opcode false ps rg) false) = true) :
    Accepted c (.mb 0) (wExec (wReq c.opcode false ps rg)) (wState s (wReq c.opcode false ps rg) false)
      (wState s (wReq c.opcode false ps rg) false) := by
  refine ⟨⟨rfl, rfl, rfl⟩, ?_⟩
  simp only [wPasses, Bool.and_eq_true, beq_iff_eq, Bool.not_eq_true'] at h
  obtain ⟨⟨⟨⟨⟨⟨h1, h2⟩, h3⟩, h4⟩, h5⟩, h6⟩, h7⟩ := h
  rw [hp] at h2
  unfold State.checks
  simp only [wExec, hi, hs, hp, h1, h2, h3, h4, h5, h6, h7, Bool.not_false, Bool.and_false, Bool.not_true,
    Bool.false_and, Bool.or_false, Bool.false_eq_true, if_false, ne_eq, not_true]

/-- A stream entry: stream 1, source_mode `m`, port P1, rate 4,800, `ch` channels, smpSynch required `q`, auth byte `a` (R150). -/
def wSvEntry (m ch q a : Nat) : Bytes :=
  leBytes 2 1 ++ [1] ++ leBytes 1 m ++ zeros 12 ++ leBytes 2 0x4000 ++ zeros 2 ++ leBytes 4 7 ++ [1, 2] ++ leBytes 1 ch ++
    leBytes 1 a ++ zeros 4 ++ [5] ++ leBytes 1 q ++ [0, 1, 65] ++ zeros 91
/-- The running module with stream 1 in a state. -/
def wSv (e : Bytes) (x : SvStream) : State :=
  { wBase 1 with cfg := { State.reset.cfg with tables.sv := [(1, e)] }, sv := { State.reset.sv with streams := [(1, x)] } }
def wAsdu : Asdu := { smpCnt := 0, confRev := 7, smpSynch := 2, smpRate := some 4800, dataLen := 16, values := [1, 2], quality := [0, 0] }
def wSvFrame (a : List Asdu) (sim : Bool) : SvFrame :=
  { port := 0, parses := true, svid := [65], sim := sim, prp := none, tag := none, raw := [], asdus := a }
def wRun : SvStream := { state := 3, head := some 4799, seen := 1, cnt := 4799 }
def wDesc : Bytes := zeros 8 ++ leBytes 4 256 ++ zeros 20
/-- The state a step leaves. -/
def wNext (o : Out) : State :=
  match o with
  | .next t => t
  | _ => State.reset
theorem test_wit_portStage : ∃ p e s t, Accepted cmdPortRead p e s t :=
  ⟨_, _, _, _, accepted_open cmdPortRead _ (wBase 1) [0] [] rfl rfl rfl (by decide)⟩
theorem test_wit_2 : ∃ p e s t, Accepted cmdMemFill p e s t :=
  ⟨_, _, _, _, accepted_priv cmdMemFill _ (wBase 1) (leBytes 8 0x80000000 ++ leBytes 8 64) [] rfl rfl (by decide) (by decide)⟩
/-- Time has begun: second 4 opens at 1 s, the next at 2 s; ALN rate 4,800. -/
def wTime (st : Nat) : State :=
  { wBase st with
    time := { State.reset.time with running := true, cur := { ns := 1000000000, sec := 4 }, next := { ns := 2000000000, sec := 5 } } }

/-! ## WellFormed: for each check a term it refuses, beside one it takes -/

theorem test_wf_path : (Instr.modReset (.mb 3)).wf = true ∧ (Instr.modReset (.mb 4)).wf = false ∧ (Instr.rtcRead (.vf 0)).wf = false ∧
    (Instr.rtcRead (.vf 127)).wf = true ∧ (Instr.rtcRead (.vf 128)).wf = false ∧ (Instr.nonceExpiry (.p7 4)).wf = false := by decide
theorem test_wf_fetch : (Instr.mailboxFetch (.mb 0) (.ok (wBare 0x0110 false [] []))).wf = true ∧
    (Instr.mailboxFetch (.mb 0) (.ok { wBare 0x0110 false [] [] with params := [] })).wf = false ∧
    (Instr.mailboxFetch (.mb 0) (.ok { wBare 0x0110 false [] [] with opcode := 65536 })).wf = false ∧
    (Instr.mailboxFetch (.mb 0) (.ok { wBare 0x0110 false [] [] with tag := 65536 })).wf = false ∧
    (Instr.mailboxFetch (.mb 0) (.ok { wBare 0x0110 false [] [] with xpOffset := 4294967296 })).wf = false ∧
    (Instr.mailboxFetch (.mb 0) (.ok { wBare 0x0110 false [] [] with xpLen := 4294967296 })).wf = false ∧
    (Instr.mailboxFetch (.mb 4) .timeout).wf = false ∧ (Instr.p7CommandEntry 4 (wBare 0x0110 false [] [])).wf = false ∧
    (Instr.p7CommandEntry 0 { wBare 0x0110 false [] [] with params := [] }).wf = false := by decide
theorem test_wf_bar2 : (Instr.bar2Read 1073741823 1).wf = true ∧ (Instr.bar2Read 1073741823 2).wf = false ∧ (Instr.bar2Write 1073741824 [0] false).wf = false := by decide
theorem test_wf_functions : (Instr.vfFlr 0).wf = false ∧ (Instr.vfFlr 127).wf = true ∧ (Instr.vfIntMaskWrite 128 0).wf = false ∧ (Instr.msixVectorUnmask 127 64).wf = false ∧
    (Instr.msixVectorUnmask 128 63).wf = false ∧ (Instr.vfRxqTailWrite 127 64 0).wf = false ∧ (Instr.vfTxqTailWrite 0 63 0).wf = true ∧
    (Instr.vfTripAssert 1 16 0 9).wf = false ∧ (Instr.vfTripRelease 1 15 256 9).wf = false ∧ (Instr.vfTripAssert 0 0 0 9).wf = false ∧
    (Instr.registerWrite 127 73727 0 true).wf = true ∧ (Instr.registerWrite 0 73728 0 true).wf = false ∧ (Instr.slabDelivery 0 64 .timeout).wf = false := by decide
theorem test_wf_dma : (Instr.dmaEnable 31).wf = true ∧ (Instr.dmaEnable 32).wf = false ∧ (Instr.dmaDescriptorEnd 32).wf = false := by decide
theorem test_wf_sensors : (Instr.tempWarnRaise 8 0).wf = false ∧ (Instr.thermalReset 8).wf = false ∧ (Instr.sealSwitchChange 0 true).wf = false ∧
    (Instr.sealSwitchChange 4 true).wf = true ∧ (Instr.sealSwitchChange 5 true).wf = false := by decide
theorem test_wf_ports : (Instr.portLinkUp 9).wf = true ∧ (Instr.portLinkUp 10).wf = false ∧ (Instr.portLinkDown 0 0).wf = false ∧ (Instr.portLinkDown 0 4).wf = false ∧
    (Instr.egressTransmitStart 10).wf = false ∧ (Instr.ptpSyncSend 10).wf = false ∧ (Instr.laneRelockAttempt 10 true).wf = false ∧
    (Instr.harnessPduReceive 10 0 [] 0).wf = false := by decide
theorem test_wf_streams : (Instr.svStreamLoss 2047).wf = true ∧ (Instr.svStreamLoss 2048).wf = false ∧ (Instr.gooseTalExpiry 2047).wf = false ∧
    (Instr.gooseTalExpiry 4095).wf = true ∧ (Instr.gooseTalExpiry 4096).wf = false ∧ (Instr.gooseRetransmission 256).wf = false ∧ (Instr.longeSample 2048).wf = false := by decide
theorem test_wf_plant : (Instr.brioCycleStart 1).wf = false ∧ (Instr.p8Collision 1).wf = false ∧ (Instr.discrepancyFault 8).wf = false ∧ (Instr.offDelayExpiry 4).wf = false ∧
    (Instr.harnessDualMismatch 64).wf = false ∧ (Instr.heartbeatWindow 0).wf = false ∧ (Instr.heartbeatWindow 3).wf = false ∧
    (Instr.bridleLineChange 3 true).wf = false := by decide
theorem test_wf_recorder : (Instr.recorderFrame 15).wf = true ∧ (Instr.recorderFrame 16).wf = false ∧ (Instr.segmentClose 16).wf = false ∧
    (Instr.p7IdleTimeout 4).wf = false ∧ (Instr.injectionApplied 4096).wf = false := by decide
/-- No row of the table gives bits, so no word spells a command. -/
theorem test_decode : decodeTableWord 16 0x0110 = none := by decide

/-! ## Chapters 2 and 3: states that meet the hypotheses -/

theorem test_wit_powerUp : ∃ s : State, s.power.hot = false ∧ (s.power.phase = .off ∨ s.power.phase = .reset) :=
  ⟨{ State.reset with power.phase := .reset }, by decide⟩
theorem test_wit_domainGood : ∃ (s : State) (k : Nat) (d : Domain),
    s.power.phase = .up k ∧ d ∈ s.power.waiting ∧ d ≠ .host :=
  ⟨{ State.reset with power.phase := .up 7, power.waiting := [.logic] }, 7, .logic, by decide⟩
theorem test_wit_seqRetry : ∃ s : State, s.power.phase = .failed ∧ s.power.hot = false :=
  ⟨{ State.reset with power.phase := .failed }, by decide⟩
theorem test_wit_hostUp : ∃ s : State, s.power.phase = .up 3 ∧ s.power.waiting = [.host] :=
  ⟨{ State.reset with power.phase := .up 3, power.waiting := [.host] }, by decide⟩
theorem test_wit_resets : ∃ s : State, s.power.phase = .run ∧ .mgmt ∈ s.power.on ∧ s.injection 0x1F 0 0 = none ∧
    s.mod.resetReq = some .cmdWarm := ⟨{ State.reset with mod.resetReq := some .cmdWarm }, by decide⟩
theorem test_wit_resetCold : ∃ s : State, s.power.phase = .run ∧ s.mod.resetReq = some .cmdCold :=
  ⟨{ State.reset with mod.resetReq := some .cmdCold }, by decide⟩
theorem test_wit_powerFail : ∀ k, k < 6 → ∃ s : State, s.power.phase = .down k true false :=
  fun k _ => ⟨{ State.reset with power.phase := .down k true false }, rfl⟩
theorem test_wit_countExpiry : ∃ s : State, .mgmt ∈ s.power.on ∧ s.ao.counted.getLast? = some 599 :=
  ⟨{ State.reset with ao.counted := [0, 599] }, by decide⟩
theorem test_wit_supply : ∃ s : State, s.mod.aux12 = true ∧ s.mod.aux12Lost = false ∧ 1 ≤ s.mod.state ∧ s.mod.state ≤ 3 ∧
    .mgmt ∈ s.power.on ∧ .safe ∈ s.power.on ∧ s.power.seals.getD 3 false ≠ true ∧ s.mod.tempWarn = false ∧
    s.injection 0x20 7 0 = none ∧ decide (2599 < 2600) ≠ s.mod.cellLow ∧ decide (2600 < 2600) = s.mod.cellLow :=
  ⟨{ State.reset with mod.aux12 := true, mod.state := 2 }, by decide⟩
theorem test_wit_tempClear : ∃ s : State, s.mod.tempWarn = true ∧ s.mod.aux12 = false :=
  ⟨{ State.reset with mod.tempWarn := true }, by decide⟩

/-- R54: a source in use counts down to 3.0 V, another from 3.05 V on; the first in order wins. -/
theorem test_aoSource : aoSource 0 [3000, 3300, 3000] = 0 ∧ aoSource 1 [3040, 3300, 3000] = 1 ∧
    aoSource 1 [3050, 3300, 3000] = 0 ∧ aoSource 1 [0, 2900, 2949] = 1 ∧ aoSource 1 [0, 2900, 2950] = 2 := by decide
/-- R69: the causes that are counted. -/
theorem test_countedCauses : (List.range 13).filter countedCause = [0, 3, 4, 5, 6, 7, 8, 9] := by decide

theorem test_wit_modState : ∃ p e s t, Accepted cmdModStateSet p e s t :=
  ⟨_, _, _, _, accepted_priv cmdModStateSet _ (wBase 2) [3] [] rfl rfl (by decide) (by decide)⟩
theorem test_wit_modReset : ∃ p e s t, Accepted cmdModReset p e s t :=
  ⟨_, _, _, _, accepted_priv cmdModReset _ (wBase 3) [1] [] rfl rfl (by decide) (by decide)⟩
theorem test_wit_modResetCause : ∃ p e s t, Accepted cmdModResetCause p e s t :=
  ⟨_, _, _, _, accepted_open cmdModResetCause _ (wBase 1) [] [] rfl rfl rfl (by decide)⟩
theorem test_wit_tamper : ∃ s : State, s.tamperLive 5 = true ∧ .mgmt ∈ s.power.on ∧ s.mod.state = 4 :=
  ⟨{ State.reset with mod.state := 4 }, by decide⟩
theorem test_wit_tamperOff : ∃ s : State, s.tamperLive 1 = true ∧ .mgmt ∉ s.power.on :=
  ⟨{ State.reset with power.on := [.ao] }, by decide⟩
theorem test_wit_tamperBoot : ∃ s : State, s.tamperLive 2 = true ∧ .mgmt ∈ s.power.on ∧ s.mod.state = 0 :=
  ⟨State.reset, by decide⟩
theorem test_wit_loop : ∃ s : State, s.ao.tamperEn = false ∧ s.sec.loopOpen = false ∧ .mgmt ∈ s.power.on ∧
    s.mod.state = 0 ∧ s.injection 0x19 0 0 = none ∧ s.flash.debugFuse = false :=
  ⟨{ State.reset with ao.tamperEn := false }, by decide⟩
theorem test_wit_loopOpen : ∃ s : State, s.ao.tamperEn = true ∧ s.sec.loopOpen = true ∧ s.flash.debugFuse = true :=
  ⟨{ State.reset with ao.tamperEn := true, sec.loopOpen := true, flash.debugFuse := true }, by decide⟩
theorem test_wit_hostOn : ∃ s : State, .host ∈ s.power.on := ⟨State.reset, by decide⟩

/-- A boot in which nothing is amiss but what a test sets. -/
def wBoot : BootInput :=
  { imageAOk := true, imageBOk := true, dramFails := 0, cellMv := 3000, retRamOk := true, loopOpen := false
    otherTamper := none, rootGenFails := 0, bankAOk := true, bankBOk := true }

theorem test_wit_boot : ∃ (b : BootInput) (s : State), s.power.phase = .run ∧ s.mod.state = 0 ∧ b.loopOpen = false ∧
    s.flash.rootA = true ∧ b.bankAOk = true ∧ s.flash.preferred = 0 ∧ s.flash.trial = false ∧ b.imageAOk = true ∧
    s.flash.imageA.valid = true ∧ s.flash.rollback ≤ s.flash.imageA.svn ∧ s.flash.key1Revoked = false ∧
    countedCause (s.bootCause s.aoDoubt).code = false ∧ b.dramFails ≤ 1 ∧ b.otherTamper = none :=
  ⟨wBoot, State.reset, by decide⟩
theorem test_wit_bootNoImage : ∃ (b : BootInput) (s : State), s.power.phase = .run ∧ s.mod.state = 0 ∧
    b.loopOpen = false ∧ s.flash.rootA = true ∧ b.bankAOk = true ∧ b.imageAOk = false ∧ b.imageBOk = false :=
  ⟨{ wBoot with imageAOk := false, imageBOk := false }, State.reset, by decide⟩

/-! ## Chapter 4 -/

theorem test_wit_rings : ∃ (p : Path) (s : State), .host ∈ s.power.on ∧ pathReal p = true ∧
    (s.chan p).sqTail < ringSize p ∧ (s.chan p).en = false ∧ (s.chan p).enabled = false ∧ (s.chan p).exec = none :=
  ⟨.mb 3, State.reset, by decide⟩
/-- R94, R95: from TAIL 4 and HEAD 4 the tail may go on by 63 slots, to 3; with HEAD 6 a tail of 6 overtakes. -/
theorem test_tailMove : tailMove 64 4 4 3 = (63, false) ∧ tailMove 64 4 4 4 = (0, false) ∧ tailMove 64 6 4 5 = (1, false) ∧
    tailMove 64 6 4 6 = (2, true) ∧ tailMove 16 0 0 15 = (15, false) := by decide
/-- A running channel with one slot to fetch. -/
def wFetch : State :=
  { State.reset with mod := { State.reset.mod with state := 1 }, host.chans := [(1, { en := true, enabled := true, sqTail := 1 })] }
theorem test_wit_fetch : ∃ (p : Path) (s : State), s.mayFetch p = true ∧ (∀ n, p = .mb n → s.injection 0x22 n 0 = none) ∧
    s.opcodeOk p 0x0110 = true ∧ s.opcodeOk p 0x0113 = false :=
  ⟨.mb 1, wFetch, by decide, fun n _ => by rfl, by decide, by decide⟩
theorem test_wit_expiry : ∃ (s : State) (b : Bytes), s.sec.lockout = some 5 ∧ s.nonceOf (.mb 1) = some (b, 7) :=
  ⟨{ State.reset with sec.lockout := some 5, host.chans := [(1, { nonce := some ([], 7) })] }, [], by decide⟩
theorem test_wit_race : ∃ s : State, .host ∈ s.power.on ∧ s.host.cause = BitVec.twoPow 16 15 ∧ s.host.mask = 0 ∧
    (s.host.msixAt 0 0).masked = false ∧ 0 ∉ s.host.fnMask :=
  ⟨{ State.reset with host := { State.reset.host with cause := 0x8000, mask := 0, msix := [(0, { masked := false })] } }, by decide⟩
theorem test_wit_unmask : ∃ s : State, .host ∈ s.power.on ∧ (s.host.msixAt 127 15).pba = true ∧ 127 ∉ s.host.fnMask ∧
    (s.host.msixAt 0 63).pba = false := ⟨{ State.reset with host.msix := [(64 * 127 + 15, { pba := true })] }, by decide⟩
theorem test_wit_hostLinkCfg : ∃ p e s t, Accepted cmdHostLinkCfg p e s t :=
  ⟨_, _, _, _, accepted_priv cmdHostLinkCfg _ (wBase 1) [1, 5, 8] [] rfl rfl (by decide) (by decide)⟩
theorem test_wit_hostLinkStatus : ∃ p e s t, Accepted cmdHostLinkStatus p e s t :=
  ⟨_, _, _, _, accepted_open cmdHostLinkStatus _ (wBase 2) [] [] rfl rfl rfl (by decide)⟩
theorem test_wit_mgmtTlsCfg : ∃ p e s t, Accepted cmdMgmtTlsCfg p e s t :=
  ⟨_, _, _, _, accepted_priv cmdMgmtTlsCfg _ (wBase 3) [1, 0, 10, 0] [] rfl rfl (by decide) (by decide)⟩
/-- An operator CA in the key store, the service on, and one session open with two commands. -/
def wP7 : State :=
  let r : Req := wBare 0x0111 true [] []
  { State.reset with
    mod := { State.reset.mod with state := 2 }
    cfg := { State.reset.cfg with p7On := true, p7Ca := 9 }
    sec.slots := [(2, { type := 4, usage := 64, cur := some { gen := 1, keyId := 9, material := [], stamp := {} }, prev := none })]
    p7 := [(0, { exec := some (wExec r), waiting := [wExec r] })] }
theorem test_wit_p7 : ∃ s : State, s.mod.p7Close = none ∧ s.freeSession = some 1 ∧ s.mod.state = 2 ∧ s.cfg.p7On = true ∧
    s.caHeld = true ∧ (∃ x, s.p7.get? 0 = some x ∧ x.waiting.length < 15 ∧ x.exec.isSome = true) :=
  ⟨wP7, by decide, by decide, by decide, by decide, by decide, _, rfl, by decide, by decide⟩
theorem test_wit_p7Full : ∃ (s : State) (x : Session), s.p7.get? 0 = some x ∧ 16 ≤ x.waiting.length + b2n x.exec.isSome :=
  let x : Session := { exec := some (wExec (wBare 0x0111 true [] [])), waiting := List.replicate 15 (wExec (wBare 0x0111 true [] [])) }
  ⟨{ State.reset with p7 := [(0, x)] }, x, by decide⟩
theorem test_wit_p7Idle : ∃ (s : State) (x : Session), s.p7.get? 3 = some x ∧ x.exec = none ∧ x.waiting = [] :=
  ⟨{ State.reset with p7 := [(3, {})] }, {}, by decide⟩
theorem test_wit_regs : ∃ s : State, .host ∈ s.power.on ∧ 63 < (s.fn 127).qp ∧ (s.chan (.mb 3)).enabled = true :=
  ⟨{ State.reset with fns := [(127, { qp := 64 })], host.chans := [(3, { enabled := true })] }, by decide⟩

/-! ## Chapter 5 -/

theorem crcBit_lt (p c : Nat) (hp : p < 2 ^ 32) (h : c < 2 ^ 32) : crcBit p c < 2 ^ 32 := by
  unfold crcBit
  split
  · exact Nat.xor_lt_two_pow (by omega) hp
  · omega
theorem crc_lt (b : Bytes) : crc32c b < 2 ^ 32 := by
  have : ∀ (l : Bytes) c, c < 2 ^ 32 → l.foldl (crcByte 0x82F63B78) c < 2 ^ 32 := by
    intro l; induction l with
    | nil => intro c h; exact h
    | cons x l ih =>
      intro c h
      have hp : 0x82F63B78 < 2 ^ 32 := by decide
      exact ih _ (crcBit_lt _ _ hp (crcBit_lt _ _ hp (crcBit_lt _ _ hp (crcBit_lt _ _ hp (crcBit_lt _ _ hp (crcBit_lt _ _ hp
        (crcBit_lt _ _ hp (crcBit_lt _ _ hp (Nat.xor_lt_two_pow h (by have := x.isLt; omega))))))))))
  exact Nat.xor_lt_two_pow (this b _ (by decide)) (by decide)
/-- Function 1, frozen, with a queue-pair count of 0, and with a dirty log. -/
def wVf : State :=
  { wBase 1 with fns := [(1, { frozen := true, dirty := some { base := 0, len := 262144, pages := [3] } }), (2, { qp := 2 })] }
/-- A blob of that function (R124). -/
def wBlobTail (d : Nat) : Bytes := zeros 12 ++ (leBytes 4 d ++ zeros 96)
def wBlobHead : Bytes := leBytes 4 0x31465642 ++ leBytes 2 1 ++ leBytes 2 64 ++ leBytes 4 128
def wBlob (d : Nat) : Bytes := wBlobHead ++ (leBytes 4 (crc32c (wBlobHead ++ zeros 4 ++ wBlobTail d)) ++ wBlobTail d)
theorem wBlob_take (d : Nat) : (wBlob d).take 12 = wBlobHead := List.take_left' rfl
theorem wBlob_drop (d : Nat) : (wBlob d).drop 16 = wBlobTail d := by
  rw [wBlob, ← List.append_assoc]; exact List.drop_left' (by simp [leBytes, wBlobHead])
theorem le32_leBytes (x : Nat) (h : x < 2 ^ 32) (r : Bytes) : le32 (leBytes 4 x ++ r) 0 = x := by
  simp [le32, le16, byteAt, leBytes]; omega
theorem wBlob_crc (d : Nat) : le32 (wBlob d) 12 = crc32c (wBlobHead ++ zeros 4 ++ wBlobTail d) :=
  le32_leBytes _ (crc_lt _) (wBlobTail d)
theorem wBlob_digest (d : Nat) (h : d < 2 ^ 32) : le32 (wBlob d) 28 = d := le32_leBytes d h (zeros 96)
theorem wVf_digest (s : State) (n : Nat) : s.vfDigest n < 2 ^ 32 := BitVec.isLt _
theorem wBlob_len (d : Nat) : (wBlob d).length = 128 := by simp [wBlob, wBlobHead, wBlobTail, leBytes, zeros]
theorem wBlob_ok (s : State) (h : (s.fn 1).qp = 0) : s.vfBlobOk 1 (wBlob (s.vfDigest 1)) = true := by
  have h1 : le32 (wBlob (s.vfDigest 1)) 8 = 128 := rfl
  have h2 : (wBlob (s.vfDigest 1)).take 128 = wBlob (s.vfDigest 1) := List.take_of_length_le (by rw [wBlob_len])
  have h3 : le32 (wBlob (s.vfDigest 1)) 0 = 0x31465642 := by simp [le32, le16, byteAt, wBlob, wBlobHead, leBytes]
  have h4 : le16 (wBlob (s.vfDigest 1)) 4 = 1 := rfl
  have h5 : byteAt (wBlob (s.vfDigest 1)) 25 = 0 := rfl
  simp only [State.vfBlobOk, h1, h2, h3, h4, h5, wBlob_take, wBlob_drop, wBlob_crc, wBlob_digest _ (wVf_digest s 1), wBlob_len, h,
    beq_self_eq_true, Bool.and_self, Nat.mul_zero, Nat.add_zero]
set_option maxRecDepth 8000 in
theorem test_wit_vfRestore : ∃ p e s t, Accepted cmdVfRestore p e s t := by
  refine ⟨_, _, _, _, accepted_open cmdVfRestore _ wVf [1] (wBlob (wVf.vfDigest 1)) rfl rfl rfl ?_⟩
  have h := wBlob_ok (wState wVf (wReq cmdVfRestore.opcode false [1] (wBlob (wVf.vfDigest 1))) false) rfl
  have e : (wState wVf (wReq cmdVfRestore.opcode false [1] (wBlob (wVf.vfDigest 1))) false).vfDigest 1 = wVf.vfDigest 1 := rfl
  rw [e] at h
  have hp : cmdVfRestore.param (wState wVf (wReq cmdVfRestore.opcode false [1] (wBlob (wVf.vfDigest 1))) false) (.mb 0)
      (wReq cmdVfRestore.opcode false [1] (wBlob (wVf.vfDigest 1))) = true := by
    have hb : byteAt (wReq cmdVfRestore.opcode false [1] (wBlob (wVf.vfDigest 1))).params 0 = 1 := rfl
    have hr : (wReq cmdVfRestore.opcode false [1] (wBlob (wVf.vfDigest 1))).region = wBlob (wVf.vfDigest 1) := rfl
    have hv : (vfOnly (wReq cmdVfRestore.opcode false [1] (wBlob (wVf.vfDigest 1))) &&
      (wReq cmdVfRestore.opcode false [1] (wBlob (wVf.vfDigest 1))).xp) = true := rfl
    have hu : ∀ (s : State) q r, cmdVfRestore.param s q r = (vfOnly r && r.xp && s.vfBlobOk (byteAt r.params 0) r.region) :=
      fun _ _ _ => rfl
    rw [hu, hv, hb, hr, h, Bool.true_and]
  unfold wPasses
  rw [hp]
  rfl
theorem test_wit_vfInfo : ∃ p e s t, Accepted cmdVfInfo p e s t :=
  ⟨_, _, _, _, accepted_open cmdVfInfo _ (wBase 1) [] [] rfl rfl rfl (by decide)⟩
theorem test_wit_vfStats : ∃ p e s t, Accepted cmdVfStats p e s t :=
  ⟨_, _, _, _, accepted_open cmdVfStats _ (wBase 1) [] [] rfl rfl rfl (by decide)⟩
theorem test_wit_vfStatus : ∃ p e s t, Accepted cmdVfStatus p e s t :=
  ⟨_, _, _, _, accepted_open cmdVfStatus _ (wBase 1) [127] [] rfl rfl rfl (by decide)⟩
/-- The PF with two queue pairs. -/
def wPf : State := { wBase 1 with fns := [(0, { qp := 2 })] }
theorem test_wit_vfQCfg : ∃ p e s t, Accepted cmdVfQCfg p e s t :=
  ⟨_, _, _, _, accepted_open cmdVfQCfg _ wPf ([1, 0, 1, 0] ++ leBytes 2 64 ++ leBytes 2 2048 ++ zeros 16 ++ [1, 0] ++ leBytes 2 1000) []
    rfl rfl rfl (by decide)⟩
theorem test_wit_vfQCtrl : ∃ p e s t, Accepted cmdVfQCtrl p e s t ∧
    ((t.fn (fnOf p)).queue (byteAt e.req.params 0)).rxEn = false ∧ ((t.fn (fnOf p)).queue (byteAt e.req.params 0)).txEn = false :=
  ⟨_, _, _, _, accepted_open cmdVfQCtrl _ wPf [1, 3] [] rfl rfl rfl (by decide), rfl, rfl⟩
theorem test_wit_vfCfg : ∃ p e s t, Accepted cmdVfCfg p e s t ∧
    ((t.fns.filter (fun x => x.1 != byteAt e.req.params 0)).map (fun x => x.2.qp)).sum + byteAt e.req.params 1 ≤ 1024 :=
  ⟨_, _, _, _, accepted_open cmdVfCfg _ wPf ([127, 64, 2, 0, 0, 0, 0, 1] ++ leBytes 2 4094 ++ leBytes 2 4096) [] rfl rfl
    rfl (by decide), by decide⟩
theorem test_wit_vfCfgPool : ∃ p e s t, Accepted cmdVfCfg p e s t ∧
    1024 < ((t.fns.filter (fun x => x.1 != byteAt e.req.params 0)).map (fun x => x.2.qp)).sum + byteAt e.req.params 1 :=
  ⟨_, _, _, _, accepted_open cmdVfCfg _ { wBase 1 with fns := (List.range 16).map (fun n => (n, { qp := 64 })) }
    ([127, 1, 2, 0, 0, 0, 0, 1] ++ leBytes 2 0 ++ leBytes 2 16) [] rfl rfl rfl (by decide), by decide⟩
theorem test_wit_vfShareSet : ∃ p e s t, Accepted cmdVfShareSet p e s t :=
  ⟨_, _, _, _, accepted_open cmdVfShareSet _ (wBase 1) [127, 0, 0xE8, 3] [] rfl rfl rfl (by decide)⟩
theorem test_wit_vfFreeze : ∃ p e s t, Accepted cmdVfFreeze p e s t :=
  ⟨_, _, _, _, accepted_open cmdVfFreeze _ wVf [2] [] rfl rfl rfl (by decide)⟩
theorem test_wit_vfUnfreeze : ∃ p e s t, Accepted cmdVfUnfreeze p e s t :=
  ⟨_, _, _, _, accepted_open cmdVfUnfreeze _ wVf [1] [] rfl rfl rfl (by decide)⟩
theorem test_wit_vfSave : ∃ p e s t, Accepted cmdVfSave p e s t :=
  ⟨_, _, _, _, accepted_open cmdVfSave _ wVf [1] [] rfl rfl rfl (by decide)⟩
theorem test_wit_vfDirtyStart : ∃ p e s t, Accepted cmdVfDirtyStart p e s t ∧ (t.fns.filter (fun x => x.2.dirty.isSome)).length < 8 :=
  ⟨_, _, _, _, accepted_open cmdVfDirtyStart _ wVf ([2] ++ zeros 7 ++ zeros 8 ++ leBytes 8 262144) [] rfl rfl rfl (by decide),
    by decide⟩
theorem test_wit_vfDirtyFull : ∃ p e s t, Accepted cmdVfDirtyStart p e s t ∧ 8 ≤ (t.fns.filter (fun x => x.2.dirty.isSome)).length :=
  ⟨_, _, _, _, accepted_open cmdVfDirtyStart _ { wBase 1 with fns := (List.range 8).map (fun n => (n + 1, { dirty := some { base := 0, len := 262144, pages := [] } })) }
    ([9] ++ zeros 7 ++ zeros 8 ++ leBytes 8 262144) [] rfl rfl rfl (by decide), by decide⟩
theorem test_wit_vfDirtySync : ∃ p e s t d, Accepted cmdVfDirtySync p e s t ∧ (t.fn (byteAt e.req.params 0)).dirty = some d :=
  ⟨_, _, _, _, _, accepted_open cmdVfDirtySync _ wVf ([1] ++ zeros 7 ++ leBytes 8 4096) [] rfl rfl rfl (by decide), rfl⟩
theorem test_wit_vfDirtyStop : ∃ p e s t, Accepted cmdVfDirtyStop p e s t :=
  ⟨_, _, _, _, accepted_open cmdVfDirtyStop _ wVf [1] [] rfl rfl rfl (by decide)⟩
/-- A receive queue with posted descriptors and a transmit queue with one to fetch, and a frame staged. -/
def wTraffic : State :=
  let f : Frame := { dst := 2, src := 1, tag := none, len := 64, fcsOk := true, pcsOk := true, ecn := none, content := .other }
  { wBase 1 with
    sched := { State.reset.sched with quota := [(3, 1000)] }
    fns := [(3, { qp := 2, queues := [(0, { rxEn := true, txEn := true, rxTail := 5, txTail := 1 })]
                  staged := [{ frame := f, rx := {}, src := 0, info := 0, queue := 0, cls := 1, fid := 0 }] })] }
theorem test_wit_delivery : ∃ (s : State) (fr : Staged), s.pathOn = true ∧ s.queueOk 3 0 = true ∧ (s.fn 3).frozen = false ∧
    ((s.fn 3).queue 0).rxEn = true ∧ 0 < ((s.fn 3).queue 0).posted ∧ (s.fn 3).staged.find? (·.queue == 0) = some fr ∧
    s.lender 3 = some 3 ∧ rxDescOk wDesc = true ∧ 0 < frameRxBytes fr.frame ∧ frameRxBytes fr.frame ≤ le32 wDesc 8 :=
  ⟨wTraffic, _, by decide, by decide, by decide, by decide, by decide, rfl, by decide, by decide, by decide, by decide⟩
theorem test_wit_txFetch : ∃ s : State, s.pathOn = true ∧ s.queueOk 3 0 = true ∧ (s.fn 3).frozen = false ∧ (s.fn 3).txTurn = some 0 :=
  ⟨wTraffic, by decide, by decide, by decide, by decide⟩
theorem test_wit_txDesc : ∃ (d : Bytes) (s : State), (le16 d 10).testBit 15 = true ∧ txDescOk d = true ∧
    ((s.fn 3).queue 0).txPart + le16 d 8 ≤ 9208 ∧ (s.fn 3).txTurn = some 0 :=
  ⟨zeros 8 ++ leBytes 2 9208 ++ leBytes 2 0x8000 ++ zeros 20, wTraffic, by decide, by decide, by decide, by decide⟩
theorem test_wit_tail : ∃ s : State, s.queueOk 3 1 = true ∧ 63 < ((s.fn 3).queue 1).rxSize := ⟨wTraffic, by decide, by decide⟩
theorem test_wit_trip : ∃ s : State, .host ∈ s.power.on ∧ s.pathOn = true ∧ s.goose.binds.get? (16 * 127 + 15) = some 31 ∧
    s.goose.binds.get? (16 * 1 + 0) = none ∧ s.sched.waiters = [] :=
  ⟨{ wBase 1 with goose := { State.reset.goose with binds := [(2047, 31)] } }, by decide⟩

/-! ## Chapter 6 -/

/-- A DMA channel of the running module. -/
def wDma (c : DmaChan) : State := { wBase 1 with dma := { State.reset.dma with chans := [(31, c)] } }
/-- A D2H descriptor of 128 bytes from the end of the firmware region, with IRQ. -/
def wDmaDesc : Bytes := zeros 8 ++ leBytes 8 2147483648 ++ leBytes 4 128 ++ leBytes 2 0x8200 ++ zeros 10
def wDmaRun (n : Nat) : DmaRun := { idx := 15, desc := wDmaDesc, moved := n }
theorem test_wit_dmaIdle : ∃ s : State, s.dmaOk 31 = true ∧ (s.dmaChan 31).en = false ∧ s.mod.state = 1 ∧
    (s.dmaChan 31).run = none ∧ (s.dmaChan 31).shPend = false ∧ (s.dmaChan 31).shEvt = true ∧ 15 < (s.dmaChan 31).size :=
  ⟨wDma { shEvt := true }, by decide⟩
theorem test_wit_dmaFetch : ∃ s : State, s.dmaOk 31 = true ∧ (s.dmaChan 31).en = true ∧ (s.dmaChan 31).stopping = false ∧
    (s.dmaChan 31).run = none ∧ (s.dmaChan 31).fetched = [] ∧ s.injection 0x21 31 0 = none ∧
    0 < ((s.dmaChan 31).tail + (s.dmaChan 31).size - (s.dmaChan 31).head) % (s.dmaChan 31).size :=
  ⟨wDma { en := true, head := 15, tail := 14 }, by decide⟩
theorem test_wit_dmaPend : ∃ s : State, s.dmaOk 31 = true ∧ (s.dmaChan 31).shPend = true := ⟨wDma { shPend := true }, by decide⟩
theorem test_wit_dmaStart : ∃ s : State, s.dmaOk 31 = true ∧ (s.dmaChan 31).en = true ∧ (s.dmaChan 31).run = none ∧
    (s.dmaChan 31).fetched = [wDmaDesc] ∧ descOk wDmaDesc = true ∧ descOk (zeros 32) = false :=
  ⟨wDma { en := true, fetched := [wDmaDesc] }, by decide⟩
theorem test_wit_dmaRun : ∃ s : State, s.dmaOk 31 = true ∧ s.dmaPick = some 31 ∧ (s.dmaChan 31).run = some (wDmaRun 64) ∧
    (s.dmaChan 31).en = true ∧ 64 < descLen wDmaDesc := ⟨wDma { en := true, run := some (wDmaRun 64) }, by decide⟩
theorem test_wit_dmaNone : ∃ s : State, s.hostOn = true ∧ s.dmaPick = none := ⟨wDma {}, by decide⟩
theorem test_wit_dmaH2d : ∃ r : DmaRun, descD2h r.desc = false ∧ descOk r.desc = true ∧ r.buffer = [] :=
  ⟨{ idx := 0, desc := zeros 8 ++ leBytes 8 2147483648 ++ leBytes 4 128 ++ zeros 12 }, by decide⟩
theorem test_wit_dmaEnd : ∃ s : State, s.dmaOk 31 = true ∧ (s.dmaChan 31).run = some (wDmaRun 128) ∧ descLen wDmaDesc ≤ 128 ∧
    (s.dmaChan 31).shPend = true ∧ (s.dmaChan 31).shLate = false ∧ (wDmaRun 128).aborting = false :=
  ⟨wDma { en := true, run := some (wDmaRun 128), shPend := true }, by decide⟩
theorem test_wit_dmaAbort : ∃ (s : State) (r : DmaRun), s.dmaOk 31 = true ∧ (s.dmaChan 31).run = some r ∧ r.aborting = true ∧
    descD2h r.desc = true ∧ r.moved < descLen r.desc ∧ (s.dmaChan 31).burstDone r = true :=
  ⟨wDma { en := true, burst := 0, run := some { wDmaRun 64 with aborting := true } }, _, rfl, rfl, by decide⟩
/-- R140, R144 example: 3,735,552 of 8,000,000 bytes moved leave a residue of 4,264,448. -/
theorem test_descBack : slice (descBack wDmaDesc 4264448 1 {} false true false) 16 8 = leBytes 4 4264448 ++ [0, 0x82, 1, 0] := by decide

/-! ## Chapter 7 -/

theorem test_svEntryOk : svEntryOk (wSvEntry 0 2 2 0) = true ∧ svEntryOk (wSvEntry 7 2 2 0) = false ∧
    svEntryOk (wSvEntry 0 25 2 0) = false ∧ svEntryOk (wSvEntry 2 2 2 0x83) = false ∧ svEntryOk (wSvEntry 1 24 0 0x81) = true := by decide
theorem test_wit_ingest : ∃ (f : SvFrame) (s : State) (b : Bytes) (x : SvStream), s.pathOn = true ∧ s.cfg.tables.sv.get? 1 = some b ∧
    s.sv.streams.get? 1 = some x ∧ (modePorts (svMode b) (byteAt b 34)).contains f.port = true ∧
    (s.clockTo 9).injection 0x08 1 (b2n (lanB f.port)) = none ∧
    ((s.clockTo 9).svCount 1 (if svMode b != 0 && lanB f.port then 1 else 0) 1).injection 0x07 1 0 = none ∧
    f.parses = true ∧ f.svid = slice b 36 (byteAt b 35) ∧ svMode b = 0 ∧ svAuth b = 0 ∧ f.asdus = [wAsdu] ∧ x.sim = false ∧
    x.realDue = false ∧ wAsdu.confRev = le32 b 20 ∧ wAsdu.dataLen = 8 * svChans b ∧ wAsdu.smpRate = some x.rate ∧
    64 < smpPeriod x.rate ∧ x.head = some 4799 ∧ 4799 < smpPeriod x.rate ∧ wAsdu.smpCnt = (4799 + 1) % smpPeriod x.rate ∧
    8000000000 ≤ x.level ∧ byteAt b 33 ≤ synchGrade wAsdu.smpSynch ∧ x.state = 3 :=
  ⟨wSvFrame [wAsdu] false, wSv (wSvEntry 0 2 2 0) wRun, _, _, by decide, rfl, rfl, by decide, by decide, by decide, by decide,
    by decide, by decide, by decide, rfl, rfl, rfl, by decide, by decide, by decide, by decide, rfl, by decide, by decide, by decide,
    by decide, rfl⟩
theorem test_wit_ingestSim : ∃ (s : State), (s.clockTo 9).sv.simMode = false ∧ (wSvFrame [wAsdu] true).sim = true ∧
    (wSvFrame [{ wAsdu with confRev := 8 }] false).asdus.all (fun a => a.confRev != le32 (wSvEntry 0 2 2 0) 20) = true ∧
    wAsdu.dataLen ≠ 8 * svChans (wSvEntry 0 3 2 0) := ⟨wSv (wSvEntry 0 2 2 0) wRun, by decide, rfl, by decide, by decide⟩
theorem test_wit_ingestAuth : ∃ (s : State), svAuth (wSvEntry 0 2 2 1) ≠ 0 ∧ svAuthMon (wSvEntry 0 2 2 1) = false ∧
    (s.svCount 1 0 1).injection 0x06 1 0 = none ∧ s.tagOk 0 0 1 none [] = false := ⟨wSv (wSvEntry 0 2 2 1) wRun, by decide⟩
theorem test_wit_svLoss : ∃ (s : State), s.pathOn = true ∧ (s.sv1 1).state = 3 ∧ (s.sv1 1).refused = some (4, 2) ∧ (s.sv1 1).rxExt ≤ 4 ∧
    s.gridFrom ((s.sv1 1).rxExt + svLoss (s.svEntry 1) : Nat) = none ∧ (s.sv1 1).rxExt + svLoss (s.svEntry 1) ≤ 4 + svLoss (s.svEntry 1) :=
  ⟨wSv (wSvEntry 1 2 2 0) { wRun with refused := some (4, 2) }, by decide, by decide, by decide, by decide,
    by rw [State.gridFrom, show (wSv (wSvEntry 1 2 2 0) { wRun with refused := some (4, 2) }).placed = [] from rfl]; simp, Nat.add_le_add_right (by decide) _⟩
theorem test_wit_svLan : ∃ (s : State), s.pathOn = true ∧ svMode (s.svEntry 1) = 1 ∧ (s.sv1 1).lans.missB = false ∧
    (s.sv1 1).prp.high.isSome = true ∧ (s.sv1 1).refused = none :=
  ⟨wSv (wSvEntry 1 2 2 0) { wRun with prp := { high := some 65535, seen := 1, last := 0 }, lans := {} }, by decide⟩
set_option maxRecDepth 4000 in
theorem test_wit_svStage : ∃ p e s t, Accepted cmdSvStage p e s t :=
  ⟨_, _, _, _, accepted_priv cmdSvStage _ (wBase 1) [1] (wSvEntry 0 2 2 0) rfl rfl (by decide) (by decide)⟩
theorem test_wit_svUnstage : ∃ p e s t, Accepted cmdSvUnstage p e s t :=
  ⟨_, _, _, _, accepted_priv cmdSvUnstage _ (wBase 1) [1, 0, 255, 7] [] rfl rfl (by decide) (by decide)⟩
theorem test_wit_svRead : ∃ p e s t, Accepted cmdSvRead p e s t :=
  ⟨_, _, _, _, accepted_open cmdSvRead _ (wBase 1) [255, 7, 1] [] rfl rfl rfl (by decide)⟩
theorem test_wit_svStatus : ∃ p e s t, Accepted cmdSvStatus p e s t :=
  ⟨_, _, _, _, accepted_open cmdSvStatus _ (wBase 1) [255, 7, 1, 0] [] rfl rfl rfl (by decide)⟩
theorem test_wit_svStats : ∃ p e s t x, Accepted cmdSvStats p e s t ∧ t.sv.streams.get? (le16 e.req.params 0) = some x :=
  ⟨_, _, _, _, _, accepted_open cmdSvStats _ (wSv (wSvEntry 0 2 2 0) wRun) [1, 0, 1] [] rfl rfl rfl (by decide), rfl⟩
theorem test_wit_svSimMode : ∃ p e s t, Accepted cmdSvSimMode p e s t :=
  ⟨_, _, _, _, accepted_priv cmdSvSimMode _ (wBase 2) [1] [] rfl rfl (by decide) (by decide)⟩
theorem test_wit_svLoad : ∃ p e s t, Accepted cmdSvLoad p e s t :=
  ⟨_, _, _, _, accepted_open cmdSvLoad _ (wBase 2) [] [] rfl rfl rfl (by decide)⟩
theorem test_wit_tblDiscard : ∃ p e s t, Accepted cmdTblDiscard p e s t :=
  ⟨_, _, _, _, accepted_priv cmdTblDiscard _ (wBase 3) [] [] rfl rfl (by decide) (by decide)⟩
theorem test_wit_tblCommit : ∃ p e s t, Accepted cmdTblCommit p e s t ∧ t.streamsFit t.staged.sv t.acq.longe = true :=
  ⟨_, _, _, _, accepted_priv cmdTblCommit _ (wBase 3) [] [] rfl rfl (by decide) (by decide), by decide⟩
/-- 65 Longe streams of 255 channels at 14,400 samples/s pass the channel-sample budget of R9 (R19). -/
def wStgBig : State :=
  { wBase 3 with acq := { State.reset.acq with longe := (List.range 65).map (fun i => (i, { rec_ := [0, 0, 3] ++ zeros 21 ++ [255], states := [] })) } }
theorem test_wit_tblCommitFull : ∃ p e s t, Accepted cmdTblCommit p e s t ∧ t.streamsFit t.staged.sv t.acq.longe = false :=
  ⟨_, _, _, _, accepted_priv cmdTblCommit _ wStgBig [] [] rfl rfl (by decide) (by decide), by decide⟩
/-- R157's cases: new, duplicate, late but new, too old to judge. -/
theorem test_prpWindow :
    let w : PrpWindow := { high := some 100, seen := 5, last := 0 }
    w.judge 101 9 = (false, { high := some 101, seen := 11, last := 9 }) ∧ (w.judge 100 9).1 = true ∧ (w.judge 98 9).1 = true ∧
      w.judge 99 9 = (false, { high := some 100, seen := 7, last := 9 }) ∧
      w.judge 36 9 = (false, { high := some 36, seen := 1, last := 9 }) := by decide

/-! ## Chapters 8 and 9 -/

theorem test_wit_mark : ∃ s : State, s.time.running = true ∧ s.sv.marks = [] ∧ s.time.pend = none ∧ s.aln.sMin ≤ s.aln.sMax :=
  ⟨wTime 1, by decide⟩
theorem test_wit_markOne : ∃ (s : State) (c : MarkChange), s.time.running = true ∧ s.sv.marks = [c] ∧ c.marks ≤ 1 ∧ c.opcode = 0x0701 :=
  ⟨{ wTime 1 with sv.marks := [{ opcode := 0x0701, params := [8], region := [], path := .mb 0, marks := 1 }] }, _, rfl, rfl, by decide, rfl⟩
theorem test_wit_alnCfg : ∃ p e s t, Accepted cmdAlnCfg p e s t ∧ (gridRate (byteAt e.req.params 0) ≤ 4800 ∨ t.mod.slotCap = false) :=
  ⟨_, _, _, _, accepted_priv cmdAlnCfg _ (wBase 1) ([0, 1] ++ leBytes 2 50 ++ leBytes 2 4000 ++ leBytes 2 1000 ++ [50, 1]) [] rfl rfl
    (by decide) (by decide), by decide⟩
theorem test_wit_alnCfgCap : ∃ p e s t, Accepted cmdAlnCfg p e s t ∧ 4800 < gridRate (byteAt e.req.params 0) ∧ t.mod.slotCap = true :=
  ⟨_, _, _, _, accepted_priv cmdAlnCfg _ { wBase 1 with mod := { State.reset.mod with state := 1, slotCap := true } }
    ([3, 1] ++ leBytes 2 50 ++ leBytes 2 4000 ++ leBytes 2 1000 ++ [64, 1]) [] rfl rfl (by decide) (by decide), by decide⟩
theorem test_wit_alnStreamCfg : ∃ p e s t, Accepted cmdAlnStreamCfg p e s t :=
  ⟨_, _, _, _, accepted_priv cmdAlnStreamCfg _ (wBase 1) ([255, 7, 2, 2] ++ leBytes 4 1000000 ++ leBytes 4 4000000 ++ leBytes 4 1) [] rfl rfl
    (by decide) (by decide)⟩
theorem test_wit_phCfg : ∃ p e s t, Accepted cmdPhCfg p e s t :=
  ⟨_, _, _, _, accepted_priv cmdPhCfg _ (wBase 1) [64] [] rfl rfl (by decide) (by decide)⟩
theorem test_wit_phProfileSet : ∃ p e s t, Accepted cmdPhProfileSet p e s t :=
  ⟨_, _, _, _, accepted_priv cmdPhProfileSet _ (wBase 1) ([63, 2, 1, 1, 16, 0, 0, 0, 1] ++ (List.range 15).map (fun i => BitVec.ofNat 8 (i + 17)))
    [] rfl rfl (by decide) (by decide)⟩
theorem test_wit_phMapSet : ∃ p e s t, Accepted cmdPhMapSet p e s t :=
  ⟨_, _, _, _, accepted_priv cmdPhMapSet _ (wBase 1) (leBytes 2 16383 ++ [1, 0]) [255, 63] rfl rfl (by decide) (by decide)⟩
theorem test_wit_phBusSet : ∃ p e s t, Accepted cmdPhBusSet p e s t :=
  ⟨_, _, _, _, accepted_priv cmdPhBusSet _ (wBase 1) ([63, 1, 60, 1, 255, 15, 50] ++ zeros 5) [] rfl rfl (by decide) (by decide)⟩
theorem test_wit_phTripleSet : ∃ p e s t, Accepted cmdPhTripleSet p e s t :=
  ⟨_, _, _, _, accepted_priv cmdPhTripleSet _ (wBase 1) (leBytes 2 4095 ++ [1, 0]) [1, 0, 2, 0, 255, 63, 3, 0] rfl rfl (by decide) (by decide)⟩
/-- A MAG_OVER element on channel 5, pickup after two instants. -/
def wGrd : Bytes := [1, 0, 1, 1] ++ leBytes 4 5 ++ zeros 4 ++ leBytes 4 100 ++ leBytes 2 950 ++ [1, 0, 3, 0] ++ zeros 106
set_option maxRecDepth 4000 in
theorem test_wit_grdSet : ∃ p e s t, Accepted cmdGrdSet p e s t :=
  ⟨_, _, _, _, accepted_priv cmdGrdSet _ (wBase 1) [1] wGrd rfl rfl (by decide) (by decide)⟩
theorem test_wit_alnStatus : ∃ p e s t, Accepted cmdAlnStatus p e s t :=
  ⟨_, _, _, _, accepted_open cmdAlnStatus _ (wBase 2) [] [] rfl rfl rfl (by decide)⟩
theorem test_wit_phStatus : ∃ p e s t, Accepted cmdPhStatus p e s t :=
  ⟨_, _, _, _, accepted_open cmdPhStatus _ (wBase 2) [] [] rfl rfl rfl (by decide)⟩
theorem test_wit_grdRead : ∃ p e s t, Accepted cmdGrdRead p e s t :=
  ⟨_, _, _, _, accepted_open cmdGrdRead _ (wBase 2) [255, 15, 1] [] rfl rfl rfl (by decide)⟩
theorem test_wit_grdStatus : ∃ p e s t, Accepted cmdGrdStatus p e s t :=
  ⟨_, _, _, _, accepted_open cmdGrdStatus _ (wBase 2) [] [] rfl rfl rfl (by decide)⟩
theorem test_wit_grdLogRead : ∃ p e s t, Accepted cmdGrdLogRead p e s t :=
  ⟨_, _, _, _, accepted_open cmdGrdLogRead _ (wBase 2) [0, 16, 1] [] rfl rfl rfl (by decide)⟩
theorem test_wit_alnStreamStatus : ∃ p e s t, Accepted cmdAlnStreamStatus p e s t :=
  ⟨_, _, _, _, accepted_open cmdAlnStreamStatus _ (wBase 2) [255, 7, 1] [] rfl rfl rfl (by decide)⟩
/-- The PF's queue 1 is a slab queue. -/
def wSlabPf : State := { wBase 1 with fns := [(0, { qp := 2, queues := [(1, { slab := true, rxEn := true, rxTail := 2 })] })] }
theorem test_wit_alnSlabBind : ∃ p e s t, Accepted cmdAlnSlabBind p e s t ∧ byteAt e.req.params 2 = 0 :=
  ⟨_, _, _, _, accepted_open cmdAlnSlabBind _ wSlabPf [0, 1, 0] [] rfl rfl rfl (by decide), rfl⟩
theorem test_wit_phSlabBind : ∃ p e s t, Accepted cmdPhSlabBind p e s t ∧ byteAt e.req.params 2 ≠ 0 :=
  ⟨_, _, _, _, accepted_open cmdPhSlabBind _ wSlabPf [0, 1, 1, 8, 1, 0] [63, 0, 0, 48] rfl rfl rfl (by decide), by decide⟩
/-- A grid second of rate 4,800 that has begun, and a stream with nothing computed yet. -/
def wGrid : State :=
  let d : GridSecond := { ord := 0, sec := 4, m0 := 1000000000, m1 := 2000000000, g0 := 0, rate := 4800, d := 8, mode := 0, p := 8,
                          snow := 200, holdover := false, step := false, extrap := false }
  { wTime 1 with
    cfg := { State.reset.cfg with tables.sv := [(1, wSvEntry 0 2 2 0)] }
    sv := { State.reset.sv with streams := [(1, { wRun with state := 4 })] }
    aln := { State.reset.aln with seconds := [d], streams := [(1, { fineNext := some 0, coarseNext := some 0 })] } }
theorem test_wit_emission : ∃ (s : State) (d : GridSecond), s.pathOn = true ∧ (s.cfg.tables.sv.get? 1).isSome = true ∧
    s.nextPlaced (s.alnOf 1).fineNext = some (0, d, 1000000000) ∧ (s.alnOf 1).fine = [] ∧
    s.nextPlaced (s.alnOf 1).coarseNext = some (0, d, 1000000000) ∧ (s.alnOf 1).coarse = [] ∧ s.delivers 1 = false :=
  ⟨wGrid, _, by decide, by decide, rfl, rfl, rfl, rfl, by decide⟩
/-- R184: a slab of one instant of two channels that no stream feeds is due once its instant has passed. -/
def wSlabDue : State :=
  { wGrid with
    fns := wSlabPf.fns, time.acc := BitVec.ofNat 96 (1000000000 * 2 ^ 32)
    aln := { wGrid.aln with binds := [(1, { kind := 1, count := 1, items := [100, 101], gen := 1, next := 0 })] } }
theorem test_wit_slabDue : ∃ (s : State) (b : SlabBind) (is : List (GridSecond × Nat)) (slab : Bytes), s.pathOn = true ∧ s.aln.binds.get? 1 = some b ∧
    s.queueOk 0 1 = true ∧ ((s.fn 0).queue 1).slab = true ∧ s.dueSlab b = some (is, slab) ∧ (s.fn 0).frozen = false ∧
    ((s.fn 0).queue 1).rxEn = true ∧ 0 < ((s.fn 0).queue 1).posted ∧ rxDescOk wDesc = true ∧ slab.length ≤ le32 wDesc 8 :=
  ⟨wSlabDue, _, _, _, by decide, rfl, by decide, by decide, rfl, by decide, by decide, by decide, by decide, by decide⟩
theorem test_wit_grdEval : ∃ (s : State) (e : GrdEl) (p : GrdPre), s.pathOn = true ∧ .dsp ∈ s.power.on ∧ s.grd.els = [(1, e)] ∧
    s.grd.mirror.get? 1 = none ∧ s.grd.before.get? 1 = none ∧ grdActive (s.grdRec 1) = true ∧ grdBlock (s.grdRec 1) = false ∧ e.pre = none ∧
    s.grdPre (s.grdRec 1) e = some p ∧ p.invalid = true :=
  ⟨{ wGrid with cfg.grd := [(1, wGrd)], grd.els := [(1, {})] }, _, _, by decide, by decide, rfl, rfl, rfl, by decide, by decide, rfl, rfl, rfl⟩
theorem test_wit_grdBlocked : ∃ (s : State) (b : Bytes), grdBlock b = true ∧ le16 b 22 = 1 ∧ grdActive (s.grdRecAt 1 0) = true ∧
    (s.grdEl 1).conds = [] :=
  ⟨{ wGrid with cfg.grd := [(1, wGrd)] }, [2, 0, 1, 9] ++ zeros 18 ++ [1, 0], by decide⟩
theorem test_wit_items : ∃ (s : State), s.chanMap 1 0 = none ∧
    (s.phAt 0).triples.get? 4095 = none ∧ (s.bus 63 0).track = false ∧ (s.busRun 63 1).restart = none ∧ (s.busRun 63 1).hist = [] := ⟨wGrid, by decide⟩
/-- A state whose first grid instant has passed, with a triple of a mapped channel and two unmapped ones. -/
def wTriple : State :=
  { wSlabDue with cfg.ph := { State.reset.cfg.ph with triples := [(0, { a := 107, b := 8, c := 9, acb := false })], map := [(107, 0, 0)] } }
theorem test_wit_mismatch : ∃ (s : State) (x : PhTriple), (s.phAt 0).triples.get? 0 = some x ∧
    s.mapEntry x.a 0 ≠ s.mapEntry x.b 0 ∧ s.chanMap 107 0 = some ({ cyc := 1, shape := 0, path := 0, orders := [1] }, 0, 0) ∧
    (s.tripleItem none 0 1 0).isSome = true :=
  ⟨wTriple, _, rfl, by decide, by decide, by decide +kernel⟩
theorem test_wit_orderLimit : ∃ (s : State) (pr : PhProfile), 9 * s.rateAt 0 < 20 * 44 * (s.bus 0 0).fNom ∧ (s.phasor pr 0 0 107 44 0).isSome = true :=
  ⟨wTriple, {}, by decide, by decide +kernel⟩
/-- R191's bound at 4,800 samples/s and 50 Hz: order 43 is usable, order 44 is not. R192: one cycle at 50 Hz is 96 values. -/
theorem test_window : windowLen 2 4800 (50 * fxOne) = 96 ∧ windowLen 1 4800 (50 * fxOne) = 48 ∧ windowLen 4 14400 (42 * fxOne + fxOne / 2) = 678 ∧
    ¬ 9 * 4800 < 20 * 43 * 50 := by decide
/-- R195's example of a bus of 50 Hz. -/
theorem test_w0 : ({ fNom := 50 } : PhBus).w0 4800 = 96 ∧ ({ fNom := 50 } : PhBus).m 4800 = 1 := by decide
/-- R173's example: 85/256 of phase from 0.33333. R204's example thresholds: 6,675 A and 3,000 A. -/
theorem test_diffThr :
    let b : Bytes := zeros 32 ++ leBytes 4 200000 ++ leBytes 2 300 ++ leBytes 2 700 ++ leBytes 4 3000000
    diffThr b (11250000 * fxOne) = 6675000 * fxOne ∧ diffThr b (6000000 * fxOne) = 3000000 * fxOne := by decide

/-! ## Chapter 10 -/

/-- A trip publication record: publication 12, ports P1 and P3, t_min 2, reps 2, t_max 1,000, one BOOLEAN member (R214). -/
def wPub : Bytes :=
  [12, 0, 3, 0, 1, 0x0C, 0xCD, 1, 0, 5] ++ zeros 10 ++ [5, 0] ++ leBytes 2 2 ++ leBytes 2 1000 ++ [2, 1] ++ leBytes 4 1 ++ zeros 2 ++ [1, 1, 1] ++
    zeros 27 ++ leBytes 4 0x10000000 ++ zeros 124 ++ [65] ++ zeros 63 ++ [66] ++ zeros 63 ++ [67] ++ zeros 63
/-- A subscription entry: index 2,048, port P1, two members: BOOLEAN and its Quality (R222). -/
def wSub : Bytes :=
  [0, 8, 1, 0, 1, 0x0C, 0xCD, 1, 0, 5] ++ zeros 10 ++ leBytes 4 1 ++ [2, 0, 0, 0, 0, 0, 2, 0] ++ zeros 8 ++ [0x20] ++ zeros 15 ++ [1] ++ zeros 7 ++
    [65] ++ zeros 63
set_option maxRecDepth 4000 in
theorem test_goose_records : pubRecOk wPub = true ∧ subEntryOk wSub = true ∧ wPub.length = 384 ∧ wSub.length = 128 := by decide
/-- R217's curve and the example's timeAllowedtoLive: 4, 4, 8, 16 ms and so on. -/
theorem test_curve : (List.range 7).map (fun j => 2 * curveInterval (2, 1000, 2) (j + 1)) = [4, 4, 8, 16, 32, 64, 128] := by decide
/-- The running module that holds the Bridle, with publication 12 bound to slot 3 of function 1 and a subscription. -/
def wGoose (x : Pub) (g : GooseSub) : State :=
  { wBase 2 with
    mod := { State.reset.mod with state := 2, bridle := true }
    cfg := { State.reset.cfg with tables := { State.reset.cfg.tables with pubs := [(12, wPub)], subs := [(2048, wSub)] } }
    goose := { State.reset.goose with binds := [(19, 12)], pubs := [(12, x)], subs := [(2048, g)] } }
theorem test_wit_tripOn : ∃ (s : State) (b : Bytes), .host ∈ s.power.on ∧ s.pathOn = true ∧ s.goose.binds.get? (16 * 1 + 3) = some 12 ∧
    s.pubRec 12 = some b ∧ pubTrip b = true ∧ (s.pub 12).elems = [] ∧ (s.pub 12).logic = false ∧ (s.pub 12).slots = [] :=
  ⟨wGoose { stNum := 41 } {}, _, by decide, by decide, rfl, rfl, by decide, rfl, rfl, rfl⟩
theorem test_wit_tripOff : ∃ (s : State), (s.pub 12).slots = [16 * 1 + 3] ∧ (s.pub 12).elems = [] ∧ (s.pub 12).logic = false :=
  ⟨wGoose { stNum := 41, slots := [19] } {}, rfl, rfl, rfl⟩
theorem test_wit_tripSame : ∃ (s : State), (s.pub 12).logic = true := ⟨wGoose { stNum := 41, logic := true } {}, rfl⟩
/-- R216, R220: a trip while the unit does not hold the Bridle advances stNum and sends nothing. -/
theorem test_tripGated :
    let t := wNext (exec (.vfTripAssert 1 3 9 0) { wGoose { stNum := 41 } {} with mod := { State.reset.mod with state := 2 } })
    (t.pub 12).stNum = 42 ∧ (t.pub 12).frames = 0 ∧ t.sw.queue = [] ∧ t.goose.log.map (·.gated) = [true] := by decide
theorem test_wit_retrans : ∃ (s : State) (due : Nat), s.pathOn = true ∧ s.pubRec 12 = some wPub ∧ (s.pub 12).due = some due ∧
    (s.clockTo due).pubWaits 12 true = false := ⟨wGoose { stNum := 41, due := some 5 } {}, 5, by decide, rfl, rfl, by decide⟩
def wGooseFrame : GooseFrame :=
  { port := 0, parses := true, gocbRef := [65], test := false, prp := none, tag := none, raw := [], confRev := 1, ndsCom := false, stNum := 3
    sqNum := 0, tal := 4, vals := [.boolean true, .quality 0] }
theorem test_wit_gooseFrame : ∃ (s : State) (f : GooseFrame), s.pathOn = true ∧ s.cfg.tables.subs.get? 2048 = some wSub ∧ svMode wSub = 0 ∧
    byteAt wSub 25 % 4 = 0 ∧ f.port = byteAt wSub 31 ∧ (s.clockTo 5).injection 0x09 2048 0 = none ∧ f.parses = true ∧
    f.gocbRef = slice wSub 64 (byteAt wSub 56) ∧ f.test = false ∧ (s.sub 2048).sim = false ∧ f.confRev = le32 wSub 20 ∧ f.ndsCom = false ∧
    f.vals.length = subMembers wSub ∧ f.vals.zipIdx.all (fun (v, j) => kindMatches (subKind wSub j) v) = true ∧
    (s.sub 2048).last ≠ some (f.stNum, f.sqNum) := ⟨wGoose {} {}, wGooseFrame, by decide⟩
theorem test_wit_gooseRepeat : ∃ (s : State), (s.sub 2048).last = some (wGooseFrame.stNum, wGooseFrame.sqNum) ∧ (s.sub 2048).state = 3 ∧
    (s.sub 2048).refused = some 6 := ⟨wGoose {} { state := 3, last := some (3, 0), refused := some 6 }, rfl, rfl, rfl⟩
/-- R225: the BOOLEAN at in_base is driven in RUN, and reads its held value 0 before any frame. -/
theorem test_subInputs : (wGoose {} { state := 3, held := [(true, false)] }).subInputs 2048 wSub = [(0, true)] ∧
    (wGoose {} {}).subInputs 2048 wSub = [(0, false)] := by decide
set_option maxRecDepth 8000 in
theorem test_wit_goosePubStage : ∃ p e s t, Accepted cmdGoosePubStage p e s t :=
  ⟨_, _, _, _, accepted_priv cmdGoosePubStage _ (wBase 1) [1] wPub rfl rfl (by decide) (by decide)⟩
set_option maxRecDepth 4000 in
theorem test_wit_gooseSubStage : ∃ p e s t, Accepted cmdGooseSubStage p e s t :=
  ⟨_, _, _, _, accepted_priv cmdGooseSubStage _ (wBase 1) [1] wSub rfl rfl (by decide) (by decide)⟩
theorem test_wit_tripBind : ∃ p e s t, Accepted cmdTripBind p e s t :=
  ⟨_, _, _, _, accepted_priv cmdTripBind _ (wGoose {} {}) [127, 15, 12, 1] [] rfl rfl (by decide) (by decide)⟩
theorem test_wit_goosePubRead : ∃ p e s t, Accepted cmdGoosePubRead p e s t :=
  ⟨_, _, _, _, accepted_open cmdGoosePubRead _ (wBase 1) [255, 1] [] rfl rfl rfl (by decide)⟩
theorem test_wit_gooseSubRead : ∃ p e s t, Accepted cmdGooseSubRead p e s t :=
  ⟨_, _, _, _, accepted_open cmdGooseSubRead _ (wBase 1) [255, 15, 1] [] rfl rfl rfl (by decide)⟩
theorem test_wit_gooseSubStatus : ∃ p e s t, Accepted cmdGooseSubStatus p e s t :=
  ⟨_, _, _, _, accepted_open cmdGooseSubStatus _ (wBase 1) [255, 15, 1, 0] [] rfl rfl rfl (by decide)⟩
theorem test_wit_goosePubStatus : ∃ p e s t, Accepted cmdGoosePubStatus p e s t :=
  ⟨_, _, _, _, accepted_open cmdGoosePubStatus _ (wBase 1) [1, 255] [] rfl rfl rfl (by decide)⟩
theorem test_wit_tripLogRead : ∃ p e s t, Accepted cmdTripLogRead p e s t :=
  ⟨_, _, _, _, accepted_open cmdTripLogRead _ (wBase 1) [0, 8, 1, 0, 255, 15] [] rfl rfl rfl (by decide)⟩
theorem test_wit_gooseStats : ∃ p e s t x, Accepted cmdGooseStats p e s t ∧ t.goose.subs.get? (le16 e.req.params 0) = some x :=
  ⟨_, _, _, _, _, accepted_open cmdGooseStats _ (wGoose {} {}) [0, 8, 1] [] rfl rfl rfl (by decide), rfl⟩
theorem test_wit_guarStatus : ∃ p e s t, Accepted cmdGuarStatus p e s t ∧ byteAt e.req.params 0 = 1 :=
  ⟨_, _, _, _, accepted_open cmdGuarStatus _ (wBase 1) [1] [] rfl rfl rfl (by decide), rfl⟩

/-! ## Chapter 11 -/

/-- R235, R236: LD I 5, AND Q 7, ST Y 2, END, written from the fields. -/
def wProg : Prog :=
  { raw := [], words := [0x01000005, 0x03100007, 0x20800002, 0x7F000000], errEntry := 0, retM := 0, retT := 0, retC := 0, progId := 9, crc := 0, wcet := 1508 }
def wLogic (m : LogicMode) : State :=
  { wBase 1 with
    power := { State.reset.power with on := [.ao, .host, .logic] }
    logic := { State.reset.logic with mode := m, prog := some wProg, staged := some wProg, frozen := false, img := { i := 32, q := 128 } } }
set_option exponentiation.threshold 9000 in
theorem test_dbl_and : let d := runSection wProg 0 [] 0 { i := 32, q := 128 } []
    d.img.y = 4 ∧ d.a = true ∧ d.cycles = 4 ∧ d.fin = true ∧ d.img.q = 128 := by decide
set_option exponentiation.threshold 9000 in
/-- R250: a force on Q 7 is what the program reads; the underlying bit stays. -/
theorem test_dbl_forced : let d := runSection wProg 0 [(1, 7, false)] 0 { i := 32, q := 128 } []
    d.img.y = 0 ∧ d.img.q = 128 := by decide
/-- R239: an on-delay of 10 us that has run for 9 and then 1 us more. -/
theorem test_ton : (({ el := 0, tLast := 100, p := true : Timer }).exec 0x30 true 109 10).out = false ∧
    (({ el := 9, tLast := 109, p := true : Timer }).exec 0x30 true 110 10).out = true := by decide
/-- R240: saturation, and no count at the first execution. -/
theorem test_ctu : (({ count := 2147483647, prev := some false : Counter }).exec true true 5).count = 2147483647 ∧
    (({} : Counter).exec true true 5).count = 0 := by decide
/-- R243: starts of a 250 us period inside a second that the local clock makes 1,000,000,008 ns long. -/
theorem test_schedIn : schedIn 250 0 0 1000000008 7 = some (250000, 7, 1) ∧ schedIn 250 999999999 0 1000000008 7 = none := by decide
set_option exponentiation.threshold 9000 in
theorem test_logicStop :
    let t := (wLogic .run).logicMode .stop 0 none
    t.logic.mode = .stop ∧ t.logic.frozen = true ∧ t.logic.yOut = 0 ∧ t.logic.qOut = 0 := by decide
theorem test_wit_scan : ∃ (s : State), s.scanning = true ∧ s.logic.prog = some wProg ∧ s.logic.busyUntil ≤ s.nextScan.1 ∧
    s.logic.frozen = false ∧ s.logic.changes = [] ∧ s.logic.retFix = false ∧ s.mod.bridle = false ∧ s.mod.role ≠ 1 ∧ s.diag.inj = [] ∧
    wProg.errEntry = 0 :=
  ⟨wLogic .run, by decide, rfl, by decide, rfl, rfl, rfl, rfl, by decide, rfl, rfl⟩
theorem test_wit_errTask : ∃ (s : State) (g : Prog), s.scanning = true ∧ s.logic.prog = some g ∧ g.errEntry ≠ 0 ∧ s.logic.inFault = true ∧
    s.logic.busyUntil ≤ s.nextScan.1 :=
  ⟨{ wLogic .run with logic := { (wLogic .run).logic with prog := some { wProg with errEntry := 3 }, inFault := true } }, { wProg with errEntry := 3 },
    by decide, rfl, by decide, rfl, by decide⟩
theorem test_wit_overrun : ∃ (s : State), s.scanning = true ∧ s.nextScan.1 < s.logic.busyUntil :=
  ⟨{ wLogic .run with logic := { (wLogic .run).logic with busyUntil := 2000000 } }, by decide, by decide⟩
theorem test_wit_logicFault : ∃ (s : State), .logic ∈ s.power.on ∧ s.logic.fault = false ∧ s.logic.changes = [] :=
  ⟨wLogic .run, by decide, rfl, rfl⟩
theorem test_wit_logLoad : ∃ p e s t, Accepted cmdLogLoad p e s t ∧ byteAt e.req.params 0 = 1 :=
  ⟨_, _, _, _, accepted_priv cmdLogLoad _ (wLogic .stop) [1] (zeros 8) rfl rfl (by decide) (by decide), rfl⟩
theorem test_wit_logLoadMore : ∃ p e s t x, Accepted cmdLogLoad p e s t ∧ byteAt e.req.params 0 = 0 ∧ t.partImage = some x ∧
    x.bytes.length = le32 e.req.params 4 :=
  ⟨_, _, _, _, _, accepted_priv cmdLogLoad _
    { wLogic .stop with logic := { (wLogic .stop).logic with part := some { path := .mb 0, bytes := zeros 4, lastAt := 0 } } }
    [0, 0, 0, 0, 4] (zeros 8) rfl rfl (by decide) (by decide), rfl, rfl, rfl⟩
theorem test_wit_logLoadNone : ∃ p e s t, Accepted cmdLogLoad p e s t ∧ byteAt e.req.params 0 = 2 ∧ t.partImage = none :=
  ⟨_, _, _, _, accepted_priv cmdLogLoad _ (wLogic .stop) [2] (zeros 8) rfl rfl (by decide) (by decide), rfl, rfl⟩
theorem test_wit_logLoadBad : ∃ p e s t, Accepted cmdLogLoad p e s t ∧ byteAt e.req.params 0 = 3 ∧
    checkImage e.req.region = .error (1, 0) :=
  ⟨_, _, _, _, accepted_priv cmdLogLoad _ (wLogic .stop) [3] (zeros 8) rfl rfl (by decide) (by decide), rfl, rfl⟩
/-- R238, R251: an image of one word, END, its CRC-32C worked out from the polynomial. -/
def wImage : Bytes := [0x44, 0x42, 0x4C, 0x31, 1, 0, 64, 0, 1, 0, 0, 0] ++ zeros 16 ++ leBytes 4 0xe67fc445 ++ zeros 32 ++ [0, 0, 0, 0x7F]
set_option maxRecDepth 8000 in
theorem test_image : (checkImage wImage).toOption.map (·.wcet) = some 1502 := by decide
theorem test_wit_logLoadOk : ∃ p e s t g, Accepted cmdLogLoad p e s t ∧ byteAt e.req.params 0 = 3 ∧ checkImage e.req.region = .ok g := by
  have h := test_image
  cases hg : checkImage wImage with
  | error f => rw [hg] at h; cases h
  | ok g => exact ⟨_, _, _, _, g, accepted_priv cmdLogLoad _ (wLogic .stop) [3] wImage rfl rfl (by decide) (by decide), rfl, hg⟩
theorem test_wit_logExchange : ∃ p e s t, Accepted cmdLogExchange p e s t ∧ t.scanning = true :=
  ⟨_, _, _, _, accepted_priv cmdLogExchange _ (wLogic .run) [] [] rfl rfl (by decide) (by decide), by decide⟩
theorem test_wit_logExchangeNow : ∃ p e s t, Accepted cmdLogExchange p e s t ∧ t.scanning = false :=
  ⟨_, _, _, _, accepted_priv cmdLogExchange _ (wLogic .stop) [] [] rfl rfl (by decide) (by decide), by decide⟩
theorem test_wit_logForce : ∃ p e s t, Accepted cmdLogForce p e s t ∧ t.scanning = true :=
  ⟨_, _, _, _, accepted_priv cmdLogForce _ (wLogic .run) [0, 1, 255, 31, 1] [] rfl rfl (by decide) (by decide), by decide⟩
theorem test_wit_logForceNow : ∃ p e s t, Accepted cmdLogForce p e s t ∧ t.scanning = false :=
  ⟨_, _, _, _, accepted_priv cmdLogForce _ (wLogic .stop) [2] [] rfl rfl (by decide) (by decide), by decide⟩
theorem test_wit_logCfg : ∃ p e s t, Accepted cmdLogCfg p e s t ∧ t.scanning = true :=
  ⟨_, _, _, _, accepted_priv cmdLogCfg _ (wLogic .run) [50, 0, 0, 0, 1, 1, 1] [] rfl rfl (by decide) (by decide), by decide⟩
theorem test_wit_logCfgNow : ∃ p e s t, Accepted cmdLogCfg p e s t ∧ t.scanning = false :=
  ⟨_, _, _, _, accepted_priv cmdLogCfg _ (wLogic .hold) [160, 134, 1, 0] [] rfl rfl (by decide) (by decide), by decide⟩
theorem test_wit_logRestart : ∃ p e s t, Accepted cmdLogRestart p e s t ∧ t.scanning = true :=
  ⟨_, _, _, _, accepted_priv cmdLogRestart _ (wLogic .run) [1] [] rfl rfl (by decide) (by decide), by decide⟩
theorem test_wit_logRestartNow : ∃ p e s t, Accepted cmdLogRestart p e s t ∧ t.scanning = false :=
  ⟨_, _, _, _, accepted_priv cmdLogRestart _ (wLogic .hold) [0] [] rfl rfl (by decide) (by decide), by decide⟩
theorem test_wit_logMode : ∃ p e s t, Accepted cmdLogMode p e s t ∧ t.logic.changes = [] ∧ byteAt e.req.params 0 = 2 :=
  ⟨_, _, _, _, accepted_priv cmdLogMode _ (wLogic .run) [2] [] rfl rfl (by decide) (by decide), rfl, rfl⟩
theorem test_wit_logStep : ∃ p e s t, Accepted cmdLogStep p e s t :=
  ⟨_, _, _, _, accepted_priv cmdLogStep _ (wLogic .hold) [255] [] rfl rfl (by decide) (by decide)⟩
theorem test_wit_logRead : ∃ p e s t, Accepted cmdLogRead p e s t :=
  ⟨_, _, _, _, accepted_open cmdLogRead _ (wLogic .run) [3, 0, 0, 7, 0, 1] [] rfl rfl rfl (by decide)⟩
theorem test_wit_logForceRead : ∃ p e s t, Accepted cmdLogForceRead p e s t :=
  ⟨_, _, _, _, accepted_open cmdLogForceRead _ (wLogic .run) [] [] rfl rfl rfl (by decide)⟩
theorem test_wit_logStatus : ∃ p e s t, Accepted cmdLogStatus p e s t ∧ byteAt e.req.params 0 = 1 :=
  ⟨_, _, _, _, accepted_open cmdLogStatus _ (wLogic .run) [1] [] rfl rfl rfl (by decide), rfl⟩

/-! ## Chapter 12 -/

/-- R271: the pump hall of the example, its first three points ZERO, the fourth ONE. -/
def wStation : Bytes := [2, 1] ++ zeros 2 ++ leBytes 4 5 ++ leBytes 2 640 ++ leBytes 2 640 ++ zeros 4 ++ [0x95] ++ zeros 15
theorem test_stationRec : stationRecOk wStation = true := by decide
/-- The running module that holds the Bridle and runs segment 258, with station 2 in cycle 7 from instant 1,000,000 on. -/
def wBrio (x : BrioStation) : State :=
  { wTime 2 with
    mod := { State.reset.mod with state := 2, bridle := true }
    cfg := { State.reset.cfg with tables := { State.reset.cfg.tables with stations := [(2, wStation)] } }
    brio := { State.reset.brio with
      seg := [1, 20, 2, 1], running := true, cur := some (7, 1000000), closed := false, stations := [(2, x)] } }
/-- R263, R265: an INPUT of station 2 for cycle 7, points 0 and 8 on, point 8 faulty, fail state active. -/
def wInput (cycle : Nat) : Bytes :=
  [1, 2, 1, 2] ++ be32 cycle ++ [2, 0] ++ be32 5 ++ zeros 2 ++ [1, 1, 0, 0, 0, 0, 0, 0] ++ [0, 1, 0, 0, 0, 0, 0, 0] ++ [0, 2] ++ zeros 12
theorem test_brioValid :
    let t := wNext (exec (.brioInputReceive 0 0x034252494F01 0 (wInput 7) 1500000) (wBrio {}))
    (t.station 2).got = true ∧ (t.station 2).held = 1 ∧ (t.station 2).faults = 256 ∧ (t.station 2).status = 2 ∧
      (t.station 2).counts = [(0, 1), (6, 1), (7, 1)] := by decide
theorem test_brioStale :
    ((wNext (exec (.brioInputReceive 0 0x034252494F01 0 (wInput 6) 1500000) (wBrio {}))).station 2).counts = [(3, 1)] := by decide
/-- R268: the third missed cycle in a row of a station in RUN. -/
theorem test_brioLost :
    let t := wNext (exec (.brioWindowClose 0) (wBrio { state := 3, misses := 2 }))
    (t.station 2).state = 4 ∧ t.logic.inFault = true ∧ (t.station 2).counts = [(1, 1), (5, 1)] := by decide
/-- R269: the substitutes ZERO and ONE of points 0 and 3 out of RUN, and the inputs in RUN. -/
theorem test_brioSubst : ((wBrio { state := 4, held := 1 }).stationInputs 2 wStation).take 4 =
      [(640, false), (641, false), (642, false), (643, true)] ∧
    ((wBrio { state := 3, held := 1 }).stationInputs 2 wStation).take 2 = [(640, true), (641, false)] := by decide
theorem test_wit_cycleStart : ∃ (s : State) (n : Nat × Nat), s.pathOn = true ∧ s.brioOn = true ∧ s.brio.running = true ∧
    s.mod.bridle = true ∧ s.nextCycle = some n := ⟨wBrio {}, (1000000000, 4000), by decide⟩
theorem test_wit_cyclePayload : ∃ (s : State), s.logic.fault = false ∧ s.cfg.tables.stations = [(2, wStation)] := ⟨wBrio {}, rfl, rfl⟩
theorem test_wit_input : ∃ (s : State) (x : BrioStation), s.pathOn = true ∧ s.brioOn = true ∧ (s.clockTo 1500000).brioHeader 2 (wInput 7) 46 = none ∧
    s.cfg.tables.stations.get? (byteAt (wInput 7) 8) = some wStation ∧ (s.clockTo 1500000).injection 0x0A 2 0 = none ∧
    s.brio.cur = some (7, 1000000) ∧ s.brio.stations.get? 2 = some x ∧ x.got = false ∧ rdBe32 (wInput 7) 4 = 7 ∧
    (s.clockTo 1500000).now ≤ 1000000 + 950000 ∧ rdBe32 (wInput 7) 10 = stIdent wStation := ⟨wBrio {}, {}, by decide⟩
theorem test_wit_inputLate : ∃ (s : State), 1000000 + 950000 < (s.clockTo 1950001).now ∧ s.brio.cur = some (7, 1000000) := ⟨wBrio {}, by decide⟩
theorem test_wit_inputIdent : stIdent wStation ≠ 0 ∧ rdBe32 ([1, 2, 1, 2] ++ zeros 42) 10 ≠ stIdent wStation := by decide
theorem test_wit_inputForeign : ∃ (s : State), s.pathOn = true ∧ s.brioOn = true ∧ (s.clockTo 0).brioHeader 2 (zeros 46) 46 = some 5 :=
  ⟨wBrio {}, by decide⟩
theorem test_wit_judge : ∃ (s : State), s.brio.stations = [(2, s.station 2)] ∧ (s.station 2).got = false ∧ (s.station 2).state = 3 ∧
    2 ≤ (s.station 2).misses := ⟨wBrio { state := 3, misses := 2 }, by decide⟩
theorem test_wit_abort : ∃ (s : State), s.brio.cur = some (7, 1000000) ∧ s.brio.running = true ∧ s.brio.closed = false ∧
    s.brio.aborted = false ∧ s.brio.stations.any (fun x => x.2.got) = false := ⟨wBrio {}, by decide⟩
theorem test_wit_collision : ∃ (s : State), s.brio.sent = some [] ∧ s.brioMode = 1 ∧ s.brio.running = true ∧ s.brio.closed = false ∧
    s.brio.backoff = none ∧ s.brio.attempts = 15 :=
  ⟨{ wBrio {} with brio := { (wBrio {}).brio with sent := some [], attempts := 15 } }, by decide⟩
theorem test_wit_backoff : ∃ (s : State), s.brio.backoff = some (1051200, []) ∧ s.brio.running = true :=
  ⟨{ wBrio {} with brio := { (wBrio {}).brio with backoff := some (1051200, []) } }, by decide⟩
theorem test_wit_segmentTake : ∃ (s : State) (r : Nat × Nat × Nat), s.pathOn = true ∧ s.brioOn = true ∧ s.mod.bridle = true ∧
    s.brio.running = false ∧ s.brio.heard = some 500000 ∧
    s.time.schedAfter 1000 (max s.brio.sched (max (500000 + 2000000 - 1) (s.now - 1))) = some r :=
  ⟨{ wBrio {} with brio := { (wBrio {}).brio with running := false, heard := some 500000 } }, (1000000000, 4, 0), by decide⟩
/-- A CYCLE frame of segment 258 for cycle 9. -/
def wCycle : Bytes := [1, 1, 1, 2] ++ be32 9 ++ [0xF0, 20] ++ zeros 74
theorem test_wit_cycleRx : ∃ (s : State), s.pathOn = true ∧ s.brioOn = true ∧ (s.clockTo 5).brioHeader 1 wCycle 84 = none ∧
    s.brio.running = true ∧ 1 ≠ portMac 7 := ⟨wBrio {}, by decide⟩
theorem test_wit_cycleListen : ∃ (s : State), s.pathOn = true ∧ s.brioOn = true ∧ (s.clockTo 5).brioHeader 1 wCycle 84 = none ∧
    s.brio.running = false := ⟨{ wBrio {} with brio := { (wBrio {}).brio with running := false } }, by decide⟩
theorem test_wit_brioSegCfg : ∃ p e s t, Accepted cmdBrioSegCfg p e s t :=
  ⟨_, _, _, _, accepted_priv cmdBrioSegCfg _ (wBase 1) [1, 100, 255, 255] [] rfl rfl (by decide) (by decide)⟩
theorem test_wit_brioStage : ∃ p e s t, Accepted cmdBrioStage p e s t :=
  ⟨_, _, _, _, accepted_priv cmdBrioStage _ (wBase 1) [1] wStation rfl rfl (by decide) (by decide)⟩
theorem test_wit_brioRead : ∃ p e s t, Accepted cmdBrioRead p e s t :=
  ⟨_, _, _, _, accepted_open cmdBrioRead _ (wBase 1) [7, 1] [] rfl rfl rfl (by decide)⟩
theorem test_wit_brioStatus : ∃ p e s t, Accepted cmdBrioStatus p e s t :=
  ⟨_, _, _, _, accepted_open cmdBrioStatus _ (wBase 1) [] [] rfl rfl rfl (by decide)⟩
theorem test_wit_brioStats : ∃ p e s t, Accepted cmdBrioStats p e s t ∧ t.brio.stations.get? (byteAt e.req.params 0) = some {} :=
  ⟨_, _, _, _, accepted_open cmdBrioStats _ (wBrio {}) [2, 1] [] rfl rfl rfl (by decide), rfl⟩
theorem test_wit_brioSegStatus : ∃ p e s t, Accepted cmdBrioSegStatus p e s t :=
  ⟨_, _, _, _, accepted_open cmdBrioSegStatus _ (wBase 1) [1] [] rfl rfl rfl (by decide)⟩

/-! ## Chapter 13 -/

/-- R293: P5 enabled at auto, all else default. -/
def wPortRec : Bytes := [4, 13, 0, 0] ++ leBytes 2 1522 ++ [0, 0, 1, 0, 1, 0, 10, 0] ++ zeros 50
def wPort (i : Nat) (x : Port) : State := { wBase 1 with ports.port := [(i, x)] }
theorem test_portRec : portRecOk wPortRec = true := by decide
theorem test_filterRec : filterRecOk ([3, 1, 5, 0, 1, 2, 3, 4, 5, 6] ++ zeros 6 ++ [1] ++ zeros 15) = true ∧
    filterRecOk ([3, 0, 5] ++ zeros 29) = false := by decide
/-- R274: 25.75 GBd (12 = 255, 66 = 103), 10.3 GBd and 1.3 GBd modules on P1. -/
theorem test_nominal : nominalRate (zeros 12 ++ [255] ++ zeros 53 ++ [103]) = 25750 ∧ nominalRate (zeros 12 ++ [103]) = 10300 ∧
    nominalRate (zeros 12 ++ [13]) = 1300 := by decide
theorem test_linkUp :
    let t := wNext (exec (.portLinkUp 0) (wPort 0 { present := true }))
    (t.port 0).up = true ∧ (t.port 0).speed = 3 ∧ (t.port 0).peActive = false ∧ t.verifying 0 = true := by decide
theorem test_verifyFails :
    let t := wNext (exec (.peVerifySend 0) (wPort 0 { present := true, up := true, peSent := 3 }))
    (t.port 0).peFailed = true ∧ t.ports.counters = [(60, 1)] := by decide
theorem test_wit_linkUp : ∃ (s : State), s.linkAllowed 0 = true ∧ (s.port 0).up = false := ⟨wPort 0 { present := true }, by decide⟩
theorem test_wit_linkBarred : ∃ (s : State), s.linkAllowed 0 = false := ⟨wPort 0 {}, by decide⟩
theorem test_wit_linkDown : ∃ (s : State), (s.port 9).up = true := ⟨wPort 9 { up := true }, by decide⟩
theorem test_wit_relock : ∃ (s : State), (s.port 0).pllUnlocked = true := ⟨wPort 0 { pllUnlocked := true }, by decide⟩
theorem test_wit_txFault : ∃ (s : State), (s.port 5).present = true ∧ (s.port 5).txPulsed = false := ⟨wPort 5 { present := true }, by decide⟩
theorem test_wit_txCheck : ∃ (s : State), (s.port 5).txPulsed = true ∧ (s.port 5).txHeld = false ∧ s.diag.inj = [] :=
  ⟨wPort 5 { present := true, txPulsed := true }, by decide⟩
theorem test_wit_poll : ∃ (s : State), (s.port 5).reportsDiag = true := ⟨wPort 5 { present := true, id := some (zeros 92 ++ [64]) }, by decide⟩
theorem test_wit_verifying : ∃ (s : State), s.verifying 0 = true ∧ (s.port 0).peSent = 2 ∧ s.diag.inj = [] :=
  ⟨wPort 0 { present := true, up := true, peSent := 2 }, by decide⟩
theorem test_wit_pause : ∃ (s : State), (s.port 4).up = true ∧ recPauseRx (s.cfg.tables.port 4) = true :=
  ⟨{ wPort 4 { up := true, speed := 1 } with cfg := { State.reset.cfg with tables := { State.reset.cfg.tables with ports := [(4, [4, 15])] } } }, by decide⟩
theorem test_wit_p7Packet : ∃ (s : State), (s.port 6).up = true ∧ le32 s.cfg.ip 0 ≠ 0 :=
  ⟨{ wPort 6 { up := true } with cfg := { State.reset.cfg with ip := [1, 0, 0, 10, 8] ++ zeros 7 } }, by decide⟩
theorem test_wit_portStage2 : ∃ p e s t, Accepted cmdPortStage p e s t :=
  ⟨_, _, _, _, accepted_priv cmdPortStage _ (wBase 1) [1] wPortRec rfl rfl (by decide) (by decide)⟩
theorem test_wit_filterStage : ∃ p e s t, Accepted cmdPortFilterStage p e s t :=
  ⟨_, _, _, _, accepted_priv cmdPortFilterStage _ (wBase 1) [6, 1] ([15, 3, 0, 0, 1, 2, 3, 4, 5, 6] ++ zeros 6 ++ [1] ++ zeros 15) rfl rfl
    (by decide) (by decide)⟩
theorem test_wit_portRead : ∃ p e s t, Accepted cmdPortRead p e s t :=
  ⟨_, _, _, _, accepted_open cmdPortRead _ (wBase 1) [7, 1] [] rfl rfl rfl (by decide)⟩
theorem test_wit_filterRead : ∃ p e s t, Accepted cmdPortFilterRead p e s t :=
  ⟨_, _, _, _, accepted_open cmdPortFilterRead _ (wBase 1) [6, 1] [] rfl rfl rfl (by decide)⟩
theorem test_wit_portStatus : ∃ p e s t, Accepted cmdPortStatus p e s t :=
  ⟨_, _, _, _, accepted_open cmdPortStatus _ (wBase 1) [9] [] rfl rfl rfl (by decide)⟩
theorem test_wit_portStats : ∃ p e s t, Accepted cmdPortStats p e s t ∧ byteAt e.req.params 1 = 1 :=
  ⟨_, _, _, _, accepted_open cmdPortStats _ (wBase 1) [10, 1] [] rfl rfl rfl (by decide), rfl⟩
theorem test_wit_sfpRead : ∃ p e s t, Accepted cmdPortSfpRead p e s t ∧
    ((t.port (byteAt e.req.params 0)).sfpBytes (byteAt e.req.params 1 == 1)).isSome = true :=
  ⟨_, _, _, _, accepted_open cmdPortSfpRead _ (wPort 5 { present := true, id := some (zeros 512) }) [5, 1, 255, 1] [] rfl rfl rfl (by decide), rfl⟩
theorem test_wit_sfpNone : ∃ p e s t, Accepted cmdPortSfpRead p e s t ∧
    (t.port (byteAt e.req.params 0)).sfpBytes (byteAt e.req.params 1 == 1) = none :=
  ⟨_, _, _, _, accepted_open cmdPortSfpRead _ (wPort 5 {}) [5, 1, 255, 1] [] rfl rfl rfl (by decide), rfl⟩
theorem test_wit_ipCfg : ∃ p e s t, Accepted cmdPortIpCfg p e s t :=
  ⟨_, _, _, _, accepted_priv cmdPortIpCfg _ (wBase 1) [1, 0, 0, 10, 30] [] rfl rfl (by decide) (by decide)⟩

/-! ## Chapter 14 -/

def wFrame (len : Nat) (tag : Option (Nat × Nat)) (c : Content) : Frame :=
  { dst := 0x020000000001, src := 0x020000000002, tag := tag, len := len, fcsOk := true, pcsOk := true, ecn := none, content := c }
/-- P1, P2, P3 and P5 up at 10 Gbit/s, with a queue. -/
def wSw (q : List Copy) : State :=
  { wBase 1 with ports.port := [0, 1, 2, 4].map (fun i => (i, { up := true, speed := 2, present := true })), sw.queue := q }
def wCopy (port cls : Nat) : Copy :=
  { fid := 0, port := port, cls := cls, src := 1, num := 0, entry := 0, frame := wFrame 100 none .other, vid := 1, pcp := 0, base := 100
    cells := 1, cut := false, origin := .fwd }
theorem test_runt : (wNext (exec (.frameReceive 0 (wFrame 63 none .other) 5) (wSw []))).ports.counters = [(14, 1)] := by decide
/-- R297: an unknown unicast of VLAN 1 floods P1 to P5 but never the other LAN; the ingress and ports that are down stay out. -/
theorem test_flood : (wSw []).forwardPorts 0 1 0x020000000001 = some [1, 4] ∧ (wSw []).forwardPorts 4 1 0x020000000001 = some [0, 1, 2] ∧
    (wSw []).forwardPorts 0 2 0x020000000001 = none := by decide
/-- R284: VID 4,095, a priority tag and an untagged frame under admit 0. -/
theorem test_admitTagged : admitVlan (portDefault 0) (wFrame 64 (some (4095, 0)) .other) = none ∧
    admitVlan (portDefault 0) (wFrame 64 (some (0, 5)) .other) = some (1, 5) ∧ admitVlan (portDefault 0) (wFrame 64 none .other) = some (1, 0) := by decide
/-- R309, R310: the source of a good frame is learned on its port, and a fifth sweep removes it. -/
theorem test_learned : ((wSw []).learn 0 2 1).sw.fdb.map (fun x => (x.2.mac, x.2.vid, x.2.dest, x.2.age)) = [(2, 1, 1, 0)] := by decide
theorem test_sweep :
    (wNext (exec .fdbAgeSweep { wSw [] with sw.fdb := [(0, ⟨2, 1, 1, false, false, 4⟩), (4, ⟨3, 1, 1, true, false, 0⟩)] })).sw.fdb.map (·.1) = [4] := by decide
theorem test_priority : ((wSw [wCopy 0 3, wCopy 0 7, wCopy 1 7]).nextCopy 0).map (·.cls) = some 7 := by decide
theorem test_wit_frameGood : ∃ (s : State) (f : Frame), s.pathOn = true ∧ (s.port 0).up = true ∧ s.diag.inj = [] ∧ f.pcsOk = true ∧ f.fcsOk = true ∧
    64 ≤ f.len ∧ f.len ≤ s.maxFrame 0 ∧ admitVlan (s.cfg.tables.port 0) f = some (1, 0) ∧ s.filterHit 0 1 f.dst = none ∧
    f.content = .ptp 0 1 0 none := ⟨wSw [], wFrame 64 none (.ptp 0 1 0 none), by decide⟩
theorem test_wit_frameRefused : ∃ (s : State) (f : Frame), s.pathOn = true ∧ admitVlan (s.cfg.tables.port 0) f = none ∧ f.len = 64 :=
  ⟨wSw [], wFrame 64 (some (4095, 0)) .other, by decide⟩
theorem test_wit_forward : ∃ (s : State) (ps : List Nat), s.forwardPorts 0 1 5 = some ps ∧ 4 ∈ ps := ⟨wSw [], [1, 4], by decide⟩
set_option maxRecDepth 8000 in
theorem test_wit_drop : ∃ (s : State) (x : FdbEntry), s.sw.fdbLookup 2 1 = some x ∧ x.drop = true :=
  ⟨{ wSw [] with sw.fdb := [(4 * fdbBucket 2 1, ⟨2, 1, 1, true, true, 0⟩)] }, ⟨2, 1, 1, true, true, 0⟩, by decide⟩
set_option maxRecDepth 8000 in
theorem test_wit_learn : ∃ (s : State) (k : Nat), (byteAt s.cfg.tables.sw 4).testBit 6 = true ∧ s.sw.fdbFind 2 1 = none ∧
    s.sw.freeWay (fdbBucket 2 1) = some k := ⟨wSw [], 4 * fdbBucket 2 1, by decide⟩
set_option maxRecDepth 8000 in
theorem test_wit_relearn : ∃ (s : State) (k : Nat) (x : FdbEntry), s.sw.fdbFind 2 1 = some k ∧ s.sw.fdb.get? k = some x ∧ x.static = false ∧ x.dest = 2 ^ 0 :=
  ⟨{ wSw [] with sw.fdb := [(4 * fdbBucket 2 1, ⟨2, 1, 1, false, false, 3⟩)] }, 4 * fdbBucket 2 1, ⟨2, 1, 1, false, false, 3⟩, by decide⟩
theorem test_wit_egress : ∃ (s : State) (c : Copy), (s.port 0).up = true ∧ (s.port 0).pauseUntil ≤ s.now ∧ (s.port 0).busyUntil ≤ s.now ∧
    s.nextCopy 0 = some c ∧ s.clsAge c.cls = 0 ∧ s.leavesLen c ≤ s.maxFrame 0 ∧ s.congMark c = false :=
  ⟨{ wSw [wCopy 0 3] with cfg := { State.reset.cfg with tables := { State.reset.cfg.tables with classes := zeros 128 } } }, wCopy 0 3, by decide⟩
theorem test_wit_sweep : ∃ (s : State), .sw ∈ s.power.on := ⟨wSw [], by decide⟩
theorem test_wit_reseq : ∃ (s : State), s.sw.queue.filter (fun x => seqKey x.src x.cls x.port == 88) = [wCopy 0 3] ∧
    (s.sw.seqs.getD 88 {}).expect = 7 ∧ 88 / 8 % 8 ≠ 7 := ⟨{ wSw [wCopy 0 3] with sw := { (wSw [wCopy 0 3]).sw with seqs := [(88, { expect := 7 })] } }, by decide⟩
theorem test_wit_swCfg : ∃ p e s t, Accepted cmdSwCfg p e s t :=
  ⟨_, _, _, _, accepted_priv cmdSwCfg _ (wBase 1) [10, 0, 0, 0, 127, 127] [] rfl rfl (by decide) (by decide)⟩
set_option maxRecDepth 4000 in
theorem test_wit_swClass : ∃ p e s t, Accepted cmdSwClassStage p e s t :=
  ⟨_, _, _, _, accepted_priv cmdSwClassStage _ (wBase 1) [] State.reset.cfg.tables.classes rfl rfl (by decide) (by decide)⟩
theorem test_wit_swPcp : ∃ p e s t, Accepted cmdSwPcpStage p e s t :=
  ⟨_, _, _, _, accepted_priv cmdSwPcpStage _ (wBase 1) [6, 0, 0, 0, 0, 0, 0, 0, 7, 6, 5, 4, 3, 2, 1] [] rfl rfl (by decide) (by decide)⟩
theorem test_wit_swVlan : ∃ p e s t, Accepted cmdSwVlanStage p e s t :=
  ⟨_, _, _, _, accepted_priv cmdSwVlanStage _ (wBase 1) [1] [254, 15, 127, 7] rfl rfl (by decide) (by decide)⟩
theorem test_wit_swFdb : ∃ p e s t, Accepted cmdSwFdbStage p e s t :=
  ⟨_, _, _, _, accepted_priv cmdSwFdbStage _ (wBase 1) [1] ([2, 0, 0, 0, 0, 1, 1, 0, 255, 3] ++ zeros 6) rfl rfl (by decide) (by decide)⟩
theorem test_wit_swFlush : ∃ p e s t, Accepted cmdSwFdbFlush p e s t :=
  ⟨_, _, _, _, accepted_priv cmdSwFdbFlush _ (wBase 1) [1, 6] [] rfl rfl (by decide) (by decide)⟩
theorem test_wit_swCfgRead : ∃ p e s t, Accepted cmdSwCfgRead p e s t :=
  ⟨_, _, _, _, accepted_open cmdSwCfgRead _ (wBase 1) [2, 1, 6] [] rfl rfl rfl (by decide)⟩
theorem test_wit_swStatus : ∃ p e s t, Accepted cmdSwStatus p e s t ∧ byteAt e.req.params 0 = 1 :=
  ⟨_, _, _, _, accepted_open cmdSwStatus _ (wBase 1) [1] [] rfl rfl rfl (by decide), rfl⟩
theorem test_wit_swFdbRead : ∃ p e s t x, Accepted cmdSwFdbRead p e s t ∧ t.sw.fdb.get? (le16 e.req.params 0 + 0) = some x :=
  ⟨_, _, _, _, _, accepted_open cmdSwFdbRead _ { wSw [] with sw.fdb := [(32767, ⟨2, 1, 1, false, false, 4⟩)] } [255, 127, 1] [] rfl rfl rfl (by decide), rfl⟩

/-! ## Chapter 15 -/

/-- R336's defaults with pps_in mode 1, as TIME_CFG takes them. -/
def wTimeCfg : Bytes := [0, 2, 0, 15, 255, 255, 1, 0, 0, 0] ++ leBytes 2 3600 ++ [1, 1] ++ leBytes 2 100 ++ leBytes 4 1000 ++ [37] ++ zeros 27
/-- Time in a servo state, with a port that knows its delay and hears its parent 5 on P1. -/
def wPtp (v : Servo) (x : PtpPort) : State :=
  { wTime 1 with
    time := { (wTime 1).time with servo := v, slavePort := 0, parent := 5, ports := [(0, x)] }
    cfg := { State.reset.cfg with time := wTimeCfg.set 1 0 } }
def wMsg : PtpMsg := { port := 0, clockId := 5, seq := 9, tag := none, raw := [] }
def wAnn : AnnounceData :=
  { gmId := 7, gmClass := 6, gmAccuracy := 0x21, gmVariance := 1, priority1 := 1, priority2 := 1, stepsRemoved := 0, utcOffset := 38
    utcValid := true, leap61 := false, leap59 := false }
/-- R314: 4.0 ns a tick, so the 250,000,000th tick is at 1 s. -/
theorem test_ticks : (State.reset.clockTo 1000000000).now = 1000000000 ∧ (State.reset.clockTo 1000000000).time.ticks = 250000000 := by decide
theorem test_markFree : ((wPtp .free {}).time.nymingMark { ns := 5, sec := 9 }).ns = 1000000005 ∧
    ((wPtp .free {}).time.nymingMark { ns := 5, sec := 9 }).sec = 10 := by decide
/-- R330: a source 380 ns ahead of the marks moves the next one whole; one 20,000 ns ahead moves it by 10,000. -/
theorem test_markSmall :
    (({ (wPtp .locked {}).time with sync := some (0, 380) }).nymingMark { ns := 0, sec := 0 }).ns = 999999620 ∧
    (({ (wPtp .locked {}).time with sync := some (0, 20000) }).nymingMark { ns := 0, sec := 0 }).ns = 999990000 ∧
    (({ (wPtp .locked {}).time with sync := some (0, 20000) }).nymingMark { ns := 0, sec := 0 }).gridStep = false := by decide
theorem test_sixteenth : ((wPtp .acquire {}).servoSync 5).time.servo = .acquire ∧
    ({ wPtp .acquire {} with time := { (wPtp .acquire {}).time with goodSyncs := 15 } }.servoSync (-1000)).time.servo = .locked := by decide
theorem test_wit_markPending : ∃ (s : State) (m : Mark), s.hostOn = true ∧ s.time.pend = some m :=
  ⟨{ wTime 1 with time := { (wTime 1).time with pend := some {} } }, {}, by decide, rfl⟩
theorem test_wit_pendLate : ∃ (s : State), s.time.running = true ∧ 5 ≤ s.time.next.sec := ⟨wTime 1, by decide⟩
theorem test_wit_pend : ∃ (s : State) (m : Mark), s.time.running = true ∧ s.time.next.sec < 6 ∧ s.diag.inj = [] ∧ m = s.time.nymingMark s.time.next ∧
    s.time.next.ns + 500000000 ≤ m.ns ∧ m.ns ≤ s.time.next.ns + 1500000000 := ⟨wTime 1, (wTime 1).time.nymingMark (wTime 1).time.next, by decide⟩
theorem test_wit_secondNear : ∃ (t : TimeBlk), t.manualSec = none ∧ t.servo = .locked ∧ (t.secondNear 1000000000 1).1 = 1 ∧
    (t.secondNear 1000000000 1).2.natAbs ≤ 1000000 := ⟨{ (wPtp .locked {}).time with sync := some (0, 380) }, by decide⟩
theorem test_wit_manual : ∃ (t : TimeBlk), t.manualSec = some 99 ∧ t.servo = .free := ⟨{ (wPtp .free {}).time with manualSec := some 99 }, by decide⟩
theorem test_wit_holdover : ∃ (s : State), s.time.servo = .holdover ∧ s.time.holdExpired = false := ⟨wPtp .holdover {}, by decide⟩
theorem test_wit_ppsOut : ∃ (s : State), s.time.ppsOut = true := ⟨{ wTime 1 with time.ppsOut := true }, rfl⟩
theorem test_wit_ppsIgnored : ∃ (s : State), s.time.ppsSeen = true ∧ 500000010 - 11 < s.time.ppsExt + 500000000 := ⟨{ wTime 1 with time.ppsSeen := true }, by decide⟩
theorem test_wit_ppsIn : ∃ (s : State), s.cfg.ppsInMode = 1 ∧ s.time.ppsSeen = false ∧ s.diag.inj = [] ∧
    s.cfg.ppsThr < ((s.clockTo 1000002011).time.nearestOffset 1000002000).natAbs := ⟨wPtp .free {}, by decide⟩
theorem test_wit_timeCfg : ∃ p e s t, Accepted cmdTimeCfg p e s t :=
  ⟨_, _, _, _, accepted_priv cmdTimeCfg _ (wPtp .locked {}) wTimeCfg [] rfl rfl (by decide) (by decide)⟩
theorem test_wit_timeCfgRead : ∃ p e s t, Accepted cmdTimeCfgRead p e s t :=
  ⟨_, _, _, _, accepted_open cmdTimeCfgRead _ (wBase 1) [] [] rfl rfl rfl (by decide)⟩
theorem test_wit_timeStatus : ∃ p e s t, Accepted cmdTimeStatus p e s t :=
  ⟨_, _, _, _, accepted_open cmdTimeStatus _ (wBase 1) [] [] rfl rfl rfl (by decide)⟩
theorem test_wit_timeMapRead : ∃ p e s t, Accepted cmdTimeMapRead p e s t :=
  ⟨_, _, _, _, accepted_open cmdTimeMapRead _ (wBase 1) [0, 0, 0, 0, 0, 0, 0, 16] [] rfl rfl rfl (by decide)⟩
theorem test_wit_timePortStatus : ∃ p e s t, Accepted cmdTimePortStatus p e s t ∧ byteAt e.req.params 1 = 1 :=
  ⟨_, _, _, _, accepted_open cmdTimePortStatus _ (wBase 1) [5, 1] [] rfl rfl rfl (by decide), rfl⟩
theorem test_wit_timeManual : ∃ p e s t, Accepted cmdTimeManualSet p e s t ∧ (byteAt e.req.params 0).testBit 0 = true :=
  ⟨_, _, _, _, accepted_priv cmdTimeManualSet _ (wBase 1) [3, 255] [] rfl rfl (by decide) (by decide), rfl⟩
theorem test_wit_ptpUsed : ∃ (s : State), (s.cfg.ptpMask wMsg.port = true ∧ s.cfg.ptpAuth = false) ∧ s.cfg.ptpRole ≠ 2 ∧ s.diag.inj = [] ∧ s.time.slavePort = wMsg.port ∧
    s.time.parent = wMsg.clockId := ⟨wPtp .free {}, ⟨by decide, by decide⟩, by decide, rfl, rfl, rfl⟩
theorem test_wit_ptpMask : ∃ (s : State), s.cfg.ptpMask 4 = false ∧ s.cfg.ptpMask 0 = true ∧ s.cfg.ptpProfile ≤ 1 := ⟨wPtp .free {}, by decide⟩
theorem test_wit_ptpAuth : ∃ (s : State), s.cfg.ptpMask 0 = true ∧ s.cfg.ptpAuth = true ∧ s.cfg.ptpMon = false ∧ s.ptpIcv wMsg = false :=
  ⟨{ wPtp .free {} with cfg.time := wTimeCfg.set 6 2 }, by decide, by decide, by decide, rfl⟩
theorem test_wit_syncValid : ∃ (s : State), s.syncValid wMsg = true := ⟨wPtp .free { lastValid := some 0 }, by decide⟩
theorem test_wit_followUp : ∃ (s : State), (s.ptpPort 0).twoStep = some (wMsg.seq, 3, 0) ∧ s.syncValid wMsg = true :=
  ⟨wPtp .free { lastValid := some 0, twoStep := some (9, 3, 0) }, rfl, by decide⟩
theorem test_wit_utc : wAnn.utcValid = true ∧ { wAnn with utcValid := false }.utcValid = false := by decide
theorem test_wit_request : ∃ (s : State), (s.ptpPort wMsg.port).request = some (wMsg.seq, 100) ∧ 150 ≤ 100 + 500000000 ∧
    0 ≤ ((150 : Nat) : Int) - 100 - 0 := ⟨wPtp .free { request := some (9, 100) }, rfl, by decide, by decide⟩
theorem test_wit_profile2 : ∃ (s : State), s.cfg.ptpMask 0 = true ∧ s.cfg.ptpProfile = 2 ∧ s.time.slavePort = 0 ∧ (s.ptpPort 0).state = 6 ∧
    (s.cfg.ptpMask wMsg.port = true ∧ s.cfg.ptpAuth = false) := ⟨{ wPtp .free { state := 6 } with cfg.time := wTimeCfg.set 0 2 }, by decide, by decide, rfl, rfl, ⟨by decide, by decide⟩⟩

/-! ## Chapter 16 -/

def wRtc (r : RtcBlk) : State := { wTime 1 with rtc := r }
/-- R339, R340: the end of 2255, 29 February 2100 as written, hour 31 and month 0 at midnight. -/
theorem test_calendar : ({ year := 255, month := 12, day := 31, hour := 23, min := 59, sec := 59, wday := 6 : Calendar }).tick =
      ({ year := 0, month := 1, day := 1, hour := 0, min := 0, sec := 0, wday := 0 }, true) ∧
    (({ year := 100, month := 2, day := 29, hour := 23, min := 59, sec := 59, wday := 1 : Calendar }).tick.1).month = 3 ∧
    (({ year := 1, month := 2, day := 30, hour := 31, min := 59, sec := 63, wday := 1 : Calendar }).tick.1).day = 1 ∧
    (({ year := 1, month := 0, day := 5, hour := 23, min := 59, sec := 59, wday := 1 : Calendar }).tick.1) =
      { year := 1, month := 1, day := 6, hour := 0, min := 0, sec := 0, wday := 2 } := by decide
/-- R338: a trim of one and a half periods a second. -/
theorem test_trimStep : trimStep 0 25165824 = (8388608, 32769) ∧ trimStep 8388608 25165824 = (0, 32770) ∧
    trimStep 0 (-1) = (16777215, 32767) := by decide
/-- R346's example: 1,651 periods too many over 4,096 s. -/
theorem test_trimClose :
    (wNext (exec (.trimWindowClose (134217728 + 1651)) (wRtc { window := some { src := 1, opened := 0, w := 4096 } }))).rtc.newTrim.map (·.1) =
      some 6762496 := by decide
theorem test_rtcLoadDate :
    let t := wNext (exec (.rtcSecondEnd 20000000) (wRtc { loads := [([31, 3, 14, 9, 12, 7, 0, 1], 0, .mb 0)], invalid := true }))
    t.rtc.cal = { year := 31, month := 3, day := 14, hour := 9, min := 12, sec := 7, wday := 0 } ∧ t.rtc.invalid = false := by decide
theorem test_wit_calendar : ∃ c : Calendar, c.sec < 64 ∧ c.min < 64 ∧ c.hour < 32 ∧ c.day < 32 ∧ c.month < 16 ∧ c.year < 256 ∧ c.wday < 7 ∧
    59 ≤ c.sec ∧ 59 ≤ c.min ∧ 23 ≤ c.hour ∧ dim c.month c.year ≤ c.day ∧ 12 < c.month :=
  ⟨{ year := 255, month := 15, day := 31, hour := 31, min := 63, sec := 63, wday := 6 }, by decide⟩
theorem test_wit_secondEnd : ∃ (s : State), s.rtc.loads = [] ∧ s.rtc.newTrim = none ∧ s.rtc.cfgNew = none := ⟨wRtc {}, rfl, rfl, rfl⟩
theorem test_wit_load : ∃ (s : State) (b : Bytes), s.rtc.loads = [(b, 0, .mb 0)] ∧ 0 + 10000000 ≤ (s.clockTo 20000000).now ∧ byteAt b 7 = 1 ∧
    s.rtc.newTrim = none ∧ s.rtc.cfgNew = none := ⟨wRtc { loads := [([31, 3, 14, 9, 12, 7, 0, 1], 0, .mb 0)] }, _, rfl, by decide, rfl, rfl, rfl⟩
theorem test_wit_alignCompare : ∃ (s : State), s.cfg.rtcAlign = true ∧ s.time.servo = .locked ∧ 2 ≤ s.rtc.marksLocked ∧ (s.rtc.marksLocked - 2) % 64 = 0 :=
  ⟨{ wRtc { marksLocked := 66 } with time := { (wTime 1).time with servo := .locked } }, by decide⟩
theorem test_wit_alignDue : ∃ (s : State), s.rtc.alignDue = true := ⟨wRtc { alignDue := true }, rfl⟩
theorem test_wit_window : ∃ (s : State) (w : TrimWindow), s.rtc.window = some w ∧ s.windowFailed w = true ∧
    33554432 < divRoundAway (((40000000 : Nat) - w.w * 32768) * 16777216) w.w :=
  ⟨wRtc { window := some { src := 1, opened := 0, w := 1024 } }, _, rfl, by decide, by decide⟩
theorem test_wit_windowOk : ∃ (s : State) (w : TrimWindow), s.rtc.window = some w ∧ s.windowFailed w = false :=
  ⟨{ wRtc { window := some { src := 2, opened := 0, w := 1024 } } with power := { State.reset.power with mainsAbsent := false } }, _, rfl, by decide⟩
theorem test_wit_mains : ∃ (s : State), s.power.mainsAbsent = false ∧ s.rtc.window = none ∧ s.cfg.trimSrc = 2 :=
  ⟨{ wRtc {} with cfg.rtc := [2, 1, 50, 7], power := { State.reset.power with mainsAbsent := false } }, rfl, rfl, rfl⟩
theorem test_wit_mainsNot : ∃ (s : State), s.cfg.trimSrc ≤ 1 := ⟨{ wRtc {} with cfg.rtc := [1] }, by decide⟩
theorem test_wit_rtcRegs : ∃ (s : State), s.hostOn = true ∧ s.rtc.frozen = true := ⟨wRtc { frozen := true }, by decide⟩
theorem test_wit_rtcRead : ∃ p e s t, Accepted cmdRtcRead p e s t :=
  ⟨_, _, _, _, accepted_open cmdRtcRead _ (wBase 1) [] [] rfl rfl rfl (by decide)⟩
theorem test_wit_rtcSet : ∃ p e s t, Accepted cmdRtcSet p e s t :=
  ⟨_, _, _, _, accepted_priv cmdRtcSet _ (wBase 1) [255, 15, 31, 31, 63, 63, 6, 3] [] rfl rfl (by decide) (by decide)⟩
theorem test_wit_rtcCfg : ∃ p e s t, Accepted cmdRtcCfg p e s t :=
  ⟨_, _, _, _, accepted_priv cmdRtcCfg _ (wBase 1) [0, 0, 60, 28, 0, 4, 0, 0, 0, 0, 0, 2] [] rfl rfl (by decide) (by decide)⟩

/-! ## Chapter 17 -/

/-- A head: kind 1, `count` channels, no points, base 8 GiB, slots of one unit, pre 2, post 3, holdoff 1 ms. -/
def wHeadOf (flags terms count slots : Nat) : Bytes :=
  [0, 1] ++ leBytes 1 flags ++ leBytes 1 terms ++ leBytes 2 count ++ [0, 0] ++ leBytes 8 8589934592 ++ [1, 0] ++ leBytes 2 slots ++
    leBytes 4 2 ++ leBytes 4 3 ++ [1, 0] ++ zeros 34
def wRecInst (st : Nat) : RecInst := { head := wHeadOf 0 0 1 2, items := [5], state := st }
def wRecSt (r : RecInst) : State := { wTime 1 with acq.inst := [(0, r)] }
def wRecFr (o : Nat) : RecFrame := { ord := o, g := o, t := 1000 * o, sec := 0, n := o, flags := 0 }
def wTrig (t src : Nat) : RecTrig := { at_ := t, source := src, term := 0, cls := 15, interp := false }
def wRing : RecInst := { wRecInst 2 with slot := some 0, ord := 4, ring := [wRecFr 3, wRecFr 2, wRecFr 1, wRecFr 0], trigs := [wTrig 3000 3] }
def wSecond : GridSecond :=
  { ord := 0, sec := 4, m0 := 0, m1 := 1000000000, g0 := 0, rate := 4800, d := 480, mode := 0, p := 1, snow := 0, holdover := false
    step := false, extrap := false }
def wFrameSt : State :=
  { wBase 1 with time := { State.reset.time with acc := BitVec.ofNat 96 (1000 * 2 ^ 32) }
                 power := { State.reset.power with on := .acq :: State.reset.power.on }
                 aln := { State.reset.aln with seconds := [wSecond] }
                 acq.inst := [(0, { wRecInst 2 with items := [], slot := some 0, next := some 0 })] }
/-- The example of R365: 1,696 channels and 64 points give frames of 20,368 bytes, 7,207 of them in a 140 MiB slot; the
background of R353: 196,744 bytes. -/
theorem test_frameLen : frameLen 1 1696 64 = 20368 ∧ frameLen 1 16384 1024 = 196744 ∧ (146800640 - 4096 - listLen 1 1696 64) / 20368 = 7207 := by decide
theorem test_wit_armNow : ∃ (s : State), (s.recInst 0).state = 1 ∧ (s.recInst 0).nextFree = some 0 := ⟨wRecSt (wRecInst 1), by decide⟩
def wSeg (lo hi : Nat) (ends : Option Nat) : RecSeg :=
  { record := 1, segment := 0, firstPos := 0, frames := 3, pre := 2, first := wRecFr lo, trig := wRecFr lo, firstOrd := lo, trigOrd := lo
    lastOrd := hi, trigExt := 0, calendar := [], tblGen := 0, map := [], closeAt := ends }
theorem test_wit_recStop : ∃ (s : State) (g : RecSeg), (s.recInst 0).on = true ∧ (s.recInst 0).slots.get? 0 = some g ∧ g.closed = false ∧ g.closeAt = none :=
  ⟨wRecSt { wRecInst 3 with slots := [(0, wSeg 0 9 none)] }, _, by decide, rfl, rfl, rfl⟩
theorem test_wit_recOff : ∃ (s : State), (s.recInst 0).on = false := ⟨wRecSt (wRecInst 1), by decide⟩
theorem test_wit_recFrame : ∃ (s : State) (d : GridSecond) (b : Built), s.pathOn = true ∧ (s.recInst 0).on = true ∧ .acq ∈ s.power.on ∧
    (s.recInst 0).next.bind (fun g => s.capture (s.recInst 0).kind g) = some (d, 0) ∧ s.buildFrame (s.recInst 0) d 0 = some b ∧
    (s.recInst 0).postSeg = none := ⟨wFrameSt, wSecond, _, by decide, by decide, by decide, by decide, rfl, by decide⟩
theorem test_wit_newRecord : ∃ (s : State) (r : RecInst) (x : RecTrig) (f first : RecFrame), s.pathOn = true ∧ r = s.recInst 0 ∧
    r.trigs.find? (fun y => y.source = 3) = some x ∧ s.trigFrame r x.at_ = some (some f) ∧ r.slots = [] ∧ r.on = true ∧ r.postSeg = none ∧
    r.lastOrd = none ∧ r.slot = some 0 ∧ r.ring.find? (fun y => y.ord = f.ord - min r.preMax (f.ord - 0)) = some first ∧ r.ord ≤ f.ord + r.post ∧
    f.ord + r.post < first.ord + r.capacity ∧ r.outX1 = false :=
  ⟨wRecSt wRing, wRing, wTrig 3000 3, wRecFr 3, wRecFr 1, by decide⟩
theorem test_wit_missed : ∃ (s : State) (r : RecInst) (x : RecTrig) (f : RecFrame), s.pathOn = true ∧ r = s.recInst 0 ∧
    r.trigs.find? (fun y => y.source = 3) = some x ∧ s.trigFrame r x.at_ = some (some f) ∧ r.on = true ∧ r.postSeg = none ∧
    r.slots.find? (fun y => !y.2.closed && decide (y.2.firstOrd ≤ f.ord) && decide (f.ord ≤ y.2.lastOrd)) = none ∧
    r.lastOrd = some 2 ∧ 2 < f.ord ∧ f.ord ≤ 2 + s.holdFrames r ∧ r.retrig = false :=
  ⟨wRecSt { wRing with state := 4, lastOrd := some 2 }, { wRing with state := 4, lastOrd := some 2 }, wTrig 3000 3, wRecFr 3, by decide⟩
theorem test_wit_noTrig : ∃ (s : State), s.pathOn = true ∧ (s.recInst 0).trigs.find? (fun y => y.source = 4) = none := ⟨wRecSt wRing, by decide⟩
theorem test_wit_rearm : ∃ (s : State) (r : RecInst), r = s.recInst 0 ∧ r.state = 4 ∧ r.lastOrd = some 2 ∧ 2 + 1 + s.holdFrames r ≤ r.ord :=
  ⟨wRecSt { wRing with state := 4, lastOrd := some 2, ord := 8 }, _, rfl, by decide⟩
theorem test_wit_rearmNot : ∃ (s : State) (r : RecInst), r = s.recInst 0 ∧ r.state = 4 ∧ r.lastOrd = some 2 ∧ r.ord < 2 + 1 + s.holdFrames r :=
  ⟨wRecSt { wRing with state := 4, lastOrd := some 2, ord := 7 }, _, rfl, by decide⟩
theorem test_wit_segClose : ∃ (s : State) (g : RecSeg), (s.recInst 0).slots = [(0, g)] ∧ g.closed = false ∧ g.closeAt = some 9000000 :=
  ⟨wRecSt { wRecInst 4 with slots := [(0, wSeg 0 2 (some 9000000))] }, _, rfl, rfl, rfl⟩
theorem test_wit_trigIn : ∃ (s : State) (r : RecInst) (b : Bytes), s.acq.inst.get? 0 = some r ∧ r.on = true ∧ r.terms = [b] ∧ byteAt b 0 = 3 ∧
    le32 b 4 = 1 ∧ byteAt b 1 &&& 2 ≠ 0 := ⟨wRecSt { wRing with terms := [[3, 2, 0, 0, 1] ++ zeros 11] }, _, [3, 2, 0, 0, 1] ++ zeros 11, rfl, by decide⟩
theorem test_wit_xtrig : ∃ (s : State) (r : RecInst) (b : Bytes), lineSeen s.acq.j4 500000 = true ∧ s.acq.inst.get? 0 = some r ∧ r.on = true ∧
    r.terms = [b] ∧ byteAt b 0 = 4 ∧ le32 b 4 = 1 := ⟨wRecSt { wRing with terms := [[4, 0, 0, 0, 1] ++ zeros 11] }, _, [4, 0, 0, 0, 1] ++ zeros 11, by decide, rfl, by decide⟩
theorem test_wit_xtrigOwn : ∃ (s : State), lineSeen s.acq.x1 500000 = false ∧ s.acq.x1 = some (400000, none) ∧ s.acq.j4 = none :=
  ⟨{ wRecSt wRing with acq.x1 := some (400000, none) }, by decide⟩
/-- R359: the 1.8 µs of the input are removed. -/
theorem test_trigStamp : ((wNext (exec (.trigInputEdge 1 false 9000) (wRecSt { wRing with trigs := [], terms := [[3, 2, 0, 0, 1] ++ zeros 11] }))).recInst 0).trigs.map (·.at_) =
    [7200] := by decide
set_option maxRecDepth 8000 in
theorem test_wit_recCfg : ∃ p e s t, Accepted cmdRecCfg p e s t :=
  ⟨_, _, _, _, accepted_priv cmdRecCfg _ (wBase 1) [0] (wHeadOf 0 0 1 2 ++ zeros 256 ++ [5, 0]) rfl rfl (by decide) (by decide +kernel)⟩
theorem test_wit_recArm : ∃ p e s t, Accepted cmdRecArm p e s t :=
  ⟨_, _, _, _, accepted_priv cmdRecArm _ (wRecSt (wRecInst 1)) [1, 0, 1] [] rfl rfl (by decide) (by decide)⟩
theorem test_wit_recTrigger : ∃ p e s t, Accepted cmdRecTrigger p e s t ∧ (t.recInst 0).on = true ∧ (le16 e.req.params 0).testBit 0 = true :=
  ⟨_, _, _, _, accepted_open cmdRecTrigger _ (wRecSt wRing) [1, 0] [] rfl rfl rfl (by decide), by decide⟩
theorem test_wit_recStatus : ∃ p e s t, Accepted cmdRecStatus p e s t :=
  ⟨_, _, _, _, accepted_open cmdRecStatus _ (wRecSt wRing) [] [] rfl rfl rfl (by decide)⟩
theorem test_wit_recSlots : ∃ p e s t g, Accepted cmdRecSlots p e s t ∧ (t.recInst 0).slots.get? 0 = some g :=
  ⟨_, _, _, _, _, accepted_open cmdRecSlots _ (wRecSt { wRecInst 4 with slots := [(0, wSeg 0 2 none)] }) [] [] rfl rfl rfl (by decide), rfl⟩
theorem test_wit_recRelease : ∃ p e s t, Accepted cmdRecRelease p e s t :=
  ⟨_, _, _, _, accepted_open cmdRecRelease _ (wRecSt { wRecInst 5 with slots := [(0, { wSeg 0 2 none with closed := true })] }) [] [] rfl rfl rfl (by decide)⟩
theorem test_wit_recLog : ∃ p e s t, Accepted cmdRecLogRead p e s t :=
  ⟨_, _, _, _, accepted_open cmdRecLogRead _ (wRecSt wRing) [0, 4, 1] [] rfl rfl rfl (by decide)⟩

/-! ### Longe -/

/-- A synthetic stream 0: 4,000 samples/s, one ASDU, one channel, port P1, svID "A". -/
def wLgRec : Bytes :=
  [0, 1, 0, 1] ++ zeros 12 ++ [0, 64] ++ zeros 6 ++ [1, 1] ++ zeros 2 ++ [100, 0, 0, 1, 65] ++ zeros 159
/-- One state without end: dc 7. -/
def wLgState : Bytes := zeros 32 ++ [7, 0, 0, 0] ++ zeros 4
def wLg (b : Bytes) (r : LongeRun) : State :=
  { wBase 1 with aln := { State.reset.aln with seconds := [wSecond] }
                 acq := { State.reset.acq with longe := [(0, { rec_ := b, states := [wLgState] })], runs := [(0, r)], running := r.running } }
theorem test_wit_longeTime : ∃ (s : State) (c : LongeCfg) (x : LongeRun), s.pathOn = true ∧ s.acq.longe.get? 0 = some c ∧ s.acq.runs.get? 0 = some x ∧
    x.running = true ∧ s.acq.running = true ∧ (s.lgTime c.rec_ x).map (·.1) = some 0 := ⟨wLg wLgRec { running := true }, _, _, by decide, rfl, rfl, by decide⟩
theorem test_wit_longeSample : ∃ (s m : State) (c : LongeCfg) (x y : LongeRun) (l : List Asdu) (n : Nat), s.acq.longe.get? 0 = some c ∧
    s.acq.runs.get? 0 = some x ∧ x.running = true ∧ s.acq.running = true ∧ State.lgNext c (lgAsdus c.rec_) x s = (some (l, n, y), m) :=
  ⟨wLg wLgRec { running := true }, _, _, _, _, _, _, rfl, rfl, rfl, rfl, rfl⟩
theorem test_wit_longeIdle : ∃ (s : State), s.pathOn = true ∧ s.acq.running = false := ⟨wLg wLgRec {}, by decide⟩
theorem test_wit_longeEnd : ∃ (s : State) (c : LongeCfg) (x : LongeRun), s.acq.longe.get? 0 = some c ∧ s.acq.runs.get? 0 = some x ∧ x.running = true ∧
    (s.lgTime c.rec_ x).isSome = true ∧ (State.lgNext c (lgAsdus c.rec_) x s).1 = none ∧ lgLoop c.rec_ = false :=
  ⟨{ wLg wLgRec { running := true } with acq.longe := [(0, { rec_ := wLgRec, states := [[1] ++ zeros 39] })], acq.runs := [(0, { running := true, c := 4 })] },
    _, _, rfl, rfl, rfl, by decide, by decide, by decide⟩
theorem test_wit_state : ∃ (x : LongeRun), stDur ([wLgState].getD x.state []) = 0 := ⟨{}, by decide⟩
theorem test_wit_dc : ∃ (b : Bytes), le32 b 0 = 0 ∧ byteAt b 6 = 0 ∧ le32 b 20 = 0 ∧ int32 (le32 b 16) = -1 :=
  ⟨zeros 16 ++ [255, 255, 255, 255] ++ zeros 4, by decide⟩
set_option maxRecDepth 8000 in
theorem test_wit_longeCfg : ∃ p e s t, Accepted cmdLongeCfg p e s t :=
  ⟨_, _, _, _, accepted_priv cmdLongeCfg _ (wBase 1) [1] (wLgRec ++ wLgState) rfl rfl (by decide) (by decide +kernel)⟩
theorem test_wit_longeStart : ∃ p e s t, Accepted cmdLongeStart p e s t :=
  ⟨_, _, _, _, accepted_priv cmdLongeStart _ (wLg wLgRec {}) [] [] rfl rfl (by decide) (by decide)⟩
theorem test_wit_longeStop : ∃ p e s t, Accepted cmdLongeStop p e s t :=
  ⟨_, _, _, _, accepted_priv cmdLongeStop _ (wLg wLgRec { running := true }) [] [] rfl rfl (by decide) (by decide)⟩
theorem test_wit_longeStatus : ∃ p e s t, Accepted cmdLongeStatus p e s t :=
  ⟨_, _, _, _, accepted_open cmdLongeStatus _ (wLg wLgRec {}) [] [] rfl rfl rfl (by decide)⟩

/-! ## Chapter 18 -/

def wFe (seq code : Nat) : FirnEv :=
  { seq := seq, code := code, stamp := {}, calendar := [], boot := false, held := false, calInvalid := false, calFree := true, data := [1] }
def wFirn (f : FirnBlk) (l : List Bytes) : State := { wBase 1 with firn := f, flash := { State.reset.flash with firn := l } }
theorem wFirnLen (f : FirnBlk) (n : Nat) : (wFirn f (List.replicate n [])).flash.firn.length + 1 = n + 1 := by
  show (List.replicate n []).length + 1 = n + 1
  rw [List.length_replicate]
theorem wMgmt (f : FirnBlk) (l : List Bytes) : .mgmt ∈ (wFirn f l).power.on := by show _ ∈ State.reset.power.on; decide
set_option maxRecDepth 4000 in
/-- CRC-16/CCITT-FALSE of "123456789" is 0x29B1. -/
theorem test_crc16 : crc16 [0x31, 0x32, 0x33, 0x34, 0x35, 0x36, 0x37, 0x38, 0x39] = 0x29B1 := by decide
theorem test_firnKnown : firnKnown 0x0C06 = true ∧ firnKnown 0x0C07 = false ∧ firnKnown 0x0401 = false ∧ firnKnown 0x0100 = false := by decide
set_option maxRecDepth 8000 in
theorem test_firnProgrammed : ((wNext (exec .firnRecordProgrammed (wFirn { queue := [wFe 9 0x0102, wFe 10 0x0102] } []))).flash.firn.map recordSeq,
    (wNext (exec .firnRecordProgrammed (wFirn { queue := [wFe 9 0x0102, wFe 10 0x0102] } []))).firn.queue.map (·.seq)) = ([9], [10]) := by decide
theorem test_wit_firnEvent : ∃ (s : State) (c : Nat), firnKnown c = true ∧ s.romServed = false ∧ s.firn.full = false ∧ s.firn.queue.length < 4096 :=
  ⟨wFirn {} [], 0x0102, by decide⟩
theorem test_wit_firnFull : ∃ (s : State), s.romServed = false ∧ s.firn.full = true := ⟨wFirn { full := true } [], by decide⟩
theorem test_wit_firnQueueFull : ∃ (s : State), s.romServed = false ∧ s.firn.full = false ∧ s.firn.lost = none ∧ 4096 ≤ s.firn.queue.length :=
  ⟨wFirn { queue := List.replicate 4096 (wFe 0 0x0102) } [], rfl, rfl, rfl, by rw [show ((wFirn { queue := List.replicate 4096 (wFe 0 0x0102) } []).firn.queue) = List.replicate 4096 (wFe 0 0x0102) from rfl, List.length_replicate]⟩
theorem test_wit_programmed : ∃ (s : State), .mgmt ∈ s.power.on ∧ s.firn.frozen = none ∧ s.firn.clear = none ∧ s.firn.full = false ∧
    s.firn.queue = [wFe 9 0x0102] ∧ s.firn.lost = none ∧ s.flash.firn.length + 1 ≠ 245760 ∧ s.flash.firn.length + 1 ≠ 262143 ∧ s.romServed = false :=
  ⟨wFirn { queue := [wFe 9 0x0102] } [], by decide⟩
theorem test_wit_nearFull : ∃ (s : State), .mgmt ∈ s.power.on ∧ s.firn.frozen = none ∧ s.firn.queue = [wFe 9 0x0102] ∧ s.firn.full = false ∧
    s.flash.firn.length + 1 = 245760 :=
  ⟨wFirn { queue := [wFe 9 0x0102] } (List.replicate 245759 []), wMgmt _ _, rfl, rfl, rfl, wFirnLen _ _⟩
theorem test_wit_lastSlot : ∃ (s : State), .mgmt ∈ s.power.on ∧ s.firn.frozen = none ∧ s.firn.queue = [wFe 9 0x0102, wFe 10 0x0102] ∧ s.firn.full = false ∧
    s.flash.firn.length + 1 = 262143 :=
  ⟨wFirn { queue := [wFe 9 0x0102, wFe 10 0x0102] } (List.replicate 262142 []), wMgmt _ _, rfl, rfl, rfl, wFirnLen _ _⟩
theorem test_wit_frozen : ∃ (s : State), s.firn.frozen = some 5 ∧ s.romServed = false ∧ s.firn.full = false ∧ s.firn.queue.length < 4096 :=
  ⟨wFirn { frozen := some 5 } [], by decide⟩
theorem test_wit_notFrozen : ∃ (s : State), s.firn.frozen = none ∧ s.firn.clear = none := ⟨wFirn {} [], by decide⟩
theorem test_wit_erase : ∃ (s : State) (c : FirnClear), s.firn.clear = some c :=
  ⟨wFirn { clear := some { path := none, seq := 7, lastSeq := 6, keyId := 1, erased := 4, ev := wFe 7 0x0C01 } } [], _, rfl⟩
theorem test_wit_seq : ∃ (e : FirnEv), e.seq < 4294967296 := ⟨wFe 4294967295 0x0102, by decide⟩
theorem test_wit_firnStatus : ∃ p e s t, Accepted cmdFirnStatus p e s t :=
  ⟨_, _, _, _, accepted_open cmdFirnStatus _ (wFirn {} []) [] [] rfl rfl rfl (by decide)⟩
set_option maxRecDepth 4000 in
theorem test_wit_firnRead : ∃ p e s t, Accepted cmdFirnRead p e s t ∧ t.flash.firn = [(wFe 9 0x0102).record] :=
  ⟨_, _, _, _, accepted_open cmdFirnRead _ (wFirn {} [(wFe 9 0x0102).record]) [0, 0, 0, 0, 0, 8] [] rfl rfl rfl (by decide), rfl⟩
theorem test_wit_firnFreeze : ∃ p e s t, Accepted cmdFirnFreeze p e s t ∧ byteAt e.req.params 0 = 1 :=
  ⟨_, _, _, _, accepted_open cmdFirnFreeze _ (wFirn {} []) [1] [] rfl rfl rfl (by decide), rfl⟩
theorem test_wit_firnRelease : ∃ p e s t, Accepted cmdFirnFreeze p e s t ∧ byteAt e.req.params 0 ≠ 1 :=
  ⟨_, _, _, _, accepted_open cmdFirnFreeze _ (wFirn { frozen := some 0 } []) [0] [] rfl rfl rfl (by decide), by decide⟩
theorem test_wit_firnClear : ∃ p e s t, Accepted cmdFirnClear p e s t ∧ t.firn.queue = [] :=
  ⟨_, _, _, _, accepted_priv cmdFirnClear _ (wFirn {} []) [] [] rfl rfl (by decide) (by decide), rfl⟩

/-! ## Chapter 19 -/

/-- SIN0: equivalent, a on TP0, b on TP1, filter 2 ms, discrepancy 20 ms (the example of R411). -/
def wInRec : Bytes := [1, 0x21, 8, 0, 20, 0, 0, 0]
/-- SIN1 to SIN7 off. -/
def wInOff : Bytes := [0, 0, 2, 0, 5, 0, 0, 0]
/-- An input connection 0 on P1 and P2's pair partner, id 9, signature 7, watchdog 100 ms. -/
def wConnRec (flags ports : Nat) : Bytes :=
  [0] ++ leBytes 1 flags ++ leBytes 1 ports ++ [0, 9, 0, 0, 0, 7, 0, 0, 0] ++ zeros 10 ++ [100, 0] ++ zeros 40
/-- An output connection 0 on P1: id 9, period 10 ms. -/
def wConnOut : Bytes := [0, 3, 1, 0, 9, 0, 0, 0, 7, 0, 0, 0] ++ zeros 8 ++ [10, 0] ++ zeros 42
def wBlob19 (outs : Bytes) (conns : List Bytes) : Bytes :=
  let head := leBytes 4 0x31464153 ++ [1, 0, 64, 0] ++ leBytes 4 (192 + 64 * conns.length)
  let rest := leBytes 4 5 ++ [100, 0] ++ leBytes 1 conns.length ++ zeros 41 ++ wInRec ++ (List.replicate 7 wInOff).flatten ++ outs ++ conns.flatten
  head ++ leBytes 4 (crc32c (head ++ zeros 4 ++ rest)) ++ rest
def wIsland (x : SafeBlk) : State := { wBase 1 with safe := x, mod := { State.reset.mod with state := 1, bridle := true } }
/-- SOUT0 enabled by SIN0, as category 1 with 2 s. -/
def wOut0 (flags : Nat) : Bytes := leBytes 1 flags ++ [1, 208, 7] ++ zeros 60
def wConnSt (rec_ : Bytes) (c : Conn) : State := wIsland { cfg := some (wBlob19 (wOut0 1) [rec_]), conns := [(0, c)] }
def wPdu (r : Bytes) (seq : Nat) : Bytes := mkPdu r false false seq 5
set_option maxRecDepth 8000 in
theorem test_wit_discrepancy : ∃ (s : State) (b : Bytes), s.safe.cfg = some b ∧ inMode (blobIn b 0) ≠ 0 ∧ (s.safeIn 0).count < inDisc (blobIn b 0) ∧
    (s.safeIn 0).count + 1 = inDisc (blobIn b 0) ∧ (s.inChans 0 (blobIn b 0)).1 ≠ (s.inChans 0 (blobIn b 0)).2 :=
  ⟨wIsland { cfg := some (wBlob19 (wOut0 1) []), inputs := [(0, { state := 1, count := 79 })], terms := [(0, { val := true })] }, _, rfl, by decide⟩
set_option maxRecDepth 8000 in
theorem test_wit_filter : ∃ (s : State) (b : Bytes), s.safe.cfg = some b ∧ inMode (blobIn b 0) ≠ 0 ∧ (s.terminal 1).val ≠ true ∧ (s.terminal 1).last = true ∧
    inNf (blobIn b 0) ≤ (s.terminal 1).run + 1 :=
  ⟨wIsland { cfg := some (wBlob19 (wOut0 1) []), terms := [(1, { last := true, run := 7, val := false })] }, _, rfl, by decide⟩
theorem test_inputs : (((wIsland { inputs := [(2, { state := 4, kind := 1 })] }).inStep 2 false false).safeIn 2).state = 3 := by decide
/-- R399: a cause de-energises and disarms. -/
theorem test_halter : ((wIsland { outs := [(1, { on := true, armed := true, cond := true })] }).halterCause 10).safe.outs.map (fun x => (x.1, x.2.on, x.2.armed)) =
    [(1, false, false)] := by decide
set_option maxRecDepth 8000 in
theorem test_wit_slotOut : ∃ (s : State), s.outBlocked 0 = 0 ∧ (s.safeOut 0).delay = none ∧ (s.safeOut 0).cond = true ∧
    (outEn (s.outRec 0) && s.outCond (s.outRec 0)) = false ∧ (s.safeOut 0).on = true ∧ outCat1 (s.outRec 0) = true ∧ 0 < le16 (s.outRec 0) 2 :=
  ⟨{ wIsland { cfg := some (wBlob19 (wOut0 5) []), outs := [(0, { on := true, armed := true, cond := true })], inputs := [(0, { state := 2 })] } with
      mod := { State.reset.mod with state := 2, bridle := true } }, by decide⟩
theorem test_wit_slotOutPlain : ∃ (s : State), s.outBlocked 0 = 0 ∧ (s.safeOut 0).delay = none ∧
    ((s.safeOut 0).cond && (s.safeOut 0).on && outCat1 (s.outRec 0)) = false :=
  ⟨{ wIsland {} with mod := { State.reset.mod with state := 2, bridle := true } }, by decide⟩
theorem test_wit_notHalter : ∃ (s : State), s.halter = false := ⟨wIsland {}, by decide⟩
theorem test_wit_inHalter : ∃ (s : State), s.halter = true ∧ s.safe.fv24Low = false := ⟨wIsland { causes := 4 }, by decide⟩
def wSlotIn : SlotInput :=
  { terms := [], tests := [], srst := false, tp0Ok := true, tp1Ok := true, onOk := [], fed := [], agree := false, selfOk := true }
theorem test_wit_slot : ∃ (s : State) (i : SlotInput), Domain.safe ∈ s.power.on ∧ s.safe.ready = true ∧ s.safe.cfg ≠ none ∧ s.diag.inj = [] ∧
    i.agree = false ∧ s.safe.cross = 1 := ⟨wIsland { ready := true, cross := 1, cfg := some [] }, wSlotIn, by decide⟩
theorem test_cross : (wNext (exec (.safetySlot wSlotIn) (wIsland { ready := true }))).safe.cross = 1 := by decide
theorem test_wit_slotHalter : ∃ (s : State) (i : SlotInput), s.safe.cfg = none ∧ (s.safetySlot i).halter = true ∧
    (List.range 5).any (fun c => hardCause c && (s.safetySlot i).safe.causes.getLsbD c) = false := ⟨wIsland { ready := true, causes := 512 }, wSlotIn, by decide⟩
theorem test_wit_notReady : ∃ (s : State), s.safe.ready = false := ⟨wIsland {}, by decide⟩
theorem test_wit_delay : ∃ (s : State), (s.safeOut 0).delay = some 5 ∧ (s.safeOut 0).on = true ∧ s.diag.inj = [] := ⟨wIsland { outs := [(0, { on := true, delay := some 5 })] }, by decide⟩
theorem test_wit_fv24 : ∃ (s : State), s.safe.fv24Low = false ∧ Domain.safe ∈ s.power.on := ⟨wIsland {}, by decide⟩
theorem test_wit_fv24Low : ∃ (s : State), s.safe.fv24Low = true ∧ s.diag.inj = [] := ⟨wIsland { fv24Low := true }, by decide⟩
theorem test_wit_safeStatus : ∃ p e s t, Accepted cmdSafeStatus p e s t :=
  ⟨_, _, _, _, accepted_open cmdSafeStatus _ (wIsland {}) [] [] rfl rfl rfl (by decide)⟩
set_option maxRecDepth 16000 in
theorem test_wit_safeCfgLoad : ∃ p e s t, Accepted cmdSafeCfgLoad p e s t :=
  ⟨_, _, _, _, accepted_priv cmdSafeCfgLoad _ (wIsland {}) [] (wBlob19 (wOut0 5) [wConnRec 5 5]) rfl rfl (by decide) (by decide +kernel)⟩
set_option maxRecDepth 8000 in
theorem test_wit_safeCfgCommit : ∃ p e s t, Accepted cmdSafeCfgCommit p e s t ∧ t.halter = false :=
  ⟨_, _, _, _, accepted_priv cmdSafeCfgCommit _ (wIsland { staged := some (zeros 192) }) [] [] rfl rfl (by decide) (by decide), rfl⟩
set_option maxRecDepth 8000 in
theorem test_wit_safeCfgRead : ∃ p e s t, Accepted cmdSafeCfgRead p e s t :=
  ⟨_, _, _, _, accepted_open cmdSafeCfgRead _ (wIsland { staged := some (zeros 192) }) [1] [] rfl rfl rfl (by decide)⟩
theorem test_wit_safeHalter : ∃ p e s t, Accepted cmdSafeHalter p e s t :=
  ⟨_, _, _, _, accepted_priv cmdSafeHalter _ (wIsland {}) [] [] rfl rfl (by decide) (by decide)⟩
theorem test_wit_safeReset : ∃ p e s t, Accepted cmdSafeReset p e s t ∧ t.halter = true :=
  ⟨_, _, _, _, accepted_priv cmdSafeReset _ (wIsland { causes := 1024 }) [] [] rfl rfl (by decide) (by decide), rfl⟩
/-! ### Harness -/
/-- R407's example: period 10 ms, cycle 37 of grid second 0x6A1F_3C20. -/
theorem test_harnessSeq : (0x6A1F3C20 * 100 + 37) % 65536 = 31909 := by decide
def wFinds (s : State) (port : Nat) (b : Bytes) : Option Bytes :=
  s.safe.cfg.bind (fun g => (connList g).find? (fun r => cValid r && !cOut r && cId r == rdBe32 b 4 && (cPorts r).contains port))
set_option maxRecDepth 16000 in
theorem test_wit_pdu : ∃ (s : State) (b r : Bytes), wFinds s 0 b = some r ∧ s.diag.inj = [] ∧ cDual r = false ∧ macAt r 40 = 0 ∧ b.length = 20 ∧
    byteAt b 0 = 1 ∧ byteAt b 1 = 1 ∧ byteAt b 2 ≤ 3 ∧ byteAt b 3 = 0 ∧ zeroAt b 12 4 = true ∧ pduCrc r b = rdBe32 b 16 ∧ (s.conn 0).a.last = none :=
  ⟨wConnSt (wConnRec 1 1) {}, wPdu (wConnRec 1 1) 65535, wConnRec 1 1, by decide +kernel⟩
set_option maxRecDepth 16000 in
theorem test_wit_pduSeq : ∃ (s : State) (b r : Bytes) (l : Nat), wFinds s 0 b = some r ∧ (s.conn 0).a.last = some l ∧
    0 < (rdBe16 b 8 + 65536 - l) % 65536 ∧ (rdBe16 b 8 + 65536 - l) % 65536 < 256 ∧ (s.conn 0).state = 4 :=
  ⟨wConnSt (wConnRec 9 1) { state := 4, acks := 2, a := { last := some 65535, alive := true } }, wPdu (wConnRec 9 1) 0, wConnRec 9 1, 65535, by decide +kernel⟩
set_option maxRecDepth 16000 in
theorem test_wit_pduStale : ∃ (s : State) (b r : Bytes) (l : Nat), wFinds s 0 b = some r ∧ (s.conn 0).a.last = some l ∧ 256 ≤ (rdBe16 b 8 + 65536 - l) % 65536 :=
  ⟨wConnSt (wConnRec 1 1) { state := 2, a := { last := some 10, alive := true } }, wPdu (wConnRec 1 1) 266, wConnRec 1 1, 10, by decide +kernel⟩
set_option maxRecDepth 16000 in
theorem test_wit_pduMasq : ∃ (s : State) (b r : Bytes), wFinds s 0 b = some r ∧ macAt r 40 ≠ 0 ∧ (5 : Nat) ≠ macAt r 40 :=
  ⟨wConnSt ((wConnRec 1 1).take 40 ++ [0, 0, 0, 0, 0, 6] ++ zeros 18) {}, wPdu (wConnRec 1 1) 0,
    (wConnRec 1 1).take 40 ++ [0, 0, 0, 0, 0, 6] ++ zeros 18, by decide +kernel⟩
theorem test_wit_pduNone : ∃ (s : State) (g : Bytes), s.safe.cfg = some g ∧ (connList g).find? (fun r => cValid r) = none := ⟨wIsland { cfg := some [] }, [], by decide⟩
set_option maxRecDepth 16000 in
theorem test_wit_watchdog : ∃ (s : State) (r : Bytes), s.connRec 0 = some r ∧ cOut r = false ∧ cDual r = false ∧ (s.conn 0).a.alive = true ∧ (s.conn 0).state = 2 :=
  ⟨wConnSt (wConnRec 1 1) { state := 2, a := { last := some 10, alive := true } }, wConnRec 1 1, by decide +kernel⟩
set_option maxRecDepth 16000 in
theorem test_wit_dual : ∃ (s : State) (r : Bytes), s.connRec 0 = some r ∧ cOut r = false ∧ cDual r = true ∧ (s.conn 0).a.alive = true ∧ (s.conn 0).b.alive = true ∧
    (s.conn 0).state = 2 ∧ (s.conn 0).a.bits ≠ (s.conn 0).b.bits ∧ 8 ≤ (s.conn 0).differ :=
  ⟨wConnSt (wConnRec 5 5) { state := 2, a := { last := some 10, alive := true, data := 1 }, b := { last := some 10, alive := true }, differ := 8 }, wConnRec 5 5,
    by decide +kernel⟩
theorem test_wit_gated : ∃ (s : State), s.gated = true := ⟨{ wIsland {} with red.cfg := [1] ++ zeros 11, mod := { State.reset.mod with state := 1, bridle := false } }, by decide⟩
set_option maxRecDepth 16000 in
theorem test_wit_cycle : ∃ (s : State) (b r : Bytes) (x : Nat × Nat), s.safe.cfg = some b ∧ (connList b).filter (fun r => cValid r && cOut r) = [r] ∧
    s.connCycle r = some x :=
  ⟨{ wTime 1 with safe.cfg := some (wBlob19 (wOut0 1) [wConnOut]) }, _, _, _, rfl, rfl, rfl⟩
theorem test_wit_noCycle : ∃ (s : State) (b : Bytes), s.safe.cfg = some b ∧ (connList b).filter (fun r => cValid r && cOut r) = [] := ⟨wIsland { cfg := some [] }, [], by decide⟩
theorem test_wit_harnessStatus : ∃ p e s t, Accepted cmdSafeHarnessStatus p e s t ∧ byteAt e.req.params 2 = 1 :=
  ⟨_, _, _, _, accepted_open cmdSafeHarnessStatus _ (wIsland {}) [63, 1, 1] [] rfl rfl rfl (by decide), rfl⟩

/-! ## Chapter 20 -/

def wSess : State := { wBase 1 with sec.sessions := [(0, { since := 0, nonce := zeros 16, draw := 0 })] }
def wHmacKey : KeySlot :=
  { type := 2, usage := 4, cur := some { gen := 4, keyId := 0x2104, material := zeros 32, stamp := {} }, prev := none }
/-- R419: the uses a type permits. -/
theorem test_importOk : wSess.importOk 21 2 4 0x2105 = true ∧ wSess.importOk 21 1 16 0x2105 = false ∧ wSess.importOk 21 3 128 0x2105 = false ∧
    wSess.importOk 21 2 4 0 = false ∧ wSess.importOk 21 5 0 9 = false := by decide
/-- The example of R439: generation 5 follows 4, which becomes previous. -/
theorem test_putKey : (({ wSess with sec.slots := [(21, wHmacKey)] }.putKey 21 2 4 0x2105 (zeros 32)).1.sec.slots.get? 21).map
    (fun (k : KeySlot) => (k.cur.map KeyGen.gen, k.prev.map KeyGen.gen)) = some (some 5, some 4) := by decide
theorem test_keyRemaskWaits : ({ wState (wBase 1) (wReq 0x0E05 true [] []) false with ao.keyMask := none }).keyCommand = true := by decide
set_option maxRecDepth 8000 in
theorem test_wit_keyImport : ∃ p e s t i, Accepted cmdSecKeyImport p e s t ∧ t.session p = some i :=
  ⟨_, _, _, _, _, accepted_priv cmdSecKeyImport _ wSess ([21, 2, 4, 0] ++ leBytes 4 0x2105) (zeros 104) rfl rfl (by decide) (by decide), rfl⟩
/-- No operator key: the enrolment of the first one, in slot 0. -/
def wEnrolReq : Req := wReq 0x0E08 false ([0, 3, 0xA0, 0] ++ leBytes 4 7) (zeros 104)
def wEnrol : State := { wState wSess wEnrolReq false with sec := { (wState wSess wEnrolReq false).sec with slots := [] } }
set_option maxRecDepth 8000 in
theorem test_wit_operatorEnrol : ∃ p e s t i, Accepted cmdSecOperatorEnrol p e s t ∧ t.session p = some i := by
  refine ⟨.mb 0, wExec wEnrolReq, wEnrol, wEnrol, { since := 0, nonce := zeros 16, draw := 0 }, ⟨⟨rfl, rfl, rfl⟩, ?_⟩, by decide⟩
  have h : wPasses cmdSecOperatorEnrol ⟨0x0E08, false, 8, .m, .c⟩ (.mb 0) wEnrolReq wEnrol = true := by decide
  have hs : wEnrol.sealOnly wEnrolReq = false := rfl
  have hi : opInfo cmdSecOperatorEnrol.opcode = some ⟨0x0E08, false, 8, .m, .c⟩ := rfl
  simp only [wPasses, Bool.and_eq_true, beq_iff_eq, Bool.not_eq_true'] at h
  obtain ⟨⟨⟨⟨⟨⟨h1, h2⟩, h3⟩, h4⟩, h5⟩, h6⟩, h7⟩ := h
  unfold State.checks
  simp only [wExec, hi, hs, h1, h2, h3, h4, h5, h6, h7, Bool.not_false, Bool.and_false, Bool.not_true,
    Bool.false_and, Bool.or_false, Bool.false_eq_true, if_false, ne_eq, not_true]
theorem test_wit_keyRemove : ∃ p e s t k, Accepted cmdSecKeyRemove p e s t ∧ t.sec.slots.get? (byteAt e.req.params 0) = some k ∧ k.cur.isSome = true ∧
    byteAt e.req.params 1 = 1 :=
  ⟨_, _, _, _, _, accepted_priv cmdSecKeyRemove _ (wBase 1) [1, 1] [] rfl rfl (by decide) (by decide), rfl, rfl, rfl⟩
theorem test_wit_keyRemoveNone : ∃ p e s t, Accepted cmdSecKeyRemove p e s t ∧ t.sec.slots.get? (byteAt e.req.params 0) = none :=
  ⟨_, _, _, _, accepted_priv cmdSecKeyRemove _ (wBase 1) [9] [] rfl rfl (by decide) (by decide), rfl⟩
/-- A backup of no entries of this module (R427), in a state. -/
def wBackHead : Bytes := leBytes 4 0x314B4242 ++ [1, 0, 0, 0] ++ leBytes 8 Config.serial.toNat ++ zeros 48
def wBack (k : Bytes) : Bytes := wBackHead ++ padTo 32 (Config.hmacSha256 k wBackHead)
set_option maxRecDepth 8000 in
theorem wBack_ok (s : State) : s.blobOk (wBack s.kCfg) = true := by
  have hl : wBackHead.length = 64 := rfl
  have h1 : slice (wBack s.kCfg) 64 32 = padTo 32 (Config.hmacSha256 s.kCfg wBackHead) :=
    hl ▸ slice_append_right wBackHead _ 32 (padTo_length _ _)
  have h2 : (wBack s.kCfg).take 64 = wBackHead := List.take_left' hl
  have h3 : le16 (wBack s.kCfg) 6 = 0 := rfl
  have h4 : (wBack s.kCfg).length = 96 := by rw [wBack, List.length_append, padTo_length]; rfl
  have h5 : le32 (wBack s.kCfg) 0 = 0x314B4242 := by simp [le32, le16, byteAt, wBack, wBackHead, leBytes]
  have h6 : le16 (wBack s.kCfg) 4 = 1 := rfl
  have h7 : le64 (wBack s.kCfg) 8 = Config.serial.toNat := by
    have : Config.serial.toNat < 2 ^ 64 := Config.serial.isLt
    simp [le64, le32, le16, byteAt, wBack, wBackHead, leBytes]; omega
  simp only [State.blobOk, h1, h2, h3, h4, h5, h6, h7, Nat.mul_zero, Nat.add_zero, beq_self_eq_true, Bool.and_self, Bool.true_and]
  rfl
set_option maxRecDepth 8000 in
theorem test_wit_secRestore : ∃ p e s t, Accepted cmdSecRestore p e s t := by
  have hk : ∀ r b, (wState (wBase 1) r b).kCfg = (wBase 1).kCfg := fun _ _ => rfl
  refine ⟨_, _, _, _, accepted_priv cmdSecRestore _ (wBase 1) [] (wBack (wBase 1).kCfg) rfl rfl (by decide) ?_⟩
  have hp : cmdSecRestore.param (wState (wBase 1) (wReq cmdSecRestore.opcode true [] (wBack (wBase 1).kCfg)) false) (.mb 0)
      (wReq cmdSecRestore.opcode true [] (wBack (wBase 1).kCfg)) = true := by
    have hb := wBack_ok (wState (wBase 1) (wReq cmdSecRestore.opcode true [] (wBack (wBase 1).kCfg)) false)
    rw [hk] at hb
    have hu : ∀ (s : State) q r, cmdSecRestore.param s q r = (r.xp && restZero r 0 && s.blobOk r.region) := fun _ _ _ => rfl
    have hr : (wReq cmdSecRestore.opcode true [] (wBack (wBase 1).kCfg)).region = wBack (wBase 1).kCfg := rfl
    rw [hu, hr, hb]; rfl
  unfold wPasses
  rw [hp]
  rfl
theorem test_wit_secBackup : ∃ p e s t, Accepted cmdSecBackup p e s t :=
  ⟨_, _, _, _, accepted_priv cmdSecBackup _ (wBase 1) [] [] rfl rfl (by decide) (by decide)⟩
theorem test_wit_secCfg : ∃ p e s t, Accepted cmdSecCfg p e s t :=
  ⟨_, _, _, _, accepted_priv cmdSecCfg _ (wBase 1) [1] [] rfl rfl (by decide) (by decide)⟩
theorem test_wit_secDebug : ∃ p e s t, Accepted cmdSecDebugDisable p e s t :=
  ⟨_, _, _, _, accepted_priv cmdSecDebugDisable _ (wBase 1) [] [] rfl rfl (by decide) (by decide)⟩
theorem test_wit_rollback : ∃ p e s t, Accepted cmdSecRollbackCommit p e s t :=
  ⟨_, _, _, _, accepted_priv cmdSecRollbackCommit _ (wBase 1) [] [] rfl rfl (by decide) (by decide)⟩
/-- An image signed with key 2. -/
def wKey2 : State := { wBase 1 with flash := { State.reset.flash with imageA := { keyIdx := 2 } } }
theorem test_wit_keyrev : ∃ p e s t, Accepted cmdSecKeyrev p e s t :=
  ⟨_, _, _, _, accepted_priv cmdSecKeyrev _ wKey2 [] [] rfl rfl (by decide) (by decide)⟩
theorem test_wit_zeroise : ∃ p e s t, Accepted cmdSecZeroise p e s t :=
  ⟨_, _, _, _, accepted_priv cmdSecZeroise _ (wBase 1) [] [] rfl rfl (by decide) (by decide)⟩
theorem test_wit_tamperClear : ∃ p e s t, Accepted cmdSecTamperClear p e s t :=
  ⟨_, _, _, _, accepted_open cmdSecTamperClear _ (wBase 4) [] [] rfl rfl rfl (by decide)⟩
theorem test_wit_nonce : ∃ p e s t, Accepted cmdAuthNonce p e s t ∧ t.sec.entropyFail = false ∧ t.sec.zeroised = false :=
  ⟨_, _, _, _, accepted_open cmdAuthNonce _ (wBase 1) [] [] rfl rfl rfl (by decide), rfl, rfl⟩
theorem test_wit_nonceFault : ∃ p e s t, Accepted cmdAuthNonce p e s t ∧ t.sec.entropyFail = true :=
  ⟨_, _, _, _, accepted_open cmdAuthNonce _ { wBase 1 with sec.entropyFail := true } [] [] rfl rfl rfl (by decide), rfl⟩
theorem test_wit_session : ∃ p e s t, Accepted cmdSecImportSession p e s t ∧ t.sec.entropyFail = false ∧ t.sec.zeroised = false :=
  ⟨_, _, _, _, accepted_open cmdSecImportSession _ (wBase 1) [] [] rfl rfl rfl (by decide), rfl, rfl⟩
theorem test_wit_sessionFault : ∃ p e s t, Accepted cmdSecImportSession p e s t ∧ t.sec.entropyFail = true :=
  ⟨_, _, _, _, accepted_open cmdSecImportSession _ { wBase 1 with sec.entropyFail := true } [] [] rfl rfl rfl (by decide), rfl⟩
theorem test_wit_sessionEnd : ∃ (s : State) (i : ImportSession), s.sec.sessions.get? (chanKey (.mb 0)) = some i := ⟨wSess, _, rfl⟩
theorem test_wit_attest : ∃ p e s t, Accepted cmdSecAttest p e s t ∧ t.sec.zeroised = false :=
  ⟨_, _, _, _, accepted_open cmdSecAttest _ (wBase 1) [] (List.replicate 32 7) rfl rfl rfl (by decide), rfl⟩
theorem test_wit_secStatus : ∃ p e s t, Accepted cmdSecStatus p e s t ∧ t.sec.lockout = none :=
  ⟨_, _, _, _, accepted_open cmdSecStatus _ (wBase 1) [] [] rfl rfl rfl (by decide), rfl⟩
theorem test_wit_keyInfo : ∃ p e s t, Accepted cmdSecKeyInfo p e s t ∧ infoCount e.req = 1 :=
  ⟨_, _, _, _, accepted_open cmdSecKeyInfo _ (wBase 1) [255, 1] [] rfl rfl rfl (by decide), rfl⟩
theorem test_wit_remask : ∃ (s : State), s.sec.derived = true ∧ s.sec.zeroised = false ∧ s.sec.entropyFail = false ∧ s.keyCommand = false :=
  ⟨{ wBase 1 with sec.derived := true }, by decide⟩
theorem test_wit_health : ∃ (s : State), 2 ≤ s.sec.healthFails ∧ s.sec.entropyFail = false := ⟨{ wBase 1 with sec.healthFails := 2 }, by decide⟩

/-! ## Chapter 21 -/

def wMem (m : MemBlk) (w : Nat) : State := { wBase 1 with mem := m, host := { State.reset.host with window := w } }
/-- R440: bit 3 wrong is corrected. -/
theorem test_corrected : corrected 8 (2 ^ 3) = (0, false) ∧ (corrected 5 poisonErr).2 = true := by decide
set_option maxRecDepth 4000 in
theorem test_bar2 : (wNext (exec (.bar2Read 16 8) (wNext (exec (.bar2Write 16 [1, 2, 3, 4, 5, 6, 7, 8] false) (wMem {} 8))))).host.bar2 =
    some ([1, 2, 3, 4, 5, 6, 7, 8], false) := by decide
/-- R443: a byte waits in the merge buffer. -/
theorem test_merge : ((wNext (exec (.bar2Write 17 [9] false) (wMem {} 8))).mem.data, (wNext (exec (.bar2Write 17 [9] false) (wMem {} 8))).mem.merge.map (·.line)) =
    ([], [8589934592]) := by decide
/-- R455: ranges. -/
theorem test_rangeOk : rangeOk 0x80000000 64 = true ∧ rangeOk 0x7FFFFFC0 64 = false ∧ rangeOk 0xFFFFFFFC0 64 = true ∧ rangeOk 0xFFFFFFFC0 128 = false := by decide
theorem test_wit_flipArmed : ∃ (s : State) (a : Nat), s.mem.flipArmed = true ∧ s.mem.flipAddr = a := ⟨wMem { flipArmed := true, flipAddr := 0x80000000 } 8, 0x80000000, by decide⟩
theorem test_wit_bar2 : ∃ (s : State) (a : Nat), s.hostOn = true ∧ a = 1073741824 * s.host.window + 8 ∧ firmwareEnd ≤ a ∧ s.mem.entry (a / 64 * 64) = none ∧
    s.mem.flipArmed = false ∧ s.mem.merge.length < 16 := ⟨wMem {} 2, 2147483656, by decide⟩
theorem test_wit_bar2Fw : ∃ (s : State), s.hostOn = true ∧ s.host.window < 2 := ⟨wMem {} 1, by decide⟩
theorem test_wit_evict : ∃ (s : State) (l : MergeLine), s.mem.merge = [l] := ⟨wMem { merge := [{ line := 0x80000000, bytes := [(3, 1)] }] } 8, _, rfl⟩
theorem test_wit_classes : ∃ (a b c : Nat), classify a = .corrected 71 ∧ classify b = .poison ∧ classify c = .clean := ⟨2 ^ 71, poisonErr, 0, by decide⟩
/-- Three errors whose check columns give syndrome 7, or two whose data is free: the reset contents of cells are opaque, but two check bits are not. -/
theorem test_wit_ue : classify (2 ^ 64 + 2 ^ 65) = .uncorrectable := by decide
theorem test_wit_arm : ∃ (s : State), s.hostOn = true ∧ s.mod.state = 1 ∧ firmwareEnd ≤ s.mem.flipAddr ∧ s.mem.flipArmed = false := ⟨wMem { flipAddr := 0x80000000 } 8, by decide⟩
theorem test_wit_armRefused : ∃ (s : State), s.hostOn = true ∧ s.mem.flipAddr < firmwareEnd := ⟨wMem {} 8, by decide⟩
theorem test_wit_memFill : ∃ p e s t, Accepted cmdMemFill p e s t :=
  ⟨_, _, _, _, accepted_priv cmdMemFill _ (wBase 1) (leBytes 8 0x80000000 ++ leBytes 8 64) [] rfl rfl (by decide) (by decide)⟩
theorem test_wit_fillEnd : ∃ (s : State) (j : MemJob), s.mem.fill = some j ∧ j.hi = j.lo + 64 ∧ j.lo % 64 = 0 ∧ s.mem.merge = [] ∧ s.mem.flipArmed = false :=
  ⟨wMem { fill := some ⟨0x80000000, 0x80000040, 0, 7⟩ } 8, ⟨0x80000000, 0x80000040, 0, 7⟩, by decide⟩
theorem test_wit_memScrub : ∃ p e s t, Accepted cmdMemScrub p e s t ∧ byteAt e.req.params 16 = 0 :=
  ⟨_, _, _, _, accepted_open cmdMemScrub _ (wBase 1) (leBytes 8 0x80000000 ++ leBytes 8 64) [] rfl rfl rfl (by decide), rfl⟩
theorem test_wit_memScrubStop : ∃ p e s t j, Accepted cmdMemScrub p e s t ∧ byteAt e.req.params 16 = 1 ∧ t.mem.scrub = some j :=
  ⟨_, _, _, _, _, accepted_open cmdMemScrub _ (wMem { scrub := some ⟨0x80000000, 0x80000040, 0, 0⟩ } 8) (zeros 16 ++ [1]) [] rfl rfl rfl (by decide), rfl, rfl⟩
theorem test_wit_scrubEnd : ∃ (s : State) (j : MemJob), s.mem.scrub = some j := ⟨wMem { scrub := some ⟨0x80000000, 0x80000040, 0, 0⟩ } 8, _, rfl⟩
def wWord (e : Nat) : State := wMem { data := (List.range 8).map (fun i => (0x80000000 + i, 1)), err := [(0x80000000, e)] } 8
theorem test_wit_scrubWord : ∃ (s t : State) (a : Nat), s.mem.flipArmed = false ∧ classify (s.mem.stored a).2 = .corrected 5 ∧ t.mem.flipArmed = false ∧
    classify (t.mem.stored a).2 = .uncorrectable := ⟨wWord (2 ^ 5), wWord (2 ^ 64 + 2 ^ 65), 0x80000000, by decide⟩
theorem test_wit_noJob : ∃ (s : State), s.mem.fill = none ∧ s.mem.scrub = none ∧ s.mem.merge = [] := ⟨wMem {} 8, by decide⟩
theorem test_wit_memStatus : ∃ p e s t, Accepted cmdMemStatus p e s t :=
  ⟨_, _, _, _, accepted_open cmdMemStatus _ (wBase 1) [] [] rfl rfl rfl (by decide)⟩
theorem test_wit_eccLogRead : ∃ p e s t, Accepted cmdMemEccLogRead p e s t ∧ (byteAt e.req.params 2).testBit 1 = true :=
  ⟨_, _, _, _, accepted_open cmdMemEccLogRead _ (wBase 1) [0, 1, 3] [] rfl rfl rfl (by decide), by decide⟩
theorem test_wit_sram : ∃ (s : State), .mgmt ∈ s.power.on := ⟨wMem {} 8, by decide⟩
theorem test_wit_fwScrub : ∃ (s : State) (a : Nat), .mem ∈ s.power.on ∧ s.romServed = false ∧ a < firmwareEnd := ⟨wMem {} 8, 0x7FFFFFF8, by decide⟩

/-! ## Chapter 22 -/

/-- Mode 1 pair of identity 7, HOME and REVERT, in OPERATE. -/
def wPair (posB : Bool) (r : RedBlk) : State :=
  { wBase 2 with red := { r with cfg := [1, BitVec.ofNat 8 (b2n posB), 3, 1, 7, 0, 60, 0, 0xD0, 7, 15, 0] } }
def wHolder (posB : Bool) (r : RedBlk) : State := { wPair posB r with mod := { (wPair posB r).mod with bridle := true, role := 0 } }
/-- The peer's heartbeat: another serial, flags, STANDBY. -/
def wHb (serial flags : Nat) : Bytes :=
  [1, 3] ++ be16 7 ++ be32 (serial / 4294967296) ++ be32 (serial % 4294967296) ++ leBytes 1 flags ++ [1, 2, 0] ++ be32 5 ++ zeros 24
set_option maxRecDepth 8000 in
/-- R459: an unheld pair unit with free lines and both paths lost claims, then holds. -/
theorem test_claim : ((wNext (exec .bridleClaim (wPair false {}))).red.out1, (wNext (exec .bridleClaimComplete (wNext (exec .bridleClaim (wPair false {}))))).mod.bridle) =
    (true, true) := by decide +kernel
/-- R469: ISOLATE releases and isolates; a yield without a ready peer does not. -/
theorem test_release : ((wHolder false {}).letGo 5).mod.role = 2 ∧ ((wHolder false {}).letGo 8).mod.role = 1 ∧
    (wNext (exec (.bridleRelease 8) (wHolder false {}))).mod.bridle = true := by decide +kernel
theorem test_wit_holds : ∃ (s : State), s.mod.bridle = true ∧ s.pairMode = true ∧ s.red.bothSince = some 0 ∧ s.red.peer = none ∧ s.posB = true :=
  ⟨wHolder true { bothSince := some 0 }, by decide⟩
theorem test_wit_single : ∃ (s : State), s.pairMode = false ∧ s.acting = true := ⟨wBase 2, by decide⟩
theorem test_wit_notActing : ∃ (s : State), s.pairMode = true ∧ s.acting = false := ⟨{ wPair false {} with mod := { (wPair false {}).mod with state := 1 } }, by decide⟩
theorem test_wit_yields : ∃ (s t : State), s.acting = true ∧ s.red.isolated = false ∧ s.red.genFail = false ∧ s.yields = [] ∧ t.acting = true ∧ t.yields ≠ [] ∧
    t.pairMode = true := ⟨wPair false {}, wPair false { fwStall := true }, by decide +kernel⟩
theorem test_wit_genFail : ∃ (s : State), s.pairMode = true ∧ s.red.genFail = true := ⟨wPair false { genFail := true }, by decide⟩
theorem test_wit_claim : ∃ (s : State), (s.redSettle).mayClaim = true ∧ s.redSettle.red.freeSince = some 0 ∧ s.redSettle.red.takeSince = some 0 ∧
    (s.redSettle.clockTo 40000).takeHb = true := ⟨wPair false {}, by decide +kernel⟩
theorem test_wit_override : ∃ (s : State), s.redSettle.mayClaim = true ∧ s.redSettle.red.freeSince = none ∧ s.redSettle.override = true ∧ s.redSettle.takeHb = true ∧
    s.redSettle.home = true := ⟨wPair false { in1 := true, freeSince := none, brdDisc := true }, by decide +kernel⟩
theorem test_wit_noOverride : ∃ (s : State), s.redSettle.mayClaim = true ∧ s.redSettle.red.freeSince = none ∧ s.redSettle.override = false :=
  ⟨wPair false { in1 := true, freeSince := none }, by decide +kernel⟩
theorem test_wit_noClaim : ∃ (s : State), s.redSettle.mayClaim = false ∧ s.red.claim = none := ⟨wPair false { isolated := true }, by decide +kernel⟩
theorem test_wit_complete : ∃ (s t : State), s.red.claim = some (0, false) ∧ s.red.armTake = true ∧ s.acting = true ∧ s.linesReleased = true ∧ t.red.claim = some (0, false) ∧ t.linesReleased = false :=
  ⟨wPair false { claim := some (0, false), armTake := true }, wPair false { claim := some (0, false), in1 := true }, by decide⟩
theorem test_wit_contentionPeer : ∃ (s : State) (b : Bytes), s.red.bothSince = some 0 ∧ s.mod.bridle = true ∧ s.red.peer = some (b, 0) ∧ hbFlag b 0 = s.posB ∧
    ∃ (t : State), t.red.peer = some (b, 0) ∧ hbFlag b 0 ≠ t.posB ∧ t.red.bothSince = some 0 ∧ t.mod.bridle = true :=
  ⟨wHolder true { bothSince := some 0, peer := some (wHb 3 1, 0) }, wHb 3 1, by decide, by decide, by decide, by decide,
    wHolder false { bothSince := some 0, peer := some (wHb 3 1, 0) }, by decide⟩
theorem test_wit_lines : ∃ (s : State), Domain.safe ∈ s.power.on ∧ s.red.in1 = true ∧ s.red.in2 = false ∧ s.red.brdDisc = false ∧ s.red.hbwQuiet = false ∧ s.red.hbw = false ∧
    s.red.again = true ∧ s.recent = none := ⟨wPair false { in1 := true, hbwQuiet := false, again := true }, by decide⟩
theorem test_wit_lineClaim : ∃ (s u : State), s.red.in1 = false ∧ s.red.claim = some (0, false) ∧ u.red.in1 = false ∧ u.red.claim = some (0, true) :=
  ⟨wPair false { claim := some (0, false) }, wPair false { claim := some (0, true) }, by decide⟩
theorem test_wit_safeOff : ∃ (s : State), Domain.safe ∉ s.power.on ∧ Domain.neta ∉ s.power.on ∧ s.power.cable = false := ⟨{ wPair false {} with power := { on := [] } }, by decide⟩
theorem test_wit_neta : ∃ (s : State), Domain.neta ∈ s.power.on ∧ s.pairMode = true ∧ s.red.h1.alive = false := ⟨wPair false {}, by decide⟩
theorem test_wit_ports : ∃ (s t : State), (∀ i, i < 4 → (s.port i).up = false) ∧ (t.port 1).up = true :=
  ⟨wPair false {}, (wPair false {}).setPort 1 { up := true }, by decide, by decide⟩
theorem test_wit_handover : ∃ (s t : State), s.handoverDue = true ∧ s.pairMode = true ∧ t.handoverDue = false :=
  ⟨wHolder false { handover := some (0, 5, true) }, wHolder false { handover := some (1, 5, true) }, by decide⟩
theorem test_wit_released : ∃ (s : State), s.red.released = some 0 ∧ s.pairMode = true ∧ s.mod.bridle = false := ⟨wPair false { released := some 0 }, by decide⟩
theorem test_wit_takeback : ∃ (s : State), s.red.readySince = some 0 ∧ s.pairMode = true ∧ s.revert = true ∧ s.home = true ∧ s.mod.role = 1 ∧ s.red.ready = true ∧
    s.red.takeback = false ∧ s.active 6 = false :=
  ⟨{ wPair false { ready := true, readySince := some 0 } with mod := { (wPair false {}).mod with role := 1 } }, by decide⟩
theorem test_wit_redCfg : ∃ p e s t, Accepted cmdRedCfg p e s t :=
  ⟨_, _, _, _, accepted_priv cmdRedCfg _ (wBase 1) [1, 0, 3, 1, 7, 0, 60, 0, 0xD0, 7, 15, 0] [] rfl rfl (by decide) (by decide)⟩
theorem test_wit_redCfgRead : ∃ p e s t, Accepted cmdRedCfgRead p e s t :=
  ⟨_, _, _, _, accepted_open cmdRedCfgRead _ (wBase 1) [] [] rfl rfl rfl (by decide)⟩
theorem test_wit_redSwitch : ∃ p e s t, Accepted cmdRedSwitch p e s t ∧ t.mod.bridle = true :=
  ⟨_, _, _, _, accepted_priv cmdRedSwitch _ (wHolder false { peer := some (wHb 3 17, 0) }) [] [] rfl rfl (by decide) (by decide), rfl⟩
def wStandby (r : RedBlk) : State := { wPair false r with mod := { (wPair false r).mod with role := 1 } }
theorem test_wit_redSwitchBack : ∃ p e s t, Accepted cmdRedSwitch p e s t ∧ t.mod.bridle = false :=
  ⟨_, _, _, _, accepted_priv cmdRedSwitch _ (wStandby { ready := true }) [] [] rfl rfl (by decide) (by decide), rfl⟩
theorem test_wit_redIsolate : ∃ p e s t, Accepted cmdRedIsolate p e s t :=
  ⟨_, _, _, _, accepted_priv cmdRedIsolate _ (wStandby {}) [1] [] rfl rfl (by decide) (by decide)⟩
theorem test_wit_redDeepTest : ∃ p e s t, Accepted cmdRedDeepTest p e s t ∧ byteAt e.req.params 0 = 1 ∧ t.pairMode = true :=
  ⟨_, _, _, _, accepted_priv cmdRedDeepTest _ (wStandby {}) [1] [] rfl rfl (by decide) (by decide), by decide, by decide⟩
theorem test_wit_redDeepStop : ∃ p e s t, Accepted cmdRedDeepTest p e s t ∧ byteAt e.req.params 0 = 0 :=
  ⟨_, _, _, _, accepted_priv cmdRedDeepTest _ (wStandby {}) [0] [] rfl rfl (by decide) (by decide), by decide⟩
theorem test_wit_redStatus : ∃ p e s t, Accepted cmdRedStatus p e s t ∧ byteAt e.req.params 0 = 1 :=
  ⟨_, _, _, _, accepted_open cmdRedStatus _ (wBase 2) [1] [] rfl rfl rfl (by decide), by decide⟩
theorem test_wit_redStatusKeep : ∃ p e s t, Accepted cmdRedStatus p e s t ∧ byteAt e.req.params 0 = 0 :=
  ⟨_, _, _, _, accepted_open cmdRedStatus _ (wBase 2) [0] [] rfl rfl rfl (by decide), by decide⟩
theorem test_wit_redHealth : ∃ p e s t, Accepted cmdRedHealth p e s t :=
  ⟨_, _, _, _, accepted_open cmdRedHealth _ (wBase 2) [] [] rfl rfl rfl (by decide)⟩
/-- R457, R464: a first heartbeat of another unit is valid, one of the unit itself is not. The serial number is not known, so of two
serials one at least is another's. -/
theorem test_wit_hbValid : ∃ n, (wPair false {}).hbValid {} (wHb n 1) = true := by
  by_cases h : Config.serial.toNat = 3
  · exact ⟨4, by simp [State.hbValid, h]; decide⟩
  · exact ⟨3, by
      have : (4294967296 * rdBe32 (wHb 3 1) 4 + rdBe32 (wHb 3 1) 8 != Config.serial.toNat) = true := by
        have e : 4294967296 * rdBe32 (wHb 3 1) 4 + rdBe32 (wHb 3 1) 8 = 3 := by decide
        rw [e]; simpa using fun h' => h h'.symm
      simp only [State.hbValid, this]; decide⟩
theorem test_wit_farrierReady : ∃ (s : State), s.farrierOnward.red.cleanSince = none ∧ s.pairMode = true := ⟨wPair false {}, by decide +kernel⟩
theorem test_wit_mirror : ∃ (s : State) (i : MirrorImage), s.pairMode = true ∧ s.mod.bridle = false ∧ s.mod.role = 1 ∧ i.crcOk = true ∧ s.red.image = none ∧ s.red.applied = none ∧
    s.red.missRun = 2 ∧ s.red.okRun < 2 := ⟨wStandby { missRun := 2 }, ⟨1, 1, 0, 0, 0, [], 0, 0, 0, [], [], [], [], [], [], 0, true⟩, by decide⟩
theorem test_wit_groupVal : ∃ (s : State) (g : PhasorGroup) (v : GroupVal) (k : Nat), s.pairMode = true ∧ s.mod.bridle = false ∧ g.vals = [v] ∧
    v.chan / 256 = g.group ∧ s.indexOf g.sec g.n = some k ∧ (s.chanMap v.chan k).isSome = true :=
  ⟨{ wPair false {} with aln := wGrid.aln, cfg.ph := { State.reset.cfg.ph with map := [(107, 0, 0)] } },
    ⟨0, 4, 0, [{ chan := 107, re := 0, im := 0, aflags := 0, pflags := 0 }]⟩, _, 0, by decide, by decide, rfl, by decide, by decide, by decide⟩
theorem test_wit_groupOne : ∃ (s : State) (g : PhasorGroup), s.pairMode = true ∧ s.mod.bridle = false ∧ g.vals = [] := ⟨wPair false {}, ⟨0, 0, 0, []⟩, by decide⟩

/-! ## Chapter 23 -/

def wInj (l : List Injection) : State := { wBase 1 with diag := { (wBase 1).diag with inj := l } }
def wI (code rem : Nat) (u : Option Nat) : Injection :=
  { code := code, obj := 0, sub := 0, force := false, remaining := rem, value := 0, armed := {}, lastApplied := {}, until_ := u, path := .mb 0 }
/-- R484: an injection of two occurrences is armed after the first, and gone after the second. -/
theorem test_inject : ((wInj [wI 1 2 none]).inject 1 0 0).1 = true ∧ (((wInj [wI 1 2 none]).inject 1 0 0).2.inject 1 0 0).2.diag.inj = [] := by decide
/-- R485: the flip mask has its own registers; detector 0x22 has four objects. -/
theorem test_rows : injRow 0x11 = none ∧ (injRow 0x22).map (·.objects) = some 4 := by decide
/-- R492: data at 4 KiB lands in the second page. -/
theorem test_chunk : (writeChunk [] 8192 [5]).map (fun x => (x.1, x.2.headD 0)) = [(2, 5)] := by rfl
theorem test_wit_inject : ∃ p e s t, Accepted cmdDiagInject p e s t ∧ injCancel e.req = false :=
  ⟨_, _, _, _, accepted_priv cmdDiagInject _ (wBase 1) [1, 0, 3, 0, 0, 0, 2, 0] [] rfl rfl (by decide) (by decide), by decide⟩
theorem test_wit_injectMs : ∃ p e s t, Accepted cmdDiagInject p e s t ∧ injCancel e.req = false ∧ (injRow (injCode e.req)).map (·.span) = some 2 :=
  ⟨_, _, _, _, accepted_priv cmdDiagInject _ (wBase 1) [3, 0, 3, 0, 0, 0, 2, 0] [] rfl rfl (by decide) (by decide), by decide, by decide⟩
theorem test_wit_cancel : ∃ p e s t, Accepted cmdDiagInject p e s t ∧ injCancel e.req = true ∧ injCode e.req = 255 :=
  ⟨_, _, _, _, accepted_priv cmdDiagInject _ (wInj [wI 1 2 none]) [255, 2] [] rfl rfl (by decide) (by decide), by decide, by decide⟩
theorem test_wit_cancelOne : ∃ p e s t i, Accepted cmdDiagInject p e s t ∧ injCancel e.req = true ∧ injCode e.req ≠ 255 ∧ i ∈ t.diag.inj ∧ i.code ≠ injCode e.req :=
  ⟨_, _, _, _, wI 1 2 none, accepted_priv cmdDiagInject _ (wInj [wI 1 2 none]) [2, 2] [] rfl rfl (by decide) (by decide), by decide, by decide, by decide, by decide⟩
theorem test_wit_injection : ∃ (s t u : State) (i j k : Injection), s.injection 1 0 0 = some i ∧ i.lasting = false ∧ 2 ≤ i.remaining ∧
    t.injection 1 0 0 = some j ∧ j.lasting = false ∧ j.remaining ≤ 1 ∧ u.injection 1 0 0 = some k ∧ k.lasting = true ∧ s.injection 2 0 0 = none :=
  ⟨wInj [wI 1 2 none], wInj [wI 1 1 none], wInj [wI 1 1 (some 5)], wI 1 2 none, wI 1 1 none, wI 1 1 (some 5), by decide⟩
theorem test_wit_applied : ∃ (s : State), s.diag.inj.map (·.code) = [0x08, 0x03, 0x04, 0x12, 0x18, 0x1A, 0x01] ∧ s.diag.inj[7]? = none ∧
    (∃ (i : Injection), s.diag.inj[0]? = some i ∧ i.until_ = some 5) ∧ ∃ (i : Injection), s.diag.inj[6]? = some i ∧ i.until_ = none :=
  ⟨wInj [wI 8 1 (some 5), wI 3 1 none, wI 4 1 none, wI 18 1 none, wI 24 1 none, wI 26 1 none, wI 1 1 none], by decide, by decide, ⟨wI 8 1 (some 5), by decide⟩, wI 1 1 none, by decide⟩
theorem test_wit_injectStatus : ∃ p e s t, Accepted cmdDiagInjectStatus p e s t :=
  ⟨_, _, _, _, accepted_open cmdDiagInjectStatus _ (wInj [wI 1 2 none]) [] [] rfl rfl rfl (by decide)⟩
theorem test_wit_bist : ∃ p e s t, Accepted cmdDiagBist p e s t ∧ byteAt e.req.params 0 = 4 :=
  ⟨_, _, _, _, accepted_priv cmdDiagBist _ (wBase 1) ([4] ++ zeros 7 ++ leBytes 8 0x80000000 ++ leBytes 8 64) [] rfl rfl (by decide) (by decide), by decide⟩
theorem test_wit_bistSweep : ∃ (s : State) (p : Path) (e : Exec), s.waiting 0x1112 = some (p, e) ∧ s.waiting 0x0F07 = none ∧ s.now < e.prog.getD 0 0 :=
  ⟨{ wBase 1 with host := { (wBase 1).host with chans := [(0, { exec := some { wExec (wReq 0x1112 false [1] []) with started := true, prog := [9] } })] } }, .mb 0,
    { wExec (wReq 0x1112 false [1] []) with started := true, prog := [9] }, by decide +kernel⟩
theorem test_wit_activities : ∃ p e s t i l, Accepted cmdDiagActivities p e s t ∧ t.diag.inj = i :: l :=
  ⟨_, _, _, _, wI 1 2 none, [], accepted_open cmdDiagActivities _ (wInj [wI 1 2 none]) [] [] rfl rfl rfl (by decide), by decide⟩
theorem test_wit_installBegin : ∃ p e s t, Accepted cmdFwInstall p e s t ∧ byteAt e.req.params 0 = 0 :=
  ⟨_, _, _, _, accepted_priv cmdFwInstall _ (wBase 1) [0, 0, 0, 0, 0, 0, 1] [] rfl rfl (by decide) (by decide), by decide⟩
def wInstall : State := { wBase 1 with diag := { (wBase 1).diag with install := some (1, 65536) } }
theorem test_wit_installData : ∃ p e s t, Accepted cmdFwInstall p e s t ∧ byteAt e.req.params 0 = 1 ∧ t.diag.install = some (1, 65536) :=
  ⟨_, _, _, _, accepted_priv cmdFwInstall _ wInstall [1] [7] rfl rfl (by decide) (by decide), by decide, by decide⟩
theorem test_wit_installEnd : ∃ p e s t, Accepted cmdFwInstall p e s t ∧ byteAt e.req.params 0 = 2 ∧ t.diag.install = some (1, 65536) :=
  ⟨_, _, _, _, accepted_priv cmdFwInstall _ wInstall [2] [] rfl rfl (by decide) (by decide), by decide, by decide⟩
theorem test_wit_installAbort : ∃ p e s t, Accepted cmdFwInstall p e s t ∧ byteAt e.req.params 0 = 3 ∧ t.diag.install = some (1, 65536) :=
  ⟨_, _, _, _, accepted_priv cmdFwInstall _ wInstall [3] [] rfl rfl (by decide) (by decide), by decide, by decide⟩
theorem test_wit_activate : ∃ p e s t, Accepted cmdFwSelect p e s t ∧ byteAt e.req.params 0 = 0 :=
  ⟨_, _, _, _, accepted_priv cmdFwSelect _ ((wBase 1).setImage 1 { valid := true }) [0] [] rfl rfl (by decide) (by decide), by decide⟩
theorem test_wit_confirm : ∃ p e s t, Accepted cmdFwSelect p e s t ∧ byteAt e.req.params 0 = 1 :=
  ⟨_, _, _, _, accepted_priv cmdFwSelect _ (wBase 1) [1] [] rfl rfl (by decide) (by decide), by decide⟩
theorem test_wit_fwInfo : ∃ p e s t, Accepted cmdFwInfo p e s t :=
  ⟨_, _, _, _, accepted_open cmdFwInfo _ (wBase 1) [] [] rfl rfl rfl (by decide)⟩

/-! ## The block as a whole -/

def BridleKept (s : State) : Prop := (s.mod.bridle = true ∨ s.red.armTake = true) → s.mod.state = 2 ∨ s.mod.state = 3
theorem test_wit_bridleInState : ∃ (s t : State), BridleKept s ∧ s.mod.bridle = true ∧ step s = .next t := by
  refine ⟨{ wHolder false {} with pending := [.thermalRelease] }, _, fun _ => .inl rfl, by decide, rfl⟩
theorem test_wit_stepEmpty : ∃ (s : State), s.pending = [] ∧ Domain.mgmt ∉ s.power.on := ⟨{ wBase 1 with power := { on := [] } }, by decide⟩
theorem test_wit_stepFront : ∃ (c : Instr) (rest : List Instr) (s t : State), exec c { s with pending := rest } = .next t := ⟨.thermalRelease, [], wBase 1, _, rfl⟩

end Machine
end Sys2Proof
end

/-! PROOFS. Writes to the registers of BAR0: what REGISTER_WRITE hands to each row (R3, R5, R82, R83, R107). -/

namespace Sys2Proof
namespace Machine

variable {s : State}

/-! ## The frame of REGISTER_WRITE -/

theorem hostOn_of_mem (h : .host ∈ s.power.on) : s.hostOn = true := by
  simpa [State.hostOn] using h

/-- The write of a register that belongs to a row gives the outcome of that row. -/
theorem next_viaRow {o : Out} (h : ∃ t, o = .next t) : .next (s.viaRow o) = o := by
  obtain ⟨t, rfl⟩ := h
  rfl

theorem exec_registerWrite (fn off : Nat) (v : Word) (b : Bool) (s : State) :
    exec (.registerWrite fn off v b) s = execRegisterWrite fn off v b s := rfl

theorem exec_registerWrite_partial (fn off : Nat) (v : Word) : exec (.registerWrite fn off v false) s = .next s := by
  simp [exec_registerWrite, execRegisterWrite]

theorem exec_registerWrite_unaligned (fn off : Nat) (v : Word) (b : Bool) (h : off % 4 ≠ 0) :
    exec (.registerWrite fn off v b) s = .next s := by
  simp [exec_registerWrite, execRegisterWrite, h]

theorem exec_registerWrite_pf (hs : s.hostOn = true) (off : Nat) (v : Word) (h : off % 4 = 0) :
    exec (.registerWrite 0 off v true) s = .next (s.putPf off v) := by
  simp [exec_registerWrite, execRegisterWrite, hs, h]

/-- A PF register that keeps its value keeps it under every access, whole or not. -/
theorem exec_registerWrite_pf_kept {off : Nat} {v : Word} (h : s.putPf off v = s) (b : Bool) :
    exec (.registerWrite 0 off v b) s = .next s := by
  simp [exec_registerWrite, execRegisterWrite, h]

theorem exec_registerWrite_vf (hs : s.hostOn = true) {n : Nat} (h1 : 1 ≤ n) (h2 : n ≤ 127) (off : Nat) (v : Word)
    (h : off % 4 = 0) : exec (.registerWrite n off v true) s = .next (s.putVf n off v) := by
  have hn : n ≠ 0 := by omega
  simp [exec_registerWrite, execRegisterWrite, hs, h, h2, hn]

/-! ## Which block of the PF's BAR0 an offset selects (R83) -/

/-- The read-only and the reserved offsets: identity, INT_PEND, and from the port counters to the end of BAR0. -/
theorem putPf_readOnly {off : Nat} (v : Word) (h : off ≤ 0x18 ∨ off = 0x110 ∨ off = 0x114 ∨ (0x4000 ≤ off ∧ off < 0x10000)) :
    s.putPf off v = s := by
  unfold State.putPf
  repeat rw [if_neg (by omega)]

theorem putPf_scratch (v : Word) : s.putPf 0x28 v = { s with host.scratch := v } := rfl

theorem putPf_intCause (v : Word) : s.putPf 0x100 v = s.viaRow (execIntCauseWrite v 0 s) := rfl

theorem putPf_intMask (v : Word) : s.putPf 0x104 v = s.viaRow (execIntMaskWrite v s) := rfl

theorem putPf_mb {n off : Nat} (v : Word) (hn : n < 4) (ho : off < 64) :
    s.putPf (0x400 + 64 * n + off) v = s.putMb (.mb n) off v := by
  have hd : (0x400 + 64 * n + off - 0x400) / 64 = n := by omega
  have hm : (0x400 + 64 * n + off) % 64 = off := by omega
  unfold State.putPf
  iterate 6 rw [if_neg (by omega)]
  rw [if_pos (by omega), hd, hm]

theorem putPf_dma {n off : Nat} (v : Word) (hn : n < 32) (ho : off < 64) :
    s.putPf (0x1000 + 64 * n + off) v = s.putDma n off v := by
  have hd : (0x1000 + 64 * n + off - 0x1000) / 64 = n := by omega
  have hm : (0x1000 + 64 * n + off) % 64 = off := by omega
  unfold State.putPf
  iterate 11 rw [if_neg (by omega)]
  rw [if_pos (by omega), hd, hm]

/-! ## Registers inside a block: mailbox channels (R92, R93), DMA channels (R146) and VFs (R107, R108) -/

theorem putBase_enabled {c : Chan} (h : c.enabled = true) (p : Path) (off : Nat) (v : Word) : c.putBase p off v = c := by
  simp [Chan.putBase, h]

theorem putMb_base {off : Nat} (p : Path) (v : Word) (h : off ≤ 0x18) :
    s.putMb p off v = s.setChan p ((s.chan p).putBase p off v) := by
  unfold State.putMb
  split
  case h_5 => rw [if_pos h]
  all_goals omega

theorem putMb_sqTail (p : Path) (v : Word) : s.putMb p 0x24 v = s.viaRow (execMbSqTailWrite p v s) := rfl

theorem putDma_tail (n : Nat) (v : Word) : s.putDma n 0x14 v = s.viaRow (execDmaTailWrite n v s) := rfl

theorem putVf_intMask (n : Nat) (v : Word) : s.putVf n 0xA04 v = s.viaRow (execVfIntMaskWrite n v s) := rfl

theorem putVf_rxqTail {n q : Nat} (v : Word) (hq : q < 64) (hok : s.queueOk n q = true) :
    s.putVf n (32 * q) v = s.viaRow (execVfRxqTailWrite n q v s) := by
  have hd : 32 * q / 32 = q := by omega
  have hm : 32 * q % 32 = 0 := by omega
  rw [State.putVf, if_pos (by omega), hd, hm, State.putQueue, if_pos hok]

/-- Settles O17: REGISTER_WRITE is a put of the function's own block, and each block's put is the row of the register. -/
theorem registerWrites : Obligations.RegisterWrites := by
  unfold Obligations.RegisterWrites
  intro s hmem
  have hs := hostOn_of_mem hmem
  refine ⟨exec_registerWrite_partial, exec_registerWrite_unaligned,
    fun off v b h => exec_registerWrite_pf_kept (putPf_readOnly v h) b, fun v => ?scratch, fun v => ?cause, fun v => ?mask,
    fun n v hn => ?mbTail, fun n v hn => ?dmaTail, fun n q v h1 h2 hq hqp => ?vfTail, fun n v h1 h2 => ?vfMask,
    fun n v off hn h4 ho hen => ?base⟩
  case scratch => rw [exec_registerWrite_pf hs _ v rfl, putPf_scratch]
  case cause => rw [exec_registerWrite_pf hs _ v rfl, putPf_intCause]; exact next_viaRow ⟨_, rfl⟩
  case mask => rw [exec_registerWrite_pf hs _ v rfl, putPf_intMask]; exact next_viaRow ⟨_, rfl⟩
  case mbTail =>
    have ho : 0x424 + 64 * n = 0x400 + 64 * n + 0x24 := by omega
    rw [exec_registerWrite_pf hs _ v (by omega), ho, putPf_mb v hn (by omega), putMb_sqTail]
    exact next_viaRow ⟨_, rfl⟩
  case dmaTail =>
    have ho : 0x1014 + 64 * n = 0x1000 + 64 * n + 0x14 := by omega
    rw [exec_registerWrite_pf hs _ v (by omega), ho, putPf_dma v hn (by omega), putDma_tail]
    exact next_viaRow ⟨_, rfl⟩
  case vfTail =>
    have hok : s.queueOk n q = true := by simp [State.queueOk, hs, h2, hqp]
    rw [exec_registerWrite_vf hs h1 h2 _ v (by omega), putVf_rxqTail v hq hok]
    exact next_viaRow ⟨_, rfl⟩
  case vfMask => rw [exec_registerWrite_vf hs h1 h2 _ v rfl, putVf_intMask]; exact next_viaRow ⟨_, rfl⟩
  case base =>
    rw [exec_registerWrite_pf hs _ v (by omega), putPf_mb v hn (by omega), putMb_base _ v ho, putBase_enabled hen]

end Machine
end Sys2Proof

/-! PROOFS. The Bridle's invariant (O59). `BridleInState` reads three fields of a state, its view: the Bridle, the
module's state and ARM_TAKE. Nearly every operation and row of the block keeps the view: one lemma each, in the
order of the model, so that each rests on those of the operations that it calls. The rest, the arbiter and the
changes of module state, is treated after that. -/

namespace Sys2Proof
namespace Machine

/-! ## What the statement reads of a state -/

/-- What `BridleInState` reads of a state: the Bridle, the module's state and ARM_TAKE (R62, R84, R468). -/
def State.bridleView (s : State) : Bool × Nat × Bool := (s.mod.bridle, s.mod.state, s.red.armTake)

/-- The view of the state that an outcome goes on to. -/
def outView : Out → Option (Bool × Nat × Bool)
  | .next t => some t.bridleView
  | .fault _ => none
  | .refused _ => none

/-- The view of the state in which a command's own effect ends. -/
def CmdResult.bridleView : CmdResult → Bool × Nat × Bool
  | .done s _ _ _ => s.bridleView
  | .wait s => s.bridleView

section

variable (s : State)

@[simp] theorem bridleView_mk (a b mod d e f g h i j k l m n o p q r s t u v w x y red aa bb cc dd ee ff) :
    State.bridleView ⟨a, b, mod, d, e, f, g, h, i, j, k, l, m, n, o, p, q, r, s, t, u, v, w, x, y, red, aa, bb, cc, dd, ee, ff⟩ =
      (mod.bridle, mod.state, red.armTake) := by
  unfold State.bridleView; rfl
@[simp] theorem bridleView_eta : (s.mod.bridle, s.mod.state, s.red.armTake) = s.bridleView := by
  unfold State.bridleView; rfl
@[simp] theorem bridleView_ite (c : Prop) [Decidable c] (a b : State) :
    (if c then a else b).bridleView = if c then a.bridleView else b.bridleView := apply_ite ..
@[simp] theorem bridleView_snd_ite {α : Type} (c : Prop) [Decidable c] (a b : α × State) :
    (if c then a else b).2.bridleView = if c then a.2.bridleView else b.2.bridleView := by split <;> rfl

@[simp] theorem outView_next (t : State) : outView (.next t) = some t.bridleView := rfl
@[simp] theorem outView_ite (c : Prop) [Decidable c] (a b : Out) :
    outView (if c then a else b) = if c then outView a else outView b := apply_ite ..

@[simp] theorem bridleView_done (st : Nat) (resp : Bytes) (xp : Option Bytes) :
    (CmdResult.done s st resp xp).bridleView = s.bridleView := rfl
@[simp] theorem bridleView_wait : (CmdResult.wait s).bridleView = s.bridleView := rfl
@[simp] theorem bridleView_result_ite (c : Prop) [Decidable c] (a b : CmdResult) :
    (if c then a else b).bridleView = if c then a.bridleView else b.bridleView := apply_ite ..

/-- A state whose module block and redundancy block are another's has the other's view. -/
theorem bridleView_of {s t : State} (hm : t.mod = s.mod) (hr : t.red = s.red) : t.bridleView = s.bridleView := by
  unfold State.bridleView; rw [hm, hr]

/-- A fold of operations that keep the view keeps it. -/
theorem foldl_bridleView {α : Type} {f : State → α → State} (hf : ∀ s a, (f s a).bridleView = s.bridleView) (l : List α)
    (s : State) : (l.foldl f s).bridleView = s.bridleView := by
  induction l generalizing s with
  | nil => rfl
  | cons a l ih => rw [List.foldl_cons, ih, hf]

/-- A fold over a pair whose operation keeps the view of its state keeps it. -/
theorem foldl_snd_bridleView {α β : Type} {f : β × State → α → β × State}
    (hf : ∀ a x, (f a x).2.bridleView = a.2.bridleView) (l : List α) (a : β × State) :
    (l.foldl f a).2.bridleView = a.2.bridleView := by
  induction l generalizing a with
  | nil => rfl
  | cons x l ih => rw [List.foldl_cons, ih, hf]

/-- The state of a pair that keeps the view. -/
theorem snd_bridleView {α : Type} {p : α × State} {x : α} {t : State} (h : p = (x, t)) (hp : p.2.bridleView = s.bridleView) :
    t.bridleView = s.bridleView := by
  rw [h] at hp; exact hp

theorem Sends.bridleView {s t : State} (h : Sends s t) : t.bridleView = s.bridleView := by
  obtain ⟨_, _, _, _, _, _, _, _, rfl⟩ := h
  rfl

/-! ## Operations and rows that keep the view -/

/-! ### Shared operations -/

@[simp] theorem clockTo_bridleView (due) : (s.clockTo due).bridleView = s.bridleView := bridleView_of rfl rfl
@[simp] theorem draw_bridleView : s.draw.2.bridleView = s.bridleView := bridleView_of rfl rfl
@[simp] theorem random_bridleView (n) : (s.random n).2.bridleView = s.bridleView := bridleView_of rfl rfl
@[simp] theorem raise_bridleView (bit) : (s.raise bit).bridleView = s.bridleView := by simp [State.raise]
@[simp] theorem raiseDma_bridleView (n) : (s.raiseDma n).bridleView = s.bridleView := by simp [State.raiseDma]
@[simp] theorem setFn_bridleView (n f) : (s.setFn n f).bridleView = s.bridleView := bridleView_of rfl rfl
@[simp] theorem raiseVf_bridleView (n bit) : (s.raiseVf n bit).bridleView = s.bridleView := by simp [State.raiseVf]
@[simp] theorem timeEvt_bridleView (bit) : (s.timeEvt bit).bridleView = s.bridleView := by simp [State.timeEvt]
@[simp] theorem rtcEvt_bridleView (bit) : (s.rtcEvt bit).bridleView = s.bridleView := by simp [State.rtcEvt]
@[simp] theorem outView_onPath {o : Out} (h : outView o = some s.bridleView) :
    outView (s.onPath o) = some s.bridleView := by
  unfold State.onPath
  split
  · exact h
  · rfl
@[simp] theorem firnTake_bridleView (code stamp ext data) :
    (s.firnTake code stamp ext data).bridleView = s.bridleView := by simp [State.firnTake]
@[simp] theorem firnAt_bridleView (code stamp ext data) : (s.firnAt code stamp ext data).bridleView = s.bridleView := by
  simp [State.firnAt]
@[simp] theorem firnEv_bridleView (code data) : (s.firnEv code data).bridleView = s.bridleView := by simp [State.firnEv]
@[simp] theorem alarm_bridleView (bit on detail) : (s.alarm bit on detail).bridleView = s.bridleView := by
  simp [State.alarm]
@[simp] theorem counted_bridleView (new opcode pos obj) : (s.counted new opcode pos obj).bridleView = s.bridleView := by
  simp [State.counted]
@[simp] theorem portCount_bridleView (port off) : (s.portCount port off).bridleView = s.bridleView := by
  simp [State.portCount]
@[simp] theorem portAdd_bridleView (port off n) : (s.portAdd port off n).bridleView = s.bridleView := by
  simp [State.portAdd]
@[simp] theorem inputFault_bridleView : s.inputFault.bridleView = s.bridleView := by simp [State.inputFault]
@[simp] theorem setChan_bridleView (p c) : (s.setChan p c).bridleView = s.bridleView := bridleView_of rfl rfl
@[simp] theorem setExec_bridleView (p e) : (s.setExec p e).bridleView = s.bridleView := by
  unfold State.setExec
  dsimp only
  repeat' split
  all_goals simp
@[simp] theorem raiseCq_bridleView (l) : (s.raiseCq l).bridleView = s.bridleView := by
  unfold State.raiseCq
  split <;> simp
@[simp] theorem logWrite_bridleView (n addr len) : (s.logWrite n addr len).bridleView = s.bridleView := by
  unfold State.logWrite
  split <;> simp
@[simp] theorem post_bridleView (p e status resp xp) : (s.post p e status resp xp).bridleView = s.bridleView := by
  unfold State.post
  dsimp only
  repeat' split
  all_goals simp
@[simp] theorem promote_bridleView (n l) : (State.promote n l s).bridleView = s.bridleView := by
  obtain ⟨q, f, h, x, y, e⟩ := promote_frame n l s
  rw [e]; rfl
@[simp] theorem complete_bridleView (p status resp xp) : (s.complete p status resp xp).bridleView = s.bridleView := by
  unfold State.complete
  dsimp only
  repeat' split
  all_goals simp
@[simp] theorem setNonce_bridleView (p v) : (s.setNonce p v).bridleView = s.bridleView := by
  unfold State.setNonce
  dsimp only
  repeat' split
  all_goals simp
@[simp] theorem authFailure_bridleView (p) : (s.authFailure p).bridleView = s.bridleView := by simp [State.authFailure]
@[simp] theorem useNonce_bridleView (p r) : (s.useNonce p r).bridleView = s.bridleView := by
  unfold State.useNonce
  split <;> simp
@[simp] theorem authorise_bridleView (p r) : (s.authorise p r).2.bridleView = s.bridleView := by simp [State.authorise]
@[simp] theorem secSettle_bridleView : s.secSettle.bridleView = s.bridleView := by simp [State.secSettle]
@[simp] theorem checks_bridleView (c p r) : (s.checks c p r).2.bridleView = s.bridleView := by
  unfold State.checks
  split <;> simp
/-- A command whose own effect keeps the view keeps it: its checks and its completion do. -/
theorem run_bridleView {c : Cmd} {p : Path} (hc : ∀ e t, (c.body p e t).bridleView = t.bridleView) :
    (s.run c p).bridleView = s.bridleView := by
  have hk := fun r => checks_bridleView s c p r
  unfold State.run
  dsimp only
  split
  · rfl
  · rename_i e _
    split
    · rfl
    · split
      · rw [complete_bridleView, hk]
      · have hb := hc e (s.checks c p e.req).2
        split
        all_goals
          rename_i h
          rw [h] at hb
        · rw [complete_bridleView, ← hk e.req, ← hb, bridleView_done]
        · split
          · rw [setExec_bridleView, ← hk e.req, ← hb, bridleView_wait]
          · rw [← hk e.req, ← hb, bridleView_wait]
theorem outView_run {c : Cmd} {p : Path} (hc : ∀ e t, (c.body p e t).bridleView = t.bridleView) :
    outView (.next (s.run c p)) = some s.bridleView := by
  rw [outView_next, run_bridleView s hc]
@[simp] theorem setProg_bridleView (p w) : (s.setProg p w).bridleView = s.bridleView := by
  unfold State.setProg
  split <;> simp
@[simp] theorem completeWaiting_bridleView (opcode status resp) :
    (s.completeWaiting opcode status resp).bridleView = s.bridleView := by
  unfold State.completeWaiting
  split <;> simp
@[simp] theorem begin_bridleView (code p lo hi) : (s.begin code p lo hi).bridleView = s.bridleView :=
  bridleView_of rfl rfl
@[simp] theorem finish_bridleView (code) : (s.finish code).bridleView = s.bridleView := bridleView_of rfl rfl
@[simp] theorem inject_bridleView (code obj sub) : (s.inject code obj sub).2.bridleView = s.bridleView := by
  unfold State.inject
  split <;> simp

/-! ### Port records, the shared buffer and transmission -/

@[simp] theorem setPort_bridleView (i p) : (s.setPort i p).bridleView = s.bridleView := bridleView_of rfl rfl
@[simp] theorem countKind_bridleView (port off dst) : (s.countKind port off dst).bridleView = s.bridleView := by
  simp [State.countKind]
@[simp] theorem rxGood_bridleView (port len dst tagged) : (s.rxGood port len dst tagged).bridleView = s.bridleView := by
  simp [State.rxGood]
@[simp] theorem txCount_bridleView (port len dst cls tagged) :
    (s.txCount port len dst cls tagged).bridleView = s.bridleView := by simp [State.txCount]
@[simp] theorem release_bridleView (fid) : (s.release fid).bridleView = s.bridleView := by
  unfold State.release
  split <;> simp
@[simp] theorem skipCopy_bridleView (c) : (s.skipCopy c).bridleView = s.bridleView := bridleView_of rfl rfl
@[simp] theorem passCopy_bridleView (c) : (s.passCopy c).bridleView = s.bridleView := bridleView_of rfl rfl
@[simp] theorem rxDropFn_bridleView (n) : (s.rxDropFn n).bridleView = s.bridleView := by simp [State.rxDropFn]
@[simp] theorem pushOut_bridleView (d c n own k) : (State.pushOut d c n own k s).2.bridleView = s.bridleView :=
  (pushOut_sends d c n own k s).bridleView
@[simp] theorem admission_bridleView (d c n own) : (s.admission d c n own).2.bridleView = s.bridleView := by
  unfold State.admission
  split <;> simp
@[simp] theorem hold_bridleView (fid cells part) : (s.hold fid cells part).bridleView = s.bridleView :=
  bridleView_of rfl rfl
@[simp] theorem stage_bridleView (n f fid cls src info admitCells rx) :
    (s.stage n f fid cls src info admitCells rx).2.bridleView = s.bridleView := by
  have ha := fun q => admission_bridleView s (.fn n) cls admitCells q
  unfold State.stage
  split
  · simp
  · dsimp only
    split
    all_goals
      rename_i e
      have h := ha (s.ownCells fid)
      rw [e] at h
      simpa using h

/-! ### Ports and their commands -/

@[simp] theorem setStaged_bridleView (t) : (s.setStaged t).bridleView = s.bridleView := bridleView_of rfl rfl
@[simp] theorem linkRecord_bridleView (i up cause) : (s.linkRecord i up cause).bridleView = s.bridleView := by
  simp [State.linkRecord]
@[simp] theorem execPortLinkUp_bridleView (i) : outView (execPortLinkUp i s) = some s.bridleView := by
  simp [execPortLinkUp]
@[simp] theorem linkDown_bridleView (i cause) : (s.linkDown i cause).bridleView = s.bridleView := by
  simp [State.linkDown]
@[simp] theorem execPortLinkDown_bridleView (i cause) : outView (execPortLinkDown i cause s) = some s.bridleView := by
  simp [execPortLinkDown]
@[simp] theorem execLaneRelockAttempt_bridleView (i locks) :
    outView (execLaneRelockAttempt i locks s) = some s.bridleView := by simp [execLaneRelockAttempt]
@[simp] theorem sfpRecord_bridleView (i present cause) : (s.sfpRecord i present cause).bridleView = s.bridleView := by
  simp [State.sfpRecord]
@[simp] theorem execSfpModAbsDeassert_bridleView (i id) : outView (execSfpModAbsDeassert i id s) = some s.bridleView :=
  by simp [execSfpModAbsDeassert]
@[simp] theorem execSfpModAbsAssert_bridleView (i) : outView (execSfpModAbsAssert i s) = some s.bridleView := by
  simp [execSfpModAbsAssert]
@[simp] theorem sfpTxFault_bridleView (i) : (s.sfpTxFault i).bridleView = s.bridleView := by simp [State.sfpTxFault]
@[simp] theorem execSfpTxFault_bridleView (i) : outView (execSfpTxFault i s) = some s.bridleView := by
  simp [execSfpTxFault]
@[simp] theorem execSfpTxFaultCheck_bridleView (i persists) :
    outView (execSfpTxFaultCheck i persists s) = some s.bridleView := by simp [execSfpTxFaultCheck]
@[simp] theorem execSfpDiagPoll_bridleView (i diag) : outView (execSfpDiagPoll i diag s) = some s.bridleView := by
  simp [execSfpDiagPoll]
@[simp] theorem execCageOvercurrent_bridleView (i) : outView (execCageOvercurrent i s) = some s.bridleView := by
  simp [execCageOvercurrent]
@[simp] theorem execPeVerifySend_bridleView (i) : outView (execPeVerifySend i s) = some s.bridleView := by
  simp [execPeVerifySend]
@[simp] theorem execPeVerifyResponse_bridleView (i) : outView (execPeVerifyResponse i s) = some s.bridleView := by
  simp [execPeVerifyResponse]
@[simp] theorem execPauseFrameReceive_bridleView (i quanta) :
    outView (execPauseFrameReceive i quanta s) = some s.bridleView := by simp [execPauseFrameReceive]
@[simp] theorem execP7PacketReceive_bridleView (kind target len) :
    outView (execP7PacketReceive kind target len s) = some s.bridleView := by simp [execP7PacketReceive]
@[simp] theorem execPortStage_bridleView (p) : outView (execPortStage p s) = some s.bridleView := 
  outView_run s fun _ _ => by simp [cmdPortStage]
@[simp] theorem execPortRead_bridleView (p) : outView (execPortRead p s) = some s.bridleView := 
  outView_run s fun _ _ => by simp [cmdPortRead]
@[simp] theorem execPortFilterStage_bridleView (p) : outView (execPortFilterStage p s) = some s.bridleView := 
  outView_run s fun _ _ => by simp [cmdPortFilterStage]
@[simp] theorem execPortFilterRead_bridleView (p) : outView (execPortFilterRead p s) = some s.bridleView := 
  outView_run s fun _ _ => by simp [cmdPortFilterRead]
@[simp] theorem execPortStatus_bridleView (p) : outView (execPortStatus p s) = some s.bridleView := 
  outView_run s fun _ _ => by simp [cmdPortStatus]
@[simp] theorem execPortStats_bridleView (p) : outView (execPortStats p s) = some s.bridleView := 
  outView_run s fun _ _ => by simp [cmdPortStats]
@[simp] theorem execPortSfpRead_bridleView (p) : outView (execPortSfpRead p s) = some s.bridleView :=
  outView_run s fun e t => by
  dsimp only [cmdPortSfpRead]
  split <;> simp
@[simp] theorem execPortIpCfg_bridleView (p) : outView (execPortIpCfg p s) = some s.bridleView := 
  outView_run s fun _ _ => by simp [cmdPortIpCfg]

/-! ### The host interface -/

@[simp] theorem sqTail_bridleView (p v) : (s.sqTail p v).bridleView = s.bridleView := by simp [State.sqTail]
@[simp] theorem execMbSqTailWrite_bridleView (p v) : outView (execMbSqTailWrite p v s) = some s.bridleView := by
  simp [execMbSqTailWrite]
@[simp] theorem execMbCqHeadWrite_bridleView (p v) : outView (execMbCqHeadWrite p v s) = some s.bridleView := by
  simp [execMbCqHeadWrite]
@[simp] theorem execMbChannelEnable_bridleView (p) : outView (execMbChannelEnable p s) = some s.bridleView := by
  simp [execMbChannelEnable]
@[simp] theorem execMbChannelDisable_bridleView (p) : outView (execMbChannelDisable p s) = some s.bridleView := by
  simp [execMbChannelDisable]
@[simp] theorem execMbChannelIdle_bridleView (p) : outView (execMbChannelIdle p s) = some s.bridleView := by
  simp [execMbChannelIdle]
@[simp] theorem fetchFailed_bridleView (p) : (s.fetchFailed p).bridleView = s.bridleView := by simp [State.fetchFailed]
@[simp] theorem accept_bridleView (p r) : (s.accept p r).bridleView = s.bridleView := by simp [State.accept]
@[simp] theorem fetchInjected_bridleView (p) : (s.fetchInjected p).2.bridleView = s.bridleView := by
  unfold State.fetchInjected
  split <;> simp
@[simp] theorem execMailboxFetch_bridleView (p f) : outView (execMailboxFetch p f s) = some s.bridleView := by
  unfold execMailboxFetch
  dsimp only
  repeat' split
  all_goals simp
@[simp] theorem execAuthLockoutEnd_bridleView : outView (execAuthLockoutEnd s) = some s.bridleView := by
  unfold execAuthLockoutEnd
  split <;> simp -implicitDefEqProofs
@[simp] theorem execNonceExpiry_bridleView (p) : outView (execNonceExpiry p s) = some s.bridleView := by
  unfold execNonceExpiry
  split <;> simp -implicitDefEqProofs
@[simp] theorem execMbBar2BaseWrite_bridleView (v) : outView (execMbBar2BaseWrite v s) = some s.bridleView := by
  simp [execMbBar2BaseWrite]
@[simp] theorem execIntCauseWrite_bridleView (v setting) :
    outView (execIntCauseWrite v setting s) = some s.bridleView := by simp [execIntCauseWrite]
@[simp] theorem execIntMaskWrite_bridleView (v) : outView (execIntMaskWrite v s) = some s.bridleView := by
  simp [execIntMaskWrite]
@[simp] theorem execIntDmaCauseWrite_bridleView (v setting) :
    outView (execIntDmaCauseWrite v setting s) = some s.bridleView := by simp [execIntDmaCauseWrite]
@[simp] theorem execIntDmaMaskWrite_bridleView (v) : outView (execIntDmaMaskWrite v s) = some s.bridleView := by
  simp [execIntDmaMaskWrite]
@[simp] theorem execMsixVectorUnmask_bridleView (fn vec) :
    outView (execMsixVectorUnmask fn vec s) = some s.bridleView := by simp [execMsixVectorUnmask]
@[simp] theorem vfSettle_bridleView (n send) : (s.vfSettle n send).bridleView = s.bridleView := bridleView_of rfl rfl
@[simp] theorem execVfIntCauseWrite_bridleView (n v setting) :
    outView (execVfIntCauseWrite n v setting s) = some s.bridleView := by simp [execVfIntCauseWrite]
@[simp] theorem execVfIntMaskWrite_bridleView (n v) : outView (execVfIntMaskWrite n v s) = some s.bridleView := by
  simp [execVfIntMaskWrite]
@[simp] theorem execHostLinkCfg_bridleView (p) : outView (execHostLinkCfg p s) = some s.bridleView := 
  outView_run s fun _ _ => by simp [cmdHostLinkCfg]
@[simp] theorem execHostLinkStatus_bridleView (p) : outView (execHostLinkStatus p s) = some s.bridleView := 
  outView_run s fun _ _ => by simp [cmdHostLinkStatus]
@[simp] theorem execMgmtTlsCfg_bridleView (p) : outView (execMgmtTlsCfg p s) = some s.bridleView := 
  outView_run s fun _ _ => by simp [cmdMgmtTlsCfg]
@[simp] theorem p7Sweep_bridleView : s.p7Sweep.bridleView = s.bridleView := by
  unfold State.p7Sweep
  split <;> simp
@[simp] theorem execP7Connect_bridleView (certOk) : outView (execP7Connect certOk s) = some s.bridleView := by
  unfold execP7Connect
  dsimp only
  split <;> simp
@[simp] theorem execP7CommandEntry_bridleView (n r) : outView (execP7CommandEntry n r s) = some s.bridleView := by
  unfold execP7CommandEntry
  dsimp only
  split <;> simp
@[simp] theorem execP7IdleTimeout_bridleView (n) : outView (execP7IdleTimeout n s) = some s.bridleView := by
  unfold execP7IdleTimeout
  split <;> simp -implicitDefEqProofs

/-! ### Virtual functions -/

@[simp] theorem setQueue_bridleView (n q x) : (s.setQueue n q x).bridleView = s.bridleView := bridleView_of rfl rfl
@[simp] theorem queueMsg_bridleView (n vec was) : (s.queueMsg n vec was).bridleView = s.bridleView := by
  simp [State.queueMsg]
@[simp] theorem execVfRxqTailWrite_bridleView (n q v) : outView (execVfRxqTailWrite n q v s) = some s.bridleView := by
  simp [execVfRxqTailWrite]
@[simp] theorem execVfTxqTailWrite_bridleView (n q v) : outView (execVfTxqTailWrite n q v s) = some s.bridleView := by
  simp [execVfTxqTailWrite]
@[simp] theorem queueStop_bridleView (n q rx) : (s.queueStop n q rx).bridleView = s.bridleView := by
  simp [State.queueStop]
@[simp] theorem execVfFrameDelivery_bridleView (n q descs) :
    outView (execVfFrameDelivery n q descs s) = some s.bridleView := by
  have hback : ∀ (l : List Nat) (a : Nat → Nat) (t : State),
      (l.foldl (fun s i => s.logWrite n (a i) 32) t).bridleView = t.bridleView :=
    fun l a t => foldl_bridleView (fun s i => logWrite_bridleView s n (a i) 32) l t
  unfold execVfFrameDelivery
  refine outView_onPath s ?_
  dsimp only
  repeat' split
  all_goals simp (disch := (intros; beta_reduce; split <;> simp)) [hback, foldl_bridleView]
@[simp] theorem execSchedulerRound_bridleView : outView (execSchedulerRound s) = some s.bridleView := by
  simp -implicitDefEqProofs [execSchedulerRound, foldl_bridleView]
@[simp] theorem dropStaged_bridleView (n) : (s.dropStaged n).bridleView = s.bridleView :=
  foldl_bridleView (fun s a => by simp) _ _
@[simp] theorem vfReset_bridleView (n) : (s.vfReset n).bridleView = s.bridleView := by simp [State.vfReset]
@[simp] theorem execVfFlr_bridleView (n) : outView (execVfFlr n s) = some s.bridleView := by simp [execVfFlr]
@[simp] theorem execVfInfo_bridleView (p) : outView (execVfInfo p s) = some s.bridleView := 
  outView_run s fun _ _ => by simp [cmdVfInfo]
@[simp] theorem execVfQCfg_bridleView (p) : outView (execVfQCfg p s) = some s.bridleView := 
  outView_run s fun _ _ => by simp [cmdVfQCfg]
@[simp] theorem execVfQCtrl_bridleView (p) : outView (execVfQCtrl p s) = some s.bridleView := 
  outView_run s fun _ _ => by simp [cmdVfQCtrl]
@[simp] theorem execVfStats_bridleView (p) : outView (execVfStats p s) = some s.bridleView := 
  outView_run s fun _ _ => by simp [cmdVfStats]
@[simp] theorem execVfCfg_bridleView (p) : outView (execVfCfg p s) = some s.bridleView := 
  outView_run s fun _ _ => by simp [cmdVfCfg]
@[simp] theorem execVfShareSet_bridleView (p) : outView (execVfShareSet p s) = some s.bridleView := 
  outView_run s fun _ _ => by simp [cmdVfShareSet]
@[simp] theorem execVfFreeze_bridleView (p) : outView (execVfFreeze p s) = some s.bridleView := 
  outView_run s fun _ _ => by simp [cmdVfFreeze]
@[simp] theorem execVfUnfreeze_bridleView (p) : outView (execVfUnfreeze p s) = some s.bridleView := 
  outView_run s fun _ _ => by simp [cmdVfUnfreeze]
@[simp] theorem execVfDirtyStart_bridleView (p) : outView (execVfDirtyStart p s) = some s.bridleView := 
  outView_run s fun _ _ => by simp [cmdVfDirtyStart]
@[simp] theorem execVfDirtySync_bridleView (p) : outView (execVfDirtySync p s) = some s.bridleView :=
  outView_run s fun e t => by
  dsimp only [cmdVfDirtySync]
  split <;> simp
@[simp] theorem execVfDirtyStop_bridleView (p) : outView (execVfDirtyStop p s) = some s.bridleView := 
  outView_run s fun _ _ => by simp [cmdVfDirtyStop]
@[simp] theorem execVfStatus_bridleView (p) : outView (execVfStatus p s) = some s.bridleView := 
  outView_run s fun _ _ => by simp [cmdVfStatus]

/-! ### The grid, the tracker and the resampler -/

@[simp] theorem setAln_bridleView (k x) : (s.setAln k x).bridleView = s.bridleView := bridleView_of rfl rfl
@[simp] theorem alnCount_bridleView (k i n) : (s.alnCount k i n).bridleView = s.bridleView := by
  simp -implicitDefEqProofs [State.alnCount]
@[simp] theorem historyReset_bridleView (k at_) : (s.historyReset k at_).bridleView = s.bridleView := by
  simp [State.historyReset]
@[simp] theorem deliveryResets_bridleView (k a) : (s.deliveryResets k a).bridleView = s.bridleView := by
  simp [State.deliveryResets]
@[simp] theorem place_bridleView (k a) : (s.place k a).2.bridleView = s.bridleView := by
  simp -implicitDefEqProofs [State.place]
@[simp] theorem store_bridleView (k a p t) : (s.store k a p t).bridleView = s.bridleView := by simp [State.store]
@[simp] theorem toAlign_bridleView (k a) : (s.toAlign k a).bridleView = s.bridleView := by
  have hp := place_bridleView (s.deliveryResets k a) k a
  unfold State.toAlign
  dsimp only
  split
  all_goals
    rename_i e
    rw [e] at hp
    simpa using hp
@[simp] theorem alnBind_bridleView (k) : (s.alnBind k).bridleView = s.bridleView := by simp [State.alnBind]

/-! ### The switch -/

@[simp] theorem learn_bridleView (port mac vid) : (s.learn port mac vid).bridleView = s.bridleView := by
  unfold State.learn
  dsimp only
  repeat' split
  all_goals simp
@[simp] theorem execFdbAgeSweep_bridleView : outView (execFdbAgeSweep s) = some s.bridleView := by
  simp -implicitDefEqProofs [execFdbAgeSweep]
@[simp] theorem loseCopy_bridleView (c) : (s.loseCopy c).bridleView = s.bridleView := by
  unfold State.loseCopy
  dsimp only
  repeat' split
  all_goals simp
@[simp] theorem tripTx_bridleView (num port) : (s.tripTx num port).bridleView = s.bridleView := by
  unfold State.tripTx
  split <;> simp
@[simp] theorem class7Start_bridleView (port len) : (s.class7Start port len).bridleView = s.bridleView := by
  simp -implicitDefEqProofs [State.class7Start]
@[simp] theorem preempt_bridleView (port cls) : (s.preempt port cls).bridleView = s.bridleView := by
  simp [State.preempt]
@[simp] theorem fnTxDone_bridleView (n q idx) : (s.fnTxDone n q idx).bridleView = s.bridleView := by
  unfold State.fnTxDone
  dsimp only
  split <;> simp
@[simp] theorem ptpSent_bridleView (port c) : (s.ptpSent port c).bridleView = s.bridleView := by
  unfold State.ptpSent
  split <;> simp
@[simp] theorem countIf_bridleView (c port off) : (s.countIf c port off).bridleView = s.bridleView := by
  simp [State.countIf]
@[simp] theorem sendCounts_bridleView (c sent tagged tooLong stomp mark) :
    (s.sendCounts c sent tagged tooLong stomp mark).bridleView = s.bridleView := by simp [State.sendCounts]
@[simp] theorem sendPort_bridleView (c sent tagged stomped mark) :
    (s.sendPort c sent tagged stomped mark).bridleView = s.bridleView := bridleView_of rfl rfl
@[simp] theorem sendTold_bridleView (c) : (s.sendTold c).bridleView = s.bridleView := by
  unfold State.sendTold
  split <;> simp
@[simp] theorem send_bridleView (c mark stomp) : (s.send c mark stomp).bridleView = s.bridleView := by simp [State.send]
@[simp] theorem egress_bridleView (port k) : (State.egress port k s).bridleView = s.bridleView := by
  induction k generalizing s with
  | zero => rfl
  | succ k ih =>
    unfold State.egress
    split
    · rfl
    · simp [ih]
@[simp] theorem execEgressTransmitStart_bridleView (port) :
    outView (execEgressTransmitStart port s) = some s.bridleView := by simp [execEgressTransmitStart]
@[simp] theorem execResequenceTimeout_bridleView (id) : outView (execResequenceTimeout id s) = some s.bridleView := by
  unfold execResequenceTimeout
  dsimp only
  split <;> simp
@[simp] theorem newFrame_bridleView (cls) : (s.newFrame cls).2.bridleView = s.bridleView := bridleView_of rfl rfl
@[simp] theorem number_bridleView (m port) : (s.number m port).2.bridleView = s.bridleView := bridleView_of rfl rfl
@[simp] theorem enqueueAll_bridleView (m l) : (State.enqueueAll m l s).2.bridleView = s.bridleView :=
  (enqueueAll_sends m l s).bridleView
@[simp] theorem stageAll_bridleView (f fid cls src hold rx l) :
    (State.stageAll f fid cls src hold rx l s).2.bridleView = s.bridleView := by
  induction l generalizing s with
  | nil => rfl
  | cons n ns ih => simp [State.stageAll, ih]
@[simp] theorem fanOut_bridleView (m ports fns rx block) : (s.fanOut m ports fns rx block).bridleView = s.bridleView :=
  by
  unfold State.fanOut
  dsimp only
  split
  all_goals simp [foldl_bridleView]
@[simp] theorem modSend_bridleView (ports frame cls origin) :
    (s.modSend ports frame cls origin).bridleView = s.bridleView := by
  unfold State.modSend
  split
  all_goals simp [foldl_bridleView]
@[simp] theorem cutBad_bridleView (port f rx) : (s.cutBad port f rx).bridleView = s.bridleView := by
  unfold State.cutBad
  split
  · rfl
  · extract_lets cls ports m one t
    have hone : ∀ s e, (one s e).bridleView = s.bridleView := by
      intro s e
      dsimp only [one]
      split
      · split
        · rename_i h
          have := snd_bridleView (s.number m e).2 h (admission_bridleView ..)
          simpa using this
        · simp
      · rfl
    have ht : t.bridleView = s.bridleView := by
      rw [foldl_bridleView hone, newFrame_bridleView]
    split
    · dsimp only
      split <;> simp [ht]
    · exact ht
@[simp] theorem dispose_bridleView (port f vid pcp rx) : (s.dispose port f vid pcp rx).bridleView = s.bridleView := by
  unfold State.dispose
  extract_lets cls filt t n u m copies own forward k sv v
  have hu : u.bridleView = s.bridleView := by
    simp [u, n, t, foldl_bridleView]
  have hcopies : ∀ s, (copies s).bridleView = s.bridleView := by
    intro s
    simp [copies]
  have hforward : ∀ s, (forward s).bridleView = s.bridleView := by
    intro s
    dsimp only [forward]
    split <;> simp [hcopies]
  rw [learn_bridleView]
  dsimp only [v]
  split <;> simp [hcopies, hforward, hu]
@[simp] theorem execFrameReceive_bridleView (port f at_) :
    outView (execFrameReceive port f at_ s) = some s.bridleView := by
  unfold execFrameReceive
  refine outView_onPath s ?_
  extract_lets c j1 j2 g u maxLen rx binned v w
  have hv : v.bridleView = s.bridleView := by
    have hj : j2.2.bridleView = s.bridleView := by
      dsimp only [j2]
      split <;> simp [j1, c]
    simp [v, u, hj]
  have hw : w.bridleView = s.bridleView := by simp [w, hv]
  split
  · split
    · simp [hv]
    · repeat' split
      all_goals simp [hw]
  · simp [c]
@[simp] theorem txBackNow_bridleView (n q idx status d) : (s.txBackNow n q idx status d).bridleView = s.bridleView := by
  simp [State.txBackNow]
@[simp] theorem fnSend_bridleView (n q idx d f) : (s.fnSend n q idx d f).bridleView = s.bridleView := by
  simp -implicitDefEqProofs [State.fnSend]
@[simp] theorem execVfTransmitFetch_bridleView (n q desc data f) :
    outView (execVfTransmitFetch n q desc data f s) = some s.bridleView := by
  unfold execVfTransmitFetch
  refine outView_onPath s ?_
  rw [outView_next]
  split
  · rfl
  · cases desc
    case ok d =>
      extract_lets x idx poison y g u v
      have hv : v.bridleView = s.bridleView := by simp [v, u]
      simp [hv]
    all_goals simp
@[simp] theorem execSwCfg_bridleView (p) : outView (execSwCfg p s) = some s.bridleView := 
  outView_run s fun _ _ => by simp [cmdSwCfg]
@[simp] theorem execSwClassStage_bridleView (p) : outView (execSwClassStage p s) = some s.bridleView := 
  outView_run s fun _ _ => by simp [cmdSwClassStage]
@[simp] theorem execSwPcpStage_bridleView (p) : outView (execSwPcpStage p s) = some s.bridleView := 
  outView_run s fun _ _ => by simp [cmdSwPcpStage]
@[simp] theorem execSwVlanStage_bridleView (p) : outView (execSwVlanStage p s) = some s.bridleView := 
  outView_run s fun _ _ => by simp [cmdSwVlanStage]
@[simp] theorem execSwFdbStage_bridleView (p) : outView (execSwFdbStage p s) = some s.bridleView := 
  outView_run s fun _ _ => by simp [cmdSwFdbStage]
@[simp] theorem execSwFdbRead_bridleView (p) : outView (execSwFdbRead p s) = some s.bridleView := 
  outView_run s fun _ _ => by simp [cmdSwFdbRead]
@[simp] theorem execSwFdbFlush_bridleView (p) : outView (execSwFdbFlush p s) = some s.bridleView := 
  outView_run s fun _ _ => by simp [cmdSwFdbFlush]
@[simp] theorem execSwCfgRead_bridleView (p) : outView (execSwCfgRead p s) = some s.bridleView := 
  outView_run s fun _ _ => by simp [cmdSwCfgRead]
@[simp] theorem execSwStatus_bridleView (p) : outView (execSwStatus p s) = some s.bridleView := 
  outView_run s fun _ _ => by simp [cmdSwStatus]

/-! ### Sampled-value ingest -/

@[simp] theorem lanRecord_bridleView (i b present) : (s.lanRecord i b present).bridleView = s.bridleView := by
  simp [State.lanRecord]
@[simp] theorem lanSeen_bridleView (i l b now) : (s.lanSeen i l b now).2.bridleView = s.bridleView := by
  simp [State.lanSeen]
@[simp] theorem setSv_bridleView (k x) : (s.setSv k x).bridleView = s.bridleView := bridleView_of rfl rfl
@[simp] theorem svCount_bridleView (k i n) : (s.svCount k i n).bridleView = s.bridleView := by
  simp -implicitDefEqProofs [State.svCount]
@[simp] theorem svTo_bridleView (k new reason) : (s.svTo k new reason).bridleView = s.bridleView := by simp [State.svTo]
@[simp] theorem svRefuse_bridleView (k now reason) : (s.svRefuse k now reason).bridleView = s.bridleView :=
  bridleView_of rfl rfl
@[simp] theorem svAdvance_bridleView (k meets next changed) :
    (s.svAdvance k meets next changed).bridleView = s.bridleView := by simp [State.svAdvance]
@[simp] theorem svDeliver_bridleView (k c later a rate) : (s.svDeliver k c later a rate).bridleView = s.bridleView := by
  simp [State.svDeliver]
@[simp] theorem svAsdus_bridleView (k c l) : (State.svAsdus k c l s).bridleView = s.bridleView := by
  induction l generalizing s with
  | nil => rfl
  | cons x rest ih =>
    cases x with
    | none => exact ih s
    | some x =>
      unfold State.svAsdus
      dsimp only
      repeat' split
      all_goals simp [ih]
@[simp] theorem svSim_bridleView (k sim at_) : (s.svSim k sim at_).2.bridleView = s.bridleView := by simp [State.svSim]
@[simp] theorem svLose_bridleView (k l) : (State.svLose k l s).2.bridleView = s.bridleView := by
  induction l generalizing s with
  | nil => rfl
  | cons x rest ih => simp [State.svLose, ih]
@[simp] theorem svFrame_bridleView (k f asdus at_) : (s.svFrame k f asdus at_).bridleView = s.bridleView := by
  unfold State.svFrame
  split <;> simp
@[simp] theorem svIngest_bridleView (k f) : (s.svIngest k f).bridleView = s.bridleView := by
  unfold State.svIngest
  split <;> simp
@[simp] theorem execSvFrameIngest_bridleView (k f at_) : outView (execSvFrameIngest k f at_ s) = some s.bridleView := by
  simp [execSvFrameIngest]
@[simp] theorem execSvStreamLoss_bridleView (k) : outView (execSvStreamLoss k s) = some s.bridleView := by
  unfold execSvStreamLoss
  refine outView_onPath s ?_
  dsimp only
  repeat' split
  all_goals simp
@[simp] theorem execSvLanMissing_bridleView (k b) : outView (execSvLanMissing k b s) = some s.bridleView := by
  unfold execSvLanMissing
  refine outView_onPath s ?_
  dsimp only
  split <;> simp
@[simp] theorem execPrpWindowTimeout_bridleView (k) : outView (execPrpWindowTimeout k s) = some s.bridleView := by
  unfold execPrpWindowTimeout
  split <;> simp -implicitDefEqProofs
@[simp] theorem holdChange_bridleView (p e) : (s.holdChange p e).1.bridleView = s.bridleView := bridleView_of rfl rfl
@[simp] theorem execSvStage_bridleView (p) : outView (execSvStage p s) = some s.bridleView := 
  outView_run s fun _ _ => by simp [cmdSvStage]
@[simp] theorem execSvUnstage_bridleView (p) : outView (execSvUnstage p s) = some s.bridleView := 
  outView_run s fun _ _ => by simp [cmdSvUnstage]
@[simp] theorem execSvRead_bridleView (p) : outView (execSvRead p s) = some s.bridleView := 
  outView_run s fun _ _ => by simp [cmdSvRead]
@[simp] theorem execSvStatus_bridleView (p) : outView (execSvStatus p s) = some s.bridleView := 
  outView_run s fun _ _ => by simp [cmdSvStatus]
@[simp] theorem execSvStats_bridleView (p) : outView (execSvStats p s) = some s.bridleView :=
  outView_run s fun e t => by
  dsimp only [cmdSvStats]
  split <;> simp
@[simp] theorem execSvSimMode_bridleView (p) : outView (execSvSimMode p s) = some s.bridleView := 
  outView_run s fun _ _ => by simp [cmdSvSimMode]
@[simp] theorem simApply_bridleView (on) : (s.simApply on).bridleView = s.bridleView := by
  unfold State.simApply
  split
  all_goals simp [foldl_bridleView]

/-! ### Phasors and the phasor commands -/

@[simp] theorem busBegin_bridleView (bus path g0) : (s.busBegin bus path g0).bridleView = s.bridleView :=
  bridleView_of rfl rfl
@[simp] theorem busSteps_bridleView (bus path k) : (State.busSteps bus path k s).bridleView = s.bridleView := by
  induction k generalizing s with
  | zero => rfl
  | succ n ih =>
    unfold State.busSteps
    dsimp only
    repeat' split
    all_goals simp [ih]
@[simp] theorem busesRun_bridleView (path) : (s.busesRun path).bridleView = s.bridleView :=
  foldl_bridleView (fun s a => by simp) _ _
@[simp] theorem atMark_bridleView (p e) : (atMark p e s).bridleView = s.bridleView := bridleView_of rfl rfl
@[simp] theorem execPhCfg_bridleView (p) : outView (execPhCfg p s) = some s.bridleView := 
  outView_run s fun _ _ => by simp [cmdPhCfg]
@[simp] theorem execPhProfileSet_bridleView (p) : outView (execPhProfileSet p s) = some s.bridleView := 
  outView_run s fun _ _ => by simp [cmdPhProfileSet]
@[simp] theorem execPhMapSet_bridleView (p) : outView (execPhMapSet p s) = some s.bridleView := 
  outView_run s fun _ _ => by simp [cmdPhMapSet]
@[simp] theorem execPhBusSet_bridleView (p) : outView (execPhBusSet p s) = some s.bridleView := 
  outView_run s fun _ _ => by simp [cmdPhBusSet]
@[simp] theorem execPhTripleSet_bridleView (p) : outView (execPhTripleSet p s) = some s.bridleView := 
  outView_run s fun _ _ => by simp [cmdPhTripleSet]
@[simp] theorem execPhStatus_bridleView (p) : outView (execPhStatus p s) = some s.bridleView := 
  outView_run s fun _ _ => by simp [cmdPhStatus]
@[simp] theorem busRestart_bridleView (bus g0) : (s.busRestart bus g0).bridleView = s.bridleView := by
  simp [State.busRestart]
@[simp] theorem setPh_bridleView (g0 c) : (s.setPh g0 c).bridleView = s.bridleView := bridleView_of rfl rfl
@[simp] theorem phApply_bridleView (c g0) : (s.phApply c g0).bridleView = s.bridleView := by simp [State.phApply]

/-! ### GOOSE publications, trip inputs and subscriptions -/

@[simp] theorem setPub_bridleView (p x) : (s.setPub p x).bridleView = s.bridleView := bridleView_of rfl rfl
@[simp] theorem pubDrop_bridleView (p) : (s.pubDrop p).bridleView = s.bridleView :=
  foldl_bridleView (fun s a => by simp) _ _
@[simp] theorem pubGroup_bridleView (p b tal log live g) : (s.pubGroup p b tal log live g).bridleView = s.bridleView :=
  by
  unfold State.pubGroup
  split
  all_goals simp [foldl_bridleView]
@[simp] theorem pubSend_bridleView (p log) : (s.pubSend p log).bridleView = s.bridleView := by
  unfold State.pubSend
  split
  all_goals simp [foldl_bridleView]
@[simp] theorem pubChange_bridleView (p log) : (s.pubChange p log).bridleView = s.bridleView := by
  unfold State.pubChange
  split <;> simp -implicitDefEqProofs
@[simp] theorem tripLog_bridleView (e) : (s.tripLog e).bridleView = s.bridleView := bridleView_of rfl rfl
@[simp] theorem tripInput_bridleView (p source value index cookie src srcExt every upd) :
    (s.tripInput p source value index cookie src srcExt every upd).bridleView = s.bridleView := by
  unfold State.tripInput
  split <;> simp
@[simp] theorem guardTrip_bridleView (p el on src srcExt) :
    (s.guardTrip p el on src srcExt).bridleView = s.bridleView := by simp [State.guardTrip]
@[simp] theorem logicTrip_bridleView (p on src srcExt) : (s.logicTrip p on src srcExt).bridleView = s.bridleView := by
  simp [State.logicTrip]
@[simp] theorem slotTrip_bridleView (p key cookie on src srcExt) :
    (s.slotTrip p key cookie on src srcExt).bridleView = s.bridleView := by simp [State.slotTrip]
@[simp] theorem doorbell_bridleView (p key cookie on) : (s.doorbell p key cookie on).bridleView = s.bridleView := by
  simp [State.doorbell]
@[simp] theorem vfTrip_bridleView (n slot cookie on) : (s.vfTrip n slot cookie on).bridleView = s.bridleView := by
  unfold State.vfTrip
  dsimp only
  repeat' split
  all_goals simp
@[simp] theorem execVfTripAssert_bridleView (n slot cookie at_) :
    outView (execVfTripAssert n slot cookie at_ s) = some s.bridleView := by simp [execVfTripAssert]
@[simp] theorem execVfTripRelease_bridleView (n slot cookie at_) :
    outView (execVfTripRelease n slot cookie at_ s) = some s.bridleView := by simp [execVfTripRelease]
@[simp] theorem execGooseRetransmission_bridleView (p) : outView (execGooseRetransmission p s) = some s.bridleView := by
  unfold execGooseRetransmission
  split <;> simp -implicitDefEqProofs
@[simp] theorem pubSample_bridleView : s.pubSample.bridleView = s.bridleView :=
  foldl_bridleView (fun s a => by simp) _ _
@[simp] theorem pubTakeover_bridleView : s.pubTakeover.bridleView = s.bridleView :=
  foldl_bridleView (fun s a => by simp) _ _
@[simp] theorem setSub_bridleView (g x) : (s.setSub g x).bridleView = s.bridleView := bridleView_of rfl rfl
@[simp] theorem subCount_bridleView (g i) : (s.subCount g i).bridleView = s.bridleView := by simp [State.subCount]
@[simp] theorem subTo_bridleView (g new reason) : (s.subTo g new reason).bridleView = s.bridleView := by
  simp [State.subTo]
@[simp] theorem subRefuse_bridleView (g reason) : (s.subRefuse g reason).bridleView = s.bridleView :=
  bridleView_of rfl rfl
@[simp] theorem subJudge_bridleView (g b f) : (s.subJudge g b f).bridleView = s.bridleView := by simp [State.subJudge]
@[simp] theorem subFrame_bridleView (g b f) : (s.subFrame g b f).bridleView = s.bridleView := by
  unfold State.subFrame
  split <;> simp
@[simp] theorem execGooseFrameReceive_bridleView (g f at_) :
    outView (execGooseFrameReceive g f at_ s) = some s.bridleView := by
  unfold execGooseFrameReceive
  dsimp only
  split <;> simp
@[simp] theorem execGooseTalExpiry_bridleView (g) : outView (execGooseTalExpiry g s) = some s.bridleView := by
  unfold execGooseTalExpiry
  refine outView_onPath s ?_
  dsimp only
  repeat' split
  all_goals simp -implicitDefEqProofs
@[simp] theorem execGoosePubStage_bridleView (p) : outView (execGoosePubStage p s) = some s.bridleView := 
  outView_run s fun _ _ => by simp [cmdGoosePubStage]
@[simp] theorem execGoosePubRead_bridleView (p) : outView (execGoosePubRead p s) = some s.bridleView := 
  outView_run s fun _ _ => by simp [cmdGoosePubRead]
@[simp] theorem execGooseSubStage_bridleView (p) : outView (execGooseSubStage p s) = some s.bridleView := 
  outView_run s fun _ _ => by simp [cmdGooseSubStage]
@[simp] theorem execGooseSubRead_bridleView (p) : outView (execGooseSubRead p s) = some s.bridleView := 
  outView_run s fun _ _ => by simp [cmdGooseSubRead]
@[simp] theorem execTripBind_bridleView (p) : outView (execTripBind p s) = some s.bridleView := 
  outView_run s fun _ _ => by simp [cmdTripBind]
@[simp] theorem execGooseSubStatus_bridleView (p) : outView (execGooseSubStatus p s) = some s.bridleView := 
  outView_run s fun _ _ => by simp [cmdGooseSubStatus]
@[simp] theorem execGoosePubStatus_bridleView (p) : outView (execGoosePubStatus p s) = some s.bridleView := 
  outView_run s fun _ _ => by simp [cmdGoosePubStatus]
@[simp] theorem execGooseStats_bridleView (p) : outView (execGooseStats p s) = some s.bridleView :=
  outView_run s fun e t => by
  dsimp only [cmdGooseStats]
  split <;> simp
@[simp] theorem execTripLogRead_bridleView (p) : outView (execTripLogRead p s) = some s.bridleView := 
  outView_run s fun _ _ => by simp [cmdTripLogRead]
@[simp] theorem execGuarStatus_bridleView (p) : outView (execGuarStatus p s) = some s.bridleView := 
  outView_run s fun _ _ => by simp [cmdGuarStatus, foldl_bridleView]

/-! ### Guard elements -/

@[simp] theorem setEl_bridleView (i e) : (s.setEl i e).bridleView = s.bridleView := bridleView_of rfl rfl
@[simp] theorem grdLog_bridleView (i event g) : (s.grdLog i event g).bridleView = s.bridleView := by simp [State.grdLog]
@[simp] theorem grdDrive_bridleView (i trip on g) : (s.grdDrive i trip on g).bridleView = s.bridleView := by
  unfold State.grdDrive
  split <;> simp
@[simp] theorem elMirror_bridleView (i) : (s.elMirror i).bridleView = s.bridleView := by
  unfold State.elMirror
  split <;> simp
@[simp] theorem grdTake_bridleView (i g0 old) : (s.grdTake i g0 old).bridleView = s.bridleView := by
  simp [State.grdTake]
@[simp] theorem grdTurn_bridleView (i) : (s.grdTurn i).bridleView = s.bridleView := by
  unfold State.grdTurn
  split <;> simp
@[simp] theorem grdStageA_bridleView (i) : (s.grdStageA i).bridleView = s.bridleView := by
  unfold State.grdStageA
  dsimp only
  repeat' split
  all_goals simp
@[simp] theorem grdFinish_bridleView (i p blocked) : (s.grdFinish i p blocked).bridleView = s.bridleView := by
  simp [State.grdFinish]
@[simp] theorem grdStageB_bridleView (i) : (s.grdStageB i).bridleView = s.bridleView := by
  simp only [State.grdStageB]
  repeat' split
  all_goals simp
@[simp] theorem execGuardEvaluation_bridleView : outView (execGuardEvaluation s) = some s.bridleView := by
  simp [execGuardEvaluation, foldl_bridleView]
@[simp] theorem grdPut_bridleView (g0 b) : (s.grdPut g0 b).bridleView = s.bridleView := by simp [State.grdPut]
@[simp] theorem grdApply_bridleView (c g0) : (s.grdApply c g0).bridleView = s.bridleView :=
  foldl_bridleView (fun s a => by simp) _ _
@[simp] theorem execGrdSet_bridleView (p) : outView (execGrdSet p s) = some s.bridleView := 
  outView_run s fun _ _ => by simp [cmdGrdSet]
@[simp] theorem execGrdRead_bridleView (p) : outView (execGrdRead p s) = some s.bridleView := 
  outView_run s fun _ _ => by simp [cmdGrdRead]
@[simp] theorem execGrdStatus_bridleView (p) : outView (execGrdStatus p s) = some s.bridleView := 
  outView_run s fun _ _ => by simp [cmdGrdStatus]
@[simp] theorem execGrdLogRead_bridleView (p) : outView (execGrdLogRead p s) = some s.bridleView := 
  outView_run s fun _ _ => by simp [cmdGrdLogRead]

/-! ### The logic engine and its commands -/

@[simp] theorem commit_bridleView (q y src ext) : (s.commit q y src ext).bridleView = s.bridleView := by
  unfold State.commit
  dsimp only
  repeat' split
  all_goals simp [foldl_bridleView]
@[simp] theorem commitIdle_bridleView : s.commitIdle.bridleView = s.bridleView := commit_bridleView ..
@[simp] theorem orphanCheck_bridleView (old) : (s.orphanCheck old).bridleView = s.bridleView := by
  simp [State.orphanCheck]
@[simp] theorem useProg_bridleView (g) : (s.useProg g).bridleView = s.bridleView := bridleView_of rfl rfl
@[simp] theorem logicApply_bridleView (tb stamp c) : (s.logicApply tb stamp c).1.bridleView = s.bridleView := by
  unfold State.logicApply
  dsimp only
  repeat' split
  all_goals simp
@[simp] theorem logicApplyAll_bridleView (tb stamp cs) : (s.logicApplyAll tb stamp cs).1.bridleView = s.bridleView := by
  unfold State.logicApplyAll
  generalize ([] : List (Path × Bytes)) = acks
  induction cs generalizing s acks with
  | nil => rfl
  | cons c cs ih => simp [ih]
@[simp] theorem logicDone_bridleView (l) : (s.logicDone l).bridleView = s.bridleView :=
  foldl_bridleView (fun s a => by simp) _ _
@[simp] theorem logicFlush_bridleView : s.logicFlush.bridleView = s.bridleView := by simp [State.logicFlush]
@[simp] theorem logicChange_bridleView (c) : (s.logicChange c).bridleView = s.bridleView := bridleView_of rfl rfl
@[simp] theorem logicMode_bridleView (m cause path) : (s.logicMode m cause path).bridleView = s.bridleView := by
  simp [State.logicMode]
@[simp] theorem execLogLoadIdleDiscard_bridleView : outView (execLogLoadIdleDiscard s) = some s.bridleView := by
  unfold execLogLoadIdleDiscard
  split <;> simp -implicitDefEqProofs
@[simp] theorem execLogLoad_bridleView (p) : outView (execLogLoad p s) = some s.bridleView :=
  outView_run s fun e t => by
  dsimp only [cmdLogLoad]
  repeat' split
  all_goals simp
@[simp] theorem logicAccept_bridleView (p c) : (logicAccept p s c).bridleView = s.bridleView := by simp [logicAccept]
@[simp] theorem execLogExchange_bridleView (p) : outView (execLogExchange p s) = some s.bridleView := 
  outView_run s fun _ _ => by simp [cmdLogExchange]
@[simp] theorem execLogMode_bridleView (p) : outView (execLogMode p s) = some s.bridleView := 
  outView_run s fun _ _ => by simp [cmdLogMode]
@[simp] theorem execLogForce_bridleView (p) : outView (execLogForce p s) = some s.bridleView := 
  outView_run s fun _ _ => by simp [cmdLogForce]
@[simp] theorem execLogCfg_bridleView (p) : outView (execLogCfg p s) = some s.bridleView := 
  outView_run s fun _ _ => by simp [cmdLogCfg]
@[simp] theorem execLogRestart_bridleView (p) : outView (execLogRestart p s) = some s.bridleView := 
  outView_run s fun _ _ => by simp [cmdLogRestart]
@[simp] theorem execLogStatus_bridleView (p) : outView (execLogStatus p s) = some s.bridleView := 
  outView_run s fun _ _ => by simp [cmdLogStatus]
@[simp] theorem execLogRead_bridleView (p) : outView (execLogRead p s) = some s.bridleView := 
  outView_run s fun _ _ => by simp [cmdLogRead]
@[simp] theorem execLogForceRead_bridleView (p) : outView (execLogForceRead p s) = some s.bridleView := 
  outView_run s fun _ _ => by simp [cmdLogForceRead]

/-! ### Remote I/O -/

@[simp] theorem segCount_bridleView (i) : (s.segCount i).bridleView = s.bridleView := by simp [State.segCount]
@[simp] theorem setStation_bridleView (k x) : (s.setStation k x).bridleView = s.bridleView := bridleView_of rfl rfl
@[simp] theorem stationCount_bridleView (k i) : (s.stationCount k i).bridleView = s.bridleView := by
  simp [State.stationCount]
@[simp] theorem stationTo_bridleView (k new reason) : (s.stationTo k new reason).bridleView = s.bridleView := by
  simp [State.stationTo]
@[simp] theorem brioSend_bridleView (b) : (s.brioSend b).bridleView = s.bridleView := by
  simp -implicitDefEqProofs [State.brioSend]
@[simp] theorem openCycle_bridleView (number start) : (s.openCycle number start).bridleView = s.bridleView := by
  simp [State.openCycle]
@[simp] theorem execBrioCycleStart_bridleView (seg) : outView (execBrioCycleStart seg s) = some s.bridleView := by
  unfold execBrioCycleStart
  refine outView_onPath s ?_
  dsimp only
  repeat' split
  all_goals simp
@[simp] theorem execBrioCycleAbort_bridleView (seg) : outView (execBrioCycleAbort seg s) = some s.bridleView := by
  unfold execBrioCycleAbort
  split <;> simp -implicitDefEqProofs
@[simp] theorem collide_bridleView (b) : (s.collide b).bridleView = s.bridleView := by simp [State.collide]
@[simp] theorem execP8Collision_bridleView (seg) : outView (execP8Collision seg s) = some s.bridleView := by
  unfold execP8Collision
  split <;> simp
@[simp] theorem execP8BackoffExpiry_bridleView (seg) : outView (execP8BackoffExpiry seg s) = some s.bridleView := by
  unfold execP8BackoffExpiry
  split <;> simp
@[simp] theorem execBrioSegmentTake_bridleView (seg) : outView (execBrioSegmentTake seg s) = some s.bridleView := by
  unfold execBrioSegmentTake
  refine outView_onPath s ?_
  dsimp only
  repeat' split
  all_goals simp -implicitDefEqProofs
@[simp] theorem brioApply_bridleView (k b) : (s.brioApply k b).bridleView = s.bridleView := by simp [State.brioApply]
@[simp] theorem execBrioInputReceive_bridleView (seg dst _src b at_) :
    outView (execBrioInputReceive seg dst _src b at_ s) = some s.bridleView := by
  unfold execBrioInputReceive
  refine outView_onPath s ?_
  dsimp only
  repeat' split
  all_goals simp -implicitDefEqProofs
@[simp] theorem execBrioCycleReceive_bridleView (seg src b at_) :
    outView (execBrioCycleReceive seg src b at_ s) = some s.bridleView := by
  unfold execBrioCycleReceive
  refine outView_onPath s ?_
  dsimp only
  repeat' split
  all_goals simp
@[simp] theorem brioSnap_bridleView : s.brioSnap.bridleView = s.bridleView := bridleView_of rfl rfl
@[simp] theorem judgeStation_bridleView (k) : (s.judgeStation k).bridleView = s.bridleView := by
  simp [State.judgeStation]
@[simp] theorem execBrioWindowClose_bridleView (seg) : outView (execBrioWindowClose seg s) = some s.bridleView := by
  unfold execBrioWindowClose
  split
  all_goals simp -implicitDefEqProofs [foldl_bridleView]
@[simp] theorem brioCommit_bridleView (old) : (s.brioCommit old).bridleView = s.bridleView := by
  unfold State.brioCommit
  exact foldl_bridleView (fun s a => by split <;> simp) _ _
@[simp] theorem execBrioSegCfg_bridleView (p) : outView (execBrioSegCfg p s) = some s.bridleView := 
  outView_run s fun _ _ => by simp [cmdBrioSegCfg]
@[simp] theorem execBrioStage_bridleView (p) : outView (execBrioStage p s) = some s.bridleView := 
  outView_run s fun _ _ => by simp [cmdBrioStage]
@[simp] theorem execBrioRead_bridleView (p) : outView (execBrioRead p s) = some s.bridleView := 
  outView_run s fun _ _ => by simp [cmdBrioRead]
@[simp] theorem execBrioStatus_bridleView (p) : outView (execBrioStatus p s) = some s.bridleView := 
  outView_run s fun _ _ => by simp [cmdBrioStatus]
@[simp] theorem execBrioStats_bridleView (p) : outView (execBrioStats p s) = some s.bridleView := 
  outView_run s fun _ _ => by simp [cmdBrioStats]
@[simp] theorem execBrioSegStatus_bridleView (p) : outView (execBrioSegStatus p s) = some s.bridleView := 
  outView_run s fun _ _ => by simp [cmdBrioSegStatus]

/-! ### The real-time clock -/

@[simp] theorem rtcRecord_bridleView (bit) : (s.rtcRecord bit).bridleView = s.bridleView := by simp [State.rtcRecord]
@[simp] theorem rtcInvalidate_bridleView : s.rtcInvalidate.bridleView = s.bridleView := by simp [State.rtcInvalidate]
@[simp] theorem trimAbandon_bridleView : s.trimAbandon.bridleView = s.bridleView := by
  unfold State.trimAbandon
  split <;> simp
@[simp] theorem rtcLoad_bridleView (before l) : (s.rtcLoad before l).bridleView = s.bridleView := by
  simp [State.rtcLoad]
@[simp] theorem trimApply_bridleView (v) : (s.trimApply v).bridleView = s.bridleView := by simp [State.trimApply]
@[simp] theorem execRtcSecondEnd_bridleView (at_) : outView (execRtcSecondEnd at_ s) = some s.bridleView := by
  unfold execRtcSecondEnd
  extract_lets t before step trim due loads dated rtc u v w x
  have hw : w.bridleView = s.bridleView := by
    simp [w, v, u, t, foldl_bridleView]
  have hx : x.bridleView = s.bridleView := by
    simp only [x]
    repeat' split
    all_goals simp [hw]
  split
  · dsimp only
    repeat' split
    all_goals simp [hx]
  · simp [hx]
@[simp] theorem execRtcAlignCompare_bridleView : outView (execRtcAlignCompare s) = some s.bridleView := by
  simp [execRtcAlignCompare]
@[simp] theorem alignLoad_bridleView : s.alignLoad.bridleView = s.bridleView := by
  simp -implicitDefEqProofs [State.alignLoad]
@[simp] theorem ptpWindowOpen_bridleView : s.ptpWindowOpen.bridleView = s.bridleView := by simp [State.ptpWindowOpen]
@[simp] theorem execTrimWindowClose_bridleView (count) : outView (execTrimWindowClose count s) = some s.bridleView := by
  unfold execTrimWindowClose
  split <;> simp -implicitDefEqProofs
@[simp] theorem execTrimWindowAbandon_bridleView : outView (execTrimWindowAbandon s) = some s.bridleView := by
  unfold execTrimWindowAbandon
  split <;> simp
@[simp] theorem execMainsAbsentChange_bridleView (absent) :
    outView (execMainsAbsentChange absent s) = some s.bridleView := by simp [execMainsAbsentChange]
@[simp] theorem execMainsZeroCrossing_bridleView : outView (execMainsZeroCrossing s) = some s.bridleView := by
  simp [execMainsZeroCrossing]
@[simp] theorem execRtcSubsecRead_bridleView : outView (execRtcSubsecRead s) = some s.bridleView := by
  simp [execRtcSubsecRead]
@[simp] theorem execRtcYearRead_bridleView : outView (execRtcYearRead s) = some s.bridleView := by
  simp [execRtcYearRead]
@[simp] theorem execRtcRead_bridleView (p) : outView (execRtcRead p s) = some s.bridleView := 
  outView_run s fun _ _ => by simp [cmdRtcRead]
@[simp] theorem execRtcSet_bridleView (p) : outView (execRtcSet p s) = some s.bridleView := 
  outView_run s fun _ _ => by simp [cmdRtcSet]
@[simp] theorem execRtcCfg_bridleView (p) : outView (execRtcCfg p s) = some s.bridleView := 
  outView_run s fun _ _ => by simp [cmdRtcCfg]

/-! ### The safety island and the Harness -/

@[simp] theorem safeEvt_bridleView (code data) : (s.safeEvt code data).bridleView = s.bridleView := by
  simp [State.safeEvt]
@[simp] theorem safeCount_bridleView (i) : (s.safeCount i).bridleView = s.bridleView := by simp [State.safeCount]
@[simp] theorem setSafeOut_bridleView (n x) : (s.setSafeOut n x).bridleView = s.bridleView := bridleView_of rfl rfl
@[simp] theorem switchOut_bridleView (n on reason) : (s.switchOut n on reason).bridleView = s.bridleView := by
  simp [State.switchOut]
@[simp] theorem allOff_bridleView (reason) : (s.allOff reason).bridleView = s.bridleView :=
  foldl_bridleView (fun s a => by simp) _ _
@[simp] theorem halterCause_bridleView (c) : (s.halterCause c).bridleView = s.bridleView := by simp [State.halterCause]
@[simp] theorem leaveHalter_bridleView (how) : (s.leaveHalter how).bridleView = s.bridleView := by
  simp [State.leaveHalter]
@[simp] theorem setTerminal_bridleView (t x) : (s.setTerminal t x).bridleView = s.bridleView := bridleView_of rfl rfl
@[simp] theorem setSafeIn_bridleView (n x) : (s.setSafeIn n x).bridleView = s.bridleView := bridleView_of rfl rfl
@[simp] theorem inFaulted_bridleView (n kind) : (s.inFaulted n kind).bridleView = s.bridleView := by
  simp [State.inFaulted]
@[simp] theorem inStep_bridleView (n a b) : (s.inStep n a b).bridleView = s.bridleView := by simp [State.inStep]
@[simp] theorem slotInput_bridleView (i b pulse n) : (s.slotInput i b pulse n).bridleView = s.bridleView := by
  unfold State.slotInput
  extract_lets r one t judge ja jb u c x count v faults
  have hone : ∀ s ch, (one s ch).bridleView = s.bridleView := fun s ch => setTerminal_bridleView ..
  have hjudge : ∀ s ch, (judge s ch).2.bridleView = s.bridleView := by
    intro s ch
    simp [judge]
  have hv : v.bridleView = s.bridleView := by simp [v, u, jb, ja, t, hone, hjudge]
  repeat' split
  · rfl
  · simp [hv]
  · rw [foldl_bridleView (fun s k => by simp), hv]
@[simp] theorem execInputFilterChange_bridleView (n ch v) :
    outView (execInputFilterChange n ch v s) = some s.bridleView := by
  unfold execInputFilterChange
  split <;> simp
@[simp] theorem execDiscrepancyFault_bridleView (n) : outView (execDiscrepancyFault n s) = some s.bridleView := by
  unfold execDiscrepancyFault
  split <;> simp
@[simp] theorem setConn_bridleView (c x) : (s.setConn c x).bridleView = s.bridleView := bridleView_of rfl rfl
@[simp] theorem connCount_bridleView (c i) : (s.connCount c i).bridleView = s.bridleView := by simp [State.connCount]
@[simp] theorem connTo_bridleView (c new reason) : (s.connTo c new reason).bridleView = s.bridleView := by
  simp [State.connTo]
@[simp] theorem pathLost_bridleView (c dual pathB) : (s.pathLost c dual pathB).bridleView = s.bridleView := by
  simp [State.pathLost]
@[simp] theorem slotConn_bridleView (r) : (s.slotConn r).bridleView = s.bridleView := by simp [State.slotConn]
@[simp] theorem execHarnessWatchdogExpiry_bridleView (c pathB) :
    outView (execHarnessWatchdogExpiry c pathB s) = some s.bridleView := by
  unfold execHarnessWatchdogExpiry
  split <;> simp
@[simp] theorem execHarnessDualMismatch_bridleView (c) : outView (execHarnessDualMismatch c s) = some s.bridleView := by
  unfold execHarnessDualMismatch
  split <;> simp
@[simp] theorem pduAccept_bridleView (r b pathB) : (s.pduAccept r b pathB).bridleView = s.bridleView := by
  simp [State.pduAccept]
@[simp] theorem execHarnessPduReceive_bridleView (port src b at_) :
    outView (execHarnessPduReceive port src b at_ s) = some s.bridleView := by
  unfold execHarnessPduReceive
  extract_lets u
  rw [outView_next]
  split
  · simp [u]
  · extract_lets c pathB fail j v flags
    have hfail : ∀ s i, (fail s i).bridleView = s.bridleView := by
      intro s i
      simp [fail]
    have hu : u.bridleView = s.bridleView := clockTo_bridleView ..
    have hv : v.bridleView = s.bridleView := by simp [v, j, hu]
    repeat' split
    all_goals simp [hfail, hu, hv]
@[simp] theorem slotOut_bridleView (srst n) : (s.slotOut srst n).bridleView = s.bridleView := by
  unfold State.slotOut
  extract_lets r x cond fell armed delay expired block t
  have ht : t.bridleView = s.bridleView := setSafeOut_bridleView ..
  clear_value t expired delay
  split
  · simp [ht]
  · split
    · cases delay <;> simp [ht]
    · simp [ht]
@[simp] theorem outsCheck_bridleView : s.outsCheck.bridleView = s.bridleView :=
  foldl_bridleView (fun s a => by simp) _ _
@[simp] theorem outFault_bridleView (n kind) : (s.outFault n kind).bridleView = s.bridleView := by simp [State.outFault]
@[simp] theorem slotReadback_bridleView (i n) : (s.slotReadback i n).bridleView = s.bridleView := by
  simp [State.slotReadback]
@[simp] theorem execOffDelayExpiry_bridleView (n) : outView (execOffDelayExpiry n s) = some s.bridleView := by
  unfold execOffDelayExpiry
  split <;> simp
@[simp] theorem execOutputDarkTest_bridleView (n high ok) :
    outView (execOutputDarkTest n high ok s) = some s.bridleView := by simp [execOutputDarkTest]
@[simp] theorem execOutputOverload_bridleView (n) : outView (execOutputOverload n s) = some s.bridleView := by
  simp [execOutputOverload]
@[simp] theorem fv24Fall_bridleView : s.fv24Fall.bridleView = s.bridleView := by simp [State.fv24Fall]
@[simp] theorem execFv24LowSet_bridleView : outView (execFv24LowSet s) = some s.bridleView := by simp [execFv24LowSet]
@[simp] theorem execFv24LowClear_bridleView : outView (execFv24LowClear s) = some s.bridleView := by
  simp [execFv24LowClear]
@[simp] theorem slotCauses_bridleView (i pulse) : (s.slotCauses i pulse).bridleView = s.bridleView := by
  unfold State.slotCauses
  split
  all_goals simp [foldl_bridleView]
@[simp] theorem slotSrst_bridleView (v quiet) : (s.slotSrst v quiet).2.bridleView = s.bridleView := by
  unfold State.slotSrst
  dsimp only
  repeat' split
  all_goals simp (disch := (intros; beta_reduce; split <;> simp)) [foldl_bridleView]
@[simp] theorem slotImages_bridleView (b) : (s.slotImages b).bridleView = s.bridleView :=
  foldl_bridleView (fun s a => by simp) _ _
@[simp] theorem slotCompare_bridleView (agree) : (s.slotCompare agree).bridleView = s.bridleView := by
  simp [State.slotCompare]
@[simp] theorem safetySlot_bridleView (i) : (s.safetySlot i).bridleView = s.bridleView := by
  unfold State.safetySlot
  dsimp only
  repeat' split
  all_goals simp -implicitDefEqProofs [foldl_bridleView]
@[simp] theorem execSafetyBackgroundTest_bridleView (pass) :
    outView (execSafetyBackgroundTest pass s) = some s.bridleView := by simp [execSafetyBackgroundTest]
@[simp] theorem execClockMonitorFault_bridleView (stopped count) :
    outView (execClockMonitorFault stopped count s) = some s.bridleView := by simp [execClockMonitorFault]
@[simp] theorem pduGroup_bridleView (r b g) : (s.pduGroup r b g).bridleView = s.bridleView := by
  unfold State.pduGroup
  split <;> simp
@[simp] theorem sendConn_bridleView (r seq) : (s.sendConn r seq).bridleView = s.bridleView := by
  unfold State.sendConn
  split
  all_goals simp [foldl_bridleView]
@[simp] theorem execHarnessOutputCycle_bridleView : outView (execHarnessOutputCycle s) = some s.bridleView := by
  unfold execHarnessOutputCycle
  dsimp only
  repeat' split
  all_goals simp [foldl_bridleView]
@[simp] theorem safeRestart_bridleView (was) : (s.safeRestart was).bridleView = s.bridleView := by
  simp [State.safeRestart, foldl_bridleView]
@[simp] theorem safeStart_bridleView : s.safeStart.bridleView = s.bridleView := by
  unfold State.safeStart
  dsimp only
  split <;> simp
@[simp] theorem execSafeStatus_bridleView (p) : outView (execSafeStatus p s) = some s.bridleView := 
  outView_run s fun _ _ => by simp [cmdSafeStatus]
@[simp] theorem execSafeCfgLoad_bridleView (p) : outView (execSafeCfgLoad p s) = some s.bridleView := 
  outView_run s fun _ _ => by simp [cmdSafeCfgLoad]
@[simp] theorem execSafeCfgCommit_bridleView (p) : outView (execSafeCfgCommit p s) = some s.bridleView :=
  outView_run s fun e t => by
  dsimp only [cmdSafeCfgCommit]
  split <;> simp
@[simp] theorem execSafeCfgRead_bridleView (p) : outView (execSafeCfgRead p s) = some s.bridleView := 
  outView_run s fun _ _ => by simp [cmdSafeCfgRead]
@[simp] theorem execSafeHalter_bridleView (p) : outView (execSafeHalter p s) = some s.bridleView := 
  outView_run s fun _ _ => by simp [cmdSafeHalter]
@[simp] theorem execSafeReset_bridleView (p) : outView (execSafeReset p s) = some s.bridleView := 
  outView_run s fun _ _ => by simp [cmdSafeReset]
@[simp] theorem execSafeHarnessStatus_bridleView (p) : outView (execSafeHarnessStatus p s) = some s.bridleView := 
  outView_run s fun _ _ => by simp [cmdSafeHarnessStatus, foldl_bridleView]

/-! ### On-module DRAM -/

@[simp] theorem eccEvt_bridleView (bit) : (s.eccEvt bit).bridleView = s.bridleView := by simp [State.eccEvt]
@[simp] theorem logEcc_bridleView (m e) : (s.logEcc m e).bridleView = s.bridleView := bridleView_of rfl rfl
@[simp] theorem ceRecord_bridleView (a) : (s.ceRecord a).bridleView = s.bridleView := by
  simp -implicitDefEqProofs [State.ceRecord]
@[simp] theorem ueRecord_bridleView (a kind) : (s.ueRecord a kind).bridleView = s.bridleView := by
  simp -implicitDefEqProofs [State.ueRecord]
@[simp] theorem detect_bridleView (a src e) : (s.detect a src e).bridleView = s.bridleView := by
  unfold State.detect
  split <;> simp
@[simp] theorem wordRead_bridleView (a src) : (s.wordRead a src).2.2.bridleView = s.bridleView := by
  simp [State.wordRead]
@[simp] theorem wordWrite_bridleView (a data poisoned) : (s.wordWrite a data poisoned).bridleView = s.bridleView := by
  simp [State.wordWrite]
@[simp] theorem lineStore_bridleView (l) : (s.lineStore l).bridleView = s.bridleView :=
  foldl_bridleView (fun s a => by simp) _ _
@[simp] theorem lineMerge_bridleView (l) : (s.lineMerge l).bridleView = s.bridleView :=
  foldl_bridleView (fun s a => by simp) _ _
@[simp] theorem evict_bridleView (l) : (s.evict l).bridleView = s.bridleView := by simp [State.evict]
@[simp] theorem linePre_bridleView (line whole) : (s.linePre line whole).bridleView = s.bridleView := by
  unfold State.linePre
  split <;> simp
@[simp] theorem mergeRoom_bridleView : s.mergeRoom.bridleView = s.bridleView := by
  simp only [State.mergeRoom]
  repeat' split
  all_goals simp
@[simp] theorem lineNew_bridleView (l) : (s.lineNew l).bridleView = s.bridleView := by simp [State.lineNew]
@[simp] theorem lineWrite_bridleView (addr bytes poisoned) :
    (s.lineWrite addr bytes poisoned).bridleView = s.bridleView := by
  unfold State.lineWrite
  dsimp only
  split <;> simp
@[simp] theorem memWrite_bridleView (addr bytes poisoned) :
    (s.memWrite addr bytes poisoned).bridleView = s.bridleView := foldl_bridleView (fun s a => by simp) _ _
@[simp] theorem wordFetch_bridleView (a src) : (s.wordFetch a src).2.2.bridleView = s.bridleView := by
  unfold State.wordFetch
  dsimp only
  repeat' split
  all_goals simp
@[simp] theorem wordsFetch_bridleView (src k m) : (State.wordsFetch src k m s).2.bridleView = s.bridleView := by
  induction k generalizing m s with
  | zero => rfl
  | succ n ih => simp [State.wordsFetch, ih]
@[simp] theorem memRead_bridleView (addr len src) : (s.memRead addr len src).2.bridleView = s.bridleView := by
  simp [State.memRead]
@[simp] theorem execBar2Read_bridleView (off len) : outView (execBar2Read off len s) = some s.bridleView := by
  simp -implicitDefEqProofs [execBar2Read]
@[simp] theorem execBar2Write_bridleView (off data poisoned) :
    outView (execBar2Write off data poisoned s) = some s.bridleView := by simp -implicitDefEqProofs [execBar2Write]
@[simp] theorem execMergeBufferEvict_bridleView : outView (execMergeBufferEvict s) = some s.bridleView := by
  unfold execMergeBufferEvict
  split <;> simp
@[simp] theorem execEccCeAddrRead_bridleView : outView (execEccCeAddrRead s) = some s.bridleView := by
  simp -implicitDefEqProofs [execEccCeAddrRead]
@[simp] theorem execEccUeAddrRead_bridleView : outView (execEccUeAddrRead s) = some s.bridleView := by
  simp -implicitDefEqProofs [execEccUeAddrRead]
@[simp] theorem execEccFlipArm_bridleView : outView (execEccFlipArm s) = some s.bridleView := by simp [execEccFlipArm]
@[simp] theorem execEccFlipDisarm_bridleView (sameCycle) :
    outView (execEccFlipDisarm sameCycle s) = some s.bridleView := by simp [execEccFlipDisarm]
@[simp] theorem execMemFill_bridleView (p) : outView (execMemFill p s) = some s.bridleView := 
  outView_run s fun _ _ => by simp [cmdMemFill]
@[simp] theorem fillWords_bridleView (lo hi pattern) : (s.fillWords lo hi pattern).bridleView = s.bridleView :=
  foldl_bridleView (fun s a => by simp) _ _
@[simp] theorem execFillComplete_bridleView : outView (execFillComplete s) = some s.bridleView := by
  unfold execFillComplete
  split <;> simp
@[simp] theorem scrubWords_bridleView (k m l) : (State.scrubWords k m l s).2.bridleView = s.bridleView := by
  induction k generalizing m l s with
  | zero => rfl
  | succ n ih =>
    unfold State.scrubWords
    dsimp only
    split
    all_goals simp [ih]
@[simp] theorem scrubEnd_bridleView (j len) : (s.scrubEnd j len).2.bridleView = s.bridleView := by simp [State.scrubEnd]
@[simp] theorem execMemScrub_bridleView (p) : outView (execMemScrub p s) = some s.bridleView :=
  outView_run s fun e t => by
  dsimp only [cmdMemScrub]
  split <;> simp
@[simp] theorem execScrubComplete_bridleView : outView (execScrubComplete s) = some s.bridleView := by
  unfold execScrubComplete
  split <;> simp
@[simp] theorem execMemStatus_bridleView (p) : outView (execMemStatus p s) = some s.bridleView := 
  outView_run s fun _ _ => by simp [cmdMemStatus]
@[simp] theorem execMemEccLogRead_bridleView (p) : outView (execMemEccLogRead p s) = some s.bridleView := 
  outView_run s fun _ _ => by simp [cmdMemEccLogRead]

/-! ### Keys and attestation -/

@[simp] theorem setSlot_bridleView (n k) : (s.setSlot n k).bridleView = s.bridleView := bridleView_of rfl rfl
@[simp] theorem clearSlot_bridleView (n) : (s.clearSlot n).bridleView = s.bridleView := bridleView_of rfl rfl
@[simp] theorem putKey_bridleView (n type usage keyId m) :
    (s.putKey n type usage keyId m).1.bridleView = s.bridleView := bridleView_of rfl rfl
@[simp] theorem execImportSessionExpiry_bridleView (p) : outView (execImportSessionExpiry p s) = some s.bridleView := by
  unfold execImportSessionExpiry
  split <;> simp -implicitDefEqProofs
@[simp] theorem importBody_bridleView (type usage p e) : (importBody type usage p e s).bridleView = s.bridleView := by
  unfold importBody
  dsimp only
  repeat' split
  all_goals simp
@[simp] theorem execAuthNonce_bridleView (p) : outView (execAuthNonce p s) = some s.bridleView := 
  outView_run s fun _ _ => by simp [cmdAuthNonce]
@[simp] theorem lockoutLeft_bridleView : s.lockoutLeft.2.bridleView = s.bridleView := by
  unfold State.lockoutLeft
  split <;> simp -implicitDefEqProofs
@[simp] theorem execSecStatus_bridleView (p) : outView (execSecStatus p s) = some s.bridleView := 
  outView_run s fun _ _ => by simp [cmdSecStatus]
@[simp] theorem execSecAttest_bridleView (p) : outView (execSecAttest p s) = some s.bridleView := 
  outView_run s fun _ _ => by simp [cmdSecAttest]
@[simp] theorem execSecImportSession_bridleView (p) : outView (execSecImportSession p s) = some s.bridleView := 
  outView_run s fun _ _ => by simp [cmdSecImportSession]
@[simp] theorem execSecKeyImport_bridleView (p) : outView (execSecKeyImport p s) = some s.bridleView := 
  outView_run s fun _ _ => by simp [cmdSecKeyImport]
@[simp] theorem execSecKeyRemove_bridleView (p) : outView (execSecKeyRemove p s) = some s.bridleView :=
  outView_run s fun e t => by
  dsimp only [cmdSecKeyRemove]
  repeat' split
  all_goals simp
@[simp] theorem execSecKeyInfo_bridleView (p) : outView (execSecKeyInfo p s) = some s.bridleView := 
  outView_run s fun _ _ => by simp [cmdSecKeyInfo]
@[simp] theorem execSecOperatorEnrol_bridleView (p) : outView (execSecOperatorEnrol p s) = some s.bridleView := 
  outView_run s fun _ _ => by simp [cmdSecOperatorEnrol]
@[simp] theorem execSecBackup_bridleView (p) : outView (execSecBackup p s) = some s.bridleView := 
  outView_run s fun _ _ => by simp [cmdSecBackup]
@[simp] theorem restoreOne_bridleView (x) : (s.restoreOne x).bridleView = s.bridleView := by simp [State.restoreOne]
@[simp] theorem execSecRestore_bridleView (p) : outView (execSecRestore p s) = some s.bridleView := 
  outView_run s fun _ _ => by simp [cmdSecRestore, foldl_bridleView]
@[simp] theorem execSecCfg_bridleView (p) : outView (execSecCfg p s) = some s.bridleView := 
  outView_run s fun _ _ => by simp [cmdSecCfg]
@[simp] theorem execSecDebugDisable_bridleView (p) : outView (execSecDebugDisable p s) = some s.bridleView := 
  outView_run s fun _ _ => by simp [cmdSecDebugDisable]
@[simp] theorem execSecRollbackCommit_bridleView (p) : outView (execSecRollbackCommit p s) = some s.bridleView := 
  outView_run s fun _ _ => by simp [cmdSecRollbackCommit]
@[simp] theorem execSecKeyrev_bridleView (p) : outView (execSecKeyrev p s) = some s.bridleView := 
  outView_run s fun _ _ => by simp [cmdSecKeyrev]
@[simp] theorem removeRecord_bridleView (n k) : (s.removeRecord n k).bridleView = s.bridleView := by
  unfold State.removeRecord
  split <;> simp
@[simp] theorem execSecZeroise_bridleView (p) : outView (execSecZeroise p s) = some s.bridleView := 
  outView_run s fun _ _ => by simp [cmdSecZeroise, foldl_bridleView]
@[simp] theorem execSecTamperClear_bridleView (p) : outView (execSecTamperClear p s) = some s.bridleView := 
  outView_run s fun _ _ => by simp [cmdSecTamperClear]
@[simp] theorem execSecCertRead_bridleView (p) : outView (execSecCertRead p s) = some s.bridleView := 
  outView_run s fun _ _ => by simp [cmdSecCertRead]
@[simp] theorem execKeyRemask_bridleView : outView (execKeyRemask s) = some s.bridleView := by simp [execKeyRemask]
@[simp] theorem entropyFail_bridleView : s.entropyFail.bridleView = s.bridleView := by simp [State.entropyFail]
@[simp] theorem healthFail_bridleView : s.healthFail.bridleView = s.bridleView := by simp [State.healthFail]
@[simp] theorem execEntropyHealthFail_bridleView : outView (execEntropyHealthFail s) = some s.bridleView := by
  simp [execEntropyHealthFail]

/-! ### Self-tests -/

@[simp] theorem marchZero_bridleView (lo hi deep) : (s.marchZero lo hi deep).bridleView = s.bridleView :=
  foldl_bridleView (fun s a => by simp) _ _
@[simp] theorem bistEnd_bridleView (test lo hi deep) : (s.bistEnd test lo hi deep).2.bridleView = s.bridleView := by
  simp -implicitDefEqProofs [State.bistEnd]
@[simp] theorem execDiagBist_bridleView (p) : outView (execDiagBist p s) = some s.bridleView := 
  outView_run s fun _ _ => by simp [cmdDiagBist]
@[simp] theorem deepStop_bridleView (status) : (s.deepStop status).bridleView = s.bridleView := by simp [State.deepStop]
@[simp] theorem bistSweep_bridleView : s.bistSweep.bridleView = s.bridleView := by
  unfold State.bistSweep
  dsimp only
  repeat' split
  all_goals simp

/-! ### The Firn recorder -/

@[simp] theorem firnStore_bridleView (e) : (s.firnStore e).bridleView = s.bridleView := by simp [State.firnStore]
@[simp] theorem firnLoss_bridleView : s.firnLoss.bridleView = s.bridleView := by
  unfold State.firnLoss
  split <;> simp
@[simp] theorem firnNext_bridleView : s.firnNext.bridleView = s.bridleView := by
  unfold State.firnNext
  split <;> simp
@[simp] theorem firnFull_bridleView : s.firnFull.bridleView = s.bridleView := by
  simp -implicitDefEqProofs [State.firnFull]
@[simp] theorem firnProgram_bridleView : s.firnProgram.bridleView = s.bridleView := by
  simp -implicitDefEqProofs [State.firnProgram]
@[simp] theorem execFirnEvent_bridleView (code data) : outView (execFirnEvent code data s) = some s.bridleView := by
  simp [execFirnEvent]
@[simp] theorem execFirnRecordProgrammed_bridleView : outView (execFirnRecordProgrammed s) = some s.bridleView := by
  simp [execFirnRecordProgrammed]
@[simp] theorem firnRelease_bridleView (timeout) : (s.firnRelease timeout).bridleView = s.bridleView := by
  simp [State.firnRelease]
@[simp] theorem execFirnAutoRelease_bridleView : outView (execFirnAutoRelease s) = some s.bridleView := by
  unfold execFirnAutoRelease
  split <;> simp -implicitDefEqProofs
@[simp] theorem execFirnStatus_bridleView (p) : outView (execFirnStatus p s) = some s.bridleView := 
  outView_run s fun _ _ => by simp [cmdFirnStatus]
@[simp] theorem execFirnRead_bridleView (p) : outView (execFirnRead p s) = some s.bridleView := 
  outView_run s fun _ _ => by simp [cmdFirnRead]
@[simp] theorem execFirnFreeze_bridleView (p) : outView (execFirnFreeze p s) = some s.bridleView := 
  outView_run s fun _ _ => by simp [cmdFirnFreeze]
@[simp] theorem firnDrain_bridleView (k) : (State.firnDrain k s).bridleView = s.bridleView := by
  induction k generalizing s with
  | zero => rfl
  | succ n ih => simp [State.firnDrain, ih]
@[simp] theorem execFirnClear_bridleView (p) : outView (execFirnClear p s) = some s.bridleView := 
  outView_run s fun _ _ => by simp [cmdFirnClear]
@[simp] theorem execFirnEraseComplete_bridleView : outView (execFirnEraseComplete s) = some s.bridleView := by
  unfold execFirnEraseComplete
  split <;> simp

/-! ### The TIME window, the servo and 1PPS -/

@[simp] theorem execTimeNsRead_bridleView : outView (execTimeNsRead s) = some s.bridleView := by
  simp -implicitDefEqProofs [execTimeNsRead]
@[simp] theorem execTimeMarkCurRead_bridleView : outView (execTimeMarkCurRead s) = some s.bridleView := by
  simp -implicitDefEqProofs [execTimeMarkCurRead]
@[simp] theorem execTimePpsNsRead_bridleView : outView (execTimePpsNsRead s) = some s.bridleView := by
  simp -implicitDefEqProofs [execTimePpsNsRead]
@[simp] theorem servoTo_bridleView (v) : (s.servoTo v).bridleView = s.bridleView := by
  simp -implicitDefEqProofs [State.servoTo]
@[simp] theorem execHoldoverExpired_bridleView : outView (execHoldoverExpired s) = some s.bridleView := by
  simp -implicitDefEqProofs [execHoldoverExpired]
@[simp] theorem execPendingMarkWrite_bridleView (sec) : outView (execPendingMarkWrite sec s) = some s.bridleView := by
  simp -implicitDefEqProofs [execPendingMarkWrite]
@[simp] theorem execPpsOutFall_bridleView : outView (execPpsOutFall s) = some s.bridleView := by
  simp -implicitDefEqProofs [execPpsOutFall]
@[simp] theorem execPpsInEdge_bridleView (at_) : outView (execPpsInEdge at_ s) = some s.bridleView := by
  simp -implicitDefEqProofs [execPpsInEdge]
@[simp] theorem execTimeCfg_bridleView (p) : outView (execTimeCfg p s) = some s.bridleView := 
  outView_run s fun _ _ => by simp [cmdTimeCfg]
@[simp] theorem execTimeCfgRead_bridleView (p) : outView (execTimeCfgRead p s) = some s.bridleView := 
  outView_run s fun _ _ => by simp [cmdTimeCfgRead]
@[simp] theorem execTimeStatus_bridleView (p) : outView (execTimeStatus p s) = some s.bridleView := 
  outView_run s fun _ _ => by simp [cmdTimeStatus]
@[simp] theorem execTimeMapRead_bridleView (p) : outView (execTimeMapRead p s) = some s.bridleView := 
  outView_run s fun _ _ => by simp [cmdTimeMapRead]
@[simp] theorem setPtp_bridleView (i x) : (s.setPtp i x).bridleView = s.bridleView := bridleView_of rfl rfl
@[simp] theorem execTimePortStatus_bridleView (p) : outView (execTimePortStatus p s) = some s.bridleView := 
  outView_run s fun _ _ => by simp [cmdTimePortStatus]
@[simp] theorem execTimeManualSet_bridleView (p) : outView (execTimeManualSet p s) = some s.bridleView := 
  outView_run s fun _ _ => by simp [cmdTimeManualSet]

/-! ### The redundant pair -/

@[simp] theorem redRec_bridleView (code data) : (s.redRec code data).bridleView = s.bridleView := by simp [State.redRec]
@[simp] theorem redCounted_bridleView (v opcode pos) : (s.redCounted v opcode pos).bridleView = s.bridleView := by
  simp [State.redCounted]
@[simp] theorem hbSend_bridleView (h2 final) : (s.hbSend h2 final).bridleView = s.bridleView := by
  unfold State.hbSend
  split
  all_goals simp -implicitDefEqProofs [foldl_bridleView]
@[simp] theorem execHeartbeatH1Send_bridleView : outView (execHeartbeatH1Send s) = some s.bridleView := by
  simp -implicitDefEqProofs [execHeartbeatH1Send]
@[simp] theorem execHeartbeatH2Send_bridleView : outView (execHeartbeatH2Send s) = some s.bridleView := by
  simp -implicitDefEqProofs [execHeartbeatH2Send]
@[simp] theorem finalHeartbeat_bridleView (reason) : (s.finalHeartbeat reason).bridleView = s.bridleView := by
  simp [State.finalHeartbeat]
@[simp] theorem roleTo_bridleView (r reason) : (s.roleTo r reason).bridleView = s.bridleView := by simp [State.roleTo]
@[simp] theorem handoverRec_bridleView (code sec) : (s.handoverRec code sec).bridleView = s.bridleView := by
  simp [State.handoverRec]
@[simp] theorem handoverEnd_bridleView (code) : (s.handoverEnd code).bridleView = s.bridleView := by
  unfold State.handoverEnd
  dsimp only
  repeat' split
  all_goals simp
@[simp] theorem bridleChanged_bridleView (gain reason ovr) :
    (s.bridleChanged gain reason ovr).bridleView = s.bridleView := by simp [State.bridleChanged]
@[simp] theorem readyTo_bridleView (v) : (s.readyTo v).bridleView = s.bridleView := by simp [State.readyTo]
@[simp] theorem farrier_bridleView : s.farrier.bridleView = s.bridleView := by simp [State.farrier]
@[simp] theorem farrierOnward_bridleView : s.farrierOnward.bridleView = s.bridleView := by simp [State.farrierOnward]
@[simp] theorem execFarrierReady_bridleView : outView (execFarrierReady s) = some s.bridleView := by
  unfold execFarrierReady
  dsimp only
  split <;> simp -implicitDefEqProofs
@[simp] theorem claimStart_bridleView (ovr) : (s.claimStart ovr).bridleView = s.bridleView := by simp [State.claimStart]
@[simp] theorem schedule_bridleView (byPeer code) : (s.schedule byPeer code).bridleView = s.bridleView := by
  simp [State.schedule]
@[simp] theorem compareOne_bridleView (g at_ v) : (s.compareOne g at_ v).bridleView = s.bridleView := by
  unfold State.compareOne
  dsimp only
  split <;> simp -implicitDefEqProofs
@[simp] theorem execPhasorGroupReceive_bridleView (g at_) :
    outView (execPhasorGroupReceive g at_ s) = some s.bridleView := by
  simp [execPhasorGroupReceive, foldl_bridleView]
@[simp] theorem groupsSend_bridleView (k) : (State.groupsSend k s).bridleView = s.bridleView := by
  induction k generalizing s with
  | zero => rfl
  | succ k ih =>
    unfold State.groupsSend
    dsimp only
    repeat' split
    all_goals simp (disch := (intros; beta_reduce; split <;> simp)) [ih, foldl_snd_bridleView]
@[simp] theorem mirrorSend_bridleView : s.mirrorSend.bridleView = s.bridleView := by simp [State.mirrorSend]
@[simp] theorem execMirrorImageReceive_bridleView (link i at_) :
    outView (execMirrorImageReceive link i at_ s) = some s.bridleView := by simp [execMirrorImageReceive]
@[simp] theorem mirrorPub_bridleView (off m) : (s.mirrorPub off m).bridleView = s.bridleView := bridleView_of rfl rfl
@[simp] theorem mirrorEl_bridleView (m) : (s.mirrorEl m).bridleView = s.bridleView := by
  unfold State.mirrorEl
  split <;> simp
@[simp] theorem mirrorArm_bridleView (i state) : (s.mirrorArm i state).bridleView = s.bridleView := by
  simp [State.mirrorArm]
@[simp] theorem mirrorTake_bridleView (i start) : (s.mirrorTake i start).bridleView = s.bridleView := by
  simp [State.mirrorTake, foldl_bridleView]
@[simp] theorem mirrorLostTo_bridleView (v) : (s.mirrorLostTo v).bridleView = s.bridleView := by
  simp [State.mirrorLostTo]
@[simp] theorem mirrorApply_bridleView (start) : (s.mirrorApply start).bridleView = s.bridleView := by
  unfold State.mirrorApply
  dsimp only
  repeat' split
  all_goals simp
@[simp] theorem execTakebackRequest_bridleView : outView (execTakebackRequest s) = some s.bridleView := by
  unfold execTakebackRequest
  split <;> simp
@[simp] theorem execRedCfg_bridleView (p) : outView (execRedCfg p s) = some s.bridleView := 
  outView_run s fun _ _ => by simp [cmdRedCfg]
@[simp] theorem execRedCfgRead_bridleView (p) : outView (execRedCfgRead p s) = some s.bridleView := 
  outView_run s fun _ _ => by simp [cmdRedCfgRead]
@[simp] theorem execRedStatus_bridleView (p) : outView (execRedStatus p s) = some s.bridleView := 
  outView_run s fun _ _ => by simp [cmdRedStatus]
@[simp] theorem execRedHealth_bridleView (p) : outView (execRedHealth p s) = some s.bridleView := 
  outView_run s fun _ _ => by simp [cmdRedHealth]
@[simp] theorem execRedSwitch_bridleView (p) : outView (execRedSwitch p s) = some s.bridleView := 
  outView_run s fun _ _ => by simp [cmdRedSwitch]
@[simp] theorem execRedDeepTest_bridleView (p) : outView (execRedDeepTest p s) = some s.bridleView := 
  outView_run s fun _ _ => by simp [cmdRedDeepTest]

/-! ### Slab bindings and the alignment commands -/

@[simp] theorem slabDone_bridleView (k b is delivered) : (s.slabDone k b is delivered).bridleView = s.bridleView := by
  unfold State.slabDone
  split <;> simp -implicitDefEqProofs
@[simp] theorem slabDrop_bridleView (n q k b is) : (s.slabDrop n q k b is).bridleView = s.bridleView := by
  simp [State.slabDrop]
@[simp] theorem slabBack_bridleView (n q back) : (s.slabBack n q back).bridleView = s.bridleView := by
  simp [State.slabBack]
@[simp] theorem execSlabDelivery_bridleView (n q desc) : outView (execSlabDelivery n q desc s) = some s.bridleView := by
  unfold execSlabDelivery
  refine outView_onPath s ?_
  rw [outView_next]
  extract_lets k x
  split
  · rfl
  · split
    · rfl
    · split
      · split
        · split <;> rfl
        · rfl
      · dsimp only
        repeat' split
        all_goals simp
@[simp] theorem bindBody_bridleView (p e) : (bindBody p e s).bridleView = s.bridleView := by simp [bindBody]
@[simp] theorem execAlnSlabBind_bridleView (p) : outView (execAlnSlabBind p s) = some s.bridleView := 
  outView_run s fun _ _ => by simp [cmdAlnSlabBind]
@[simp] theorem execPhSlabBind_bridleView (p) : outView (execPhSlabBind p s) = some s.bridleView := 
  outView_run s fun _ _ => by simp [cmdPhSlabBind]
@[simp] theorem bindApply_bridleView (c g0) : (s.bindApply c g0).bridleView = s.bridleView := bridleView_of rfl rfl
@[simp] theorem execAlnCfg_bridleView (p) : outView (execAlnCfg p s) = some s.bridleView := 
  outView_run s fun _ _ => by simp [cmdAlnCfg]
@[simp] theorem alnKind_bridleView (kind at_) : (s.alnKind kind at_).bridleView = s.bridleView := by
  unfold State.alnKind
  split
  all_goals simp [foldl_bridleView]
@[simp] theorem alnApply_bridleView (b) : (s.alnApply b).bridleView = s.bridleView := by simp [State.alnApply]
@[simp] theorem execAlnStreamCfg_bridleView (p) : outView (execAlnStreamCfg p s) = some s.bridleView := 
  outView_run s fun _ _ => by simp [cmdAlnStreamCfg]
@[simp] theorem alnStreamApply_bridleView (b) : (s.alnStreamApply b).bridleView = s.bridleView := by
  simp [State.alnStreamApply]
@[simp] theorem execAlnStatus_bridleView (p) : outView (execAlnStatus p s) = some s.bridleView := 
  outView_run s fun _ _ => by simp [cmdAlnStatus]
@[simp] theorem execAlnStreamStatus_bridleView (p) : outView (execAlnStreamStatus p s) = some s.bridleView := 
  outView_run s fun _ _ => by simp [cmdAlnStreamStatus]

/-! ### The disturbance recorder -/

@[simp] theorem setRec_bridleView (i r) : (s.setRec i r).bridleView = s.bridleView := bridleView_of rfl rfl
@[simp] theorem acqLog_bridleView (inst event slot rec_ source term) :
    (s.acqLog inst event slot rec_ source term).bridleView = s.bridleView := by simp [State.acqLog]
@[simp] theorem writeHeader_bridleView (i slot) : (s.writeHeader i slot).bridleView = s.bridleView := by
  unfold State.writeHeader
  dsimp only
  split <;> simp
@[simp] theorem setSeg_bridleView (i slot g) : (s.setSeg i slot g).bridleView = s.bridleView := bridleView_of rfl rfl
@[simp] theorem takeSlot_bridleView (i) : (s.takeSlot i).2.bridleView = s.bridleView := by
  unfold State.takeSlot
  dsimp only
  repeat' split
  all_goals simp
@[simp] theorem recStop_bridleView (i reason flag) : (s.recStop i reason flag).bridleView = s.bridleView := by
  simp -implicitDefEqProofs [State.recStop]
@[simp] theorem recArmNow_bridleView (i g0) : (s.recArmNow i g0).bridleView = s.bridleView := by
  unfold State.recArmNow
  dsimp only
  repeat' split
  all_goals simp
@[simp] theorem recArmApply_bridleView (b g0) : (s.recArmApply b g0).bridleView = s.bridleView := by
  unfold State.recArmApply
  split
  all_goals simp [foldl_bridleView]
@[simp] theorem recStopAll_bridleView (reason) : (s.recStopAll reason).bridleView = s.bridleView :=
  foldl_bridleView (fun s a => by simp) _ _
@[simp] theorem recScan_bridleView (end_) : (s.recScan end_).bridleView = s.bridleView := bridleView_of rfl rfl
@[simp] theorem recPostEnd_bridleView (i) : (s.recPostEnd i).bridleView = s.bridleView := by
  unfold State.recPostEnd
  dsimp only
  repeat' split
  all_goals simp -implicitDefEqProofs
@[simp] theorem putFrame_bridleView (i d g b) : (s.putFrame i d g b).bridleView = s.bridleView := by
  unfold State.putFrame
  dsimp only
  repeat' split
  all_goals simp -implicitDefEqProofs
@[simp] theorem execRecorderFrame_bridleView (inst) : outView (execRecorderFrame inst s) = some s.bridleView := by
  unfold execRecorderFrame
  refine outView_onPath s ?_
  dsimp only
  repeat' split
  all_goals simp
@[simp] theorem recPulse_bridleView (r source) : (s.recPulse r source).bridleView = s.bridleView := by
  simp [State.recPulse]
@[simp] theorem recSpread_bridleView (type operand edge t) :
    (s.recSpread type operand edge t).bridleView = s.bridleView := bridleView_of rfl rfl
@[simp] theorem markTrig_bridleView (r slot ringOrd f) : (s.markTrig r slot ringOrd f).bridleView = s.bridleView := by
  simp [State.markTrig]
@[simp] theorem listTrig_bridleView (i k g st x o) : (s.listTrig i k g st x o).bridleView = s.bridleView := by
  simp [State.listTrig]
@[simp] theorem openSeg_bridleView (i k x st f first record segment flags ringOrd) :
    (s.openSeg i k x st f first record segment flags ringOrd).bridleView = s.bridleView := by simp [State.openSeg]
@[simp] theorem newRecord_bridleView (i x st f) : (s.newRecord i x st f).bridleView = s.bridleView := by
  unfold State.newRecord
  dsimp only
  repeat' split
  all_goals simp
@[simp] theorem contRecord_bridleView (i x st f last) : (s.contRecord i x st f last).bridleView = s.bridleView := by
  unfold State.contRecord
  dsimp only
  split <;> simp
@[simp] theorem judgeTrig_bridleView (i x f) : (s.judgeTrig i x f).bridleView = s.bridleView := by
  unfold State.judgeTrig
  dsimp only
  repeat' split
  all_goals simp
@[simp] theorem execRecorderTrigger_bridleView (inst src) :
    outView (execRecorderTrigger inst src s) = some s.bridleView := by
  unfold execRecorderTrigger
  refine outView_onPath s ?_
  dsimp only
  repeat' split
  all_goals simp
@[simp] theorem execXtrigEdge_bridleView (p at_) : outView (execXtrigEdge p at_ s) = some s.bridleView := by
  unfold execXtrigEdge
  dsimp only
  repeat' split
  all_goals simp
@[simp] theorem execTrigInputEdge_bridleView (n rising at_) :
    outView (execTrigInputEdge n rising at_ s) = some s.bridleView := by simp [execTrigInputEdge]
@[simp] theorem execXtrigPulseEnd_bridleView : outView (execXtrigPulseEnd s) = some s.bridleView := by
  unfold execXtrigPulseEnd
  dsimp only
  split <;> simp -implicitDefEqProofs
@[simp] theorem execSegmentClose_bridleView (inst) : outView (execSegmentClose inst s) = some s.bridleView := by
  unfold execSegmentClose
  dsimp only
  repeat' split
  all_goals simp
@[simp] theorem execRecorderOverflow_bridleView (inst) : outView (execRecorderOverflow inst s) = some s.bridleView := by
  simp [execRecorderOverflow]
@[simp] theorem execRearmHoldoffEnd_bridleView (inst) : outView (execRearmHoldoffEnd inst s) = some s.bridleView := by
  unfold execRearmHoldoffEnd
  dsimp only
  split <;> simp
@[simp] theorem acqPower_bridleView : s.acqPower.bridleView = s.bridleView := by simp [State.acqPower]
@[simp] theorem execRecCfg_bridleView (p) : outView (execRecCfg p s) = some s.bridleView := 
  outView_run s fun _ _ => by simp [cmdRecCfg]
@[simp] theorem execRecArm_bridleView (p) : outView (execRecArm p s) = some s.bridleView := 
  outView_run s fun _ _ => by simp [cmdRecArm]
@[simp] theorem execRecTrigger_bridleView (p) : outView (execRecTrigger p s) = some s.bridleView := 
  outView_run s fun _ _ => by simp [cmdRecTrigger]
@[simp] theorem execRecStatus_bridleView (p) : outView (execRecStatus p s) = some s.bridleView := 
  outView_run s fun _ _ => by simp [cmdRecStatus]
@[simp] theorem execRecSlots_bridleView (p) : outView (execRecSlots p s) = some s.bridleView := 
  outView_run s fun _ _ => by simp [cmdRecSlots]
@[simp] theorem execRecRelease_bridleView (p) : outView (execRecRelease p s) = some s.bridleView := 
  outView_run s fun _ _ => by simp [cmdRecRelease]
@[simp] theorem execRecLogRead_bridleView (p) : outView (execRecLogRead p s) = some s.bridleView := 
  outView_run s fun _ _ => by simp [cmdRecLogRead]

/-! ### Longe -/

@[simp] theorem execLongeCfg_bridleView (p) : outView (execLongeCfg p s) = some s.bridleView := 
  outView_run s fun _ _ => by simp [cmdLongeCfg]
@[simp] theorem execLongeStart_bridleView (p) : outView (execLongeStart p s) = some s.bridleView := 
  outView_run s fun _ _ => by simp [cmdLongeStart]
@[simp] theorem longeBegin_bridleView (ord at_) : (s.longeBegin ord at_).bridleView = s.bridleView :=
  bridleView_of rfl rfl
@[simp] theorem longeSettle_bridleView : s.longeSettle.bridleView = s.bridleView := by simp [State.longeSettle]
@[simp] theorem longeStopAll_bridleView : s.longeStopAll.bridleView = s.bridleView := by simp [State.longeStopAll]
@[simp] theorem execLongeStop_bridleView (p) : outView (execLongeStop p s) = some s.bridleView := 
  outView_run s fun _ _ => by simp [cmdLongeStop]
@[simp] theorem execLongeStatus_bridleView (p) : outView (execLongeStatus p s) = some s.bridleView := 
  outView_run s fun _ _ => by simp [cmdLongeStatus]
@[simp] theorem lgTap_bridleView (b i) : (s.lgTap b i).2.bridleView = s.bridleView := by
  unfold State.lgTap
  dsimp only
  repeat' split
  all_goals simp
@[simp] theorem lgTaps_bridleView (b k l) : (State.lgTaps b k l s).2.bridleView = s.bridleView := by
  induction k generalizing l s with
  | zero => rfl
  | succ k ih => simp [State.lgTaps, ih]
@[simp] theorem lgValues_bridleView (c x t) : (s.lgValues c x t).2.bridleView = s.bridleView := by
  unfold State.lgValues
  dsimp only
  repeat' split
  all_goals simp -implicitDefEqProofs
@[simp] theorem lgGroup_bridleView (k b l g) : (s.lgGroup k b l g).bridleView = s.bridleView := by
  unfold State.lgGroup
  split
  all_goals simp [foldl_bridleView]
@[simp] theorem lgSend_bridleView (k b l) : (s.lgSend k b l).bridleView = s.bridleView := by
  unfold State.lgSend
  dsimp only
  repeat' split
  all_goals simp [foldl_bridleView]
@[simp] theorem lgNext_bridleView (c k l) : (State.lgNext c k l s).2.bridleView = s.bridleView := by
  induction k generalizing l s with
  | zero => rfl
  | succ k ih =>
    unfold State.lgNext
    dsimp only
    repeat' split
    all_goals simp [ih]
@[simp] theorem execLongeSample_bridleView (k) : outView (execLongeSample k s) = some s.bridleView := by
  unfold execLongeSample
  refine outView_onPath s ?_
  dsimp only
  repeat' split
  all_goals simp
@[simp] theorem execLongeSourceEnd_bridleView (k) : outView (execLongeSourceEnd k s) = some s.bridleView := by
  unfold execLongeSourceEnd
  dsimp only
  repeat' split
  all_goals simp

/-! ### The table commit -/

@[simp] theorem alnUnbind_bridleView (k) : (s.alnUnbind k).bridleView = s.bridleView := bridleView_of rfl rfl
@[simp] theorem svChange_bridleView (k old new) : (s.svChange k old new).bridleView = s.bridleView := by
  unfold State.svChange
  split <;> simp
@[simp] theorem subChange_bridleView (k old new) : (s.subChange k old new).bridleView = s.bridleView := by
  unfold State.subChange
  split <;> simp
@[simp] theorem pubCommit_bridleView (p old new) : (s.pubCommit p old new).bridleView = s.bridleView := by
  unfold State.pubCommit
  split <;> simp
@[simp] theorem slotFree_bridleView (key p) : (s.slotFree key p).bridleView = s.bridleView := by simp [State.slotFree]
@[simp] theorem bindsCommit_bridleView : s.bindsCommit.bridleView = s.bridleView :=
  foldl_bridleView (fun s a => by simp) _ _
@[simp] theorem portsCommit_bridleView (old) : (s.portsCommit old).bridleView = s.bridleView :=
  foldl_bridleView (fun s a => by simp) _ _
@[simp] theorem fdbCommit_bridleView : s.fdbCommit.bridleView = s.bridleView := bridleView_of rfl rfl
@[simp] theorem tablesTake_bridleView (old) : (s.tablesTake old).bridleView = s.bridleView := by
  simp [State.tablesTake, foldl_bridleView]
@[simp] theorem execTblCommit_bridleView (p) : outView (execTblCommit p s) = some s.bridleView := 
  outView_run s fun _ _ => by simp [cmdTblCommit]
@[simp] theorem execTblDiscard_bridleView (p) : outView (execTblDiscard p s) = some s.bridleView := 
  outView_run s fun _ _ => by simp [cmdTblDiscard]
@[simp] theorem execSvLoad_bridleView (p) : outView (execSvLoad p s) = some s.bridleView := 
  outView_run s fun _ _ => by simp [cmdSvLoad]

/-! ### The grid second mark -/

@[simp] theorem alnTake_bridleView (b) : (s.alnTake b).bridleView = s.bridleView := by simp [State.alnTake]
@[simp] theorem markApply_bridleView (g0 ord at_ c) : (s.markApply g0 ord at_ c).bridleView = s.bridleView := by
  unfold State.markApply
  split <;> simp
@[simp] theorem marksApply_bridleView (g0 ord at_) : (s.marksApply g0 ord at_).bridleView = s.bridleView :=
  foldl_bridleView (fun s a => by simp) _ _
@[simp] theorem snowline_bridleView : s.snowline.bridleView = s.bridleView := bridleView_of rfl rfl
@[simp] theorem extrapolated_bridleView : s.extrapolated.bridleView = s.bridleView := by
  unfold State.extrapolated
  dsimp only
  split <;> simp
@[simp] theorem openSecond_bridleView (ord g0) : (s.openSecond ord g0).bridleView = s.bridleView :=
  bridleView_of rfl rfl
@[simp] theorem stepAll_bridleView : s.stepAll.bridleView = s.bridleView := by
  simp [State.stepAll, foldl_bridleView]
@[simp] theorem ppsPulse_bridleView : s.ppsPulse.bridleView = s.bridleView := by simp [State.ppsPulse]
@[simp] theorem markHooks_bridleView : s.markHooks.bridleView = s.bridleView := by
  unfold State.markHooks
  dsimp only
  split <;> simp
@[simp] theorem execGridSecondMark_bridleView : outView (execGridSecondMark s) = some s.bridleView := by
  simp [execGridSecondMark]

/-! ### Tamper records and zeroisation -/

@[simp] theorem execModReset_bridleView (p) : outView (execModReset p s) = some s.bridleView := 
  outView_run s fun _ _ => by simp [cmdModReset]
@[simp] theorem execModResetCause_bridleView (p) : outView (execModResetCause p s) = some s.bridleView := 
  outView_run s fun _ _ => by simp [cmdModResetCause]
@[simp] theorem latch_bridleView (code detail) : (s.latch code detail).bridleView = s.bridleView :=
  bridleView_of rfl rfl
@[simp] theorem causeTake_bridleView (lost) : (s.causeTake lost).bridleView = s.bridleView := by
  simp -implicitDefEqProofs [State.causeTake]
@[simp] theorem zeroise_bridleView : s.zeroise.bridleView = s.bridleView := bridleView_of rfl rfl
@[simp] theorem tamperCounted_bridleView : s.tamperCounted.bridleView = s.bridleView := bridleView_of rfl rfl
@[simp] theorem keepRec_bridleView (code data) : (s.keepRec code data).bridleView = s.bridleView :=
  bridleView_of rfl rfl
@[simp] theorem tamperRecords_bridleView (kept src state op) :
    (s.tamperRecords kept src state op).bridleView = s.bridleView := by simp [State.tamperRecords]
@[simp] theorem execSealSwitchChange_bridleView (pos on) :
    outView (execSealSwitchChange pos on s) = some s.bridleView := by simp [execSealSwitchChange]
@[simp] theorem sensed_bridleView (sensor t) : (s.sensed sensor t).2.bridleView = s.bridleView := by
  unfold State.sensed
  split <;> simp
@[simp] theorem execTempWarnRaise_bridleView (sensor t) : outView (execTempWarnRaise sensor t s) = some s.bridleView :=
  by simp [execTempWarnRaise]
@[simp] theorem execTempWarnClear_bridleView : outView (execTempWarnClear s) = some s.bridleView := by
  simp [execTempWarnClear]
@[simp] theorem cellMeasured_bridleView (mv) : (s.cellMeasured mv).bridleView = s.bridleView := by
  simp [State.cellMeasured]
@[simp] theorem execCellMeasure_bridleView (mv) : outView (execCellMeasure mv s) = some s.bridleView := by
  simp [execCellMeasure]
@[simp] theorem execCellInsertion_bridleView : outView (execCellInsertion s) = some s.bridleView := by
  simp [execCellInsertion]

/-! ### Supplies and resets -/

@[simp] theorem dspOff_bridleView : s.dspOff.bridleView = s.bridleView := bridleView_of rfl rfl
@[simp] theorem upStart_bridleView : s.upStart.bridleView = s.bridleView := bridleView_of rfl rfl
@[simp] theorem execSuppliesGood_bridleView (j2) : outView (execSuppliesGood j2 s) = some s.bridleView := by
  unfold execSuppliesGood
  split <;> simp
@[simp] theorem hostUp_bridleView (refclk) : (s.hostUp refclk).bridleView = s.bridleView := by simp [State.hostUp]
@[simp] theorem execDomainPowerGood_bridleView (d refclk) :
    outView (execDomainPowerGood d refclk s) = some s.bridleView := by
  unfold execDomainPowerGood
  split <;> simp
@[simp] theorem execPowerSeqRetry_bridleView : outView (execPowerSeqRetry s) = some s.bridleView := by
  simp [execPowerSeqRetry]
@[simp] theorem downStart_bridleView (byReset) : (s.downStart byReset).bridleView = s.bridleView := by
  simp [State.downStart]
@[simp] theorem latchLower_bridleView (code detail) : (s.latchLower code detail).bridleView = s.bridleView := by
  unfold State.latchLower
  dsimp only
  repeat' split
  all_goals simp
@[simp] theorem execPowerFailDetect_bridleView : outView (execPowerFailDetect s) = some s.bridleView := by
  unfold execPowerFailDetect
  split <;> simp
@[simp] theorem resetWith_bridleView (c detail) : (s.resetWith c detail).bridleView = s.bridleView := by
  unfold State.resetWith
  dsimp only
  split <;> simp
@[simp] theorem execModuleReset_bridleView (c detail) : outView (execModuleReset c detail s) = some s.bridleView := by
  unfold execModuleReset
  split <;> simp
@[simp] theorem execThermalReset_bridleView (sensor) : outView (execThermalReset sensor s) = some s.bridleView := by
  simp [execThermalReset]
@[simp] theorem execThermalRelease_bridleView : outView (execThermalRelease s) = some s.bridleView := by
  simp [execThermalRelease]
@[simp] theorem execRootPllUnlock_bridleView : outView (execRootPllUnlock s) = some s.bridleView := by
  simp [execRootPllUnlock]
@[simp] theorem execOscFault_bridleView : outView (execOscFault s) = some s.bridleView := by simp [execOscFault]
@[simp] theorem execWatchdogExpiry_bridleView : outView (execWatchdogExpiry s) = some s.bridleView := by
  simp [execWatchdogExpiry]
@[simp] theorem execResetCountExpiry_bridleView : outView (execResetCountExpiry s) = some s.bridleView := by
  unfold execResetCountExpiry
  split <;> simp -implicitDefEqProofs
@[simp] theorem execJ2Loss_bridleView : outView (execJ2Loss s) = some s.bridleView := by simp [execJ2Loss]
@[simp] theorem execAoSupplyChangeover_bridleView (v33 aux cell) :
    outView (execAoSupplyChangeover v33 aux cell s) = some s.bridleView := by simp [execAoSupplyChangeover]
@[simp] theorem execAoBrownout_bridleView : outView (execAoBrownout s) = some s.bridleView := by simp [execAoBrownout]

/-! ### The boot timeline -/

@[simp] theorem rootMake_bridleView (bankB) : (s.rootMake bankB).bridleView = s.bridleView := by simp [State.rootMake]
@[simp] theorem rootStep_bridleView (b) : (s.rootStep b).2.bridleView = s.bridleView := by simp [State.rootStep]
@[simp] theorem pickImage_bridleView (b counted) : (s.pickImage b counted).2.2.bridleView = s.bridleView := by
  unfold State.pickImage
  dsimp only
  split <;> simp
@[simp] theorem firnBoot_bridleView (lost) : (s.firnBoot lost).bridleView = s.bridleView := by
  unfold State.firnBoot
  split
  all_goals simp -implicitDefEqProofs [foldl_bridleView]

/-! ### The DMA engine -/

@[simp] theorem setDma_bridleView (n c) : (s.setDma n c).bridleView = s.bridleView := bridleView_of rfl rfl
@[simp] theorem execDmaTailWrite_bridleView (ch v) : outView (execDmaTailWrite ch v s) = some s.bridleView := by
  simp [execDmaTailWrite]
@[simp] theorem execDmaEnable_bridleView (ch) : outView (execDmaEnable ch s) = some s.bridleView := by
  simp [execDmaEnable]
@[simp] theorem execDmaDisable_bridleView (ch) : outView (execDmaDisable ch s) = some s.bridleView := by
  simp [execDmaDisable]
@[simp] theorem execDmaDescriptorFetch_bridleView (ch f) :
    outView (execDmaDescriptorFetch ch f s) = some s.bridleView := by
  unfold execDmaDescriptorFetch
  split <;> simp
@[simp] theorem dmaEnd_bridleView (ch r status aborted) : (s.dmaEnd ch r status aborted).bridleView = s.bridleView := by
  simp [State.dmaEnd]
@[simp] theorem execDmaDescriptorStart_bridleView (ch) : outView (execDmaDescriptorStart ch s) = some s.bridleView := by
  unfold execDmaDescriptorStart
  dsimp only
  split <;> simp
@[simp] theorem hostWrite_bridleView (addr b poison) : (s.hostWrite addr b poison).bridleView = s.bridleView :=
  bridleView_of rfl rfl
@[simp] theorem dmaBeat_bridleView (ch) : (s.dmaBeat ch).bridleView = s.bridleView := by
  unfold State.dmaBeat
  dsimp only
  split <;> simp
@[simp] theorem execDmaBeatArbitration_bridleView : outView (execDmaBeatArbitration s) = some s.bridleView := by
  unfold execDmaBeatArbitration
  dsimp only
  repeat' split
  all_goals simp
@[simp] theorem dmaBeats_bridleView (ch target k) : (State.dmaBeats ch target k s).bridleView = s.bridleView := by
  induction k generalizing s with
  | zero => rfl
  | succ k ih =>
    unfold State.dmaBeats
    split
    · simp [ih]
    · rfl
@[simp] theorem execDmaReadCompletion_bridleView (ch f poison) :
    outView (execDmaReadCompletion ch f poison s) = some s.bridleView := by
  unfold execDmaReadCompletion
  dsimp only
  repeat' split
  all_goals simp
@[simp] theorem execDmaDescriptorEnd_bridleView (ch) : outView (execDmaDescriptorEnd ch s) = some s.bridleView := by
  unfold execDmaDescriptorEnd
  dsimp only
  split <;> simp
@[simp] theorem execDmaShadowArm_bridleView (ch atEdge) : outView (execDmaShadowArm ch atEdge s) = some s.bridleView :=
  by simp [execDmaShadowArm]
@[simp] theorem execDmaShadowDisarm_bridleView (ch taken) :
    outView (execDmaShadowDisarm ch taken s) = some s.bridleView := by simp [execDmaShadowDisarm]
@[simp] theorem execDmaAbort_bridleView (ch) : outView (execDmaAbort ch s) = some s.bridleView := by
  unfold execDmaAbort
  dsimp only
  repeat' split
  all_goals simp
@[simp] theorem execDmaAbortDone_bridleView (ch) : outView (execDmaAbortDone ch s) = some s.bridleView := by
  unfold execDmaAbortDone
  dsimp only
  repeat' split
  all_goals simp

/-! ### Errors in on-die SRAM -/

@[simp] theorem sramLog_bridleView (kind code row) : (s.sramLog kind code row).bridleView = s.bridleView :=
  bridleView_of rfl rfl
@[simp] theorem sramCe_bridleView (code row) : (s.sramCe code row).bridleView = s.bridleView := by simp [State.sramCe]
@[simp] theorem bufferLost_bridleView (fid) : (s.bufferLost fid).bridleView = s.bridleView := by
  simp [State.bufferLost, foldl_bridleView]
@[simp] theorem elementLost_bridleView (i) : (s.elementLost i).bridleView = s.bridleView := by
  unfold State.elementLost
  split <;> simp
@[simp] theorem scrubFinds_bridleView (ue a) : (s.scrubFinds ue a).bridleView = s.bridleView := by
  simp [State.scrubFinds]
@[simp] theorem execFirmwareScrub_bridleView (ce ue poison) :
    outView (execFirmwareScrub ce ue poison s) = some s.bridleView := by
  unfold execFirmwareScrub
  dsimp only
  repeat' split
  all_goals simp [foldl_bridleView]

/-! ### Injection, activities and images -/

@[simp] theorem execDiagInject_bridleView (p) : outView (execDiagInject p s) = some s.bridleView :=
  outView_run s fun e t => by
  dsimp only [cmdDiagInject]
  repeat' split
  all_goals simp
@[simp] theorem execDiagInjectStatus_bridleView (p) : outView (execDiagInjectStatus p s) = some s.bridleView := 
  outView_run s fun _ _ => by simp [cmdDiagInjectStatus]
@[simp] theorem execDiagActivities_bridleView (p) : outView (execDiagActivities p s) = some s.bridleView := 
  outView_run s fun _ _ => by simp [cmdDiagActivities]
@[simp] theorem execInjectionExpiry_bridleView (n) : outView (execInjectionExpiry n s) = some s.bridleView := by
  unfold execInjectionExpiry
  dsimp only
  repeat' split
  all_goals simp
@[simp] theorem setImage_bridleView (n i) : (s.setImage n i).bridleView = s.bridleView := by simp [State.setImage]
@[simp] theorem fwRecord_bridleView (what slot svn) : (s.fwRecord what slot svn).bridleView = s.bridleView := by
  simp [State.fwRecord]
@[simp] theorem execFwInstall_bridleView (p) : outView (execFwInstall p s) = some s.bridleView :=
  outView_run s fun e t => by
  dsimp only [cmdFwInstall]
  repeat' split
  all_goals simp
@[simp] theorem execFwSelect_bridleView (p) : outView (execFwSelect p s) = some s.bridleView :=
  outView_run s fun e t => by
  dsimp only [cmdFwSelect]
  repeat' split
  all_goals simp
@[simp] theorem execFwInfo_bridleView (p) : outView (execFwInfo p s) = some s.bridleView := 
  outView_run s fun _ _ => by simp [cmdFwInfo]

/-! ### Values that come out of the alignment engine -/

@[simp] theorem emitted_bridleView (path) : (s.emitted path).bridleView = s.bridleView := by simp [State.emitted]
@[simp] theorem execFineEmission_bridleView (k) : outView (execFineEmission k s) = some s.bridleView := by
  unfold execFineEmission
  refine outView_onPath s ?_
  dsimp only
  split <;> simp
@[simp] theorem putCoarse_bridleView (k g vals) : (s.putCoarse k g vals).bridleView = s.bridleView :=
  bridleView_of rfl rfl
@[simp] theorem execCoarseValue_bridleView (k) : outView (execCoarseValue k s) = some s.bridleView := by
  unfold execCoarseValue
  refine outView_onPath s ?_
  dsimp only
  repeat' split
  all_goals simp
@[simp] theorem execCoarseDeadline_bridleView (k) : outView (execCoarseDeadline k s) = some s.bridleView := by
  unfold execCoarseDeadline
  refine outView_onPath s ?_
  dsimp only
  split <;> simp

/-! ### The state blob of a virtual function -/

@[simp] theorem execVfSave_bridleView (p) : outView (execVfSave p s) = some s.bridleView := 
  outView_run s fun _ _ => by simp [cmdVfSave]
@[simp] theorem slotRestore_bridleView (n trip k) : (s.slotRestore n trip k).bridleView = s.bridleView := by
  unfold State.slotRestore
  split <;> simp
@[simp] theorem slabResume_bridleView (k) : (s.slabResume k).bridleView = s.bridleView := by
  unfold State.slabResume
  split <;> simp
@[simp] theorem vfRestore_bridleView (n b) : (s.vfRestore n b).bridleView = s.bridleView := by
  simp [State.vfRestore, foldl_bridleView]
@[simp] theorem execVfRestore_bridleView (p) : outView (execVfRestore p s) = some s.bridleView := 
  outView_run s fun _ _ => by simp [cmdVfRestore]

/-! ### Resets of the host interface -/

@[simp] theorem fnReset_bridleView (n) : (s.fnReset n).bridleView = s.bridleView := by simp [State.fnReset]
@[simp] theorem hostReset_bridleView (kind) : (s.hostReset kind).bridleView = s.bridleView := by
  unfold State.hostReset
  split
  all_goals simp [foldl_bridleView]
@[simp] theorem execPerstAssert_bridleView : outView (execPerstAssert s) = some s.bridleView := by
  simp [execPerstAssert]
@[simp] theorem execPcieHotReset_bridleView : outView (execPcieHotReset s) = some s.bridleView := by
  simp [execPcieHotReset]
@[simp] theorem execPcieLinkDown_bridleView : outView (execPcieLinkDown s) = some s.bridleView := by
  simp [execPcieLinkDown]
@[simp] theorem execPfFlr_bridleView : outView (execPfFlr s) = some s.bridleView := by simp [execPfFlr]
@[simp] theorem execPcieLinkTrained_bridleView (speed width) :
    outView (execPcieLinkTrained speed width s) = some s.bridleView := by simp [execPcieLinkTrained]

/-! ### Scans of the logic -/

@[simp] theorem userFault_bridleView : s.userFault.bridleView = s.bridleView := by simp [State.userFault]
@[simp] theorem userRecord_bridleView (codes) : (s.userRecord codes).bridleView = s.bridleView := by
  unfold State.userRecord
  split <;> simp
@[simp] theorem scanLatch_bridleView (step) : (s.scanLatch step).bridleView = s.bridleView := bridleView_of rfl rfl
@[simp] theorem scanRun_bridleView (tb event) : (s.scanRun tb event).1.bridleView = s.bridleView := by
  unfold State.scanRun
  dsimp only
  repeat' split
  all_goals simp
@[simp] theorem scanStretch_bridleView : s.scanStretch.2.bridleView = s.bridleView := by
  unfold State.scanStretch
  split <;> simp
@[simp] theorem retentiveCopy_bridleView : s.retentiveCopy.bridleView = s.bridleView := by
  unfold State.retentiveCopy
  split <;> simp
@[simp] theorem scanClose_bridleView (start codes acks) : (s.scanClose start codes acks).bridleView = s.bridleView := by
  simp [State.scanClose, foldl_bridleView]
@[simp] theorem execLogicOverrun_bridleView : outView (execLogicOverrun s) = some s.bridleView := by
  simp -implicitDefEqProofs [execLogicOverrun]

/-! ### PTP messages -/

@[simp] theorem ptpSend_bridleView (port kind seq corr ingress) :
    (s.ptpSend port kind seq corr ingress).bridleView = s.bridleView := by simp [State.ptpSend]
@[simp] theorem ptpForward_bridleView (m kind corr ingress) :
    (s.ptpForward m kind corr ingress).bridleView = s.bridleView := foldl_bridleView (fun s a => by simp) _ _
@[simp] theorem ptpCount_bridleView (port pos) : (s.ptpCount port pos).bridleView = s.bridleView := by
  unfold State.ptpCount
  split <;> simp
@[simp] theorem ptpAuthOk_bridleView (m) : (s.ptpAuthOk m).2.bridleView = s.bridleView := by simp [State.ptpAuthOk]
@[simp] theorem gmTo_bridleView (d) : (s.gmTo d).bridleView = s.bridleView := by simp [State.gmTo]
@[simp] theorem ptpTake_bridleView (m at_) {f : State → State} (hf : ∀ t, (f t).bridleView = t.bridleView) :
    outView (s.ptpTake m at_ f) = some s.bridleView := by
  unfold State.ptpTake
  dsimp only
  repeat' split
  all_goals simp [hf]
@[simp] theorem bmca_bridleView : s.bmca.bridleView = s.bridleView := by
  unfold State.bmca
  dsimp only
  repeat' split
  all_goals simp [foldl_bridleView]
@[simp] theorem parentAnnounce_bridleView (d) : (s.parentAnnounce d).bridleView = s.bridleView := by
  simp [State.parentAnnounce]
@[simp] theorem execPtpAnnounceReceive_bridleView (m a at_) :
    outView (execPtpAnnounceReceive m a at_ s) = some s.bridleView := by simp [execPtpAnnounceReceive]
@[simp] theorem steer_bridleView : s.steer.bridleView = s.bridleView := bridleView_of rfl rfl
@[simp] theorem servoSync_bridleView (o) : (s.servoSync o).bridleView = s.bridleView := by
  unfold State.servoSync
  split <;> simp
@[simp] theorem validSync_bridleView (rx tai) : (s.validSync rx tai).bridleView = s.bridleView := by
  simp [State.validSync]
@[simp] theorem execPtpSyncReceive_bridleView (m origin corr twoStep at_) :
    outView (execPtpSyncReceive m origin corr twoStep at_ s) = some s.bridleView := by simp [execPtpSyncReceive]
@[simp] theorem execPtpFollowUpReceive_bridleView (m origin corr at_) :
    outView (execPtpFollowUpReceive m origin corr at_ s) = some s.bridleView := ptpTake_bridleView s m at_ fun t => by
  dsimp only
  repeat' split
  all_goals simp
@[simp] theorem execPtpSourceLost_bridleView : outView (execPtpSourceLost s) = some s.bridleView := by
  simp -implicitDefEqProofs [execPtpSourceLost]
@[simp] theorem delayDone_bridleView (port d2) : (s.delayDone port d2).bridleView = s.bridleView := by
  simp -implicitDefEqProofs [State.delayDone]
@[simp] theorem delayAsk_bridleView (port kind) : (s.delayAsk port kind).bridleView = s.bridleView := by
  simp [State.delayAsk]
@[simp] theorem execPtpPdelayReqSend_bridleView (port) : outView (execPtpPdelayReqSend port s) = some s.bridleView := by
  simp [execPtpPdelayReqSend]
@[simp] theorem execPtpDelayReqSend_bridleView (port) : outView (execPtpDelayReqSend port s) = some s.bridleView := by
  simp [execPtpDelayReqSend]
@[simp] theorem execPtpPdelayReqReceive_bridleView (m at_) :
    outView (execPtpPdelayReqReceive m at_ s) = some s.bridleView := by simp [execPtpPdelayReqReceive]
@[simp] theorem execPtpDelayReqReceive_bridleView (m at_) :
    outView (execPtpDelayReqReceive m at_ s) = some s.bridleView := by simp [execPtpDelayReqReceive]
@[simp] theorem execPtpPdelayRespReceive_bridleView (m t3 corr at_) :
    outView (execPtpPdelayRespReceive m t3 corr at_ s) = some s.bridleView := ptpTake_bridleView s m at_ fun t => by
  dsimp only
  repeat' split
  all_goals simp
@[simp] theorem execPtpDelayRespReceive_bridleView (m rx corr at_) :
    outView (execPtpDelayRespReceive m rx corr at_ s) = some s.bridleView := ptpTake_bridleView s m at_ fun t => by
  dsimp only
  repeat' split
  all_goals simp
@[simp] theorem execPtpPdelayTimeout_bridleView (port) : outView (execPtpPdelayTimeout port s) = some s.bridleView := by
  unfold execPtpPdelayTimeout
  split <;> simp -implicitDefEqProofs
@[simp] theorem execPtpSyncSend_bridleView (port) : outView (execPtpSyncSend port s) = some s.bridleView := by
  simp [execPtpSyncSend]
@[simp] theorem execPtpAnnounceSend_bridleView (port) : outView (execPtpAnnounceSend port s) = some s.bridleView := by
  simp [execPtpAnnounceSend]

/-! ### Register writes -/

@[simp] theorem viaRow_bridleView {o : Out} (h : outView o = some s.bridleView) :
    (s.viaRow o).bridleView = s.bridleView := by
  unfold State.viaRow
  split
  · simpa using h
  · rfl
@[simp] theorem putMb_bridleView (p off v) : (s.putMb p off v).bridleView = s.bridleView := by
  unfold State.putMb
  split <;> simp
@[simp] theorem putDma_bridleView (ch off v) : (s.putDma ch off v).bridleView = s.bridleView := by
  unfold State.putDma
  split <;> simp
@[simp] theorem putEcc_bridleView (off v) : (s.putEcc off v).bridleView = s.bridleView := by
  unfold State.putEcc
  split <;> simp
@[simp] theorem putMsix_bridleView (fn off v) : (s.putMsix fn off v).bridleView = s.bridleView := by
  unfold State.putMsix
  split <;> simp
@[simp] theorem putPf_bridleView (off v) : (s.putPf off v).bridleView = s.bridleView := by simp [State.putPf]
@[simp] theorem putQueue_bridleView (n q off v) : (s.putQueue n q off v).bridleView = s.bridleView := by
  unfold State.putQueue
  dsimp only
  repeat' split
  all_goals simp
@[simp] theorem putVf_bridleView (n off v) : (s.putVf n off v).bridleView = s.bridleView := by
  simp -implicitDefEqProofs [State.putVf]
@[simp] theorem execRegisterWrite_bridleView (fn off v allBytes) :
    outView (execRegisterWrite fn off v allBytes s) = some s.bridleView := by simp [execRegisterWrite]
@[simp] theorem idleTick_bridleView : s.idleTick.bridleView = s.bridleView := by simp [State.idleTick]

end

section

variable {s t : State}

/-! ## The invariant on views -/

theorem bridleView_state (h : t.bridleView = s.bridleView) : t.mod.state = s.mod.state := congrArg (·.2.1) h
theorem bridleView_armTake (h : t.bridleView = s.bridleView) : t.red.armTake = s.red.armTake := congrArg (·.2.2) h

/-- A view of a unit that acts on the plant, or is armed to, is one in OPERATE or MAINTAIN. -/
def ViewInState (v : Bool × Nat × Bool) : Prop := (v.1 = true ∨ v.2.2 = true) → v.2.1 = 2 ∨ v.2.1 = 3

theorem bridleInState_iff : BridleInState s ↔ ViewInState s.bridleView := Iff.rfl

@[simp] theorem viewInState_released (n : Nat) : ViewInState (false, n, false) := by simp [ViewInState]

/-- A unit in BOOT holds and arms nothing. -/
theorem bridleView_boot (h : BridleInState s) (h0 : s.mod.state = 0) : s.bridleView = (false, 0, false) := by
  unfold BridleInState at h
  unfold State.bridleView
  simp_all

theorem acting_state (h : s.acting = true) : s.mod.state = 2 ∨ s.mod.state = 3 := by
  simp only [State.acting, Bool.and_eq_true, Bool.or_eq_true, beq_iff_eq] at h
  exact h.1

/-! ## The operations that change the view (R62, R456, R468 to R470) -/

variable (s)

@[simp] theorem letGo_bridleView (r : Nat) : (s.letGo r).bridleView = (false, s.mod.state, s.red.armTake) := by
  unfold State.letGo
  split
  · rename_i h
    simp only [Bool.not_eq_eq_eq_not, Bool.not_true] at h
    rw [← h]; rfl
  · have h5 := handoverEnd_bridleView s (some 5)
    dsimp only
    split <;> simp [bridleView_state h5, bridleView_armTake h5]

@[simp] theorem gain_bridleView (ovr : Bool) : (s.gain ovr).bridleView = (true, s.mod.state, s.red.armTake) := by
  simp [State.gain]

@[simp] theorem stateTo_bridleView (new cause : Nat) :
    (s.stateTo new cause).bridleView = (s.mod.bridle, new, s.red.armTake) := by
  simp [State.stateTo]

/-- PD_MGMT off: the module is in BOOT, and its arbiter is not armed. -/
@[simp] theorem mgmtOff_bridleView : s.mgmtOff.bridleView = (false, 0, false) := by
  simp [State.mgmtOff, State.linesDrop]

@[simp] theorem aoOnly_bridleView : s.aoOnly.bridleView = (false, 0, false) := by
  simp [State.aoOnly, State.mgmtOff, RedBlk.lines]

@[simp] theorem romStop_bridleView (reason : Nat) : (s.romStop reason).bridleView = (s.mod.bridle, 4, s.red.armTake) := by
  have h := causeTake_bridleView s s.aoDoubt
  simp only [State.bridleView, Prod.mk.injEq] at h
  simp [State.romStop, State.keepRec, h]

/-! ## Conditions as they stand (R456, R468, R469) -/

theorem singleSettle_inState : BridleInState s.singleSettle := by
  unfold State.singleSettle
  dsimp only
  rw [bridleInState_iff, roleTo_bridleView]
  split
  · rename_i h
    simp only [Bool.and_eq_true] at h
    have ha := acting_state h.1
    simpa [ViewInState] using ha
  · split
    · simp
    · rename_i h
      simp only [Bool.not_eq_eq_eq_not, Bool.not_true, Bool.not_eq_false] at h
      have ha := acting_state h
      intro _
      exact ha

theorem mayArm_state (h : s.mayArm = true) : s.mod.state = 2 ∨ s.mod.state = 3 := by
  simp only [State.mayArm, Bool.and_eq_true] at h
  exact acting_state h.1.1.1.2

theorem pairSettle_inState : BridleInState s.pairSettle := by
  unfold State.pairSettle
  extract_lets u arm red1 s1 red2 s2 s3 s4 take red3 s5
  have hgo : ∀ r, (s.letGo r).mod.bridle = false ∧ (s.letGo r).mod.state = s.mod.state := by
    intro r
    have h := letGo_bridleView s r
    simp only [State.bridleView, Prod.mk.injEq] at h
    exact ⟨h.1, h.2.1⟩
  have hstate : u.mod.state = s.mod.state := by
    dsimp only [u]
    repeat' split
    all_goals simp [hgo]
  have hheld : u.mod.bridle = true → s.acting = true := by
    by_cases ha : s.acting = true
    · exact fun _ => ha
    · simp [u, ha, hgo]
  have hview : s5.farrier.bridleView = (u.mod.bridle, u.mod.state, arm) := by
    simp [s5, red3, s4, s3, s2, red2, s1, red1]
  rw [bridleInState_iff, hview]
  rintro (hb | harm)
  · rw [hstate]; exact acting_state (hheld hb)
  · exact mayArm_state u harm

theorem redSettle_inState : BridleInState s.redSettle := by
  unfold State.redSettle
  split
  · exact pairSettle_inState s
  · exact singleSettle_inState s

/-- The conditions as they stand leave a unit that acts on the plant, or may, in OPERATE or MAINTAIN. -/
@[simp] theorem redSettle_view : ViewInState s.redSettle.bridleView := redSettle_inState s

/-! ## Changes of state, FAILSAFE and tamper (R62, R63, R430, R505) -/

@[simp] theorem enterConfigure_view (cause logicCause : Nat) : ViewInState (s.enterConfigure cause logicCause).bridleView :=
  redSettle_view _

@[simp] theorem enterOperate_view (cause : Nat) : ViewInState (s.enterOperate cause).bridleView := redSettle_view _

@[simp] theorem enterMaintain_view (cause : Nat) : ViewInState (s.enterMaintain cause).bridleView := redSettle_view _

@[simp] theorem setTo_view (target cause : Nat) : ViewInState (s.setTo target cause).bridleView := by
  unfold State.setTo
  split <;> simp

@[simp] theorem failsafe_view (reason cause : Nat) : ViewInState (s.failsafe reason cause).bridleView := redSettle_view _

variable {s}

/-- ROM's FAILSAFE is entered from BOOT, where the unit neither holds nor is armed. -/
theorem romStop_view (h : ViewInState s.bridleView) (h0 : s.mod.state = 0) (reason : Nat) :
    ViewInState (s.romStop reason).bridleView := by
  have hb := bridleView_boot h h0
  simp only [State.bridleView, Prod.mk.injEq] at hb
  simp [hb]

theorem tamper_view (h : ViewInState s.bridleView) (src : Nat) : ViewInState (s.tamper src).bridleView := by
  unfold State.tamper
  split
  · exact h
  · split
    · simp [h]
    · extract_lets was op sec u
      have hu : u.bridleView = s.bridleView := by simp [u, sec]
      split
      · simp [hu, h]
      · split
        · rename_i h0
          rw [tamperRecords_bridleView]
          exact romStop_view (by rwa [hu]) ((bridleView_state hu).trans h0) _
        · simp

theorem loopSample_view (h : ViewInState s.bridleView) (o : Bool) : ViewInState (s.loopSample o).bridleView := by
  unfold State.loopSample
  extract_lets was sec u v w
  have hw : w.bridleView = s.bridleView := by
    simp [w, v, u, sec]
  split
  · exact tamper_view (by rwa [hw]) 1
  · rwa [hw]

/-! ## The boot (R64, R68, R507) -/

theorem autostart_view (h : ViewInState s.bridleView) : ViewInState s.autostart.bridleView := by
  unfold State.autostart
  repeat' split
  all_goals simp [h]

/-- Nyming's FAILSAFE in BOOT: what is written with it keeps the view. -/
theorem bootStop_view (h : ViewInState s.bridleView) (h0 : s.mod.state = 0) (reason : Nat) {own : State → State}
    (hown : ∀ t, (own t).bridleView = t.bridleView) : ViewInState (s.bootStop reason own).bridleView := by
  have hb := bridleView_boot h h0
  unfold State.bootStop
  extract_lets lost u v w m
  have hv : v.bridleView = (false, 0, false) := by simp [v, u, hb]
  simp only [State.bridleView, Prod.mk.injEq] at hv
  simp [hown, m, w, hv]

theorem bootTamper_view (h : ViewInState s.bridleView) (h0 : s.mod.state = 0) (src : Nat) :
    ViewInState (s.bootTamper src).bridleView := by
  unfold State.bootTamper
  extract_lets sec u
  have hu : u.bridleView = s.bridleView := by simp [u, sec]
  exact bootStop_view (by rwa [hu]) ((bridleView_state hu).trans h0) _ (by simp)

@[simp] theorem bootRun_view (s : State) (b : BootInput) (made revert : Bool) : ViewInState (s.bootRun b made revert).bridleView :=
  autostart_view (enterConfigure_view _ _ _)

theorem boot_view (h : ViewInState s.bridleView) (h0 : s.mod.state = 0) (b : BootInput) : ViewInState (s.boot b).bridleView := by
  unfold State.boot
  extract_lets l sec u
  have hu : u.bridleView = s.bridleView := by simp [u, sec]
  have keeps : ∀ {t : State}, t.bridleView = u.bridleView → ViewInState t.bridleView ∧ t.mod.state = 0 := fun ht =>
    ⟨by rwa [ht, hu], (bridleView_state (ht.trans hu)).trans h0⟩
  split
  · exact tamper_view (keeps rfl).1 1
  · split
    all_goals
      rename_i hroot
      have hr := snd_bridleView u hroot (rootStep_bridleView u b)
    · exact tamper_view (keeps hr).1 5
    · exact romStop_view (keeps hr).1 (keeps hr).2 _
    · split
      all_goals
        rename_i hpick
        have hp := (snd_bridleView _ (congrArg Prod.snd hpick) (pickImage_bridleView ..)).trans hr
        obtain ⟨hv, hb⟩ := keeps hp
      · exact romStop_view hv hb _
      · dsimp only
        repeat' split
        · exact bootStop_view hv hb _ fun _ => rfl
        · exact bootStop_view hv hb _ (by simp)
        · exact bootTamper_view hv hb _
        · exact bootRun_view _ _ _ _
        · exact bootRun_view _ _ _ _

/-! ## Outcomes -/

/-- An outcome that goes on, goes on to a state whose view is one of `ViewInState`. -/
def OutInState (o : Out) : Prop := ∀ v, outView o = some v → ViewInState v

@[simp] theorem outInState_next : OutInState (.next t) ↔ ViewInState t.bridleView := by simp [OutInState]

theorem outInState_of_view {o : Out} (hv : outView o = some s.bridleView) (h : ViewInState s.bridleView) : OutInState o := by
  intro v e
  rw [hv, Option.some.injEq] at e
  exact e ▸ h

/-- A command whose own effect ends in such a view leads to one. -/
theorem run_view {c : Cmd} {p : Path} (h : ViewInState s.bridleView)
    (hc : ∀ e t, ViewInState t.bridleView → ViewInState (c.body p e t).bridleView) : ViewInState (s.run c p).bridleView := by
  have hk : ∀ r, ViewInState (s.checks c p r).2.bridleView := fun r => by rw [checks_bridleView]; exact h
  unfold State.run
  split
  · exact h
  · rename_i e _
    split
    · exact h
    · extract_lets k
      split
      · rw [complete_bridleView]; exact hk _
      · have hb := hc e k.2 (hk _)
        split
        all_goals
          rename_i hbody
          rw [hbody] at hb
        · rwa [complete_bridleView]
        · split
          · rwa [setExec_bridleView]
          · exact hb

/-! ## Rows that settle the arbiter (chapter 22) -/

theorem execModStateSet_inState (p : Path) (h : ViewInState s.bridleView) : OutInState (execModStateSet p s) :=
  outInState_next.2 (run_view h fun _ _ _ => setTo_view _ _ _)

theorem execRedIsolate_inState (p : Path) (h : ViewInState s.bridleView) : OutInState (execRedIsolate p s) :=
  outInState_next.2 (run_view h fun _ _ _ => redSettle_view _)

theorem execBridleLineChange_inState (line : Nat) (v : Bool) (h : ViewInState s.bridleView) :
    OutInState (execBridleLineChange line v s) := by
  unfold execBridleLineChange
  rw [outInState_next]
  repeat' split
  all_goals simp [h]

theorem execHbwQuiet_inState (h : ViewInState s.bridleView) : OutInState (execHbwQuiet s) := by
  unfold execHbwQuiet
  rw [outInState_next]
  split
  · exact h
  · exact redSettle_view _

theorem execBrdDisc_inState (set : Bool) (h : ViewInState s.bridleView) : OutInState (execBrdDisc set s) := by
  unfold execBrdDisc
  rw [outInState_next]
  split
  · exact h
  · exact redSettle_view _

theorem execBridleClaim_inState : OutInState (execBridleClaim s) := by
  unfold execBridleClaim
  rw [outInState_next]
  dsimp only
  repeat' split
  all_goals simp

theorem execBridleClaimComplete_inState (h : ViewInState s.bridleView) : OutInState (execBridleClaimComplete s) := by
  unfold execBridleClaimComplete
  rw [outInState_next]
  split
  · split
    · rename_i hc
      simp only [Bool.and_eq_true] at hc
      rw [gain_bridleView]
      exact fun _ => acting_state hc.1.2
    · exact h
  · exact h

theorem execBridleContention_inState (h : ViewInState s.bridleView) : OutInState (execBridleContention s) := by
  unfold execBridleContention
  rw [outInState_next]
  split
  · split
    · extract_lets u red v lets
      split
      · exact redSettle_view _
      · simp [v, u, red, h]
    · exact h
  · exact h

theorem execBridleRelease_inState (reason : Nat) (h : ViewInState s.bridleView) : OutInState (execBridleRelease reason s) := by
  unfold execBridleRelease
  rw [outInState_next]
  extract_lets ok
  split
  · rw [letGo_bridleView]
    exact fun ha => h (.inr (ha.resolve_left Bool.false_ne_true))
  · exact h

theorem execHeartbeatReceive_inState (path : Nat) (b : Bytes) (at_ : Nat) (h : ViewInState s.bridleView) :
    OutInState (execHeartbeatReceive path b at_ s) := by
  unfold execHeartbeatReceive
  extract_lets u h2 x
  rw [outInState_next]
  split
  · exact h
  · exact redSettle_view _

theorem execHeartbeatWindow_inState (path : Nat) (h : ViewInState s.bridleView) : OutInState (execHeartbeatWindow path s) := by
  unfold execHeartbeatWindow
  extract_lets h2 x
  rw [outInState_next]
  split
  · exact h
  · exact redSettle_view _

theorem execFwStall_inState (h : ViewInState s.bridleView) : OutInState (execFwStall s) := by
  unfold execFwStall
  rw [outInState_next]
  split
  · exact redSettle_view _
  · exact h

theorem execHbGenFail_inState (h : ViewInState s.bridleView) : OutInState (execHbGenFail s) := by
  unfold execHbGenFail
  rw [outInState_next]
  split
  · exact redSettle_view _
  · exact h

theorem execPortsDown_inState (h : ViewInState s.bridleView) : OutInState (execPortsDown s) := by
  unfold execPortsDown
  rw [outInState_next]
  split
  · exact h
  · exact redSettle_view _

theorem execPresInChange_inState (v : Bool) (h : ViewInState s.bridleView) : OutInState (execPresInChange v s) := by
  unfold execPresInChange
  rw [outInState_next]
  split
  · exact h
  · exact redSettle_view _

theorem execLogicFault_inState : OutInState (execLogicFault s) := outInState_next.2 (redSettle_view _)

theorem execSafetySlot_inState (i : SlotInput) (h : ViewInState s.bridleView) : OutInState (execSafetySlot i s) := by
  unfold execSafetySlot
  rw [outInState_next]
  dsimp only
  split
  · exact redSettle_view _
  · rwa [safetySlot_bridleView]

@[simp] theorem handoverGo_view (s : State) : ViewInState s.handoverGo.bridleView := redSettle_view _

theorem execHandoverRelease_inState (h : ViewInState s.bridleView) : OutInState (execHandoverRelease s) := by
  unfold execHandoverRelease
  rw [outInState_next]
  split
  · exact handoverGo_view _
  · exact h

theorem execHandoverAbort_inState (h : ViewInState s.bridleView) : OutInState (execHandoverAbort s) := by
  unfold execHandoverAbort
  rw [outInState_next]
  split
  · dsimp only
    split
    · simp [h]
    · exact redSettle_view _
  · exact h

/-! ## Rows of power, tamper, boot and SRAM (chapters 2, 3 and 21) -/

theorem execPowerSeqTimeout_inState (d : Domain) (h : ViewInState s.bridleView) : OutInState (execPowerSeqTimeout d s) := by
  unfold execPowerSeqTimeout
  rw [outInState_next]
  split
  · split
    · have ha := aoOnly_bridleView (s.latch 3 0)
      simp only [State.bridleView, Prod.mk.injEq] at ha
      simp [ha]
    · exact h
  · exact h

theorem execPowerFailStep_inState (h : ViewInState s.bridleView) : OutInState (execPowerFailStep s) := by
  have hm := mgmtOff_bridleView s
  have ha := aoOnly_bridleView s
  simp only [State.bridleView, Prod.mk.injEq] at hm ha
  unfold execPowerFailStep
  rw [outInState_next]
  split
  · rename_i r l _
    have hg : (((s.clockTo (s.power.downAt + 10000)).letGo (if r then 2 else 1)).allOff 3).bridleView =
        (false, s.mod.state, s.red.armTake) := by simp -implicitDefEqProofs
    simp only [State.bridleView, Prod.mk.injEq] at hg
    simp [State.linesDrop, hg]
  · simp -implicitDefEqProofs [h]
  · simp -implicitDefEqProofs [h]
  · simp [hm]
  · simp [ha]
  · exact h

theorem execTamperEvent_inState (src : Nat) (h : ViewInState s.bridleView) : OutInState (execTamperEvent src s) :=
  outInState_next.2 (tamper_view h src)

theorem execDebugTapAccess_inState (h : ViewInState s.bridleView) : OutInState (execDebugTapAccess s) :=
  outInState_next.2 (tamper_view h 6)

theorem execTamperLoopSample_inState (o : Bool) (h : ViewInState s.bridleView) : OutInState (execTamperLoopSample o s) := by
  refine outInState_next.2 (loopSample_view ?_ _)
  split
  · exact h
  · rwa [inject_bridleView]

theorem execBootSequence_inState (b : BootInput) (h : ViewInState s.bridleView) : OutInState (execBootSequence b s) := by
  unfold execBootSequence
  rw [outInState_next]
  split
  · rename_i hc
    simp only [Bool.and_eq_true, beq_iff_eq] at hc
    exact boot_view h hc.2 b
  · exact h

theorem sramLost_view (h : ViewInState s.bridleView) (code row : Nat) : ViewInState (s.sramLost code row).bridleView := by
  unfold State.sramLost
  split
  case h_2 => exact redSettle_view _
  case h_8 =>
    extract_lets c
    split <;> simp [h]
  all_goals
    repeat' split
    all_goals simp [h]

theorem sramUe_view (h : ViewInState s.bridleView) (code row : Nat) : ViewInState (s.sramUe code row).bridleView := by
  unfold State.sramUe
  repeat' split
  · simp [h]
  · simp [h]
  · exact sramLost_view (by simp [h]) _ _
  · simp [h]

theorem execSramError_inState (code : Nat) (ue : Bool) (row : Nat) (h : ViewInState s.bridleView) :
    OutInState (execSramError code ue row s) := by
  unfold execSramError
  rw [outInState_next]
  repeat' split
  · exact sramUe_view h _ _
  · simp [h]
  · exact h

theorem execInjectionApplied_inState (n : Nat) (h : ViewInState s.bridleView) : OutInState (execInjectionApplied n s) := by
  unfold execInjectionApplied
  rw [outInState_next]
  split
  · exact h
  · extract_lets t d
    have ht : t.bridleView = s.bridleView := by simp [t]
    have hd : ViewInState d.2.bridleView := by simp [d, ht, h]
    repeat' split
    case' isFalse.isFalse.isTrue.isTrue => exact sramUe_view hd _ _
    all_goals simp [ht, hd, h]

/-! ## Scans of the logic (R244, R249, R480) -/

theorem scanOpen_view (h : ViewInState s.bridleView) (id : Option (Nat × Nat)) (tb : Nat) :
    ViewInState (s.scanOpen id tb).1.bridleView := by
  unfold State.scanOpen
  dsimp only
  repeat' split
  all_goals simp [h]

theorem scan_view (h : ViewInState s.bridleView) (id : Option (Nat × Nat)) (tb : Nat) (step : Bool) :
    ViewInState (s.scan id tb step).bridleView := by
  simpa [State.scan] using scanOpen_view h id tb

theorem stepScans_view (n : Nat) (h : ViewInState s.bridleView) : ViewInState (State.stepScans n s).bridleView := by
  induction n generalizing s with
  | zero => exact h
  | succ n ih => exact ih (scan_view h _ _ _)

theorem execLogStep_inState (p : Path) (h : ViewInState s.bridleView) : OutInState (execLogStep p s) :=
  outInState_next.2 (run_view h fun _ _ ht => stepScans_view _ ht)

theorem execLogicScan_inState (h : ViewInState s.bridleView) : OutInState (execLogicScan s) := by
  unfold execLogicScan
  rw [outInState_next]
  dsimp only
  split
  · refine scan_view ?_ _ _ _
    split <;> simp [h]
  · exact h

/-! ## Every row -/

theorem exec_inState (c : Instr) (h : ViewInState s.bridleView) : OutInState (exec c s) := by
  cases c
  case modStateSet p => exact execModStateSet_inState p h
  case redIsolate p => exact execRedIsolate_inState p h
  case logStep p => exact execLogStep_inState p h
  case bridleLineChange line v => exact execBridleLineChange_inState line v h
  case hbwQuiet => exact execHbwQuiet_inState h
  case brdDisc set => exact execBrdDisc_inState set h
  case bridleClaim => exact execBridleClaim_inState
  case bridleClaimComplete => exact execBridleClaimComplete_inState h
  case bridleContention => exact execBridleContention_inState h
  case bridleRelease reason => exact execBridleRelease_inState reason h
  case heartbeatReceive path b at_ => exact execHeartbeatReceive_inState path b at_ h
  case heartbeatWindow path => exact execHeartbeatWindow_inState path h
  case fwStall => exact execFwStall_inState h
  case hbGenFail => exact execHbGenFail_inState h
  case portsDown => exact execPortsDown_inState h
  case presInChange v => exact execPresInChange_inState v h
  case logicFault => exact execLogicFault_inState
  case safetySlot i => exact execSafetySlot_inState i h
  case handoverRelease => exact execHandoverRelease_inState h
  case handoverAbort => exact execHandoverAbort_inState h
  case powerSeqTimeout d => exact execPowerSeqTimeout_inState d h
  case powerFailStep => exact execPowerFailStep_inState h
  case tamperEvent src => exact execTamperEvent_inState src h
  case debugTapAccess => exact execDebugTapAccess_inState h
  case tamperLoopSample o => exact execTamperLoopSample_inState o h
  case bootSequence b => exact execBootSequence_inState b h
  case sramError code ue row => exact execSramError_inState code ue row h
  case injectionApplied n => exact execInjectionApplied_inState n h
  case logicScan => exact execLogicScan_inState h
  all_goals exact outInState_of_view (by simp [exec]) h
/-- Settles O59: a row keeps the view, or settles the arbiter, or moves the module from a state that holds nothing. -/
theorem bridleStaysInState : Obligations.BridleStaysInState := by
  unfold Obligations.BridleStaysInState
  intro s t h hstep
  unfold step at hstep
  split at hstep
  · rw [Host.Outcome.next.injEq] at hstep
    rw [← hstep, bridleInState_iff, idleTick_bridleView]
    exact h
  · rename_i c rest _
    have ho := exec_inState (s := { s with pending := rest }) c (by simpa using bridleInState_iff.1 h)
    rw [hstep, outInState_next] at ho
    exact ho

end

end Machine
end Sys2Proof

/-! PROOFS. The always-on supply, J2, the cell, the seal switches and the temperature warning (O5). -/

namespace Sys2Proof
namespace Machine

variable {s : State}

/-! ## The loss of J2 (R20, R48) -/

/-- Where J2 did not count as present, only the converters move to the slot. -/
theorem exec_j2Loss_absent (h : s.mod.aux12 = false) :
    exec .j2Loss s = .next { s with power := { s.power with onJ2 := false, j2Good := false } } := by
  simp [exec, execJ2Loss, h]

theorem exec_j2Loss_present (h : s.mod.aux12 = true) (hl : s.mod.aux12Lost = false) (h1 : 1 ≤ s.mod.state)
    (h3 : s.mod.state ≤ 3) : exec .j2Loss s = .next (State.longeStopAll (State.recStopAll
      ({ s with power.onJ2 := false, power.j2Good := false, mod.aux12Lost := true }.alarm 24 true 0) 4)) := by
  simp only [exec, execJ2Loss]
  rw [if_pos (by simp [h, hl, h1, h3])]

/-! ## The cell (R56) -/

/-- Past BOOT, a measurement is taken. -/
theorem exec_cellMeasure (hm : .mgmt ∈ s.power.on) (hb : s.mod.state ≠ 0) (mv : Nat) :
    exec (.cellMeasure mv) s = .next (s.cellMeasured mv) := by
  simp only [exec, execCellMeasure]
  rw [if_pos (by simp [hm, hb])]

theorem cellMeasured_same {mv : Nat} (h : decide (mv < 2600) = s.mod.cellLow) :
    s.cellMeasured mv = { s with power := { s.power with cellMv := mv, cellAt := s.now, cellDue := false } } :=
  if_pos h

theorem cellMeasured_change {mv : Nat} (h : decide (mv < 2600) ≠ s.mod.cellLow) : s.cellMeasured mv =
    { s with
      power := { s.power with cellMv := mv, cellAt := s.now, cellDue := false }
      mod.cellLow := decide (mv < 2600) }.alarm 30 (decide (mv < 2600)) 0 :=
  if_neg h

/-! ## Seal switches and the temperature warning (R26, R44, R45) -/

theorem exec_sealSwitchChange {pos : Nat} {on : Bool} (hs : .safe ∈ s.power.on) (hm : .mgmt ∈ s.power.on)
    (h1 : 1 ≤ pos) (h4 : pos ≤ 4) (hc : s.power.seals.getD (pos - 1) false ≠ on) : exec (.sealSwitchChange pos on) s =
      .next ({ s with power.seals := s.power.seals.set (pos - 1) on }.firnEv 0x0105
        (leBytes 1 pos ++ leBytes 1 (b2n on))) := by
  simp only [exec, execSealSwitchChange]
  rw [if_pos (by simp only [List.contains_iff_mem, Bool.and_eq_true, decide_eq_true_eq, bne_iff_ne]
                 exact ⟨⟨⟨hs, h1⟩, h4⟩, hc⟩), if_pos (by simpa using hm)]

/-- A sensor with no injection armed reads its own temperature. -/
theorem sensed_of_none {k : Nat} (h : s.injection 0x20 k 0 = none) (c : Int) : s.sensed k c = (c, s) := by
  simp [State.sensed, h]

theorem exec_tempWarnRaise {k : Nat} {c : Int} (hm : .mgmt ∈ s.power.on) (hk : k < 8) (hw : s.mod.tempWarn = false)
    (hi : s.injection 0x20 k 0 = none) (hc : 100 ≤ c) :
    exec (.tempWarnRaise k c) s = .next ({ s with mod.tempWarn := true }.alarm 31 true k) := by
  simp only [exec, execTempWarnRaise, sensed_of_none hi]
  rw [if_pos (by simp [hm, hk, hw]), if_pos hc]

theorem exec_tempWarnClear (h : s.mod.tempWarn = true) :
    exec .tempWarnClear s = .next ({ s with mod.tempWarn := false }.alarm 31 false 0) := by
  simp only [exec, execTempWarnClear]
  rw [if_pos h]

/-- Settles O5: each clause is the row's own branch; CELL_MEASURE is split by whether CELL_LOW changes. -/
theorem supplyEvents : Obligations.SupplyEvents := by
  unfold Obligations.SupplyEvents
  refine ⟨fun v33 aux cell s => rfl, fun s => rfl, fun s h => exec_j2Loss_absent h,
    fun s h hl h1 h3 => exec_j2Loss_present h hl h1 h3, fun s => rfl, fun mv s hm hb h => ?same,
    fun mv s hm hb h => ?change, fun pos on s hs hm h1 h4 hc => exec_sealSwitchChange hs hm h1 h4 hc,
    fun k c s hm hk hw hi hc => exec_tempWarnRaise hm hk hw hi hc, fun s h => exec_tempWarnClear h⟩
  case same => rw [exec_cellMeasure hm hb, cellMeasured_same h]
  case change => rw [exec_cellMeasure hm hb, cellMeasured_change h]

end Machine
end Sys2Proof

/-! PROOFS. What a row that runs a command does once the command is accepted, and with it the setting and status
commands of alignment, phasors and guards (O30). -/

namespace Sys2Proof
namespace Machine

/-! ## Rows that run a command (R97, R98) -/

section

variable {i : Path → Instr} {c : Cmd} {f : Path → Exec → State → State} {resp : Resp} {xp : XpResp}

/-- A row that runs `c` ends as the body of `c` does. -/
theorem ends_of_body {pre : Path → Exec → State → Prop} {st : Nat} (hi : ∀ p s, exec (i p) s = .next (s.run c p))
    (hb : ∀ p e t, pre p e t → c.body p e t = .done (f p e t) st (resp p e t) (xp p e t)) : Ends i c pre st f resp xp :=
  fun p e s t ha hp => by rw [hi, run_done ha (hb p e t hp)]

theorem completes_of_body (hi : ∀ p s, exec (i p) s = .next (s.run c p))
    (hb : ∀ p e t, c.body p e t = .done (f p e t) stOK (resp p e t) (xp p e t)) : Completes i c f resp xp :=
  fun p e s t ha => by rw [hi, run_done ha (hb p e t)]

theorem answers_of_body (hi : ∀ p s, exec (i p) s = .next (s.run c p))
    (hb : ∀ p e t, c.body p e t = .done t stOK (resp p e t) (xp p e t)) : Answers i c resp xp :=
  completes_of_body hi hb

/-- A command whole of whose effect waits for a mark holds its change, and answers the second of that mark (R16). -/
theorem completes_atMark (hi : ∀ p s, exec (i p) s = .next (s.run c p)) (hb : c.body = atMark) :
    Completes i c (fun p e t => (t.holdChange p e).1) (fun p e t => leBytes 4 (t.holdChange p e).2) noXp :=
  completes_of_body hi fun p e t => by rw [hb]; rfl

end

/-! ## ALN_CFG under the slot-only cap (R165) -/

theorem alnCfg_capped {p : Path} {e : Exec} {t : State} (h : 4800 < gridRate (byteAt e.req.params 0) ∧ t.mod.slotCap = true) :
    cmdAlnCfg.body p e t = .done t stNO_RESOURCE [] none :=
  if_pos h

theorem alnCfg_free {p : Path} {e : Exec} {t : State}
    (h : gridRate (byteAt e.req.params 0) ≤ 4800 ∨ t.mod.slotCap = false) : cmdAlnCfg.body p e t = atMark p e t := by
  refine if_neg fun ⟨hr, hc⟩ => ?_
  rcases h with h | h
  · omega
  · simp [h] at hc

/-- Settles O30: every setting waits for its mark by `atMark`, but ALN_CFG where the cap refuses it; the others answer. -/
theorem gridSettings : Obligations.GridSettings := by
  unfold Obligations.GridSettings
  refine ⟨ends_of_body (fun _ _ => rfl) fun _ _ _ h => alnCfg_capped h,
    ends_of_body (fun _ _ => rfl) fun _ _ _ h => alnCfg_free h, completes_atMark (fun _ _ => rfl) rfl,
    completes_atMark (fun _ _ => rfl) rfl, completes_atMark (fun _ _ => rfl) rfl, completes_atMark (fun _ _ => rfl) rfl,
    completes_atMark (fun _ _ => rfl) rfl, completes_atMark (fun _ _ => rfl) rfl, completes_atMark (fun _ _ => rfl) rfl,
    answers_of_body (fun _ _ => rfl) fun _ _ _ => rfl, answers_of_body (fun _ _ => rfl) fun _ _ _ => rfl,
    answers_of_body (fun _ _ => rfl) fun _ _ _ => rfl, fun p e s t ha => ⟨_, congrArg Host.Outcome.next (run_done ha rfl)⟩,
    answers_of_body (fun _ _ => rfl) fun _ _ _ => rfl, completes_of_body (fun _ _ => rfl) fun _ _ _ => rfl⟩

end Machine
end Sys2Proof

/-! PROOFS. The logic commands (O40): a segment of LOG_LOAD, the changes that wait for a scan start or apply at once,
modes, and the commands that answer. Committed outputs reach publications, which send: that path changes nothing
that the statement reads. -/

namespace Sys2Proof
namespace Machine

/-! ## What acceptance says (R98) -/

section

variable {c : Cmd} {p : Path} {e : Exec} {s t : State}

/-- An accepted command has valid parameters, and neither its object conditions nor another activity stop it. -/
theorem accepted_judged (h : Accepted c p e s t) : c.param t p e.req = true ∧ c.state t p e.req = 0 := by
  obtain ⟨_, hk⟩ := h
  unfold State.checks at hk
  split at hk
  · simp at hk
  · extract_lets alone a u at hk
    split at hk
    · simp [stTAMPER] at hk
    · split at hk
      · simp [stAUTH] at hk
      · split at hk
        · simp [stBAD_PARAM] at hk
        · rename_i hparam
          split at hk
          · simp [stSTATE] at hk
          · split at hk
            · rename_i hst
              exact absurd (congrArg Prod.fst hk) hst
            · rename_i hst
              split at hk
              · simp [stBUSY] at hk
              · obtain ⟨-, rfl⟩ := Prod.mk.injEq .. ▸ hk
                simp only [Bool.or_eq_true, Bool.not_eq_true', not_or, Bool.not_eq_false] at hparam
                exact ⟨hparam.2, not_not.1 hst⟩

end

/-! ## What a publication that changes can do (R216 to R220) -/

section

variable (s : State)

theorem setPub_sends (p : Nat) (x : Pub) : Sends s (s.setPub p x) := ⟨_, _, _, _, _, _, _, _, rfl⟩

theorem tripLog_sends (e : TripEntry) : Sends s (s.tripLog e) := ⟨_, _, _, _, _, _, _, _, rfl⟩

theorem pubDrop_sends (p : Nat) : Sends s (s.pubDrop p) := by
  unfold State.pubDrop
  extract_lets mine old
  have h : Sends s { s with sw.queue := s.sw.queue.filter (fun c => !mine c) } := ⟨_, _, _, _, _, _, _, _, rfl⟩
  exact h.trans (Sends.foldl (fun s c => loseCopy_sends s c) _ _)

theorem pubGroup_sends (p : Nat) (b : Bytes) (tal : Nat) (log : Option Nat) (live : List Nat) (g : Option Nat × List Nat) :
    Sends s (s.pubGroup p b tal log live g) := by
  unfold State.pubGroup
  extract_lets x ports
  split
  · extract_lets q u
    have h : Sends s u := ⟨_, _, _, _, _, _, _, _, rfl⟩
    exact h.trans (Sends.foldl (fun s _ => modSend_sends s _ _ _ _) _ _)
  · exact modSend_sends ..

theorem pubSend_sends (p : Nat) (log : Option Nat) : Sends s (s.pubSend p log) := by
  unfold State.pubSend
  split
  · exact .refl s
  · split
    · exact .refl s
    · extract_lets x tal live u v
      split
      · exact Sends.foldl (fun s _ => portCount_sends s _ _) _ _
      · have hv : Sends s v := (pubDrop_sends s p).trans (Sends.foldl (fun s g => pubGroup_sends s _ _ _ _ _ g) _ _)
        exact hv.trans (setPub_sends _ _ _)

theorem pubChange_sends (p : Nat) (log : Option Nat) : Sends s (s.pubChange p log) := by
  unfold State.pubChange
  split
  · exact .refl s
  · exact (setPub_sends _ _ _).trans (pubSend_sends _ _ _)

theorem tripInput_sends (p source : Nat) (value : Bool) (index cookie : Nat) (src : Stamp) (srcExt : Nat) (every : Bool)
    (upd : Pub → Pub) : Sends s (s.tripInput p source value index cookie src srcExt every upd) := by
  unfold State.tripInput
  split
  · exact .refl s
  · extract_lets x x' changed u entry v
    split
    · exact .refl s
    · have hv : Sends s v := (setPub_sends _ _ _).trans (tripLog_sends _ _)
      split
      · exact hv.trans (pubChange_sends _ _ _)
      · exact hv

theorem pubSample_sends : Sends s s.pubSample := by
  unfold State.pubSample
  refine Sends.foldl (fun s x => ?_) _ _
  split
  · exact .refl s
  · exact pubChange_sends _ _ _

/-- A commit sets the committed outputs; all else comes of publications. -/
theorem commit_sends (q : BitVec 8192) (y : BitVec 256) (src : Stamp) (ext : Nat) :
    Sends { s with logic := { s.logic with qOut := q, yOut := y } } (s.commit q y src ext) := by
  unfold State.commit
  extract_lets old l u v
  refine Sends.trans ?_ (pubSample_sends v)
  dsimp only [v]
  split
  · exact .refl u
  · refine Sends.foldl (fun s p => ?_) _ _
    split
    · exact .refl s
    · exact tripInput_sends ..

/-- Outputs committed while no scans run. -/
theorem commitIdle_sends : ∃ q y, Sends { s with logic := { s.logic with qOut := q, yOut := y } } s.commitIdle :=
  ⟨_, _, commit_sends _ _ _ _ _⟩

end

/-! ## Changes that apply (R250, R252, R255, R258) -/

section

variable (s : State)

@[simp] theorem orphanCheck_logic (old : LogicBlk) : (s.orphanCheck old).logic = s.logic := by
  unfold State.orphanCheck
  extract_lets was
  split <;> simp

@[simp] theorem orphanCheck_cfg (old : LogicBlk) : (s.orphanCheck old).cfg = s.cfg := by
  unfold State.orphanCheck
  extract_lets was
  split <;> simp

theorem logicApply_exchange {g : Prog} (hg : s.logic.staged = some g) (tb : Nat) (st : Stamp) (p : Path) :
    ∃ img, (s.logicApply tb st (.exchange p)).1.logic =
      { s.logic with staged := none, prog := some g, img := img, firstExch := true, exchanges := inc32 s.logic.exchanges } := by
  simp only [State.logicApply, hg]
  exact ⟨_, orphanCheck_logic _ _⟩

theorem logicApply_force (tb : Nat) (st : Stamp) (b : Bytes) (p : Path) :
    (s.logicApply tb st (.force b p)).1.logic = { s.logic with forces := forceApply b s.logic.forces } := by
  simp only [State.logicApply, orphanCheck_logic]
  split
  · rfl
  · exact firnEv_logic ..

/-- The images after a restart: no F bit, output or trip request is set. -/
theorem restartAreas_clear (g : Option Prog) (cold : Bool) (r : RetCopy) :
    (restartAreas g cold r).f = [] ∧ (restartAreas g cold r).q = 0 ∧ (restartAreas g cold r).y = 0 := by
  unfold restartAreas
  split
  · exact ⟨rfl, rfl, rfl⟩
  · split <;> exact ⟨rfl, rfl, rfl⟩

theorem logicApply_restart (tb : Nat) (st : Stamp) (cold : Bool) (p : Path) :
    ∃ r, (s.logicApply tb st (.restart cold p)).1.logic =
      { s.logic with img := restartAreas s.logic.prog cold r, first := if cold then 1 else 2, retFix := true } := by
  simp only [State.logicApply]
  exact ⟨_, firnEv_logic ..⟩

end

theorem Sends.logic_eq {s t : State} (h : Sends s t) : t.logic = s.logic := by
  obtain ⟨_, _, _, _, _, _, _, _, rfl⟩ := h
  rfl

theorem Sends.cfg_eq {s t : State} (h : Sends s t) : t.cfg = s.cfg ∧ t.stored = s.stored := by
  obtain ⟨_, _, _, _, _, _, _, _, rfl⟩ := h
  exact ⟨rfl, rfl⟩

section

variable {i : Path → Instr} {c : Cmd} {p : Path} {e : Exec} {s t u : State} {x : LogicChange}

/-- A change accepted while scans run waits for the next scan start (R16). -/
theorem exec_change_scanning (hi : ∀ p s, exec (i p) s = .next (s.run c p)) (ha : Accepted c p e s t)
    (hb : c.body p e t = logicAccept p u x) (h : u.scanning = true) :
    exec (i p) s = .next ((u.logicChange x).goesOnAt p) := by
  rw [hi, run_wait ha (hb.trans (if_pos h))]

/-- A change accepted where no scans run applies at once, and the outputs are committed. -/
theorem exec_change_idle (hi : ∀ p s, exec (i p) s = .next (s.run c p)) (ha : Accepted c p e s t)
    (hb : c.body p e t = logicAccept p u x) (h : u.scanning = false) :
    ∃ v resp q y, exec (i p) s = .next (v.complete p stOK resp) ∧
      Sends { (u.logicApply u.logic.tbLast (u.stamp 17) x).1 with
        logic := { (u.logicApply u.logic.tbLast (u.stamp 17) x).1.logic with qOut := q, yOut := y } } v := by
  obtain ⟨q, y, hs⟩ := commitIdle_sends (u.logicApply u.logic.tbLast (u.stamp 17) x).1
  exact ⟨_, _, q, y, by rw [hi, run_done ha (hb.trans (if_neg (by simp [h])))], hs⟩

end

/-! ## The commands -/

section

variable {p : Path} {e : Exec} {s t : State}

/-! ### LOG_LOAD (R253) -/

theorem logLoad_first (h : byteAt e.req.params 0 = 1) : cmdLogLoad.body p e t = .done
    { t with logic := { t.logic with part := some { path := p, bytes := e.req.region, lastAt := t.now }, staged := none } }
    stOK (leBytes 4 e.req.region.length) none := by
  have hbit : Nat.testBit 1 1 = false := by decide
  simp [cmdLogLoad, h, hbit]

theorem logLoad_next {x : PartImage} (h : byteAt e.req.params 0 = 0) (hx : t.partImage = some x)
    (hl : x.bytes.length = le32 e.req.params 4) : cmdLogLoad.body p e t = .done
    { t with logic := { t.logic with
        part := some { path := p, bytes := x.bytes ++ e.req.region, lastAt := t.now }, staged := none } }
    stOK (leBytes 4 (x.bytes ++ e.req.region).length) none := by
  simp [cmdLogLoad, h, hx, hl]

theorem logLoad_offset (h : byteAt e.req.params 0 = 0 ∨ byteAt e.req.params 0 = 2)
    (hx : t.partImage = none ∨ ∃ x, t.partImage = some x ∧ x.bytes.length ≠ le32 e.req.params 4) :
    cmdLogLoad.body p e t = .done { t with logic.part := none } stBAD_PARAM [] none := by
  have hbit : byteAt e.req.params 0 % 2 = 0 := by omega
  rcases hx with hx | ⟨x, hx, hl⟩
  · simp [cmdLogLoad, hbit, hx]
  · simp [cmdLogLoad, hbit, hx, hl]

theorem logLoad_last {g : Prog} (h : byteAt e.req.params 0 = 3) (hg : checkImage e.req.region = .ok g) :
    cmdLogLoad.body p e t = .done { t with logic := { t.logic with part := none, staged := some g } } stOK
      (leBytes 4 g.wcet ++ leBytes 1 (b2n (decide (t.logic.period * 1000 < g.wcet)))) none := by
  have hbit : Nat.testBit 3 1 = true := by decide
  simp [cmdLogLoad, h, hbit, hg]

theorem logLoad_bad {k w : Nat} (h : byteAt e.req.params 0 = 3) (hg : checkImage e.req.region = .error (k, w)) :
    cmdLogLoad.body p e t = .done { t with logic.part := none } stBAD_PARAM (zeros 5 ++ leBytes 1 k ++ leBytes 4 w) none := by
  have hbit : Nat.testBit 3 1 = true := by decide
  simp [cmdLogLoad, h, hbit, hg]

/-! ### LOG_EXCHANGE, LOG_FORCE, LOG_CFG and LOG_RESTART (R250, R252, R255, R258) -/

/-- An exchange that is accepted finds a staged program. -/
theorem logExchange_staged (h : Accepted cmdLogExchange p e s t) : ∃ g, t.logic.staged = some g := by
  have hst := (accepted_judged h).2
  simp only [cmdLogExchange] at hst
  split at hst
  · exact Option.isSome_iff_exists.1 ‹_›
  · simp [stSTATE] at hst

theorem logExchange_idle (ha : Accepted cmdLogExchange p e s t) (h : t.scanning = false) :
    ∃ (u : State) (resp : Bytes), exec (.logExchange p) s = .next (u.complete p stOK resp) ∧ u.logic.staged = none ∧
      u.logic.prog = t.logic.staged ∧ u.logic.part = none ∧ u.logic.changes = t.logic.changes := by
  obtain ⟨g, hg⟩ := logExchange_staged ha
  obtain ⟨v, resp, q, y, hv, hs⟩ :=
    exec_change_idle (i := .logExchange) (u := { t with logic.part := none }) (fun _ _ => rfl) ha rfl h
  obtain ⟨img, hl⟩ := logicApply_exchange { t with logic.part := none } hg t.logic.tbLast (t.stamp 17) p
  have hlog := hs.logic_eq.trans (congrArg (fun l : LogicBlk => { l with qOut := q, yOut := y }) hl)
  refine ⟨v, resp, hv, ?_⟩
  simp [hlog, hg]

theorem logForce_idle (ha : Accepted cmdLogForce p e s t) (h : t.scanning = false) :
    ∃ (u : State) (resp : Bytes), exec (.logForce p) s = .next (u.complete p stOK resp) ∧
      u.logic.forces = forceApply e.req.params t.logic.forces ∧ u.logic.mode = t.logic.mode := by
  obtain ⟨v, resp, q, y, hv, hs⟩ := exec_change_idle (i := .logForce) (fun _ _ => rfl) ha rfl h
  refine ⟨v, resp, hv, ?_⟩
  simp [hs.logic_eq, logicApply_force]

theorem logCfg_idle (ha : Accepted cmdLogCfg p e s t) (h : t.scanning = false) :
    ∃ (u : State) (resp : Bytes), exec (.logCfg p) s = .next (u.complete p stOK resp) ∧
      u.logic.period = le32 (slice e.req.params 0 8) 0 ∧ u.cfg.logCfg = slice e.req.params 0 8 ∧
      u.stored.logCfg = slice e.req.params 0 8 := by
  obtain ⟨v, resp, q, y, hv, hs⟩ := exec_change_idle (i := .logCfg)
    (u := { t with cfg.logCfg := slice e.req.params 0 8, stored.logCfg := slice e.req.params 0 8 }) (fun _ _ => rfl) ha rfl h
  refine ⟨v, resp, hv, ?_⟩
  simp [hs.logic_eq, hs.cfg_eq, State.logicApply]

theorem logRestart_idle (ha : Accepted cmdLogRestart p e s t) (h : t.scanning = false) :
    ∃ (u : State) (resp : Bytes), exec (.logRestart p) s = .next (u.complete p stOK resp) ∧
      u.logic.forces = t.logic.forces ∧ u.logic.first = (if byteAt e.req.params 0 = 1 then 1 else 2) ∧
      u.logic.img.f = [] ∧ u.logic.img.q = 0 ∧ u.logic.img.y = 0 := by
  obtain ⟨v, resp, q, y, hv, hs⟩ := exec_change_idle (i := .logRestart) (fun _ _ => rfl) ha rfl h
  obtain ⟨r, hl⟩ := logicApply_restart t t.logic.tbLast (t.stamp 17) (byteAt e.req.params 0 == 1) p
  refine ⟨v, resp, hv, ?_⟩
  simp [hs.logic_eq, hl, restartAreas_clear]

/-! ### LOG_MODE (R248) -/

/-- A change of mode with no change waiting sets the mode, and keeps program and forces. -/
theorem logicMode_logic (h : s.logic.changes = []) (m : LogicMode) (cause : Nat) (path : Option Path) :
    (s.logicMode m cause path).logic.mode = m ∧ (s.logicMode m cause path).logic.prog = s.logic.prog ∧
      (s.logicMode m cause path).logic.forces = s.logic.forces := by
  unfold State.logicMode
  extract_lets old u v l held w x
  have hv : v.logic = s.logic := by
    dsimp only [v, u]
    split <;> split <;> simp
  have hx : x.logic.mode = m ∧ x.logic.prog = s.logic.prog ∧ x.logic.forces = s.logic.forces := by
    dsimp only [x]
    split
    · rename_i hm
      exact ⟨beq_iff_eq.1 hm, rfl, rfl⟩
    · split
      · simp [l, hv]
      · obtain ⟨q, y, hs⟩ := commitIdle_sends w
        rw [if_pos (by simp [w, l, hv, h]), hs.logic_eq]
        simp [w, l, hv]
  split
  · exact hx
  · rwa [firnEv_logic]

theorem logMode_done (ha : Accepted cmdLogMode p e s t) (hc : t.logic.changes = []) :
    ∃ u : State, exec (.logMode p) s = .next (u.complete p stOK (t.stamp 17).bytes) ∧
      u.logic.mode = (if byteAt e.req.params 0 = 0 then .run
        else if byteAt e.req.params 0 = 2 ∨ t.logic.mode = .hold then .hold else .stop) ∧
      u.logic.prog = t.logic.prog ∧ u.logic.forces = t.logic.forces := by
  have hp := (accepted_judged ha).1
  simp only [cmdLogMode, Bool.and_eq_true, decide_eq_true_eq] at hp
  obtain ⟨hmode, hprog, hforces⟩ := logicMode_logic hc _ 0 (some p)
  refine ⟨_, congrArg Host.Outcome.next (run_done ha rfl), hmode.trans ?_, hprog, hforces⟩
  split
  case h_1 h => rw [if_pos h]
  case h_2 h => simp [h]
  case h_3 h0 h1 =>
    have h2 : byteAt e.req.params 0 = 2 := by grind
    simp [h2]

end

/-- Settles O40: a change that waits is queued, one that applies at once goes through `logicApply`; the others answer. -/
theorem logicCommands : Obligations.LogicCommands := by
  unfold Obligations.LogicCommands
  refine ⟨fun p e s t b r ha hb hr => ?load, fun p e s t ha => ⟨fun h => exec_change_scanning (fun _ _ => rfl) ha rfl h,
      logExchange_idle ha⟩,
    fun p e s t ha => ⟨fun h => exec_change_scanning (fun _ _ => rfl) ha rfl h, logForce_idle ha⟩,
    fun p e s t b ha hb => ?cfg,
    fun p e s t ha => ⟨fun h => exec_change_scanning (fun _ _ => rfl) ha rfl h, logRestart_idle ha⟩,
    fun p e s t ha hc => logMode_done ha hc, fun p e s t ha => congrArg Host.Outcome.next (run_done ha rfl),
    fun n s => ⟨rfl, rfl⟩, answers_of_body (fun _ _ => rfl) fun p e t => ?read,
    answers_of_body (fun _ _ => rfl) fun _ _ _ => rfl, completes_of_body (fun _ _ => rfl) fun _ _ _ => rfl⟩
  case load =>
    subst hb hr
    exact ⟨fun h => congrArg Host.Outcome.next (run_done ha (logLoad_first h)),
      fun h x hx hl => congrArg Host.Outcome.next (run_done ha (logLoad_next h hx hl)),
      fun h hx => congrArg Host.Outcome.next (run_done ha (logLoad_offset h hx)),
      fun h g hg => congrArg Host.Outcome.next (run_done ha (logLoad_last h hg)),
      fun h k w hg => congrArg Host.Outcome.next (run_done ha (logLoad_bad h hg))⟩
  case cfg =>
    subst hb
    exact ⟨fun h => exec_change_scanning (fun _ _ => rfl) ha rfl h, logCfg_idle ha⟩
  case read => simp [cmdLogRead, noResp]

end Machine
end Sys2Proof

/-! PROOFS. The grid second mark (O28): the shift of the marks, the second they open, the snowline, and the settings
that wait. What the mark does besides (records, counters, histories, the RTC, the pulse) leaves these as they are. -/

namespace Sys2Proof
namespace Machine

/-! ## What the statement reads of a state -/

/-- What the statement of the mark reads: marks, extrapolations, seconds, snowline, waiting settings, configuration
and memory. -/
def State.markView (s : State) :
    (Mark × Mark × Option Mark × Nat) × (List GridSecond × Nat × Nat) × List MarkChange × Cfg × MemBlk :=
  ((s.time.cur, s.time.next, s.time.pend, s.time.extrapCnt), (s.aln.seconds, s.aln.target, s.aln.snow), s.sv.marks,
    s.cfg, s.mem)

section

variable (s : State)

/-- A state that agrees in what the view is of has the same view. -/
theorem markView_of {s t : State} (ht : t.time = s.time) (ha : t.aln = s.aln) (hv : t.sv = s.sv) (hc : t.cfg = s.cfg)
    (hm : t.mem = s.mem) : t.markView = s.markView := by
  simp only [State.markView, ht, ha, hv, hc, hm]

theorem firnEv_markView (code : Nat) (d : Bytes) : (s.firnEv code d).markView = s.markView :=
  markView_of (firnEv_time ..) (firnEv_aln ..) (firnEv_sv ..) (firnEv_cfg ..) (firnEv_mem ..)

theorem counted_markView (v o p k : Nat) : (s.counted v o p k).markView = s.markView :=
  markView_of (counted_time ..) (counted_aln ..) (counted_sv ..) (counted_cfg ..) (counted_mem ..)

theorem inject_markView (c o u : Nat) : (s.inject c o u).2.markView = s.markView :=
  markView_of (inject_time ..) (inject_aln ..) (inject_sv ..) (inject_cfg ..) (inject_mem ..)

theorem timeEvt_markView (b : Nat) : (s.timeEvt b).markView = s.markView := by
  unfold State.timeEvt
  extract_lets was tb u
  split
  · rfl
  · exact markView_of (s := u) (raise_time ..) (raise_aln ..) (raise_sv ..) (raise_cfg ..) (raise_mem ..)

theorem setAln_markView (k : Nat) (x : AlnStream) : (s.setAln k x).markView = s.markView := rfl

theorem historyReset_markView (k : Nat) (at_ : Rat) : (s.historyReset k at_).markView = s.markView := by
  unfold State.historyReset State.alnCount
  dsimp only
  split
  · exact firnEv_markView ..
  · rfl

theorem stepAll_markView : s.stepAll.markView = s.markView := by
  unfold State.stepAll
  extract_lets n a u
  refine foldl_keeps (fun t : State => t.markView = s.markView) _ (fun t x ht => ?_) _ _ ?_
  · exact (historyReset_markView t _ _).trans ht
  · exact counted_markView { s with aln.steps := n } _ _ _ _

theorem rtcRecord_markView (bit : Nat) : (s.rtcRecord bit).markView = s.markView :=
  (firnEv_markView _ _ _).trans (markView_of (rtcEvt_time ..) (rtcEvt_aln ..) (rtcEvt_sv ..) (rtcEvt_cfg ..) (rtcEvt_mem ..))

theorem alignLoad_markView : s.alignLoad.markView = s.markView := by
  unfold State.alignLoad
  split
  · exact rtcRecord_markView _ _
  · rfl

theorem ptpWindowOpen_markView : s.ptpWindowOpen.markView = s.markView := by
  unfold State.ptpWindowOpen
  split <;> rfl

theorem markHooks_markView : s.markHooks.markView = s.markView := by
  unfold State.markHooks
  extract_lets r u v
  have hv : v.markView = s.markView := by
    refine (ptpWindowOpen_markView _).trans ((alignLoad_markView u).trans ?_)
    dsimp only [u]
    split <;> rfl
  clear_value v
  split <;> exact hv

theorem ppsPulse_markView : s.ppsPulse.markView = s.markView := by
  unfold State.ppsPulse
  extract_lets drive
  split <;> rfl

/-- An extrapolation is counted once; a late write that an injection held back changes none of the view. -/
theorem extrapolated_markView :
    s.extrapolated.markView = { s with time.extrapCnt := inc32 s.time.extrapCnt }.markView := by
  unfold State.extrapolated
  extract_lets n tb u v w k tb'
  have hv : v.markView = { s with time.extrapCnt := inc32 s.time.extrapCnt }.markView :=
    (firnEv_markView _ _ _).trans ((counted_markView _ _ _ _ _).trans (timeEvt_markView _ _))
  have hw : w.markView = { s with time.extrapCnt := inc32 s.time.extrapCnt }.markView :=
    (inject_markView v _ _ _).trans hv
  clear_value w
  split
  · exact hv
  · exact (counted_markView _ _ _ _ _).trans ((timeEvt_markView _ _).trans hw)

/-! ## The mark as a whole (R167, R168, R318) -/

/-- The state at the mark once the settings due have applied and the snowline has moved. -/
def State.settled (s : State) : State :=
  let u := s.clockTo s.time.next.ns
  (u.marksApply u.aln.follows.2 u.aln.follows.1 u.time.next.ns).snowline

/-- That state once the marks have shifted and the second is open. -/
def State.marked (s : State) : State :=
  { s.settled with time := s.settled.time.shift }.openSecond s.aln.follows.1 s.aln.follows.2

/-- What follows the opened second; `late` says that no mark was pending. -/
def State.markEnd (s : State) (late : Bool) : State :=
  let s := if late then s.extrapolated else s
  let s := if s.time.cur.gridStep then s.stepAll else s
  s.markHooks.ppsPulse.timeEvt 0

theorem markEnd_markView (late : Bool) :
    (s.markEnd late).markView = (if late then s.extrapolated else s).markView := by
  unfold State.markEnd
  extract_lets u v
  have hv : v.markView = u.markView := by
    dsimp only [v]
    split
    · exact stepAll_markView u
    · rfl
  exact (timeEvt_markView _ _).trans ((ppsPulse_markView _).trans ((markHooks_markView v).trans hv))

variable {s}

theorem exec_gridSecondMark (h : s.time.running = true) :
    exec .gridSecondMark s = .next (s.marked.markEnd s.settled.time.pend.isNone) :=
  congrArg Host.Outcome.next (if_neg (by simp [h]))

/-- While the marks run, a mark leaves what `marked` gives, with one more extrapolation where no mark was pending. -/
theorem exec_gridSecondMark_view (h : s.time.running = true) : ∃ t, exec .gridSecondMark s = .next t ∧
    t.markView = { s.marked with time.extrapCnt :=
      if s.settled.time.pend = none then inc32 s.settled.time.extrapCnt else s.settled.time.extrapCnt }.markView := by
  refine ⟨_, exec_gridSecondMark h, (markEnd_markView _ _).trans ?_⟩
  cases hp : s.settled.time.pend with
  | none => exact extrapolated_markView _
  | some m => rfl

/-! ## The parts of the mark -/

/-- With no setting waiting, none applies. -/
theorem marksApply_nil (h : s.sv.marks = []) (g0 ord at_ : Nat) : s.marksApply g0 ord at_ = s := by
  simp only [State.marksApply, h, List.filter_nil, List.map_nil, List.foldl_nil]
  rw [← h]

theorem settled_nil (h : s.sv.marks = []) : s.settled = (s.clockTo s.time.next.ns).snowline := by
  unfold State.settled
  exact congrArg State.snowline (marksApply_nil (s := s.clockTo s.time.next.ns) h _ _ _)

/-- A setting with more marks to wait waits for one fewer (R16). -/
theorem marksApply_later {c : MarkChange} (h : s.sv.marks = [c]) (hc : 1 < c.marks) (g0 ord at_ : Nat) :
    s.marksApply g0 ord at_ = { s with sv.marks := [{ c with marks := c.marks - 1 }] } := by
  have hn : ¬ c.marks ≤ 1 := by omega
  simp [State.marksApply, h, hc, hn]

/-- A PH_CFG that waits for this mark sets P (R213). -/
theorem marksApply_phCfg {c : MarkChange} (h : s.sv.marks = [c]) (hc : c.marks ≤ 1) (ho : c.opcode = 0x0701)
    (g0 ord at_ : Nat) : (s.marksApply g0 ord at_).sv.marks = [] ∧
      (s.marksApply g0 ord at_).cfg.ph = { s.cfg.ph with p := byteAt c.params 0 } := by
  have hn : ¬ 1 < c.marks := by omega
  simp [State.marksApply, h, hc, hn, State.markApply, ho, State.phApply, State.setPh]

/-- The target of the snowline lies within S_min and S_max (R180). -/
theorem snowline_target (h : s.aln.sMin ≤ s.aln.sMax) :
    s.aln.sMin ≤ s.snowline.aln.target ∧ s.snowline.aln.target ≤ s.aln.sMax := by
  simp only [State.snowline]
  split <;> omega

/-- The snowline falls by at most 50 a second, and rises at once (R180). -/
theorem snowline_snow : if s.aln.snow ≤ s.snowline.aln.target then s.snowline.aln.snow = s.snowline.aln.target
    else s.snowline.aln.snow = max s.snowline.aln.target (s.aln.snow - 50) := by
  split
  · exact if_pos ‹_›
  · exact if_neg ‹_›

/-- The mark after the next one is the pending one, or the extrapolated one (R167, R320). -/
theorem shiftIn_some {t : TimeBlk} {m : Mark} (h : t.pend = some m) : t.shiftIn = m := by
  simp [TimeBlk.shiftIn, h]

theorem shiftIn_none {t : TimeBlk} (h : t.pend = none) :
    t.shiftIn.ns = 2 * t.next.ns - t.cur.ns ∧ t.shiftIn.sec = t.next.sec + 1 := by
  simp [TimeBlk.shiftIn, h]

/-- n counts on from the end of the newest second (R167). -/
theorem follows_of_head {a : AlnBlk} {e : GridSecond} (h : a.seconds.head? = some e) :
    a.follows = (e.ord + 1, e.g0 + e.rate) := by
  unfold AlnBlk.follows
  split <;> simp_all

end

/-- The second that a mark opens, `ord` since reset and from index `g0` on (R167, R168). -/
def State.opened (s : State) (ord g0 : Nat) : GridSecond where
  ord := ord
  sec := s.time.cur.sec
  m0 := s.time.cur.ns
  m1 := s.time.next.ns
  g0 := g0
  rate := gridRate s.aln.rate
  d := s.aln.d
  mode := s.aln.mode
  p := s.cfg.ph.p
  snow := s.aln.snow
  holdover := s.time.cur.holdover
  step := s.time.cur.gridStep
  extrap := s.time.next.extrapolated

theorem openSecond_head (s : State) (ord g0 : Nat) : (s.openSecond ord g0).aln.seconds.head? = some (s.opened ord g0) := rfl

/-- The state that a mark with no setting waiting opens its second from: the snowline moved, the marks shifted. -/
def State.shifted (s : State) : State :=
  { (s.clockTo s.time.next.ns).snowline with time := (s.clockTo s.time.next.ns).time.shift }

theorem marked_nil {s : State} (h : s.sv.marks = []) :
    s.marked = s.shifted.openSecond s.aln.follows.1 s.aln.follows.2 := by
  unfold State.marked
  rw [settled_nil h]
  rfl

/-- Settles O28: what follows the shift keeps the view of the marks, and `marked` is computed part by part. -/
theorem gridMark : Obligations.GridMark := by
  unfold Obligations.GridMark
  refine ⟨fun s h => ?stopped, fun s h hm => ?none, fun s c h hm => ?one⟩
  case stopped => simp [exec, execGridSecondMark, h]
  case none =>
    obtain ⟨t, ht, hv⟩ := exec_gridSecondMark_view h
    rw [marked_nil hm, settled_nil hm] at hv
    simp only [State.markView, Prod.mk.injEq] at hv
    obtain ⟨⟨hcur, hnext, hpend, hcnt⟩, ⟨hsec, htgt, hsnow⟩, hmarks, hcfg, hmem⟩ := hv
    replace hcur : t.time.cur = { s.time.next with gridStep := gridStep s.time.next s.time.shiftIn } := hcur
    replace hnext : t.time.next = s.time.shiftIn := hnext
    replace hcnt : t.time.extrapCnt = if s.time.pend = none then inc32 s.time.extrapCnt else s.time.extrapCnt := hcnt
    replace htgt : t.aln.target = (s.clockTo s.time.next.ns).snowline.aln.target := htgt
    replace hsnow : t.aln.snow = (s.clockTo s.time.next.ns).snowline.aln.snow := hsnow
    refine ⟨t, s.shifted.opened s.aln.follows.1 s.aln.follows.2, ht, ?_, ?_, hnext, hpend, fun m hp => ?_, fun hp => ?_,
      hsec ▸ openSecond_head .., rfl, hnext ▸ rfl, rfl, rfl, hsnow ▸ rfl, rfl, fun e he => ?_, fun hmin => ?_, ?_,
      hmarks.trans hm, hcfg, hmem⟩
    · rw [hcur]
    · rw [hcur]
      simp [gridStep]
    · rw [hnext, hcnt, hp]
      exact ⟨shiftIn_some hp, rfl⟩
    · rw [hnext, hcnt, if_pos hp]
      exact ⟨(shiftIn_none hp).1, (shiftIn_none hp).2, rfl⟩
    · simp [State.opened, follows_of_head he]
    · rw [htgt]
      exact snowline_target (s := s.clockTo s.time.next.ns) hmin
    · rw [htgt, hsnow]
      exact snowline_snow (s := s.clockTo s.time.next.ns)
  case one =>
    obtain ⟨t, ht, hv⟩ := exec_gridSecondMark_view h
    simp only [State.markView, Prod.mk.injEq] at hv
    obtain ⟨-, -, hmarks, hcfg, -⟩ := hv
    replace hmarks : t.sv.marks =
      ((s.clockTo s.time.next.ns).marksApply s.aln.follows.2 s.aln.follows.1 s.time.next.ns).sv.marks := hmarks
    replace hcfg : t.cfg =
      ((s.clockTo s.time.next.ns).marksApply s.aln.follows.2 s.aln.follows.1 s.time.next.ns).cfg := hcfg
    refine ⟨t, ht, fun hc => ?_, fun hc ho => ?_⟩
    · rw [hmarks, hcfg, marksApply_later (s := s.clockTo s.time.next.ns) hm hc]
      exact ⟨rfl, rfl⟩
    · rw [hmarks, hcfg]
      exact marksApply_phCfg (s := s.clockTo s.time.next.ns) hm hc ho _ _ _

end Machine
end Sys2Proof

/-! PROOFS. The module commands (O6) and the training of the link (O10). -/

namespace Sys2Proof
namespace Machine

variable {s : State}

/-! ## The bodies of the module commands (R63, R72, R77) -/

/-- MOD_STATE_SET makes the transition, and answers the stamp of the state it finds. -/
theorem modStateSet_body (p : Path) (e : Exec) (t : State) : cmdModStateSet.body p e t =
    .done (t.setTo (byteAt e.req.params 0) 0) stOK (leBytes 4 (byteAt e.req.params 0) ++ (t.stamp 17).bytes) none := rfl

/-- MOD_RESET only arms the reset: MODULE_RESET carries it out, 10 ms after. -/
theorem modReset_body (p : Path) (e : Exec) (t : State) : cmdModReset.body p e t = .done { t with
    mod.resetReq := some (if byteAt e.req.params 0 = 0 then .cmdWarm else .cmdCold), mod.resetAt := t.now + 10000000 }
    stOK [] none := rfl

theorem modResetCause_body (p : Path) (e : Exec) (t : State) :
    cmdModResetCause.body p e t = .done t stOK [] (some (padTo 32 t.mod.causeRecord)) := rfl

/-- Settles O6: each row runs its command, so an accepted command ends as its body does. -/
theorem moduleCommands : Obligations.ModuleCommands := by
  unfold Obligations.ModuleCommands
  exact ⟨completes_of_body (fun _ _ => rfl) modStateSet_body, completes_of_body (fun _ _ => rfl) modReset_body,
    answers_of_body (fun _ _ => rfl) modResetCause_body⟩

/-! ## The training of the link (R65, R78, R105) -/

/-- A link that trains at a code and a width that exist comes up within the limits in force. -/
theorem exec_pcieLinkTrained {sp w : Nat} (hh : .host ∈ s.power.on) (h1 : 1 ≤ sp) (h5 : sp ≤ 5) (hw : w ∈ [1, 2, 4, 8]) :
    exec (.pcieLinkTrained sp w) s = .next { s with
      host := { s.host with linkUp := true, speed := min sp s.cfg.maxSpeed, width := min w s.cfg.maxWidth } } := by
  have guard : (s.hostOn && decide (1 ≤ sp) && decide (sp ≤ 5) && [1, 2, 4, 8].contains w) = true := by
    simp only [Bool.and_eq_true, decide_eq_true_eq, List.contains_iff_mem]
    exact ⟨⟨⟨hostOn_of_mem hh, h1⟩, h5⟩, hw⟩
  exact congrArg Host.Outcome.next (if_pos guard)

/-- Settles O10: the statement's conditions are the guard of the row. -/
theorem linkTrained : Obligations.LinkTrained := by
  unfold Obligations.LinkTrained
  exact fun sp w s hh h1 h5 hw => exec_pcieLinkTrained hh h1 h5 hw

end Machine
end Sys2Proof

/-! PROOFS. The mailbox channels: doorbells, the completion head, enabling and disabling (O12), the fetch of an entry
and the expiries of R101 (O13). -/

namespace Sys2Proof
namespace Machine

variable {s : State} {p : Path}

/-! ## Tail writes (R94, R95) -/

/-- A write of the tail as it stands moves it by no slot. -/
theorem tailMove_current {size tail : Nat} (head : Nat) (h : tail < size) : (tailMove size head tail tail).1 = 0 := by
  have hd : tail + size - tail = size := by omega
  simp [tailMove, hd]

/-- A write overtakes HEAD when it moves the tail by more slots than are free. -/
theorem tailMove_overtakes {size head tail v : Nat} : (tailMove size head tail v).2 = true ↔
    (head + 2 * size - tail - 1) % size < (v + size - tail) % size :=
  decide_eq_true_iff

/-- The move of a channel's tail that a doorbell asks for. -/
def State.sqMove (s : State) (p : Path) (v : Word) : Nat × Bool :=
  tailMove (ringSize p) (s.chan p).sqHead (s.chan p).sqTail (v.toNat % ringSize p)

theorem sqTail_current {v : Word} (h : (s.sqMove p v).1 = 0) : s.sqTail p v = s := if_pos h

theorem sqTail_overtakes {v : Word} (h0 : (s.sqMove p v).1 ≠ 0) (h : (s.sqMove p v).2 = true) :
    s.sqTail p v = (s.setChan p { s.chan p with tailErr := true }).raiseCq p :=
  (if_neg h0).trans (if_pos h)

theorem sqTail_moves {v : Word} (h0 : (s.sqMove p v).1 ≠ 0) (h : (s.sqMove p v).2 ≠ true) :
    s.sqTail p v = s.setChan p { s.chan p with
      sqTail := v.toNat % ringSize p
      bells := (slotsFrom (ringSize p) (s.chan p).sqTail (s.sqMove p v).1).foldl (fun b i => b.set i (s.stamp 9))
        (s.chan p).bells } :=
  (if_neg h0).trans (if_neg h)

theorem exec_mbSqTailWrite (hs : s.hostOn = true) (hp : pathReal p = true) (v : Word) :
    exec (.mbSqTailWrite p v) s = .next (s.sqTail p v) :=
  congrArg Host.Outcome.next (if_pos (by simp [hs, hp]))

/-! ## The completion head, EN and IDLE (R93, R94) -/

theorem exec_mbCqHeadWrite (hs : s.hostOn = true) (hp : pathReal p = true) (v : Word) :
    exec (.mbCqHeadWrite p v) s = .next (s.setChan p { s.chan p with cqHead := v.toNat % ringSize p }) :=
  congrArg Host.Outcome.next (if_pos (by simp [hs, hp]))

theorem exec_mbChannelEnable (hs : s.hostOn = true) (hp : pathReal p = true) (h : (s.chan p).en = false) :
    exec (.mbChannelEnable p) s = .next (s.setChan p { s.chan p with
      en := true, enabled := true, sqTail := 0, sqHead := 0, cqHead := 0, cqTail := 0, phase := true, bells := [] }) :=
  congrArg Host.Outcome.next (if_pos (by simp [hs, hp, h]))

theorem exec_mbChannelDisable (hs : s.hostOn = true) (hp : pathReal p = true) :
    exec (.mbChannelDisable p) s = .next (s.setChan p { s.chan p with en := false, enabled := false }) :=
  congrArg Host.Outcome.next (if_pos (by simp [hs, hp]))

theorem exec_mbChannelIdle (hs : s.hostOn = true) (hp : pathReal p = true) (h : (s.chan p).enabled = false)
    (he : (s.chan p).exec = none) : exec (.mbChannelIdle p) s = .next (s.setChan p { s.chan p with idle := true }) :=
  congrArg Host.Outcome.next (if_pos (by simp [hs, hp, h, he]))

/-- Settles O12: the three clauses on the tail are the three outcomes of `sqTail`, told apart by the move asked for. -/
theorem mailboxRings : Obligations.MailboxRings := by
  unfold Obligations.MailboxRings
  intro p s hmem hp
  have hs := hostOn_of_mem hmem
  refine ⟨fun v hlt hv => ?current, fun v hover => ?overtakes, fun v n hn h0 hfree => ?moves, exec_mbCqHeadWrite hs hp,
    exec_mbChannelEnable hs hp, exec_mbChannelDisable hs hp, exec_mbChannelIdle hs hp⟩
  case current =>
    have h0 : (s.sqMove p v).1 = 0 := by
      rw [State.sqMove, hv]
      exact tailMove_current _ hlt
    rw [exec_mbSqTailWrite hs hp, sqTail_current h0]
  case overtakes =>
    have h0 : (s.sqMove p v).1 ≠ 0 := (Nat.zero_le _).trans_lt hover |>.ne'
    rw [exec_mbSqTailWrite hs hp, sqTail_overtakes h0 (tailMove_overtakes.2 hover)]
  case moves =>
    subst hn
    have hnot : (s.sqMove p v).2 ≠ true := fun h => hfree.not_gt (tailMove_overtakes.1 h)
    rw [exec_mbSqTailWrite hs hp, sqTail_moves h0 hnot]
    rfl

/-! ## The fetch of an entry (R91, R93, R97, R98) -/

/-- With no injection armed on a PF channel, none applies to its fetch. -/
theorem fetchInjected_none (h : ∀ n, p = .mb n → s.injection 0x22 n 0 = none) : s.fetchInjected p = (false, s) := by
  cases p with
  | mb n => simp [State.fetchInjected, State.inject, h n rfl]
  | vf n => rfl
  | p7 n => rfl

section

variable (hm : s.mayFetch p = true) (hi : ∀ n, p = .mb n → s.injection 0x22 n 0 = none)
include hm hi

theorem exec_mailboxFetch_ok (r : Req) : exec (.mailboxFetch p (.ok r)) s = .next (s.accept p r) :=
  congrArg Host.Outcome.next ((if_pos hm).trans (by rw [fetchInjected_none hi]; rfl))

theorem exec_mailboxFetch_failed {f : Fetch Req} (hf : ∀ x, f ≠ .ok x) :
    exec (.mailboxFetch p f) s = .next (s.fetchFailed p) := by
  refine congrArg Host.Outcome.next ((if_pos hm).trans ?_)
  rw [fetchInjected_none hi]
  cases f with
  | ok x => exact absurd rfl (hf x)
  | unsupported => rfl
  | abort => rfl
  | timeout => rfl
  | poisoned => rfl

end

/-- The state once an entry has been read: the path holds its command, with the stamp of the doorbell that covered it. -/
def State.fetched (s : State) (p : Path) (r : Req) : State :=
  s.setChan p { s.chan p with
    sqHead := ((s.chan p).sqHead + 1) % ringSize p, idle := false
    exec := some { req := r, rx := (s.chan p).bells.getD (s.chan p).sqHead {},
                   sqHead := ((s.chan p).sqHead + 1) % ringSize p } }

/-- Reading an entry changes nothing that decides whether its opcode is permitted. -/
theorem accept_known {r : Req} (h : s.opcodeOk p r.opcode = true) : s.accept p r = s.fetched p r := if_pos h

theorem accept_unknown {r : Req} (h : s.opcodeOk p r.opcode = false) : s.accept p r = (s.fetched p r).complete p 1 :=
  if_neg (ne_true_of_eq_false h)

/-! ## The expiries (R101) -/

theorem exec_authLockoutEnd {t : Nat} (h : s.sec.lockout = some t) :
    exec .authLockoutEnd s = .next { s.clockTo (t + 60000000000) with sec.lockout := none } := by
  change execAuthLockoutEnd s = _
  simp only [execAuthLockoutEnd, h]

theorem exec_nonceExpiry {b : Bytes} {t : Nat} (h : s.nonceOf p = some (b, t)) :
    exec (.nonceExpiry p) s = .next ((s.clockTo (t + 10000000000)).setNonce p none) := by
  change execNonceExpiry p s = _
  simp only [execNonceExpiry, h]

/-- Settles O13: a fetch that no injection fails accepts the entry it read or stops the channel. -/
theorem fetchAndExpiry : Obligations.FetchAndExpiry := by
  unfold Obligations.FetchAndExpiry
  refine ⟨fun p s r hm hi => ⟨fun hok => ?known, fun hok => ?unknown, fun f hf => exec_mailboxFetch_failed hm hi hf⟩,
    fun s t => exec_authLockoutEnd, fun p s b t => exec_nonceExpiry⟩
  case known => rw [exec_mailboxFetch_ok hm hi, accept_known hok]; rfl
  case unknown => rw [exec_mailboxFetch_ok hm hi, accept_unknown hok]; rfl

end Machine
end Sys2Proof

/-! PROOFS. The queue doorbells of a function, the rounds of the scheduler and function-level reset (O18). -/

namespace Sys2Proof
namespace Machine

variable {s : State}

/-! ## Queue doorbells (R95, R107, R108) -/

section

variable {n q : Nat} (hq : s.queueOk n q = true) (v : Word)
include hq

theorem exec_vfRxqTailWrite : exec (.vfRxqTailWrite n q v) s = .next (
    let x := (s.fn n).queue q
    let t := v.toNat % 4096
    if x.rxSize ≤ t then s
    else if (tailMove x.rxSize x.rxHead x.rxTail t).2 then (s.setQueue n q { x with tailErr := true }).raiseVf n 1
    else s.setQueue n q { x with rxTail := t }) :=
  congrArg Host.Outcome.next (if_pos hq)

theorem exec_vfTxqTailWrite : exec (.vfTxqTailWrite n q v) s = .next (
    let x := (s.fn n).queue q
    let t := v.toNat % 4096
    if x.txSize ≤ t then s
    else if (tailMove x.txSize x.txHead x.txTail t).2 then (s.setQueue n q { x with tailErr := true }).raiseVf n 1
    else s.setQueue n q { x with txTail := t }) :=
  congrArg Host.Outcome.next (if_pos hq)

end

/-! ## Rounds of the scheduler (R120, R121) -/

/-- A round that no VF_SHARE_SET waits for completes nothing. -/
theorem exec_schedulerRound (h : s.sched.waiters = []) : exec .schedulerRound s = .next (
    let u := s.clockTo (s.sched.round + 10000)
    let fns := u.fns.mapV (fun _ f => { f with weight := f.newWeight.getD f.weight, newWeight := none })
    let act := fns.filter (fun x => !x.2.staged.isEmpty)
    { u with
      fns := fns
      sched := { u.sched with
        round := u.now, slabBytes := 0, waiters := []
        quota := act.map (fun x => (x.1, ((240000 - u.sched.slabBytes) * x.2.weight / (act.map (fun x => x.2.weight)).sum : Nat) +
          min 0 (u.sched.quota.getD x.1 0))) } }) := by
  change execSchedulerRound s = _
  simp only [execSchedulerRound, clockTo_sched, h, List.foldl_nil]
  rfl

/-! ## Reads of a function and of a channel after their own update -/

@[simp] theorem fn_setFn (s : State) (n : Nat) (f : Fn) : (s.setFn n f).fn n = f := by
  simp [State.fn, State.setFn, Tbl.getD, tbl_get_set_same]

@[simp] theorem chan_setChan (s : State) (p : Path) (c : Chan) : (s.setChan p c).chan p = c := by
  simp [State.chan, State.setChan, Tbl.getD, tbl_get_set_same]

/-! ## Staged frames that go (R115, R122) -/

/-- `t` is `s` but for Firn, the host interface, the shared buffer and the functions, and of function `n` only the
count of lost frames differs. -/
def DropsOf (n : Nat) (s t : State) : Prop :=
  (∃ q f h w y, t = { s with ao.firnSeq := q, firn := f, host := h, sw := w, fns := y }) ∧
    ∃ k, t.fn n = { s.fn n with rxDrop := k }

theorem DropsOf.refl (n : Nat) (s : State) : DropsOf n s s := ⟨⟨_, _, _, _, _, rfl⟩, _, rfl⟩

theorem DropsOf.trans {n : Nat} {s t u : State} (a : DropsOf n s t) (b : DropsOf n t u) : DropsOf n s u := by
  obtain ⟨⟨_, _, _, _, _, rfl⟩, _, ha⟩ := a
  obtain ⟨⟨_, _, _, _, _, rfl⟩, k, hb⟩ := b
  exact ⟨⟨_, _, _, _, _, rfl⟩, k, by rw [hb, ha]⟩

theorem release_drops (s : State) (n fid : Nat) : DropsOf n s (s.release fid) := by
  unfold State.release
  split
  · split <;> exact ⟨⟨_, _, _, _, _, rfl⟩, _, rfl⟩
  · exact .refl n s

theorem rxDropFn_drops (s : State) (n : Nat) : DropsOf n s (s.rxDropFn n) := by
  obtain ⟨q, f, h, e⟩ := counted_frame (s.setFn n { s.fn n with rxDrop := inc32 (s.fn n).rxDrop })
    (inc32 (s.fn n).rxDrop) 0x1004 0 n
  refine ⟨⟨q, f, h, _, _, e⟩, inc32 (s.fn n).rxDrop, ?_⟩
  rw [State.rxDropFn, e]
  exact fn_setFn s n _

theorem dropStaged_drops (s : State) (n : Nat) : DropsOf n (s.setFn n { s.fn n with staged := [] }) (s.dropStaged n) :=
  foldl_keeps (DropsOf n (s.setFn n { s.fn n with staged := [] })) _
    (fun t x ht => ht.trans ((release_drops t n x.fid).trans (rxDropFn_drops _ n))) _ _ (.refl n _)

/-! ## Function-level reset (R122) -/

theorem exec_vfFlr {n : Nat} (hs : s.hostOn = true) (h1 : 1 ≤ n) (h2 : n ≤ 127) :
    exec (.vfFlr n) s = .next (s.vfReset n) :=
  congrArg Host.Outcome.next (if_pos (by simp [hs, h1, h2]))

theorem vfReset_fn (s : State) (n : Nat) : ∃ k, (s.vfReset n).fn n = { s.fn n with
    staged := [], rxDrop := k, frozen := false, cause := 0, mask := 7, rejects := 0, dirty := none
    queues := (s.fn n).queues.mapV (fun _ x => x.reset) } := by
  obtain ⟨-, k, hk⟩ := dropStaged_drops s n
  rw [fn_setFn] at hk
  refine ⟨k, (fn_setFn (s.dropStaged n) n _).trans ?_⟩
  rw [hk]

theorem vfReset_chan (s : State) (n : Nat) : ∃ c : Chan, (s.vfReset n).chan (.vf n) = c.reset :=
  ⟨_, chan_setChan _ (.vf n) _⟩

theorem vfReset_frame (s : State) (n : Nat) : ∃ q f h w y,
    s.vfReset n = { s with ao.firnSeq := q, firn := f, host := h, sw := w, fns := y } := by
  obtain ⟨⟨q, f, h, w, y, e⟩, -⟩ := dropStaged_drops s n
  rw [State.vfReset, e]
  exact ⟨_, _, _, _, _, rfl⟩

/-- A reset of their function disables its rings. -/
theorem rings_off_of_reset {t : Tbl Queue} : ∀ x ∈ t.mapV (fun _ x => x.reset), x.2.rxEn = false ∧ x.2.txEn = false := by
  intro x hx
  obtain ⟨y, -, rfl⟩ := List.mem_map.1 hx
  exact ⟨rfl, rfl⟩

/-- Settles O18: a doorbell's outcome turns on `tailMove`; after a reset the function, its channel and the rest of the
state are read off one lemma each. -/
theorem vfQueueEvents : Obligations.VfQueueEvents := by
  unfold Obligations.VfQueueEvents
  refine ⟨fun n q v s hq hv => ?rxBeyond, fun n q v s x hx hq hv => ?rx, fun n q v s hq hv => ?txBeyond,
    fun n q v s x hx hq hv => ?tx, fun s u act hw hu ha => ?round, fun n s hmem h1 h2 => ?flr⟩
  case rxBeyond => exact (exec_vfRxqTailWrite hq v).trans (congrArg Host.Outcome.next (if_pos hv))
  case txBeyond => exact (exec_vfTxqTailWrite hq v).trans (congrArg Host.Outcome.next (if_pos hv))
  case rx =>
    subst hx
    simp only [exec_vfRxqTailWrite hq, if_neg hv.not_ge, tailMove_overtakes]
  case tx =>
    subst hx
    simp only [exec_vfTxqTailWrite hq, if_neg hv.not_ge, tailMove_overtakes]
  case round =>
    subst hu ha
    exact exec_schedulerRound hw
  case flr =>
    obtain ⟨k, hfn⟩ := vfReset_fn s n
    obtain ⟨c, hchan⟩ := vfReset_chan s n
    obtain ⟨_, _, _, _, _, hrest⟩ := vfReset_frame s n
    refine ⟨s.vfReset n, exec_vfFlr (hostOn_of_mem hmem) h1 h2, ?_⟩
    rw [hfn, hchan]
    refine ⟨rfl, rfl, rfl, rfl, rfl, rfl, rfl, rfl, rfl, rfl, rings_off_of_reset, rfl, ?_⟩
    rw [hrest]
    exact ⟨rfl, rfl, rfl, rfl⟩

end Machine
end Sys2Proof

/-! PROOFS. What a report of an event can change, Firn's records and the host interface (causes and messages), and what
an access to DRAM can change: these and the memory block itself (R442 to R445, R451 to R454). -/

namespace Sys2Proof
namespace Machine

/-! ## Reports -/

/-- `t` is `s` but for Firn and the host interface. -/
def Reports (s t : State) : Prop := ∃ q f h, t = { s with ao.firnSeq := q, firn := f, host := h }

namespace Reports

variable {s t u : State}

theorem trans (a : Reports s t) (b : Reports t u) : Reports s u := by
  obtain ⟨_, _, _, rfl⟩ := a
  obtain ⟨_, _, _, rfl⟩ := b
  exact ⟨_, _, _, rfl⟩

theorem dma_eq (a : Reports s t) : t.dma = s.dma := by
  obtain ⟨_, _, _, rfl⟩ := a
  rfl

theorem mem_eq (a : Reports s t) : t.mem = s.mem := by
  obtain ⟨_, _, _, rfl⟩ := a
  rfl

theorem cfg_eq (a : Reports s t) : t.cfg = s.cfg := by
  obtain ⟨_, _, _, rfl⟩ := a
  rfl

end Reports

theorem counted_reports (s : State) (new opcode pos obj : Nat) : Reports s (s.counted new opcode pos obj) :=
  counted_frame s new opcode pos obj

theorem raiseDma_reports (s : State) (n : Nat) : Reports s (s.raiseDma n) := by
  obtain ⟨h, e⟩ := raiseDma_frame s n
  exact ⟨_, _, h, e⟩

/-! ## Accesses -/

/-- `t` is `s` but for Firn, the host interface and the memory block. -/
def TouchesDram (s t : State) : Prop :=
  ∃ q f h m, t = { s with ao.firnSeq := q, firn := f, host := h, mem := m }

namespace TouchesDram

variable {s t u : State}

theorem of_reports (a : Reports s t) : TouchesDram s t := by
  obtain ⟨_, _, _, e⟩ := a
  exact ⟨_, _, _, _, e⟩

theorem refl (s : State) : TouchesDram s s := ⟨_, _, _, _, rfl⟩

theorem trans (a : TouchesDram s t) (b : TouchesDram t u) : TouchesDram s u := by
  obtain ⟨_, _, _, _, rfl⟩ := a
  obtain ⟨_, _, _, _, rfl⟩ := b
  exact ⟨_, _, _, _, rfl⟩

theorem dma_eq (a : TouchesDram s t) : t.dma = s.dma := by
  obtain ⟨_, _, _, _, rfl⟩ := a
  rfl

theorem cfg_eq (a : TouchesDram s t) : t.cfg = s.cfg := by
  obtain ⟨_, _, _, _, rfl⟩ := a
  rfl

theorem foldl {α : Type} {f : State → α → State} (hf : ∀ t a, TouchesDram t (f t a)) (l : List α) (s : State) :
    TouchesDram s (l.foldl f s) :=
  foldl_keeps (TouchesDram s) f (fun t a ht => ht.trans (hf t a)) l s (.refl s)

end TouchesDram

variable (s : State)

/-! ## Detections (R444, R451 to R454) -/

theorem mem_touches (m : MemBlk) : TouchesDram s { s with mem := m } := ⟨_, _, _, _, rfl⟩

theorem firnEv_touches (code : Nat) (d : Bytes) : TouchesDram s (s.firnEv code d) :=
  .of_reports (firnEv_frame s code d)

theorem eccEvt_touches (b : Nat) : TouchesDram s (s.eccEvt b) := by
  obtain ⟨_, _, e⟩ := eccEvt_frame s b
  exact ⟨_, _, _, _, e⟩

theorem ceRecord_touches (a : Nat) : TouchesDram s (s.ceRecord a) := by
  unfold State.ceRecord
  split
  · exact (firnEv_touches s _ _).trans (mem_touches _ _)
  · exact mem_touches s _

theorem ueRecord_touches (a kind : Nat) : TouchesDram s (s.ueRecord a kind) := by
  unfold State.ueRecord
  split
  · exact (firnEv_touches s _ _).trans (mem_touches _ _)
  · exact mem_touches s _

/-- What every detection begins with: the error log, ECC_EVT and the counter. -/
theorem detection_touches (m : MemBlk) (e : EccLog) (b new opcode pos obj : Nat) :
    TouchesDram s (((s.logEcc m e).eccEvt b).counted new opcode pos obj) :=
  ((mem_touches s _).trans (eccEvt_touches (s.logEcc m e) b)).trans (.of_reports (counted_reports ..))

theorem detect_touches (a src e : Nat) : TouchesDram s (s.detect a src e) := by
  unfold State.detect
  split
  case h_1 => exact .refl s
  case h_2 => exact (detection_touches s _ _ _ _ _ _ _).trans (ceRecord_touches _ _)
  case h_3 => exact (detection_touches s _ _ _ _ _ _ _).trans (ueRecord_touches _ _ _)
  case h_4 => exact (detection_touches s _ _ _ _ _ _ _).trans (ueRecord_touches _ _ _)

/-! ## Reads (R443, R444) -/

theorem wordFetch_touches (a src : Nat) : TouchesDram s (s.wordFetch a src).2.2 := by
  unfold State.wordFetch
  split
  · dsimp only
    split
    · exact .refl s
    · exact detect_touches s _ _ _
  · exact detect_touches s _ _ _

theorem wordsFetch_touches (src n a : Nat) : TouchesDram s (State.wordsFetch src n a s).2 := by
  induction n generalizing a s with
  | zero => exact .refl s
  | succ n ih => exact (wordFetch_touches s a src).trans (ih _ _)

theorem memRead_touches (addr len src : Nat) : TouchesDram s (s.memRead addr len src).2 :=
  wordsFetch_touches s _ _ _

/-! ## Writes (R443, R445) -/

theorem wordWrite_touches (a data : Nat) (poisoned : Bool) : TouchesDram s (s.wordWrite a data poisoned) := by
  unfold State.wordWrite
  extract_lets _ _ _ _ _ _ _ _ u
  have hu : TouchesDram s u := mem_touches s _
  split
  · exact ((hu.trans (mem_touches u _)).trans (eccEvt_touches _ _)).trans (firnEv_touches _ _ _)
  · exact hu

theorem lineStore_touches (l : MergeLine) : TouchesDram s (s.lineStore l) := by
  refine .foldl (fun t i => ?_) _ s
  split
  · exact .refl t
  · exact wordWrite_touches t _ _ _

theorem lineMerge_touches (l : MergeLine) : TouchesDram s (s.lineMerge l) := by
  refine .foldl (fun t i => ?_) _ s
  dsimp only
  split
  · exact wordWrite_touches t _ _ _
  · exact (detect_touches t _ _ _).trans (wordWrite_touches _ _ _ _)

theorem evict_touches (l : MergeLine) : TouchesDram s (s.evict l) := by
  unfold State.evict
  extract_lets _ u
  have hu : TouchesDram s u := mem_touches s _
  split
  · exact hu.trans (lineStore_touches u l)
  · exact hu.trans (lineMerge_touches u l)

theorem linePre_touches (line : Nat) (whole : Bool) : TouchesDram s (s.linePre line whole) := by
  unfold State.linePre
  split
  · split
    · exact evict_touches s _
    · exact .refl s
  · exact .refl s

theorem mergeRoom_touches : TouchesDram s s.mergeRoom := by
  unfold State.mergeRoom
  split
  · split
    · exact evict_touches s _
    · exact .refl s
  · exact .refl s

theorem lineNew_touches (l : MergeLine) : TouchesDram s (s.lineNew l) := by
  unfold State.lineNew
  extract_lets u rest w
  have hu : TouchesDram s u := lineStore_touches s _
  split
  · exact hu
  · exact (hu.trans (mergeRoom_touches u)).trans (mem_touches w _)

theorem lineWrite_touches (addr : Nat) (bytes : Bytes) (poisoned : Bool) :
    TouchesDram s (s.lineWrite addr bytes poisoned) := by
  unfold State.lineWrite
  extract_lets _ _ u
  have hu : TouchesDram s u := linePre_touches s _ _
  split
  · dsimp only
    split
    · exact hu.trans (evict_touches u _)
    · exact hu.trans (mem_touches u _)
  · exact hu.trans (lineNew_touches u _)

theorem memWrite_touches (addr : Nat) (bytes : Bytes) (poisoned : Bool) :
    TouchesDram s (s.memWrite addr bytes poisoned) := by
  unfold State.memWrite
  refine .foldl (fun t p => ?_) _ s
  exact lineWrite_touches t _ _ _

end Machine
end Sys2Proof

/-! PROOFS. The DMA channels: writes that meet a pending shadow set (O23), and a descriptor from its start over its
beats to its write-back, its abort or its failure (O24). -/

namespace Sys2Proof
namespace Machine

variable {s : State} {ch : Nat}

/-! ## Reads of a channel (R131) -/

@[simp] theorem dmaChan_setDma (s : State) (n : Nat) (c : DmaChan) : (s.setDma n c).dmaChan n = c := by
  simp [State.dmaChan, State.setDma, Tbl.getD, tbl_get_set_same]

theorem dmaChan_setDma_other (s : State) {n m : Nat} (c : DmaChan) (h : m ≠ n) :
    (s.setDma n c).dmaChan m = s.dmaChan m := by
  simp [State.dmaChan, State.setDma, Tbl.getD, tbl_get_set_other _ _ _ _ h]

theorem dmaChan_of_chans {s t : State} (h : t.dma.chans = s.dma.chans) (m : Nat) : t.dmaChan m = s.dmaChan m := by
  rw [State.dmaChan, h, State.dmaChan]

theorem dmaOk_iff : s.dmaOk ch = true ↔ s.hostOn = true ∧ ch < 32 := by
  simp [State.dmaOk]

/-! ## A pending shadow set (R143) -/

theorem putDma_shCfg_pending (h : (s.dmaChan ch).shPend = true) (v : Word) : s.putDma ch 0x1C v = s :=
  if_pos h

theorem exec_dmaShadowDisarm (hok : s.dmaOk ch = true) : exec (.dmaShadowDisarm ch false) s =
    .next (s.setDma ch { s.dmaChan ch with shPend := false, shLate := false }) :=
  congrArg Host.Outcome.next (if_pos (by simp [hok]))

theorem exec_dmaShadowDisarm_taken : exec (.dmaShadowDisarm ch true) s = .next s :=
  congrArg Host.Outcome.next (if_neg (by simp))

theorem exec_dmaShadowArm_pending (h : (s.dmaChan ch).shPend = true) (b : Bool) :
    exec (.dmaShadowArm ch b) s = .next s :=
  congrArg Host.Outcome.next (if_neg (by simp [h]))

/-- Settles O23: the offset of DMA_SH_CFG selects the channel's own register, which a pending set keeps; the rows of the
shadow control are read off their guards. -/
theorem shadowPending : Obligations.ShadowPending := by
  unfold Obligations.ShadowPending
  rintro ch s _ rfl hok hp
  have hch : ch < 32 := (dmaOk_iff.1 hok).2
  have hkept (v : Word) : s.putPf (0x101C + 64 * ch) v = s := by
    have ho : 0x101C + 64 * ch = 0x1000 + 64 * ch + 0x1C := by omega
    rw [ho, putPf_dma v hch (by omega), putDma_shCfg_pending hp]
  exact ⟨fun v b => exec_registerWrite_pf_kept (hkept v) b, exec_dmaShadowDisarm hok, exec_dmaShadowDisarm_taken,
    exec_dmaShadowArm_pending hp⟩

/-! ## The end of a descriptor (R136, R140, R141) -/

theorem handOver_fst (c : DmaChan) (idx : Nat) : (c.handOver idx).1 = (c.shPend && !c.shLate) := by
  unfold DmaChan.handOver
  split <;> simp_all

theorem handOver_taken {c : DmaChan} (h : (c.shPend && !c.shLate) = true) (idx : Nat) : (c.handOver idx).2 = { c with
    burst := c.shBurst, prio := c.shPrio, shPend := false, shEvt := true
    takenCount := (c.takenCount + 1) % 65536, takenIdle := false, takenIdx := idx } := by
  rw [DmaChan.handOver, if_pos h]

theorem handOver_kept {c : DmaChan} (h : (c.shPend && !c.shLate) = false) (idx : Nat) :
    (c.handOver idx).2 = { c with shLate := false } := by
  rw [DmaChan.handOver, if_neg (by simp [h])]

theorem handOver_fetched (c : DmaChan) (idx : Nat) : (c.handOver idx).2.fetched = c.fetched := by
  unfold DmaChan.handOver
  split <;> rfl

/-- A channel after its active descriptor's end with a status, written back with the stamp `done`. -/
def DmaChan.ended (c : DmaChan) (r : DmaRun) (done : Stamp) (status : Nat) (aborted : Bool) : DmaChan :=
  let residue := if status = 2 then descLen r.desc else descLen r.desc - r.moved
  let stop := status == 1 || 3 ≤ status
  { (c.handOver r.idx).2 with
    run := none
    back := some (descBack r.desc residue status done r.poison aborted (c.shPend && !c.shLate))
    head := (r.idx + 1) % c.size, doneCnt := inc32 c.doneCnt
    descDone := c.descDone || descIrq r.desc, poisonSeen := c.poisonSeen || r.poison
    descErr := c.descErr || status == 2, abortDone := c.abortDone || status == 1, errStop := c.errStop || 3 ≤ status
    residue := if stop then residue else c.residue
    errCode := if status = 0 then c.errCode else status
    errIdx := if status = 0 then c.errIdx else r.idx
    en := c.en && !stop
    fetched := if stop then [] else c.fetched }

/-- What the end of a descriptor changes: its channel, and beside it what the event's reports do. -/
theorem dmaEnd_reports (s : State) (ch : Nat) (r : DmaRun) (status : Nat) (aborted : Bool) :
    Reports (s.setDma ch ((s.dmaChan ch).ended r (s.stamp 8) status aborted)) (s.dmaEnd ch r status aborted) := by
  unfold State.dmaEnd
  extract_lets c residue h back stop _ c' s'
  have hc : c' = (s.dmaChan ch).ended r (s.stamp 8) status aborted := by
    simp only [c', back, h, DmaChan.ended, handOver_fst, handOver_fetched]
    rfl
  have hs : Reports (s.setDma ch c') s' := counted_reports _ _ _ _ _
  rw [← hc]
  split
  · exact hs.trans (raiseDma_reports s' ch)
  · exact hs

section

variable (r : DmaRun) (status : Nat) (aborted : Bool)

@[simp] theorem dmaEnd_dmaChan : (s.dmaEnd ch r status aborted).dmaChan ch =
    (s.dmaChan ch).ended r (s.stamp 8) status aborted :=
  (dmaChan_of_chans (congrArg DmaBlk.chans (dmaEnd_reports s ch r status aborted).dma_eq) ch).trans
    (dmaChan_setDma s ch _)

@[simp] theorem dmaEnd_mem : (s.dmaEnd ch r status aborted).mem = s.mem :=
  (dmaEnd_reports s ch r status aborted).mem_eq

@[simp] theorem dmaEnd_cfg : (s.dmaEnd ch r status aborted).cfg = s.cfg :=
  (dmaEnd_reports s ch r status aborted).cfg_eq

end

/-! ## The start of a descriptor (R135, R140, R142) -/

theorem exec_dmaDescriptorStart {d : Bytes} {rest : List Bytes} (hok : s.dmaOk ch = true)
    (hen : (s.dmaChan ch).en = true) (hst : (s.dmaChan ch).stopping = false) (hr : (s.dmaChan ch).run = none)
    (hf : (s.dmaChan ch).fetched = d :: rest) :
    exec (.dmaDescriptorStart ch) s = .next (
      let c := s.dmaChan ch
      let s' := s.setDma ch { c with fetched := rest, run := some { idx := c.head, desc := d } }
      if descOk d then s' else s'.dmaEnd ch { idx := c.head, desc := d } 2 false) := by
  change execDmaDescriptorStart ch s = _
  simp [execDmaDescriptorStart, hok, hen, hst, hr, hf]

/-! ## Beats (R132 to R134, R144) -/

theorem hostWrite_chans (s : State) (addr : Nat) (b : Bytes) (poison : Bool) :
    (s.hostWrite addr b poison).dma.chans = s.dma.chans := rfl

/-- A beat moves data of the running descriptor; the DRAM it reads or writes and the host write leave every channel
and the configuration alone. -/
theorem dmaBeat_moves {r : DmaRun} (h : (s.dmaChan ch).run = some r) :
    ∃ (u : State) (q : DmaRun), s.dmaBeat ch = u.setDma ch { s.dmaChan ch with run := some q } ∧
      u.dma.chans = s.dma.chans ∧ u.cfg = s.cfg ∧ q.desc = r.desc ∧ q.moved = r.moved +
        min (if descHFix r.desc || descDFix r.desc then descUnit r.desc else 64) ((s.dmaChan ch).burstLeft r) := by
  unfold State.dmaBeat
  simp only [h]
  split
  · have hm := memRead_touches s
    exact ⟨_, _, rfl, (hostWrite_chans ..).trans (congrArg DmaBlk.chans (hm _ _ _).dma_eq), (hm _ _ _).cfg_eq,
      rfl, rfl⟩
  · have hm := memWrite_touches s
    exact ⟨_, _, rfl, congrArg DmaBlk.chans (hm _ _ _).dma_eq, (hm _ _ _).cfg_eq, rfl, rfl⟩

theorem exec_dmaBeatArbitration_none (hs : s.hostOn = true) (h : s.dmaPick = none) :
    exec .dmaBeatArbitration s = .next s := by
  change execDmaBeatArbitration s = _
  simp [execDmaBeatArbitration, hs, h]

theorem exec_dmaBeatArbitration_some {n : Nat} (hs : s.hostOn = true) (h : s.dmaPick = some n) :
    exec .dmaBeatArbitration s = .next { s.dmaBeat n with dma.last := n } := by
  change execDmaBeatArbitration s = _
  simp [execDmaBeatArbitration, hs, h]

/-- No beat is left to move once the target is reached. -/
theorem dmaBeats_reached {r : DmaRun} {target : Nat} (hr : (s.dmaChan ch).run = some r) (h : target ≤ r.moved)
    (k : Nat) : State.dmaBeats ch target k s = s := by
  cases k with
  | zero => rfl
  | succ k => simp only [State.dmaBeats, hr, if_pos h]

/-! ## Completions of host reads (R134, R140) -/

theorem exec_dmaReadCompletion_ok {r : DmaRun} (hok : s.dmaOk ch = true) (hr : (s.dmaChan ch).run = some r)
    (hd : descD2h r.desc = false) (b : Bytes) (p : Bool) :
    exec (.dmaReadCompletion ch (.ok b) p) s = .next (s.setDma ch { s.dmaChan ch with run := some { r with
      buffer := r.buffer ++ (b.take (descLen r.desc - r.moved - r.buffer.length)).map (fun x => (x, p)) } }) := by
  change execDmaReadCompletion ch (.ok b) p s = _
  simp [execDmaReadCompletion, hok, hr, hd]

/-- A failed read with nothing in the burst buffer ends the descriptor with status 3 at once. -/
theorem exec_dmaReadCompletion_failed {r : DmaRun} (hok : s.dmaOk ch = true) (hr : (s.dmaChan ch).run = some r)
    (hd : descD2h r.desc = false) (hb : r.buffer = []) {f : Fetch Bytes}
    (hf : f = .unsupported ∨ f = .abort ∨ f = .timeout) (p : Bool) :
    exec (.dmaReadCompletion ch f p) s = .next (s.dmaEnd ch r 3 false) := by
  have hk (k : Nat) : State.dmaBeats ch (r.moved / (s.dmaChan ch).burstBytes * (s.dmaChan ch).burstBytes) k s = s :=
    dmaBeats_reached hr (Nat.div_mul_le_self _ _) k
  change execDmaReadCompletion ch f p s = _
  obtain rfl | rfl | rfl := hf <;> simp [execDmaReadCompletion, hok, hr, hd, hb, hk]

/-! ## The write-back of a descriptor whose bytes have moved (R136, R141) -/

theorem exec_dmaDescriptorEnd {r : DmaRun} (hok : s.dmaOk ch = true) (hr : (s.dmaChan ch).run = some r)
    (hm : descLen r.desc ≤ r.moved) (ha : r.aborting = false) (hst : (s.dmaChan ch).stopping = false) :
    exec (.dmaDescriptorEnd ch) s = .next (s.dmaEnd ch r 0 false) := by
  change execDmaDescriptorEnd ch s = _
  simp [execDmaDescriptorEnd, hok, hr, hm, ha, hst]

/-! ## Abort (R144) -/

theorem exec_dmaAbort_active {r : DmaRun} (hok : s.dmaOk ch = true) (hen : (s.dmaChan ch).en = true)
    (hr : (s.dmaChan ch).run = some r) (hm : r.moved < descLen r.desc) : exec (.dmaAbort ch) s =
      .next (s.setDma ch { s.dmaChan ch with run := some { r with aborting := true }, stopping := true }) := by
  change execDmaAbort ch s = _
  simp [execDmaAbort, hok, hen, hr, hm]

/-- An aborted D2H descriptor at the end of its burst has no beat left to move. -/
theorem exec_dmaAbortDone_atBurstEnd {r : DmaRun} (hok : s.dmaOk ch = true) (hr : (s.dmaChan ch).run = some r)
    (ha : r.aborting = true) (hd : descD2h r.desc = true) (hb : (s.dmaChan ch).burstDone r = true) :
    exec (.dmaAbortDone ch) s = .next ((s.dmaEnd ch r 1 true).setDma ch
      { (s.dmaChan ch).ended r (s.stamp 8) 1 true with stopping := false }) := by
  have hk (k : Nat) : State.dmaBeats ch r.moved k s = s := dmaBeats_reached hr le_rfl k
  change execDmaAbortDone ch s = _
  simp [execDmaAbortDone, hok, hr, ha, hd, hb, hk]

/-- Settles O24: each row on a channel in the state named is one operation of the channel, and what the end of a
descriptor leaves in it is read off `DmaChan.ended`, the set taken or kept by `handOver_taken` and `handOver_kept`. -/
theorem dmaDescriptors : Obligations.DmaDescriptors := by
  unfold Obligations.DmaDescriptors
  refine ⟨?start, ?beat, fun s => exec_dmaBeatArbitration_none, ?landed, ?failed, ?done, ?abort, ?aborted⟩
  case start =>
    rintro ch s _ d rest rfl hok hen hst hr hf
    refine ⟨_, exec_dmaDescriptorStart hok hen hst hr hf, ?_⟩
    dsimp only
    split
    · simp
    · simp only [dmaEnd_dmaChan, dmaEnd_mem, setDma_mem, dmaChan_setDma]
      exact ⟨rfl, trivial, rfl, rfl, rfl, rfl, Bool.or_true _, (Bool.and_true _).trans hen⟩
  case beat =>
    intro s n r hs hp hr
    obtain ⟨u, q, hu, hc, hcfg, hdesc, hmoved⟩ := dmaBeat_moves hr
    refine ⟨_, q, exec_dmaBeatArbitration_some hs hp, rfl, ?_, hdesc, hmoved, fun m hm => ?_, ?_⟩
    · rw [hu]
      exact congrArg DmaChan.run (dmaChan_setDma u n _)
    · rw [hu]
      exact (dmaChan_setDma_other u _ hm).trans (dmaChan_of_chans hc m)
    · rw [hu]
      exact hcfg
  case landed =>
    rintro ch s _ r b p rfl hok hr hd
    exact exec_dmaReadCompletion_ok hok hr hd b p
  case failed =>
    rintro ch s _ r f p rfl hok hr hd hb hf
    refine ⟨_, exec_dmaReadCompletion_failed hok hr hd hb hf p, ?_⟩
    simp [DmaChan.ended]
  case done =>
    rintro ch s _ r h rfl hok hr hm ha hst rfl
    have hres : descLen r.desc - r.moved = 0 := Nat.sub_eq_zero_of_le hm
    refine ⟨_, _, exec_dmaDescriptorEnd hok hr hm ha hst, rfl, ?_⟩
    simp only [dmaEnd_dmaChan, dmaEnd_mem, dmaEnd_cfg]
    refine ⟨by simp [DmaChan.ended, hres], rfl, rfl, rfl, by simp [DmaChan.ended], rfl, rfl, rfl,
      fun h => ?taken, fun h => ?kept, trivial, trivial⟩
    case taken => simp [DmaChan.ended, handOver_taken h]
    case kept => simp [DmaChan.ended, handOver_kept h]
  case abort =>
    rintro ch s _ r rfl hok hen hr hm
    exact exec_dmaAbort_active hok hen hr hm
  case aborted =>
    rintro ch s _ r rfl hok hr ha hd hm hb
    refine ⟨_, _, exec_dmaAbortDone_atBurstEnd hok hr ha hd hb, rfl, ?_⟩
    simp [DmaChan.ended]

end Machine
end Sys2Proof

/-! PROOFS. The aligned values (O29): what an emission, a ready coarse value and a deadline store of their stream. What
follows the values (counters, buses, phasors, channel groups) leaves alignment, clock and configuration as they are. -/

namespace Sys2Proof
namespace Machine

/-! ## The rows -/

-- Elaborated in order, this proof makes the equations of `exec` before the proofs that run in parallel ask for them;
-- otherwise each of those waits with a thread of its own, more than the memory of the check holds.
set_option Elab.async false in
theorem exec_fineEmission (k : Nat) (s : State) : exec (.fineEmission k) s = execFineEmission k s := by
  simp only [exec]

theorem exec_coarseDeadline (k : Nat) (s : State) : exec (.coarseDeadline k) s = execCoarseDeadline k s := rfl

theorem exec_coarseValue (k : Nat) (s : State) : exec (.coarseValue k) s = execCoarseValue k s := rfl

/-! ## A stream's alignment and the operations on it -/

section

variable (s : State)

@[simp] theorem alnOf_setAln (k : Nat) (x : AlnStream) : (s.setAln k x).alnOf k = x :=
  congrArg (Option.getD · _) (tbl_get_set_same _ _ _)

theorem alnOf_setAln_other {j k : Nat} (h : j ≠ k) (x : AlnStream) : (s.setAln k x).alnOf j = s.alnOf j :=
  congrArg (Option.getD · _) (tbl_get_set_other _ _ _ _ h)

@[simp] theorem alnOf_clockTo (due j : Nat) : (s.clockTo due).alnOf j = s.alnOf j := rfl

end

/-! ## What follows the values (R192, R194, R195, R478) -/

/-- What the statement reads of a state: alignment, clock and configuration. -/
def State.alignView (s : State) : AlnBlk × TimeBlk × Cfg := (s.aln, s.time, s.cfg)

section

variable (s : State)

theorem firnEv_alignView (c : Nat) (d : Bytes) : (s.firnEv c d).alignView = s.alignView := by
  simp only [State.alignView, firnEv_aln, firnEv_time, firnEv_cfg]

theorem inject_alignView (c o u : Nat) : (s.inject c o u).2.alignView = s.alignView := by
  simp only [State.alignView, inject_aln, inject_time, inject_cfg]

theorem busSteps_alignView (bus path n : Nat) : (State.busSteps bus path n s).alignView = s.alignView := by
  induction n generalizing s with
  | zero => rfl
  | succ n ih =>
    unfold State.busSteps
    extract_lets r b
    split
    · exact ih _
    · split
      · rfl
      · exact ih _

theorem busesRun_alignView (path : Nat) : (s.busesRun path).alignView = s.alignView := by
  refine foldl_keeps (fun t : State => t.alignView = s.alignView) _ (fun t b ht => ?_) _ _ rfl
  split
  · exact (busSteps_alignView t _ _ _).trans ht
  · exact ht

theorem groupsSend_alignView (n : Nat) : (State.groupsSend n s).alignView = s.alignView := by
  induction n generalizing s with
  | zero => rfl
  | succ n ih =>
    unfold State.groupsSend
    split
    · rfl
    · extract_lets k
      clear_value k
      split
      · rfl
      · split
        · rfl
        · extract_lets i chans items r
          split
          · rfl
          · have hr : r.2.alignView = s.alignView := by
              refine foldl_keeps (fun a : List GroupVal × State => a.2.alignView = s.alignView) _
                (fun a x ha => ?_) _ _ rfl
              split
              · exact (inject_alignView a.2 _ _ _).trans ha
              · exact ha
            clear_value r
            exact (ih _).trans hr

theorem emitted_alignView (path : Nat) : (s.emitted path).alignView = s.alignView :=
  (groupsSend_alignView _ _).trans (busesRun_alignView s path)

end

section

variable {s t : State} (h : t.alignView = s.alignView)

include h

theorem alnOf_of_alignView (j : Nat) : t.alnOf j = s.alnOf j := congrArg (fun v => v.1.streams.getD j {}) h

theorem now_of_alignView : t.now = s.now := congrArg (fun v => v.2.1.ext) h

theorem cfg_of_alignView : t.cfg = s.cfg := congrArg (fun v => v.2.2) h

end

/-! ## Storing values -/

/-- A list newer than all others goes first. -/
theorem insertAligned_newest {a : Aligned} {l : List Aligned} (h : ∀ b ∈ l, b.g < a.g) : insertAligned a l = a :: l := by
  cases l with
  | nil => rfl
  | cons b l =>
    have hb : ¬ a.g < b.g := Nat.lt_asymm (h b (List.mem_cons_self ..))
    simp [insertAligned, hb]

/-- Where the newest values are those of instant `g`, the first instant from `g` on without values is the next one. -/
theorem find_after_newest {g : Nat} {l : List Aligned} (h : ∀ b ∈ l, b.g < g) (vals : List AVal) :
    (List.range 64).find? (fun i => !(({ g := g, vals := vals } : Aligned) :: l).any (fun a => a.g == g + i)) = some 1 := by
  have hmiss : ∀ b ∈ l, b.g ≠ g + 1 := fun b hb => Nat.ne_of_lt (Nat.lt_succ_of_lt (h b hb))
  have hrange : List.range 64 = 0 :: 1 :: List.range' 2 62 := rfl
  rw [hrange, List.find?_cons_of_neg (by simp), List.find?_cons_of_pos (by simpa using hmiss)]

/-- The coarse value of the first instant without one is stored, and the next instant is the first without one. -/
theorem putCoarse_newest {s : State} {k g : Nat} (hn : (s.alnOf k).coarseNext = some g)
    (h : ∀ a ∈ (s.alnOf k).coarse, a.g < g) (vals : List AVal) :
    s.putCoarse k g vals = s.setAln k { s.alnOf k with
      coarse := { g := g, vals := vals } :: (s.alnOf k).coarse.take (keepAligned - 1)
      coarseNext := some (g + 1) } := by
  unfold State.putCoarse
  extract_lets x l from_ next
  have hl : l = { g := g, vals := vals } :: (s.alnOf k).coarse.take (keepAligned - 1) :=
    congrArg (List.take keepAligned) (insertAligned_newest h)
  have hfrom : from_ = g := congrArg (Option.getD · g) hn
  have hnext : next = some (g + 1) := by
    dsimp only [next]
    rw [hl, hfrom, find_after_newest fun b hb => h b (List.mem_of_mem_take hb)]
    rfl
  rw [hl, hnext]
  rfl

/-- The fine values of an instant, stored, with the next instant after it. -/
def State.putFine (s : State) (k g : Nat) (vals : List AVal) : State :=
  s.setAln k { s.alnOf k with
    fine := (insertAligned { g := g, vals := vals } (s.alnOf k).fine).take keepAligned
    fineNext := some (g + 1) }

/-- Counts the values that carry a flag in a counter of the stream (R188). -/
def State.countFlag (s : State) (k i flag : Nat) (vals : List AVal) : State :=
  if vals.countP (fun v => v.aflags &&& flag != 0) = 0 then s
  else s.alnCount k i (vals.countP (fun v => v.aflags &&& flag != 0))

/-- A counter of ALN_STREAM_STATUS moves the stream's counters alone (R188). -/
theorem alnCount_alignView (s : State) (k i n : Nat) : ∃ c,
    (s.alnCount k i n).alignView = (s.setAln k { s.alnOf k with counts := c }).alignView := by
  unfold State.alnCount
  extract_lets x old v u
  refine ⟨x.counts.set i v, ?_⟩
  split
  · exact firnEv_alignView u _ _
  · rfl

/-- Counting flags changes nothing but the stream's counters of what the statement reads. -/
theorem countFlag_frame (s : State) (k i flag : Nat) (vals : List AVal) :
    (∃ c, (s.countFlag k i flag vals).alnOf k = { s.alnOf k with counts := c }) ∧
      (∀ j, j ≠ k → (s.countFlag k i flag vals).alnOf j = s.alnOf j) ∧
      (s.countFlag k i flag vals).cfg = s.cfg ∧ (s.countFlag k i flag vals).now = s.now := by
  unfold State.countFlag
  split
  · exact ⟨⟨_, rfl⟩, fun _ _ => rfl, rfl, rfl⟩
  · obtain ⟨c, hc⟩ := alnCount_alignView s k i (vals.countP (fun v => v.aflags &&& flag != 0))
    exact ⟨⟨c, (alnOf_of_alignView hc k).trans (alnOf_setAln ..)⟩,
      fun j hj => (alnOf_of_alignView hc j).trans (alnOf_setAln_other s hj _),
      (cfg_of_alignView hc :), (now_of_alignView hc :)⟩

/-! ## What the rows do (R176) -/

section

variable {s : State} {k g t0 : Nat} {d : GridSecond}

theorem onPath_of_pathOn (h : s.pathOn = true) (o : Out) : s.onPath o = o := if_pos h

theorem exec_fineEmission_placed (hp : s.pathOn = true) (hk : (s.cfg.tables.sv.get? k).isSome = true)
    (hn : s.nextPlaced (s.alnOf k).fineNext = some (g, d, t0)) {vals : List AVal}
    (hv : vals = (s.clockTo (s.emission k d t0)).fineAt k (s.emission k d t0) d t0) :
    exec (.fineEmission k) s = .next (((((s.clockTo (s.emission k d t0)).putFine k g vals).countFlag k 3 afSUBST
      vals).countFlag k 4 afINVALID vals).emitted 0) := by
  have hk' : (s.cfg.tables.sv.get? k).isNone = false := Option.isNone_eq_false_iff.2 hk
  subst hv
  simp only [exec_fineEmission, execFineEmission, onPath_of_pathOn hp, hn, hk', Bool.false_eq_true, if_false]
  rfl

theorem exec_coarseDeadline_placed (hp : s.pathOn = true) (hk : (s.cfg.tables.sv.get? k).isSome = true)
    (hn : s.nextPlaced (s.alnOf k).coarseNext = some (g, d, t0)) {e : Nat}
    (he : e = ((t0 : Rat) + (s.coarsePath k).delay + s.aln.sMax * 1000).ceil.toNat) {u : State}
    (hu : u = (s.setAln k { s.alnOf k with coarseNext := some g }).clockTo e) :
    exec (.coarseDeadline k) s = .next ((u.putCoarse k g (u.coarseAt k e d t0)).emitted 1) := by
  have hk' : (s.cfg.tables.sv.get? k).isNone = false := Option.isNone_eq_false_iff.2 hk
  subst he hu
  simp only [exec_coarseDeadline, execCoarseDeadline, onPath_of_pathOn hp, hn, hk', Bool.false_eq_true, if_false]

theorem exec_coarseValue_silent (h : s.delivers k = false) : exec (.coarseValue k) s = .next s := by
  simp only [exec_coarseValue, execCoarseValue, State.onPath, h, Bool.not_false, Bool.or_true, if_true]
  split
  · split <;> rfl
  · rfl

/-- The first instant of a path is ready: its coarse values are computed now. -/
theorem exec_coarseValue_ready (hp : s.pathOn = true) (hk : (s.cfg.tables.sv.get? k).isSome = true)
    (hd : s.delivers k = true) (hn : s.nextPlaced (s.alnOf k).coarseNext = some (g, d, t0))
    (hi : s.instant g = some (d, t0)) (hold : ∀ a ∈ (s.alnOf k).coarse, a.g < g) {u : State}
    (hu : u = s.setAln k { s.alnOf k with coarseNext := some g }) (hr : u.coarseReady k t0 = true) :
    exec (.coarseValue k) s = .next ((u.putCoarse k g (u.coarseAt k s.now d t0)).emitted 1) := by
  have hk' : (s.cfg.tables.sv.get? k).isNone = false := Option.isNone_eq_false_iff.2 hk
  have hi' : u.instant (g + 0) = some (d, t0) := by rw [hu]; exact hi
  have hfree : (s.alnOf k).coarse.any (fun a => a.g == g + 0) = false :=
    List.any_eq_false.2 fun a ha => by simpa using Nat.ne_of_lt (hold a ha)
  have hfound : (List.range 64).findSome? (fun i => (u.instant (g + i)).bind (fun y =>
      if !(s.alnOf k).coarse.any (fun a => a.g == g + i) && u.coarseReady k y.2 then some (g + i, y.1, y.2) else none)) =
      some (g, d, t0) := by
    rw [List.range_eq_range', List.range'_succ, List.findSome?_cons, hi', Option.bind_some, hfree, hr]
    rfl
  rw [hu] at hfound ⊢
  simp only [exec_coarseValue, execCoarseValue, onPath_of_pathOn hp, hn, hk', hd, Bool.not_true, Bool.or_false,
    Bool.false_eq_true, if_false, hfound]
  rfl

end

/-! ## What the rows leave -/

section

variable {s u : State} {k g : Nat} (vals : List AVal)

/-- Fine values newer than the stream's others, stored, counted and followed up: the rest of the stream's inputs and
coarse values, the other streams, the clock and the configuration stay. -/
theorem putFine_emitted (hold : ∀ a ∈ (s.alnOf k).fine, a.g < g) {t : State}
    (ht : t = (((s.putFine k g vals).countFlag k 3 afSUBST vals).countFlag k 4 afINVALID vals).emitted 0) :
    (t.alnOf k).fineNext = some (g + 1) ∧ (t.alnOf k).fine.head? = some { g := g, vals := vals } ∧
      (t.alnOf k).coarse = (s.alnOf k).coarse ∧ (t.alnOf k).hist = (s.alnOf k).hist ∧
      (∀ j, j ≠ k → t.alnOf j = s.alnOf j) ∧ t.cfg = s.cfg ∧ t.now = s.now := by
  obtain ⟨⟨_, hk3⟩, hj3, hc3, hn3⟩ := countFlag_frame (s.putFine k g vals) k 3 afSUBST vals
  obtain ⟨⟨_, hk4⟩, hj4, hc4, hn4⟩ :=
    countFlag_frame ((s.putFine k g vals).countFlag k 3 afSUBST vals) k 4 afINVALID vals
  have hput : (s.putFine k g vals).alnOf k = _ := alnOf_setAln ..
  have hview := ht ▸ emitted_alignView _ 0
  rw [alnOf_of_alignView hview, cfg_of_alignView hview, now_of_alignView hview, hk4, hk3, hput,
    insertAligned_newest hold]
  exact ⟨rfl, rfl, rfl, rfl, fun j hj => (alnOf_of_alignView hview j).trans
    ((hj4 j hj).trans ((hj3 j hj).trans (alnOf_setAln_other s hj _))), hc4.trans hc3, hn4.trans hn3⟩

/-- A coarse value of the first instant without one, stored and followed up: the stream's fine values, the other
streams and the configuration stay. -/
theorem putCoarse_emitted (hu : u.aln = (s.setAln k { s.alnOf k with coarseNext := some g }).aln)
    (hc : u.cfg = s.cfg) (hold : ∀ a ∈ (s.alnOf k).coarse, a.g < g)
    {t : State} (ht : t = (u.putCoarse k g vals).emitted 1) :
    (t.alnOf k).coarseNext = some (g + 1) ∧ (t.alnOf k).coarse.head? = some { g := g, vals := vals } ∧
      (t.alnOf k).fine = (s.alnOf k).fine ∧ (∀ j, j ≠ k → t.alnOf j = s.alnOf j) ∧ t.cfg = s.cfg := by
  have hof : ∀ j, u.alnOf j = (s.setAln k { s.alnOf k with coarseNext := some g }).alnOf j := fun j =>
    congrArg (fun a : AlnBlk => a.streams.getD j {}) hu
  have hk := (hof k).trans (alnOf_setAln ..)
  have hput := putCoarse_newest (s := u) (k := k) (g := g) (by rw [hk]) (by rw [hk]; exact hold) vals
  have hview := ht ▸ emitted_alignView _ 1
  rw [hput] at hview
  rw [alnOf_of_alignView hview, cfg_of_alignView hview, alnOf_setAln, hk]
  exact ⟨rfl, rfl, rfl, fun j hj => (alnOf_of_alignView hview j).trans
    ((alnOf_setAln_other u hj _).trans ((hof j).trans (alnOf_setAln_other s hj _))), hc⟩

end

/-- Settles O29: each row stores the values of its stream's next instant, and what follows them keeps the view. -/
theorem alignedValues : Obligations.AlignedValues := by
  unfold Obligations.AlignedValues
  refine ⟨fun k s g d t0 e hp hk hn hold he => ?fine, fun k s g d t0 e hp hk hn hold he => ?deadline,
    fun k s g d t0 hp hk hd hn hi hold hr => ?ready, fun k s => exec_coarseValue_silent⟩
  case fine =>
    obtain rfl : e = s.emission k d t0 := he
    exact ⟨_, exec_fineEmission_placed hp hk hn rfl, putFine_emitted _ (s := s.clockTo _) hold rfl⟩
  case deadline =>
    generalize hu : (s.setAln k { s.alnOf k with coarseNext := some g }).clockTo e = u
    obtain ⟨hnext, hhead, hfine, hother, hcfg⟩ := putCoarse_emitted (s := s) (u := u) (u.coarseAt k e d t0)
      (hu ▸ rfl) (hu ▸ rfl) hold rfl
    exact ⟨_, _, exec_coarseDeadline_placed hp hk hn he hu.symm, hnext, hhead, rfl, hfine, hother, hcfg⟩
  case ready =>
    generalize hu : s.setAln k { s.alnOf k with coarseNext := some g } = u at hr ⊢
    obtain ⟨hnext, hhead, -, hother, hcfg⟩ := putCoarse_emitted (s := s) (u := u) (u.coarseAt k s.now d t0)
      (hu ▸ rfl) (hu ▸ rfl) hold rfl
    exact ⟨_, _, exec_coarseValue_ready hp hk hd hn hi hold hu.symm hr, hnext, hhead, rfl, hother, hcfg⟩

end Machine
end Sys2Proof

/-! PROOFS. The timers of a guard element that is not INVERSE (O32): what one evaluated instant makes of its counters
and its output (R205). -/

namespace Sys2Proof
namespace Machine

/-! ## The delays -/

theorem le16_le (b : Bytes) (i : Nat) : le16 b i ≤ 65535 := by
  have low : byteAt b i < 256 := BitVec.isLt _
  have high : byteAt b (i + 1) < 256 := BitVec.isLt _
  unfold le16
  omega

/-! ## One instant of an element that is not INVERSE (R205) -/

section

variable {b : Bytes} {e : GrdEl} (hb : grdType b ≠ 6) (level mag rate : Nat)

include hb

/-- Output 0, the condition not met. -/
theorem grdAdvance_unmet (ho : e.out = false) : grdAdvance b e false level mag rate = { e with cntPu := 0 } := by
  simp [grdAdvance, hb, ho]

/-- Output 0, the condition met: the counter of a 16-bit delay never reaches its cap before the output rises. -/
theorem grdAdvance_met (ho : e.out = false) (hc : e.cntPu ≤ 65535) :
    grdAdvance b e true level mag rate =
      if grdPu b + 1 ≤ e.cntPu + 1 then { e with out := true, cntPu := 0, cntDo := 0 }
      else { e with cntPu := e.cntPu + 1 } := by
  have hmin : min 65536 (e.cntPu + 1) = e.cntPu + 1 := Nat.min_eq_right (by omega)
  simp [grdAdvance, hb, ho, hmin]

/-- Output 1, the condition held. -/
theorem grdAdvance_held (ho : e.out = true) : grdAdvance b e true level mag rate = { e with cntDo := 0 } := by
  simp [grdAdvance, hb, ho]

/-- Output 1, the condition not held. -/
theorem grdAdvance_unheld (ho : e.out = true) (hc : e.cntDo ≤ 65535) :
    grdAdvance b e false level mag rate =
      if grdDo b + 1 ≤ e.cntDo + 1 then { e with out := false, cntDo := 0, cntPu := 0 }
      else { e with cntDo := e.cntDo + 1 } := by
  have hmin : min 65536 (e.cntDo + 1) = e.cntDo + 1 := Nat.min_eq_right (by omega)
  simp [grdAdvance, hb, ho, hmin]

end

/-- Settles O32: output and condition select one of the four equations of an instant; a count met or short of its
delay selects the branch. -/
theorem guardTimers : Obligations.GuardTimers := by
  unfold Obligations.GuardTimers
  rintro b e met level mag rate n hb rfl hpu hdo
  refine ⟨le16_le b 18, le16_le b 20, ?unmet, ?counts, ?rises, ?held, ?countsDown, ?falls⟩
  case unmet =>
    rintro ho rfl
    rw [grdAdvance_unmet hb level mag rate ho]
    exact ⟨ho, rfl⟩
  case counts =>
    rintro ho rfl hshort
    rw [grdAdvance_met hb level mag rate ho hpu, if_neg (Nat.not_le.mpr hshort)]
    exact ⟨ho, rfl⟩
  case rises =>
    rintro ho rfl hreached
    rw [grdAdvance_met hb level mag rate ho hpu, if_pos hreached]
  case held =>
    rintro ho rfl
    rw [grdAdvance_held hb level mag rate ho]
    exact ⟨ho, rfl⟩
  case countsDown =>
    rintro ho rfl hshort
    rw [grdAdvance_unheld hb level mag rate ho hdo, if_neg (Nat.not_le.mpr hshort)]
    exact ⟨ho, rfl⟩
  case falls =>
    rintro ho rfl hreached
    rw [grdAdvance_unheld hb level mag rate ho hdo, if_pos hreached]

end Machine
end Sys2Proof

/-! PROOFS. Phasor items (O34): what a channel's slot, a bin past the order limit and a triple's component read as, and
the frequency of a bus that does not track (R191, R195, R197, R198). -/

namespace Sys2Proof
namespace Machine

/-! ## Flags -/

/-- INVALID is bit 0 of a value's flags. -/
theorem testBit_or_afINVALID (a : Nat) : (a ||| afINVALID).testBit 0 = true := by
  simp [afINVALID]

/-! ## Buses (R195) -/

/-- A bus that does not track, has no restart due and has no past value stays at its nominal frequency. -/
theorem busF_untracked {s : State} {b path g : Nat} (htrack : (s.bus b g).track = false)
    (hrestart : (s.busRun b path).restart = none) (hhist : (s.busRun b path).hist = []) :
    s.busF b path g = some (s.bus b g).fx := by
  simp [State.busF, htrack, hrestart, hhist]

/-! ## Channels (R190, R191, R198) -/

section

variable {s : State} {path : Option Nat} {c slot g : Nat} {pr : PhProfile}

/-- A channel without a profile. -/
theorem chanItem_of_chanMap_none (h : s.chanMap c g = none) :
    s.chanItem path c slot g = some (s.unmapped (path.getD 0) c g) := by
  simp [State.chanItem, h]

/-- A slot that the channel's profile lacks. -/
theorem chanItem_of_orders_le {k b : Nat} (h : s.chanMap c g = some (pr, k, b)) (hslot : pr.orders.length ≤ slot) :
    s.chanItem path c slot g = some (s.unmapped (path.getD pr.path) c g) := by
  simp [State.chanItem, h, List.getElem?_eq_none hslot]

/-- A complete bin past the order limit is 0, INVALID, and carries ORDER_LIMIT beside the flags of its bus. -/
theorem phasor_past_order_limit {p bus h : Nat} {x : Item} (hlim : 9 * s.rateAt g < 20 * h * (s.bus bus g).fNom)
    (hx : s.phasor pr p bus c h g = some x) :
    ∃ i a, x = { re := 0, im := 0, iflags := i, aflags := a ||| afINVALID, pflags := s.busFlags bus p g ||| 4 } := by
  simp only [State.phasor, hlim, if_true] at hx
  split at hx
  next => cases hx
  next =>
    obtain ⟨-, hx⟩ := Option.ite_none_left_eq_some.mp hx
    exact ⟨_, _, (Option.some.inj hx).symm⟩

end

/-! ## Triples (R197) -/

/-- A component of channels that do not share a profile and a bus is 0 with INVALID and TRIPLE_MISMATCH. -/
theorem mismatched_flags (a b c : Item) :
    (mismatched a b c).re = 0 ∧ (mismatched a b c).im = 0 ∧ (mismatched a b c).aflags.testBit 0 = true ∧
      (mismatched a b c).pflags.testBit 3 = true := by
  refine ⟨rfl, rfl, testBit_or_afINVALID _, ?_⟩
  have h8 : Nat.testBit 8 3 = true := rfl
  simp only [mismatched, Nat.testBit_or, h8, Bool.true_or]

section

variable {s : State} {path : Option Nat} {t which g : Nat}

/-- A triple that is not VALID. -/
theorem tripleItem_of_none (h : (s.phAt g).triples.get? t = none) :
    s.tripleItem path t which g = some (Item.nil 16) := by
  simp [State.tripleItem, h]

/-- A complete component of a valid triple whose first two channels differ in profile or bus. -/
theorem tripleItem_of_mapEntry_ne {x : PhTriple} {y : Item} (h : (s.phAt g).triples.get? t = some x)
    (hne : s.mapEntry x.a g ≠ s.mapEntry x.b g) (hy : s.tripleItem path t which g = some y) :
    ∃ a b c, y = mismatched a b c := by
  unfold State.tripleItem at hy
  simp only [h] at hy
  split at hy
  next a b c _ _ _ =>
    rw [if_neg fun hsame => hne hsame.1] at hy
    exact ⟨a, b, c, (Option.some.inj hy).symm⟩
  next => cases hy

end

/-- Settles O34: each clause is the equation of its case, and the flags are read off the item that it gives. -/
theorem phasorItems : Obligations.PhasorItems := by
  unfold Obligations.PhasorItems
  refine ⟨fun s path c slot g => chanItem_of_chanMap_none, fun s path c slot g pr k b => chanItem_of_orders_le,
    fun s path c g => ⟨rfl, rfl, rfl, rfl⟩, ?orderLimit, fun s path t which g => tripleItem_of_none, ?mismatch,
    fun s b path g => busF_untracked, fun p => ⟨rfl, rfl, rfl, rfl⟩⟩
  case orderLimit =>
    intro s pr path bus c h g x hlim hx
    obtain ⟨i, a, rfl⟩ := phasor_past_order_limit hlim hx
    exact ⟨rfl, rfl, testBit_or_afINVALID a, rfl⟩
  case mismatch =>
    intro s path t which g x y hx hne hy
    obtain ⟨a, b, c, rfl⟩ := tripleItem_of_mapEntry_ne hx hne hy
    exact mismatched_flags a b c

end Machine
end Sys2Proof

/-! PROOFS. The GOOSE and trip commands (O37): what each one's body makes of an accepted command, and the ports that
the clear of GUAR_STATUS leaves (R230, R232). -/

namespace Sys2Proof
namespace Machine

/-! ## Reads of a port after an update (R273) -/

section

variable (s : State)

@[simp] theorem port_setPort (i : Nat) (x : Port) : (s.setPort i x).port i = x := by
  simp [State.port, Tbl.getD, tbl_get_set_same]

theorem port_setPort_other {i j : Nat} (h : j ≠ i) (x : Port) : (s.setPort i x).port j = s.port j := by
  simp [State.port, Tbl.getD, tbl_get_set_other _ _ _ _ h]

end

/-! ## The clear of GUAR_STATUS (R230) -/

/-- A port after the clear. -/
def Port.guarCleared (p : Port) : Port := { p with loadExc := 0, burstExc := 0, g2Exc := 0, pauseSeen := false }

/-- The clear of one port. -/
def State.clearGuar (s : State) (i : Nat) : State := s.setPort i (s.port i).guarCleared

theorem guarStatus_body (p : Path) (e : Exec) (t : State) : cmdGuarStatus.body p e t =
    .done (if byteAt e.req.params 0 = 1 then (List.range 6).foldl State.clearGuar t else t) stOK []
      (some ((List.range 6).flatMap t.guarBytes)) := rfl

/-- Clears of the ports of a list clear these ports and no other; a port cleared twice is as cleared once. -/
theorem port_foldl_clearGuar (l : List Nat) (s : State) (i : Nat) :
    (l.foldl State.clearGuar s).port i = if i ∈ l then (s.port i).guarCleared else s.port i := by
  induction l generalizing s with
  | nil => rfl
  | cons j l ih =>
    rw [List.foldl_cons, ih, State.clearGuar]
    by_cases h : i = j
    · subst h
      simp [Port.guarCleared]
    · simp [port_setPort_other s h, h]

/-! ## GOOSE_STATS of a subscription (R232) -/

theorem gooseStats_body {p : Path} {e : Exec} {t : State} {x : GooseSub}
    (hx : t.goose.subs.get? (le16 e.req.params 0) = some x) : cmdGooseStats.body p e t =
      .done (if byteAt e.req.params 2 = 1 then t.setSub (le16 e.req.params 0) { x with counts := [] } else t) stOK []
        (some (counts16 x.counts)) := by
  simp only [cmdGooseStats, hx]

/-- Settles O37: each row runs its command, so an accepted command ends as its body does; GUAR_STATUS clears the ports
that it lists. -/
theorem gooseCommands : Obligations.GooseCommands := by
  unfold Obligations.GooseCommands
  refine ⟨completes_of_body (fun _ _ => rfl) fun _ _ _ => rfl, completes_of_body (fun _ _ => rfl) fun _ _ _ => rfl,
    completes_of_body (fun _ _ => rfl) fun _ _ _ => rfl, answers_of_body (fun _ _ => rfl) fun _ _ _ => rfl,
    answers_of_body (fun _ _ => rfl) fun _ _ _ => rfl, answers_of_body (fun _ _ => rfl) fun _ _ _ => rfl,
    answers_of_body (fun _ _ => rfl) fun _ _ _ => rfl, answers_of_body (fun _ _ => rfl) fun _ _ _ => rfl,
    fun p e s t x ha hx => congrArg Host.Outcome.next (run_done ha (gooseStats_body hx)), ?guarStatus⟩
  case guarStatus =>
    intro p e s t ha
    refine ⟨_, congrArg Host.Outcome.next (run_done ha (guarStatus_body p e t)), fun h => if_neg (by omega), ?_⟩
    intro h i hi
    rw [if_pos h, port_foldl_clearGuar, if_pos (List.mem_range.mpr hi)]
    exact ⟨rfl, rfl, rfl, rfl, rfl⟩

end Machine
end Sys2Proof

/-! PROOFS. The block as a whole: a step and the command in front of the queue (O58), and the state after reset (O60). -/

namespace Sys2Proof
namespace Machine

/-- A step takes the front command off the queue and carries it out. -/
theorem step_front (c : Instr) (rest : List Instr) (s : State) :
    step { s with pending := c :: rest } = exec c { s with pending := rest } := rfl

theorem step_idle {s : State} (h : s.pending = []) : step s = .next s.idleTick := by
  simp [step, h]

/-- Without PD_MGMT the clocks stand, and nothing passes (R314). -/
theorem idleTick_unpowered {s : State} (h : Domain.mgmt ∉ s.power.on) : s.idleTick = s := by
  simp [State.idleTick, h]

/-- Settles O58: the two cases of the queue. -/
theorem stepRunsFront : Obligations.StepRunsFront := by
  unfold Obligations.StepRunsFront
  refine ⟨step_front, fun s => step_idle, fun s h hm => ?_, fun c rest s t h => (step_front c rest s).trans h⟩
  rw [step_idle h, idleTick_unpowered hm]

/-- Settles O60: every clause reads fields of the literal state after reset. -/
theorem resetHoldsNothing : Obligations.ResetHoldsNothing := by
  unfold Obligations.ResetHoldsNothing
  refine ⟨?bridle, rfl, rfl, rfl, rfl, rfl, rfl⟩
  case bridle =>
    rintro (h | h)
    · exact absurd h (by decide)
    · exact absurd h (by decide)

end Machine
end Sys2Proof

/-! PROOFS. Reads of a table after an update, a removal or a change of every entry, and detectors with no injection. -/

namespace Sys2Proof
namespace Machine

section

variable {α : Type} (t : Tbl α) (k j : Nat)

/-- What a table reads after a removal: nothing where the test accepts the key, the entry elsewhere. -/
theorem tbl_get_delIf (f : Nat → Bool) : (Tbl.delIf t f).get? j = if f j then none else t.get? j := by
  induction t with
  | nil => simp [Tbl.delIf, Tbl.get?]
  | cons c r ih =>
    obtain ⟨a, b⟩ := c
    simp only [Tbl.delIf] at ih
    by_cases h : f a
    · simp only [Tbl.delIf, List.filter_cons, h, Bool.not_true, Bool.false_eq_true, if_false, ih, Tbl.get?]
      by_cases ha : a = j
      · simp [← ha, h]
      · simp [ha]
    · simp only [Tbl.delIf, List.filter_cons, h, Bool.not_false, if_true, ih, Tbl.get?]
      by_cases ha : a = j
      · simp [← ha, h]
      · simp [ha]

theorem tbl_del_eq_delIf : Tbl.del t k = Tbl.delIf t (· == k) := by
  unfold Tbl.del Tbl.delIf
  congr 1
  funext p
  simp [beq_eq_decide]

@[simp] theorem tbl_get_del_same : (Tbl.del t k).get? k = none := by
  simp [tbl_del_eq_delIf, tbl_get_delIf]

variable {k j}

theorem tbl_get_del_other (h : j ≠ k) : (Tbl.del t k).get? j = t.get? j := by
  simp [tbl_del_eq_delIf, tbl_get_delIf, h]

variable (v d : α)

@[simp] theorem tbl_getD_set_same : (Tbl.set t k v).getD k d = v := by
  simp [Tbl.getD, tbl_get_set_same]

theorem tbl_getD_set_other (h : j ≠ k) : (Tbl.set t k v).getD j d = t.getD j d := by
  simp [Tbl.getD, tbl_get_set_other _ _ _ _ h]

theorem tbl_get_mapV {β : Type} (f : Nat → α → β) (j : Nat) : (Tbl.mapV t f).get? j = (t.get? j).map (f j) := by
  induction t with
  | nil => rfl
  | cons c r ih =>
    obtain ⟨a, b⟩ := c
    simp only [Tbl.mapV] at ih
    by_cases ha : a = j
    · simp [Tbl.mapV, Tbl.get?, ha]
    · simp [Tbl.mapV, Tbl.get?, ha, ih]

end

section

variable {s : State} {code obj sub : Nat}

/-- With no injection armed for a detector and object, none acts (R484). -/
theorem inject_of_none (h : s.injection code obj sub = none) : s.inject code obj sub = (false, s) := by
  simp [State.inject, h]

theorem injection_of_nil (h : s.diag.inj = []) (code obj sub : Nat) : s.injection code obj sub = none := by
  simp [State.injection, h]

theorem inject_of_nil (h : s.diag.inj = []) (code obj sub : Nat) : s.inject code obj sub = (false, s) :=
  inject_of_none (injection_of_nil h code obj sub)

end

end Machine
end Sys2Proof

/-! PROOFS. The port commands (O43): what each one's body makes of an accepted command. -/

namespace Sys2Proof
namespace Machine

variable {p : Path} {e : Exec} {t : State}

/-- The state after PORT_STATS: the half mask of the block is cleared, its counters on request (R291, R293). -/
def State.portStatsRead (t : State) (i clear : Nat) : State :=
  if clear = 1 then { t with ports := { t.ports with
      half := t.ports.half.del i, counters := t.ports.counters.delIf (fun k => k / 64 == i) } }
  else { t with ports.half := t.ports.half.del i }

theorem portStats_body (p : Path) (e : Exec) (t : State) : cmdPortStats.body p e t =
    .done (t.portStatsRead (byteAt e.req.params 0) (byteAt e.req.params 1)) stOK [] (some (
      ((List.range 64).map (fun k => leBytes 4 (t.ports.counters.getD (64 * byteAt e.req.params 0 + k) 0))).flatten ++
        leBytes 8 (t.ports.half.getD (byteAt e.req.params 0) 0))) := rfl

section

variable (t : State) (i clear : Nat)

@[simp] theorem portStatsRead_half : (t.portStatsRead i clear).ports.half = t.ports.half.del i := by
  unfold State.portStatsRead
  split <;> rfl

@[simp] theorem portStatsRead_port : (t.portStatsRead i clear).ports.port = t.ports.port := by
  unfold State.portStatsRead
  split <;> rfl

theorem portStatsRead_counters : (t.portStatsRead i clear).ports.counters =
    if clear = 1 then t.ports.counters.delIf (fun k => k / 64 == i) else t.ports.counters := by
  unfold State.portStatsRead
  split <;> rfl

end

theorem portSfpRead_some {d : Bytes} (h : (t.port (byteAt e.req.params 0)).sfpBytes (byteAt e.req.params 1 == 1) = some d) :
    cmdPortSfpRead.body p e t = .done t stOK [] (some (slice d (byteAt e.req.params 2) (byteAt e.req.params 3))) := by
  simp only [cmdPortSfpRead, h]

theorem portSfpRead_none (h : (t.port (byteAt e.req.params 0)).sfpBytes (byteAt e.req.params 1 == 1) = none) :
    cmdPortSfpRead.body p e t = .done t stFAULT [] none := by
  simp only [cmdPortSfpRead, h]

/-- Settles O43: each row runs its command, so an accepted command ends as its body does. -/
theorem portCommands : Obligations.PortCommands := by
  unfold Obligations.PortCommands
  refine ⟨completes_of_body (fun _ _ => rfl) fun _ _ _ => rfl, completes_of_body (fun _ _ => rfl) fun _ _ _ => rfl,
    answers_of_body (fun _ _ => rfl) fun _ _ _ => rfl, answers_of_body (fun _ _ => rfl) fun _ _ _ => rfl,
    answers_of_body (fun _ _ => rfl) fun _ _ _ => rfl, ?stats,
    fun p e s t ha => ⟨fun d hd => congrArg Host.Outcome.next (run_done ha (portSfpRead_some hd)),
      fun hn => congrArg Host.Outcome.next (run_done ha (portSfpRead_none hn))⟩,
    completes_of_body (fun _ _ => rfl) fun _ _ _ => rfl⟩
  case stats =>
    rintro p e s t i ha rfl
    refine ⟨_, congrArg Host.Outcome.next (run_done ha (portStats_body p e t)), by simp, by simp,
      fun j hj => by simp [tbl_get_del_other _ hj], fun h => ?_, fun h j => ?_⟩
    · rw [portStatsRead_counters, if_neg (by omega)]
    · rw [portStatsRead_counters, if_pos h, tbl_get_delIf]
      exact ⟨fun hj => if_pos (by simpa using hj), fun hj => if_neg (by simpa using hj)⟩

end Machine
end Sys2Proof

/-! PROOFS. Byte strings: lengths, and the field that a slice of a concatenation reads. -/

namespace Sys2Proof
namespace Machine

section

variable {a b c : Bytes} {i n : Nat}

@[simp] theorem length_leBytes (n v : Nat) : (leBytes n v).length = n := by
  induction n generalizing v with
  | zero => rfl
  | succ n ih => simp [leBytes, ih]

@[simp] theorem length_leInt (n : Nat) (v : Int) : (leInt n v).length = n := length_leBytes n _

@[simp] theorem length_zeros (n : Nat) : (zeros n).length = n := List.length_replicate

@[simp] theorem length_slice (b : Bytes) (i n : Nat) : (slice b i n).length = n := by
  simp [slice]

@[simp] theorem length_padTo (n : Nat) (b : Bytes) : (padTo n b).length = n := length_slice b 0 n

/-- A slice that lies inside its byte string is cut from it. -/
theorem slice_eq_take_drop (h : i + n ≤ b.length) : slice b i n = (b.drop i).take n := by
  have hlen : ((b.drop i).take n).length = n := by simp; omega
  simp only [slice, hlen, Nat.sub_self, zeros, List.replicate_zero, List.append_nil]

theorem slice_append_left (h : i + n ≤ a.length) : slice (a ++ b) i n = slice a i n := by
  rw [slice_eq_take_drop h, slice_eq_take_drop (by simp; omega), List.drop_append_of_le_length (by omega),
    List.take_append_of_le_length (by simp; omega)]

theorem slice_append_skip (a b : Bytes) (i n : Nat) : slice (a ++ b) (a.length + i) n = slice b i n := by
  simp [slice]

theorem slice_all (h : a.length = n) : slice a 0 n = a := by
  rw [slice_eq_take_drop (by omega)]
  simp [← h]

/-- A slice reads the part of a concatenation that it names. -/
theorem slice_append_mid (ha : a.length = i) (hb : b.length = n) : slice (a ++ b ++ c) i n = b := by
  have hskip := slice_append_skip a (b ++ c) 0 n
  rw [Nat.add_zero, ha, ← List.append_assoc] at hskip
  rw [hskip, slice_append_left (by omega), slice_all hb]

theorem slice_append_end (ha : a.length = i) (hb : b.length = n) : slice (a ++ b) i n = b := by
  simpa using slice_append_mid (c := []) ha hb

end

/-! ## Records of one length, one after the other -/

section

variable {f : Nat → Bytes} {w : Nat} (hf : ∀ j, (f j).length = w)

include hf

theorem length_flatMap_range (m : Nat) : ((List.range m).flatMap f).length = w * m := by
  induction m with
  | zero => rfl
  | succ m ih => rw [List.range_succ, List.flatMap_append, List.length_append, ih]; simp [hf, Nat.mul_succ]

theorem slice_flatMap_range {m k : Nat} (hk : k < m) : slice ((List.range m).flatMap f) (w * k) w = f k := by
  induction m with
  | zero => omega
  | succ m ih =>
    have hlen := length_flatMap_range hf m
    rw [List.range_succ, List.flatMap_append, List.flatMap_singleton]
    rcases Nat.lt_succ_iff_lt_or_eq.1 hk with h | rfl
    · have hle : w * k + w ≤ w * m := by
        rw [← Nat.mul_succ]
        exact Nat.mul_le_mul_left w h
      rw [slice_append_left (hlen.symm ▸ hle), ih h]
    · exact slice_append_end hlen (hf k)

end

end Machine
end Sys2Proof

/-! PROOFS. Bit logic (O38): what each instruction makes of A, the stack, the images and the next word, and what a run
makes of words that are skipped (R235 to R241, R250). -/

namespace Sys2Proof
namespace Machine

/-! ## The fields of an instruction word (R235) -/

section

variable {op area addr : Nat}

theorem wOp_insnWord (ho : op < 256) (ha : area < 16) (hx : addr < 65536) : wOp (insnWord op area addr) = op := by
  unfold wOp insnWord
  omega

theorem wArea_insnWord (ha : area < 16) (hx : addr < 65536) : wArea (insnWord op area addr) = area := by
  unfold wArea insnWord
  omega

theorem wAddr_insnWord (hx : addr < 65536) : wAddr (insnWord op area addr) = addr := by
  unfold wAddr insnWord
  omega

end

/-! ## Bits of an image -/

theorem getLsbD_setBit {n : Nat} (x : BitVec n) {i : Nat} (hi : i < n) (v : Bool) (j : Nat) :
    (setBit x i v).getLsbD j = if j = i then v else x.getLsbD j := by
  by_cases hj : j = i
  · subst hj
    cases v <;> simp [setBit, hi]
  · have hij : ¬i = j := Ne.symm hj
    by_cases hn : j < n
    · cases v <;> simp [setBit, hj, hn]
    · cases v <;> simp [setBit, hj, hij, hn, BitVec.getLsbD_of_ge x j (by omega)]

/-! ## One instruction (R236) -/

/-- The section past the one-word instruction at `pc`. -/
def Dbl.onward (d : Dbl) (pc : Nat) : Dbl := { d with next := pc + 1, cycles := d.cycles + 1 }

section

variable {fs : List (Nat × Nat × Bool)} {tb w pre pc : Nat} {d : Dbl}

/-- What the operand instructions make of A and their operand. -/
def bitOp (op : Nat) (a x : Bool) : Bool :=
  match op with
  | 1 => x
  | 2 => !x
  | 3 => a && x
  | 4 => a && !x
  | 5 => a || x
  | 6 => a || !x
  | 7 => a ^^ x
  | _ => a

theorem dblStep_bitOp (h : wOp w < 8) : dblStep fs tb w pre pc d =
    { d.onward pc with a := bitOp (wOp w) d.a (d.img.read fs (wArea w) (wAddr w)) } := by
  generalize hop : wOp w = op at h
  interval_cases op <;> simp only [dblStep, hop] <;> rfl

/-- What ST, STN, SETC and CLRC store, where they store. -/
def storeOp (op : Nat) (a : Bool) : Option Bool :=
  match op with
  | 0x20 => some a
  | 0x21 => some !a
  | 0x22 => if a then some true else none
  | _ => if a then some false else none

theorem dblStep_store (h : 0x20 ≤ wOp w) (h2 : wOp w ≤ 0x23) : dblStep fs tb w pre pc d =
    match storeOp (wOp w) d.a with
    | some v => { d.onward pc with img := d.img.write (wArea w) (wAddr w) v }
    | none => d.onward pc := by
  generalize hop : wOp w = op at h h2
  interval_cases op <;> simp only [dblStep, hop, storeOp]
  · rfl
  · rfl
  · by_cases ha : d.a = true
    · rw [if_pos ha, if_pos ha]
      rfl
    · rw [if_neg ha, if_neg ha]
      rfl
  · by_cases ha : d.a = true
    · rw [if_pos ha, if_pos ha]
      rfl
    · rw [if_neg ha, if_neg ha]
      rfl

theorem dblStep_psh (h : wOp w = 0x18) : dblStep fs tb w pre pc d = { d.onward pc with stk := d.a :: d.stk } := by
  simp only [dblStep, h]
  rfl

/-- What the stack instructions make of the top of the stack and A. -/
def stackOp (op : Nat) (top a : Bool) : Bool :=
  match op with
  | 0x19 => top && a
  | 0x1A => top || a
  | 0x1B => top ^^ a
  | _ => top

theorem dblStep_pop (h : 0x19 ≤ wOp w) (h2 : wOp w ≤ 0x1C) : dblStep fs tb w pre pc d =
    { d.onward pc with a := stackOp (wOp w) (d.stk.headD false) d.a, stk := d.stk.tail } := by
  generalize hop : wOp w = op at h h2
  interval_cases op <;> simp only [dblStep, hop] <;> rfl

theorem dblStep_top (h : wOp w = 0x1D) : dblStep fs tb w pre pc d =
    { d.onward pc with a := d.stk.headD false } := by
  simp only [dblStep, h]
  rfl

/-- PE and NE take A into their F bit, and compare it with what the bit held; an uninitialised one gives 0. -/
theorem dblStep_pe (h : wOp w = 0x28) : dblStep fs tb w pre pc d = { d.onward pc with
    a := ((d.img.f.get? (wAddr w)).map (fun f => d.a && !f)).getD false, img.f := d.img.f.set (wAddr w) d.a } := by
  simp only [dblStep, h]
  cases d.img.f.get? (wAddr w) <;> rfl

theorem dblStep_ne (h : wOp w = 0x29) : dblStep fs tb w pre pc d = { d.onward pc with
    a := ((d.img.f.get? (wAddr w)).map (fun f => f && !d.a)).getD false, img.f := d.img.f.set (wAddr w) d.a } := by
  simp only [dblStep, h]
  cases d.img.f.get? (wAddr w) <;> rfl

theorem dblStep_counter (h : wOp w = 0x38 ∨ wOp w = 0x39) : (dblStep fs tb w pre pc d).img.c =
    d.img.c.set (wAddr w) ((d.img.c.getD (wAddr w) {}).exec (wOp w == 0x38) d.a (int32 pre)) := by
  rcases h with h | h <;> simp only [dblStep, h] <;> rfl

theorem dblStep_flt (h : wOp w = 0x48) : dblStep fs tb w pre pc d =
    if d.a then { d.onward pc with codes := wAddr w :: d.codes } else d.onward pc := by
  simp only [dblStep, h]
  rfl

/-- Whether a jump is taken. -/
def jumpOp (op : Nat) (a : Bool) : Bool := if op = 0x40 then true else if op = 0x41 then a else !a

theorem dblStep_jump (h : 0x40 ≤ wOp w) (h2 : wOp w ≤ 0x42) : dblStep fs tb w pre pc d =
    if jumpOp (wOp w) d.a then { d.onward pc with next := wAddr w, cycles := d.cycles + 1 + 1 } else d.onward pc := by
  generalize hop : wOp w = op at h h2
  interval_cases op <;> simp only [dblStep, hop] <;> rfl

theorem dblStep_end (h : wOp w = 0x7F) : dblStep fs tb w pre pc d = { d.onward pc with fin := true } := by
  simp only [dblStep, h]
  rfl

end

/-! ## Timers and counters (R239, R240) -/

theorem exec_count (c : Counter) (up a : Bool) (pre : Int) : (c.exec up a pre).count =
    if c.prev = some false ∧ a = true then satI32 (if up then c.count + 1 else c.count - 1) else c.count := by
  obtain ⟨count, preset, prev, out⟩ := c
  rcases prev with _ | _ | _ <;> cases a <;> cases up <;> rfl

theorem satI32_eq (x : Int) : satI32 x = min 2147483647 (max (-2147483648) x) := by
  unfold satI32
  omega

section

variable {t : Timer} {tb pre : Nat}

/-- The elapsed time with what passed since the last execution added (R239). -/
def Timer.accumulated (t : Timer) (tb : Nat) : Nat := min (t.el + (tb - t.tLast)) 4294967295

theorem timer_remembers (op : Nat) (a : Bool) : (t.exec op a tb pre).p = a ∧ (t.exec op a tb pre).tLast = tb := ⟨rfl, rfl⟩

theorem timer_ton (a : Bool) : (t.exec 0x30 a tb pre).el = (if a && t.p then t.accumulated tb else 0) ∧
    (t.exec 0x30 a tb pre).out = (a && decide (pre ≤ (t.exec 0x30 a tb pre).el)) := ⟨rfl, rfl⟩

theorem timer_tof_on : (t.exec 0x31 true tb pre).el = 0 ∧ (t.exec 0x31 true tb pre).out = true := ⟨rfl, rfl⟩

theorem timer_tof_fall (hp : t.p = true) :
    (t.exec 0x31 false tb pre).el = 0 ∧ (t.exec 0x31 false tb pre).out = decide (0 < pre) := by
  simp [Timer.exec, hp]

theorem timer_tof_run (hp : t.p = false) (hr : t.run = true) : (t.exec 0x31 false tb pre).el = t.accumulated tb ∧
    (t.exec 0x31 false tb pre).out = decide (t.accumulated tb < pre) := by
  simp [Timer.exec, hp, hr, Timer.accumulated, satU32]

theorem timer_tp_start (hp : t.p = false) (hr : t.run = false) :
    (t.exec 0x32 true tb pre).el = 0 ∧ (t.exec 0x32 true tb pre).out = decide (0 < pre) := by
  simp [Timer.exec, hp, hr, Nat.pos_iff_ne_zero]

theorem timer_tp_run {a : Bool} (hr : t.run = true) : (t.exec 0x32 a tb pre).el = t.accumulated tb ∧
    (t.exec 0x32 a tb pre).out = decide (t.accumulated tb < pre) := by
  refine ⟨by simp [Timer.exec, hr, Timer.accumulated, satU32], ?_⟩
  have hout : (t.exec 0x32 a tb pre).out = !decide (pre ≤ t.accumulated tb) := by
    simp [Timer.exec, hr, Timer.accumulated, satU32]
  rw [hout, ← decide_not, decide_eq_decide, not_le]

theorem timer_retentive (a : Bool) : (t.exec 0x33 a tb pre).el = (if a && t.p then t.accumulated tb else t.el) ∧
    (t.exec 0x33 a tb pre).out = decide (pre ≤ (t.exec 0x33 a tb pre).el) := ⟨rfl, rfl⟩

end

/-! ## Words that change nothing (R237) -/

section

variable {fs : List (Nat × Nat × Bool)} {tb w pc : Nat} {ws : List Nat} {d : Dbl}

theorem dblRun_skip (h : d.fin = true ∨ pc < d.next) : dblRun fs tb (w :: ws) pc d = dblRun fs tb ws (pc + 1) d := by
  rw [dblRun, if_pos (by simpa using h)]

theorem dblRun_ended (h : d.fin = true) : dblRun fs tb ws pc d = d := by
  induction ws generalizing pc with
  | nil => rfl
  | cons w ws ih => rw [dblRun_skip (.inl h), ih]

end

/-- Settles O38: the clauses are the equations of the instructions at their words, the timers' equations, and the words
a run passes over. -/
theorem bitLogic : Obligations.BitLogic := by
  unfold Obligations.BitLogic
  refine ⟨?operands, ?stores, ?stack, ?edges, ?counters, ?timers, ?control, fun fs tb w ws pc d => dblRun_skip,
    fun fs tb ws pc d => dblRun_ended⟩
  case operands =>
    rintro fs tb pre pc d ar x v har hx rfl
    have step (op : Nat) (h : op < 8) : dblStep fs tb (insnWord op ar x) pre pc d =
        { d.onward pc with a := bitOp op d.a (d.img.read fs ar x) } := by
      have hop : wOp (insnWord op ar x) = op := wOp_insnWord (by omega) har hx
      rw [dblStep_bitOp (by omega), hop, wArea_insnWord har hx, wAddr_insnWord hx]
    simp only [step, Nat.reduceLT]
    exact ⟨rfl, rfl, rfl, rfl, rfl, rfl, rfl, fun op h => by rw [step op h]; exact ⟨rfl, rfl, rfl⟩⟩
  case stores =>
    intro fs tb pre pc d k hk
    have step (op : Nat) (h : 0x20 ≤ op) (h2 : op ≤ 0x23) : dblStep fs tb (insnWord op 1 k) pre pc d =
        match storeOp op d.a with
        | some v => { d.onward pc with img := { d.img with q := setBit d.img.q k v } }
        | none => d.onward pc := by
      have hop : wOp (insnWord op 1 k) = op := wOp_insnWord (by omega) (by omega) (by omega)
      rw [dblStep_store (by omega) (by omega), hop, wArea_insnWord (by omega) (by omega), wAddr_insnWord (by omega)]
      rfl
    refine ⟨?_, ?_, ?_, ?_, fun op j h h2 hj => ?_, fun op h h2 => ?_⟩
    · simp [step, storeOp, getLsbD_setBit _ hk]
    · simp [step, storeOp, getLsbD_setBit _ hk]
    · by_cases ha : d.a <;> simp [step, storeOp, getLsbD_setBit _ hk, ha, Dbl.onward]
    · by_cases ha : d.a <;> simp [step, storeOp, getLsbD_setBit _ hk, ha, Dbl.onward]
    · rw [step op h h2]
      cases storeOp op d.a with
      | none => rfl
      | some v => simp [getLsbD_setBit _ hk, hj]
    · rw [step op h h2]
      cases storeOp op d.a <;> rfl
  case stack =>
    intro fs tb pre pc d w w2
    refine ⟨?_, ?_, ?_, ?_, ?_⟩
    · rw [dblStep_psh (w := insnWord 0x18 0 0) (by decide), dblStep_pop (by decide) (by decide)]
      rfl
    · rw [dblStep_pop (by decide) (by decide)]
      rfl
    · rw [dblStep_pop (by decide) (by decide)]
      rfl
    · rw [dblStep_pop (by decide) (by decide)]
      rfl
    · rw [dblStep_top (by decide)]
      rfl
  case edges =>
    intro fs tb pre pc d k hk
    have haddr (op : Nat) : wAddr (insnWord op 9 k) = k := wAddr_insnWord (by omega)
    have hpe := dblStep_pe (fs := fs) (tb := tb) (pre := pre) (pc := pc) (d := d) (w := insnWord 0x28 9 k)
      (wOp_insnWord (by omega) (by omega) (by omega))
    have hne := dblStep_ne (fs := fs) (tb := tb) (pre := pre) (pc := pc) (d := d) (w := insnWord 0x29 9 k)
      (wOp_insnWord (by omega) (by omega) (by omega))
    rw [haddr] at hpe hne
    refine ⟨fun f hf => ⟨by simp [hpe, hf], by simp [hne, hf]⟩, fun hf => ⟨by simp [hpe, hf], by simp [hne, hf]⟩, ?_⟩
    rintro op (rfl | rfl)
    · rw [hpe]
    · rw [hne]
  case counters =>
    rintro fs tb pre pc d k hk c rfl
    have step (op : Nat) (h : op = 0x38 ∨ op = 0x39) : ((dblStep fs tb (insnWord op 4 k) pre pc d).img.c.getD k {}) =
        (d.img.c.getD k {}).exec (op == 0x38) d.a (int32 pre) := by
      have hop : wOp (insnWord op 4 k) = op := wOp_insnWord (by omega) (by omega) (by omega)
      rw [dblStep_counter (by omega), hop, wAddr_insnWord (by omega)]
      simp [Tbl.getD, tbl_get_set_same]
    refine ⟨fun h => ?_, fun h ha => ?_, fun op h => by rw [step op h]; rfl⟩
    · have hno : ¬((d.img.c.getD k {}).prev = some false ∧ d.a = true) := by
        rintro ⟨h1, h2⟩
        simp [h1, h2] at h
      simp [step, exec_count, hno]
    · simp [step, exec_count, h, ha, satI32_eq]
  case timers =>
    rintro t a tb pre e rfl
    refine ⟨fun op => timer_remembers op a, (timer_ton a).1, (timer_ton a).2, ?_, ?_, ?_, ?_, timer_tp_run,
      (timer_retentive a).1, (timer_retentive a).2⟩
    · rintro rfl
      exact timer_tof_on
    · rintro rfl hp
      exact timer_tof_fall hp
    · rintro rfl hp hr
      exact timer_tof_run hp hr
    · rintro rfl hp hr
      exact timer_tp_start hp hr
  case control =>
    intro fs tb pre pc d k hk
    have hop (op : Nat) (h : op < 256) : wOp (insnWord op 0 k) = op := wOp_insnWord h (by omega) hk
    have jump (op : Nat) (h : 0x40 ≤ op) (h2 : op ≤ 0x42) : (dblStep fs tb (insnWord op 0 k) pre pc d).next =
        if jumpOp op d.a then k else pc + 1 := by
      have ho := hop op (by omega)
      rw [dblStep_jump (by omega) (by omega), ho, wAddr_insnWord hk]
      split <;> rfl
    refine ⟨?_, ?_, ?_, ?_, ?_⟩
    · rw [dblStep_flt (hop _ (by omega)), wAddr_insnWord hk]
      split <;> rfl
    · simp [jump, jumpOp]
    · by_cases ha : d.a <;> simp [jump, jumpOp, ha]
    · simp [jump, jumpOp]
    · rw [dblStep_end (by decide)]

end Machine
end Sys2Proof

/-! PROOFS. Remote I/O (O41): the counters and stations of the segment, the cycle, the verdicts, received frames and the
commands (R259 to R272). -/

namespace Sys2Proof
namespace Machine

/-! ## Counters and stations (R268, R272) -/

/-- A station with one of its counters one event on. -/
def BrioStation.count (x : BrioStation) (i : Nat) : BrioStation :=
  { x with counts := x.counts.set i (inc32 (x.counts.getD i 0)) }

section

variable (s : State)

theorem segCount_brio (i : Nat) : (s.segCount i).brio =
    { s.brio with counts := s.brio.counts.set i (inc32 (s.brio.counts.getD i 0)) } := by simp [State.segCount]
@[simp] theorem segCount_cfg (i : Nat) : (s.segCount i).cfg = s.cfg := by simp [State.segCount]
@[simp] theorem segCount_logic (i : Nat) : (s.segCount i).logic = s.logic := by simp [State.segCount]
@[simp] theorem segCount_time (i : Nat) : (s.segCount i).time = s.time := by simp [State.segCount]

@[simp] theorem station_setStation (k : Nat) (x : BrioStation) : (s.setStation k x).station k = x := by
  simp [State.station, State.setStation]

@[simp] theorem setStation_cfg (k : Nat) (x : BrioStation) : (s.setStation k x).cfg = s.cfg := rfl
@[simp] theorem setStation_logic (k : Nat) (x : BrioStation) : (s.setStation k x).logic = s.logic := rfl

theorem station_setStation_other {j k : Nat} (h : j ≠ k) (x : BrioStation) : (s.setStation k x).station j = s.station j := by
  simp [State.station, State.setStation, tbl_getD_set_other _ _ _ h]

/-- A count of a station changes that station alone; Firn may take a record. -/
theorem stationCount_brio (k i : Nat) : (s.stationCount k i).brio = (s.setStation k ((s.station k).count i)).brio := by
  simp [State.stationCount, State.setStation, BrioStation.count]
@[simp] theorem stationCount_cfg (k i : Nat) : (s.stationCount k i).cfg = s.cfg := by
  simp [State.stationCount, State.setStation]
@[simp] theorem stationCount_logic (k i : Nat) : (s.stationCount k i).logic = s.logic := by
  simp [State.stationCount, State.setStation]
@[simp] theorem stationCount_counts (k i : Nat) : (s.stationCount k i).brio.counts = s.brio.counts := by
  simp [stationCount_brio, State.setStation]

@[simp] theorem station_stationCount (k i : Nat) : (s.stationCount k i).station k = (s.station k).count i := by
  rw [State.station, stationCount_brio]
  exact station_setStation s k _

theorem station_stationCount_other {j k : Nat} (h : j ≠ k) (i : Nat) : (s.stationCount k i).station j = s.station j := by
  rw [State.station, stationCount_brio]
  exact station_setStation_other s h _

@[simp] theorem inputFault_brio : s.inputFault.brio = s.brio := by simp [State.inputFault]
@[simp] theorem inputFault_inFault : s.inputFault.logic.inFault = true := by simp [State.inputFault]

/-- A change of a station's state: MISMATCH alone keeps a reason (R268). -/
@[simp] theorem station_stationTo (k new reason : Nat) : (s.stationTo k new reason).station k =
    { s.station k with state := new, reason := if new = 5 then reason else 0 } := by
  unfold State.stationTo
  extract_lets x u v
  have hu : u.station k = { s.station k with state := new, reason := if new = 5 then reason else 0 } :=
    station_setStation s k _
  have hv : v.brio = u.brio := by
    dsimp only [v]
    split <;> simp
  split
  · exact hu
  · have hw (w : State) (h : w.brio = u.brio) : w.station k = u.station k := congrArg (·.stations.getD k {}) h
    split
    · exact (hw _ ((inputFault_brio v).trans hv)).trans hu
    · exact (hw _ hv).trans hu

/-- A station that falls out of RUN into LOST or MISMATCH is an input fault; no other change is (R247, R268). -/
theorem stationTo_inFault (k new reason : Nat) : (s.stationTo k new reason).logic.inFault =
    (s.logic.inFault || decide ((s.station k).state = 3 ∧ 4 ≤ new)) := by
  unfold State.stationTo
  extract_lets x u v
  have hv : v.logic = s.logic := by
    dsimp only [v]
    split <;> simp [u, State.setStation]
  have hfall : decide ((s.station k).state = 3 ∧ 4 ≤ new) = (decide (x.state = 3) && decide (4 ≤ new)) :=
    Bool.decide_and ..
  rw [hfall]
  split
  · rename_i h
    have hno : (decide (x.state = 3) && decide (4 ≤ new)) = false := by
      simp
      omega
    simp [hno, u, State.setStation]
  · split
    · rename_i h
      simp only [h, inputFault_inFault, Bool.or_true]
    · rename_i h
      simp [h, hv]

end

/-! ## The cycle (R260 to R264, R270) -/

section

variable (s : State)

/-- The payload is made of the records, the committed outputs and the segment's settings. -/
theorem cyclePayload_congr {s t : State} (hc : t.cfg = s.cfg) (hl : t.logic = s.logic) (hs : t.brio.seg = s.brio.seg)
    (n : Nat) : t.cyclePayload n = s.cyclePayload n := by
  simp only [State.cyclePayload, State.brioId, hc, hl, hs]

/-- With one station `k`, the words of the others are zeros. -/
theorem cyclePayload_one {k : Nat} {b : Bytes} (hf : s.logic.fault = false) (hb : s.cfg.tables.stations = [(k, b)]) (n : Nat) :
    s.cyclePayload n = [1, 1] ++ be16 s.brioId ++ be32 n ++ [0xF0] ++ leBytes 1 (byteAt s.brio.seg 1) ++ zeros 6 ++
      be16 (2 ^ k) ++ zeros 2 ++ (List.range 8).flatMap (fun j =>
        if k = j then leBytes 8 ((s.logic.qOut >>> stOut b).toNat % 2 ^ 64) else zeros 8) := by
  simp only [State.cyclePayload, hf, hb, Bool.false_eq_true, if_false, List.foldl_cons, List.foldl_nil, Nat.zero_add]
  congr 2
  funext j
  by_cases h : k = j <;> simp [Tbl.get?, h]

theorem cyclePayload_fields {k : Nat} {b : Bytes} (hf : s.logic.fault = false) (hb : s.cfg.tables.stations = [(k, b)])
    (hk : k < 8) (n : Nat) :
    slice (s.cyclePayload n) (20 + 8 * k) 8 = leBytes 8 ((s.logic.qOut >>> stOut b).toNat % 2 ^ 64) ∧
      slice (s.cyclePayload n) 4 4 = be32 n ∧ rdBe16 (s.cyclePayload n) 16 = 2 ^ k := by
  rw [cyclePayload_one s hf hb]
  generalize (s.logic.qOut >>> stOut b).toNat % 2 ^ 64 = q
  have hword (j : Nat) : (if k = j then leBytes 8 q else zeros 8).length = 8 := by
    split <;> simp
  refine ⟨?_, ?_, ?_⟩
  · have hw := slice_flatMap_range hword hk
    rw [if_pos rfl] at hw
    exact (slice_append_skip (_ ++ zeros 2) _ (8 * k) 8).trans hw
  · simp only [List.append_assoc]
    rw [← List.append_assoc, ← List.append_assoc]
    exact slice_append_left (by simp [be16, be32]) |>.trans (slice_append_end rfl (by simp [be32]))
  · have hk16 : 2 ^ k < 65536 := Nat.pow_lt_pow_right (by omega) (show k < 16 by omega)
    simp [rdBe16, byteAt, be16, be32, leBytes, zeros]
    rw [Nat.mod_eq_of_lt (show 2 ^ k / 256 < 256 by omega)]
    exact Nat.div_add_mod _ _

theorem openCycle_brio (n start : Nat) : (s.openCycle n start).brio = { s.brio with
    cur := some (n, start), closed := false, aborted := false, attempts := 0, backoff := none
    stations := s.brio.stations.mapV (fun _ x => { x with got := false, identBad := false })
    counts := s.brio.counts.set 0 (inc32 (s.brio.counts.getD 0 0)) } := segCount_brio _ 0
@[simp] theorem openCycle_cfg (n start : Nat) : (s.openCycle n start).cfg = s.cfg := by simp [State.openCycle]
@[simp] theorem openCycle_logic (n start : Nat) : (s.openCycle n start).logic = s.logic := by simp [State.openCycle]

theorem openCycle_got (n start k : Nat) : ((s.openCycle n start).station k).got = false := by
  rw [State.station, openCycle_brio]
  simp only [Tbl.getD, tbl_get_mapV]
  cases s.brio.stations.get? k <;> rfl

/-- A frame sent leaves its payload as the observation point; the rest is the counters of P8. -/
theorem brioSend_sends (b : Bytes) : Sends { s with brio.sent := some b } (s.brioSend b) := by
  unfold State.brioSend
  split
  · obtain ⟨_, _, _, _, _, _, _, _, e⟩ := txCount_sends s 7 (b.length + 18) 0x034252494F00 0 false
    simp only [e]
    exact ⟨_, _, _, _, _, _, _, _, rfl⟩
  · exact .refl _

theorem Sends.brio_eq {s t : State} (h : Sends s t) : t.brio = s.brio := by
  obtain ⟨_, _, _, _, _, _, _, _, rfl⟩ := h
  rfl

variable {s} {due n start : Nat}

theorem exec_brioCycleStart (hp : s.pathOn = true) (ho : s.brioOn = true) (hr : s.brio.running = true)
    (hb : s.mod.bridle = true) (hn : s.nextCycle = some (due, n)) : exec (.brioCycleStart 0) s =
      .next ((State.openCycle { s.clockTo due with brio.sched := due } n due).brioSend
        ((State.openCycle { s.clockTo due with brio.sched := due } n due).cyclePayload n)) := by
  change execBrioCycleStart 0 s = _
  unfold execBrioCycleStart
  rw [onPath_of_pathOn hp, if_pos (by simp [ho, hr, hb]), hn]

theorem exec_brioWindowClose (hp : s.pathOn = true) (hc : s.brio.closed = false) (hn : s.brio.cur = some (n, start)) :
    exec (.brioWindowClose 0) s = .next ((s.brio.stations.foldl (fun v x => State.judgeStation v x.1)
      { s.clockTo (start + 950000) with brio := { (s.clockTo (start + 950000)).brio with closed := true } }).brioSnap) := by
  change execBrioWindowClose 0 s = _
  unfold execBrioWindowClose
  rw [onPath_of_pathOn hp]
  simp only [hn]
  generalize start + 950000 = due
  rw [if_pos (by simp [hc])]
  rfl

theorem exec_brioCycleAbort (hn : s.brio.cur = some (n, start)) (hr : s.brio.running = true) (hc : s.brio.closed = false)
    (ha : s.brio.aborted = false) (hg : s.brio.stations.any (fun x => x.2.got) = false) : exec (.brioCycleAbort 0) s =
      .next (State.segCount { s.clockTo (start + 400000) with
        brio := { (s.clockTo (start + 400000)).brio with aborted := true, backoff := none, sent := none } } 1) := by
  change execBrioCycleAbort 0 s = _
  unfold execBrioCycleAbort
  simp only [hn]
  generalize start + 400000 = due
  rw [if_pos (by simp [hr, hc, ha, hg])]

theorem exec_p8Collision {b : Bytes} (hs : s.brio.sent = some b) (hm : s.brioMode = 1) (hr : s.brio.running = true)
    (hc : s.brio.closed = false) (hb : s.brio.backoff = none) : exec (.p8Collision 0) s = .next (s.collide b) := by
  change execP8Collision 0 s = _
  unfold execP8Collision
  rw [hs]
  exact congrArg Host.Outcome.next (if_pos (by simp [hm, hr, hc, hb]))

/-- Before the sixteenth attempt the frame backs off. -/
theorem collide_retry {b : Bytes} (h : s.brio.attempts < 15) : ∃ k, k < 2 ^ min (s.brio.attempts + 1) 10 ∧
    (s.collide b).brio = { s.brio with
      counts := s.brio.counts.set 2 (inc32 (s.brio.counts.getD 2 0)), sent := none
      attempts := s.brio.attempts + 1, backoff := some (s.now + 51200 * k, b) } := by
  have hn : ¬16 ≤ s.brio.attempts + 1 := by omega
  refine ⟨Config.freeValue s.free % 2 ^ min (s.brio.attempts + 1) 10, Nat.mod_lt _ (by positivity), ?_⟩
  have hfree : (s.segCount 2).free = s.free := by simp [State.segCount]
  simp [State.collide, segCount_brio, hn, State.draw, State.now, hfree]

/-- The sixteenth attempt abandons the frame. -/
theorem collide_abandon {b : Bytes} (h : 15 ≤ s.brio.attempts) : (s.collide b).brio = { s.brio with
    counts := (s.brio.counts.set 2 (inc32 (s.brio.counts.getD 2 0))).set 3 (inc32 (s.brio.counts.getD 3 0)), sent := none
    attempts := s.brio.attempts + 1, backoff := none, aborted := true } := by
  have hn : 16 ≤ s.brio.attempts + 1 := by omega
  simp [State.collide, segCount_brio, hn, tbl_getD_set_other]

theorem exec_p8BackoffExpiry {b : Bytes} (hb : s.brio.backoff = some (due, b)) (hr : s.brio.running = true) :
    exec (.p8BackoffExpiry 0) s = .next (State.brioSend { s.clockTo due with brio.backoff := none } b) := by
  change execP8BackoffExpiry 0 s = _
  unfold execP8BackoffExpiry
  rw [hb]
  exact congrArg Host.Outcome.next (if_pos (by simp [hr]))

theorem exec_brioSegmentTake {t0 : Nat} {r : Nat × Nat × Nat} (hp : s.pathOn = true) (ho : s.brioOn = true)
    (hb : s.mod.bridle = true) (hr : s.brio.running = false) (hh : s.brio.heard = some t0)
    (hs : s.time.schedAfter 1000 (max s.brio.sched (max (t0 + 2000000 - 1) (s.now - 1))) = some r) :
    exec (.brioSegmentTake 0) s = .next { (s.clockTo r.1) with
      brio := { (s.clockTo r.1).brio with running := true, sched := r.1 - 1 } } := by
  change execBrioSegmentTake 0 s = _
  unfold execBrioSegmentTake
  rw [onPath_of_pathOn hp, if_pos (by simp [ho, hr, hb])]
  simp only [hh, hs]

end

/-! ## Verdicts (R267, R268) -/

section

variable (s : State) (k : Nat)

/-- A station heard in its cycle: the third good one in a row gives RUN. -/
theorem judgeStation_got (h : (s.station k).got = true) : ((s.judgeStation k).station k).misses = 0 ∧
    ((s.judgeStation k).station k).state = if 2 ≤ (s.station k).good then 3 else (s.station k).state := by
  unfold State.judgeStation
  extract_lets x u
  rw [if_pos h]
  split
  · rename_i h3
    have h2 : 2 ≤ (s.station k).good := by
      simp only [Bool.and_eq_true, decide_eq_true_eq] at h3
      exact Nat.le_of_succ_le_succ h3.1
    simp [u, h2]
  · rename_i h3
    refine ⟨by simp [u], ?_⟩
    simp only [Bool.and_eq_true, decide_eq_true_eq, bne_iff_ne, not_and, not_not] at h3
    split
    · rename_i h2
      simpa [u] using h3 (Nat.succ_le_succ h2)
    · simp [u, x]

/-- A station not heard, before its state is judged. -/
def BrioStation.missed (x : BrioStation) : BrioStation :=
  BrioStation.count { x with misses := min 255 (x.misses + 1), good := 0 } 1

/-- The third miss in a row takes a station out of RUN, to MISMATCH after an ident refusal and to LOST else. -/
theorem judgeStation_missed (h : (s.station k).got = false) : s.judgeStation k =
    if (s.station k).state = 3 ∧ 2 ≤ (s.station k).misses then
      if (s.station k).identBad then
        ((s.setStation k { s.station k with misses := min 255 ((s.station k).misses + 1), good := 0 }).stationCount k 1).stationTo k 5 7
      else (((s.setStation k { s.station k with misses := min 255 ((s.station k).misses + 1), good := 0 }).stationCount k 1).stationCount k 5).stationTo k 4 0
    else (s.setStation k { s.station k with misses := min 255 ((s.station k).misses + 1), good := 0 }).stationCount k 1 := by
  have hcond : ((decide ((s.station k).state = 3) && decide (3 ≤ (s.station k).misses + 1)) = true) =
      ((s.station k).state = 3 ∧ 2 ≤ (s.station k).misses) := by
    simp
  simp only [State.judgeStation, h, Bool.false_eq_true, if_false, hcond]

end

/-! ## Received frames (R263, R267, R269, R270) -/

section

variable {s : State} {src at_ k : Nat} {b : Bytes}

theorem exec_brioInputReceive_discard {i : Nat} (hp : s.pathOn = true) (ho : s.brioOn = true)
    (hh : (s.clockTo at_).brioHeader 2 b 46 = some i) :
    exec (.brioInputReceive 0 0x034252494F01 src b at_) s = .next ((s.clockTo at_).segCount i) := by
  change execBrioInputReceive 0 0x034252494F01 src b at_ s = _
  have hon : (s.clockTo at_).brioOn = true := ho
  simp [execBrioInputReceive, onPath_of_pathOn hp, hon, hh]

/-- What an INPUT of a configured station, with a good header and no injection armed, comes to in a counted cycle. -/
def State.brioJudge (s : State) (k number start : Nat) (r b : Bytes) : State :=
  if rdBe32 b 4 ≠ number then s.stationCount k 3
  else if start + 950000 < s.now then s.stationCount k 2
  else if (s.station k).got = true then s.stationCount k 3
  else if stIdent r ≠ 0 ∧ rdBe32 b 10 ≠ stIdent r then
    (s.setStation k { s.station k with identBad := true }).stationCount k 4
  else s.brioApply k b

theorem exec_brioInputReceive_judged {r : Bytes} {m start : Nat} (hp : s.pathOn = true) (ho : s.brioOn = true)
    (hh : (s.clockTo at_).brioHeader 2 b 46 = none) (hr : s.cfg.tables.stations.get? (byteAt b 8) = some r)
    (hi : (s.clockTo at_).injection 0x0A (byteAt b 8) 0 = none) (hc : s.brio.cur = some (m, start)) :
    exec (.brioInputReceive 0 0x034252494F01 src b at_) s = .next ((s.clockTo at_).brioJudge (byteAt b 8) m start r b) := by
  change execBrioInputReceive 0 0x034252494F01 src b at_ s = _
  have hon : (s.clockTo at_).brioOn = true := ho
  simp [execBrioInputReceive, onPath_of_pathOn hp, hon, hh, hr, inject_of_none hi, hc, State.brioJudge]

/-- A valid INPUT writes its inputs in one step, all but the faulty points (R269). -/
theorem brioApply_station (s : State) (k : Nat) (b : Bytes) : ∃ counts, (s.brioApply k b).station k = { s.station k with
      got := true, faults := BitVec.ofNat 64 (le64 b 24), status := rdBe16 b 32 % 8, cycle := rdBe32 b 4, rx := s.stamp 1
      held := ((s.station k).held &&& BitVec.ofNat 64 (le64 b 24)) |||
        (BitVec.ofNat 64 (le64 b 16) &&& ~~~BitVec.ofNat 64 (le64 b 24)), counts := counts } ∧
    counts.getD 0 0 = inc32 ((s.station k).counts.getD 0 0) := by
  unfold State.brioApply
  extract_lets x ins faults status u v w
  have hv : v.station k = BrioStation.count { x with
      got := true, held := (x.held &&& faults) ||| (ins &&& ~~~faults), faults := faults, status := status
      cycle := rdBe32 b 4, rx := s.stamp 1 } 0 := by
    simp [v, u]
  have hw : ∃ c, w.station k = { v.station k with counts := c } ∧ c.getD 0 0 = (v.station k).counts.getD 0 0 := by
    dsimp only [w]
    generalize v = v
    split
    · exact ⟨_, rfl, rfl⟩
    · exact ⟨_, station_stationCount v k 6, tbl_getD_set_other _ _ _ (by decide)⟩
  obtain ⟨c, hwc, hc0⟩ := hw
  have hcount : (v.station k).counts.getD 0 0 = inc32 (x.counts.getD 0 0) := by
    simp [hv, BrioStation.count]
  split
  · refine ⟨_, (station_stationCount w k 7).trans (by rw [hwc, hv]; rfl), ?_⟩
    rw [tbl_getD_set_other _ _ _ (by decide), hc0, hcount]
  · exact ⟨c, hwc.trans (by rw [hv]; rfl), hc0.trans hcount⟩

/-- A point of a valid INPUT: a faulty one keeps its last good value. -/
theorem getLsbD_held (old : BitVec 64) (ins faults : Nat) {i : Nat} (hi : i < 64) :
    ((old &&& BitVec.ofNat 64 faults) ||| (BitVec.ofNat 64 ins &&& ~~~BitVec.ofNat 64 faults)).getLsbD i =
      if faults.testBit i then old.getLsbD i else ins.testBit i := by
  by_cases hf : faults.testBit i <;> simp [hi, hf, BitVec.getLsbD_or, BitVec.getLsbD_and, BitVec.getLsbD_ofNat,
    -BitVec.getLsbD_eq_getElem]

/-- `t` differs from `s` in station `k` alone, and there neither in its state nor in its misses; Firn apart. -/
def InputOf (k : Nat) (s t : State) : Prop :=
  (∀ j, j ≠ k → t.station j = s.station j) ∧ t.cfg = s.cfg ∧ t.logic = s.logic ∧ t.brio.counts = s.brio.counts ∧
    (t.station k).state = (s.station k).state ∧ (t.station k).misses = (s.station k).misses

namespace InputOf

variable {s t u : State} {k : Nat}

theorem refl (k : Nat) (s : State) : InputOf k s s := ⟨fun _ _ => rfl, rfl, rfl, rfl, rfl, rfl⟩

theorem trans (a : InputOf k s t) (b : InputOf k t u) : InputOf k s u := by
  obtain ⟨a1, a2, a3, a4, a5, a6⟩ := a
  obtain ⟨b1, b2, b3, b4, b5, b6⟩ := b
  exact ⟨fun j hj => (b1 j hj).trans (a1 j hj), b2.trans a2, b3.trans a3, b4.trans a4, b5.trans a5, b6.trans a6⟩

theorem stationCount (s : State) (k i : Nat) : InputOf k s (s.stationCount k i) :=
  ⟨fun _ hj => station_stationCount_other s hj i, by simp, by simp, by simp, by simp [BrioStation.count],
    by simp [BrioStation.count]⟩

theorem setStation {x : BrioStation} (h : x.state = (s.station k).state) (h2 : x.misses = (s.station k).misses) :
    InputOf k s (s.setStation k x) :=
  ⟨fun _ hj => station_setStation_other s hj x, rfl, rfl, rfl, by simp [h], by simp [h2]⟩

end InputOf

theorem brioApply_inputOf (s : State) (k : Nat) (b : Bytes) : InputOf k s (s.brioApply k b) := by
  unfold State.brioApply
  extract_lets x ins faults status u v w
  have hu : InputOf k s u := .setStation rfl rfl
  have hv : InputOf k s v := hu.trans (.stationCount u k 0)
  have hw : InputOf k s w := by
    dsimp only [w]
    split
    · exact hv
    · exact hv.trans (.stationCount v k 6)
  split
  · exact hw.trans (.stationCount w k 7)
  · exact hw

theorem brioJudge_inputOf (s : State) (k m start : Nat) (r b : Bytes) : InputOf k s (s.brioJudge k m start r b) := by
  unfold State.brioJudge
  split
  · exact .stationCount s k 3
  split
  · exact .stationCount s k 2
  split
  · exact .stationCount s k 3
  split
  · have hid : InputOf k s (s.setStation k { s.station k with identBad := true }) := .setStation rfl rfl
    exact hid.trans (.stationCount _ k 4)
  · exact brioApply_inputOf s k b

/-- Another master on the segment that this unit runs is counted and recorded. -/
theorem exec_brioCycleReceive_master (hp : s.pathOn = true) (ho : s.brioOn = true)
    (hh : (s.clockTo at_).brioHeader 1 b 84 = none) (hr : s.brio.running = true) (hs : src ≠ portMac 7) :
    exec (.brioCycleReceive 0 src b at_) s = .next (((s.clockTo at_).segCount 7).firnEv 0x0A02 (zeros 8)) := by
  change execBrioCycleReceive 0 src b at_ s = _
  have hon : (s.clockTo at_).brioOn = true := ho
  simp only [execBrioCycleReceive, onPath_of_pathOn hp, hon, hh, clockTo_brio, hr, hs, bne_self_eq_false, Bool.not_true,
    Bool.or_false, Bool.false_eq_true, if_true, if_false]

/-- A listener notes when it heard the CYCLE, and counts the cycle once. -/
theorem exec_brioCycleReceive_heard (hp : s.pathOn = true) (ho : s.brioOn = true)
    (hh : (s.clockTo at_).brioHeader 1 b 84 = none) (hr : s.brio.running = false) :
    ∃ t, exec (.brioCycleReceive 0 src b at_) s = .next t ∧ t.brio.heard = some (s.clockTo at_).now ∧
      t.brio.running = false ∧ ∃ st, t.brio.cur = some (rdBe32 b 4, st) := by
  change ∃ t, execBrioCycleReceive 0 src b at_ s = _ ∧ _
  have hon : (s.clockTo at_).brioOn = true := ho
  simp only [execBrioCycleReceive, onPath_of_pathOn hp, hon, hh, clockTo_brio, hr, bne_self_eq_false, Bool.not_true,
    Bool.or_false, Bool.false_eq_true, if_false]
  refine ⟨_, rfl, ?_⟩
  split
  · split
    · rename_i n st hcur hn
      exact ⟨rfl, rfl, st, hn ▸ hcur⟩
    · simp [openCycle_brio]
  · simp [openCycle_brio]

end

/-- The I bits a station drives: the held input in RUN where the point is good, the substitute else (R269). -/
theorem mem_stationInputs (s : State) (k : Nat) (b : Bytes) {i : Nat} (hi : i < 64) :
    (stIn b + i, if (s.station k).state = 3 ∧ (s.station k).faults.getLsbD i = false then (s.station k).held.getLsbD i
      else if stSubst b i = 1 then false else if stSubst b i = 2 then true else (s.station k).held.getLsbD i) ∈
      s.stationInputs k b := by
  refine List.mem_map.2 ⟨i, List.mem_range.2 hi, ?_⟩
  by_cases hl : (s.station k).state = 3 ∧ (s.station k).faults.getLsbD i = false
  · simp [hl]
  · have hl' : ((s.station k).state == 3 && !(s.station k).faults.getLsbD i) = false := by
      simpa [-BitVec.getLsbD_eq_getElem] using hl
    simp only [hl', hl, if_false, Bool.false_eq_true]
    split
    · rename_i h
      simp [h]
    · rename_i h
      simp [h]
    · rename_i h1 h2
      rw [if_neg h1, if_neg h2]

/-! ## The commands (R272) -/

theorem brioStats_body {p : Path} {e : Exec} {t : State} {x : BrioStation}
    (hx : t.brio.stations.get? (byteAt e.req.params 0) = some x) : cmdBrioStats.body p e t =
      .done (if byteAt e.req.params 1 = 1 then t.setStation (byteAt e.req.params 0) { x with counts := [] } else t) stOK []
        (some ((List.range 8).flatMap (fun i => leBytes 4 (x.counts.getD i 0)))) := by
  have hst : t.station (byteAt e.req.params 0) = x := by simp [State.station, Tbl.getD, hx]
  simp [cmdBrioStats, hst, hx]

/-! ## The clauses -/

section

variable {s : State} {n due start : Nat} {b : Bytes}

/-- A cycle that starts is open: its CYCLE is sent with the outputs committed at its start. -/
theorem brioCycleStart_opens (hp : s.pathOn = true) (ho : s.brioOn = true) (hr : s.brio.running = true)
    (hb : s.mod.bridle = true) (hn : s.nextCycle = some (due, n)) : ∃ t, exec (.brioCycleStart 0) s = .next t ∧
      t.brio.cur = some (n, due) ∧ t.brio.closed = false ∧ t.brio.sched = due ∧
      t.brio.sent = some ((s.clockTo due).cyclePayload n) ∧ (t.station 0).got = false ∧ (t.station 7).got = false ∧
      t.cfg = s.cfg ∧ t.logic = s.logic ∧ t.brio.counts.getD 0 0 = inc32 (s.brio.counts.getD 0 0) := by
  refine ⟨_, exec_brioCycleStart hp ho hr hb hn, ?_⟩
  generalize hu : ({ s.clockTo due with brio.sched := due } : State) = u
  have hub : u.brio = { s.brio with sched := due } := by rw [← hu]; rfl
  have huc : u.cfg = s.cfg := by rw [← hu]; rfl
  have hul : u.logic = s.logic := by rw [← hu]; rfl
  have hpay : (u.openCycle n due).cyclePayload n = (s.clockTo due).cyclePayload n :=
    cyclePayload_congr (by simp [huc]) (by simp [hul]) (by simp [openCycle_brio, hub]) n
  have hs := brioSend_sends (u.openCycle n due) ((u.openCycle n due).cyclePayload n)
  have hgot (k : Nat) : (((u.openCycle n due).brioSend ((u.openCycle n due).cyclePayload n)).station k).got = false := by
    rw [State.station, hs.brio_eq]
    exact openCycle_got u n due k
  refine ⟨?_, ?_, ?_, ?_, hgot 0, hgot 7, ?_, ?_, ?_⟩
  · rw [hs.brio_eq, openCycle_brio]
  · rw [hs.brio_eq, openCycle_brio]
  · rw [hs.brio_eq, openCycle_brio, hub]
  · rw [hs.brio_eq, hpay]
  · rw [hs.cfg_eq.1, openCycle_cfg, huc]
  · rw [hs.logic_eq, openCycle_logic, hul]
  · rw [hs.brio_eq, openCycle_brio, hub]
    exact tbl_getD_set_same ..

variable {k m : Nat} {r : Bytes}

theorem brioJudge_foreign (h : rdBe32 b 4 ≠ m) :
    (s.brioJudge k m start r b).station k = (s.station k).count 3 := by
  rw [State.brioJudge, if_pos h, station_stationCount]

theorem brioJudge_late (h : rdBe32 b 4 = m) (hl : start + 950000 < s.now) :
    (s.brioJudge k m start r b).station k = (s.station k).count 2 := by
  rw [State.brioJudge, if_neg (not_not.2 h), if_pos hl, station_stationCount]

theorem brioJudge_second (h : rdBe32 b 4 = m) (hl : s.now ≤ start + 950000) (hg : (s.station k).got = true) :
    (s.brioJudge k m start r b).station k = (s.station k).count 3 := by
  rw [State.brioJudge, if_neg (not_not.2 h), if_neg (not_lt.2 hl), if_pos hg, station_stationCount]

theorem brioJudge_ident (h : rdBe32 b 4 = m) (hl : s.now ≤ start + 950000) (hg : (s.station k).got = false)
    (h0 : stIdent r ≠ 0) (hid : rdBe32 b 10 ≠ stIdent r) :
    (s.brioJudge k m start r b).station k = BrioStation.count { s.station k with identBad := true } 4 := by
  rw [State.brioJudge, if_neg (not_not.2 h), if_neg (not_lt.2 hl), if_neg (ne_true_of_eq_false hg), if_pos ⟨h0, hid⟩,
    station_stationCount, station_setStation]

theorem brioJudge_valid (h : rdBe32 b 4 = m) (hl : s.now ≤ start + 950000) (hg : (s.station k).got = false)
    (hid : stIdent r = 0 ∨ rdBe32 b 10 = stIdent r) : s.brioJudge k m start r b = s.brioApply k b := by
  have hno : ¬(stIdent r ≠ 0 ∧ rdBe32 b 10 ≠ stIdent r) := by
    rintro ⟨h0, h1⟩
    exact hid.elim h0 h1
  rw [State.brioJudge, if_neg (not_not.2 h), if_neg (not_lt.2 hl), if_neg (ne_true_of_eq_false hg), if_neg hno]

theorem p8Collision_counts (hs : s.brio.sent = some b) (hm : s.brioMode = 1) (hr : s.brio.running = true)
    (hc : s.brio.closed = false) (hb : s.brio.backoff = none) : ∃ t, exec (.p8Collision 0) s = .next t ∧
      t.brio.sent = none ∧ t.brio.attempts = s.brio.attempts + 1 ∧
      t.brio.counts.getD 2 0 = inc32 (s.brio.counts.getD 2 0) ∧
      (s.brio.attempts < 15 → ∃ k, k < 2 ^ min (s.brio.attempts + 1) 10 ∧ t.brio.backoff = some (s.now + 51200 * k, b)) ∧
      (15 ≤ s.brio.attempts → t.brio.backoff = none ∧ t.brio.aborted = true ∧
        t.brio.counts.getD 3 0 = inc32 (s.brio.counts.getD 3 0)) := by
  refine ⟨_, exec_p8Collision hs hm hr hc hb, ?_⟩
  by_cases h : s.brio.attempts < 15
  · obtain ⟨k, hk, hbrio⟩ := collide_retry (b := b) h
    rw [hbrio]
    exact ⟨rfl, rfl, tbl_getD_set_same .., fun _ => ⟨k, hk, rfl⟩, fun h' => absurd h' (by omega)⟩
  · rw [collide_abandon (by omega)]
    refine ⟨rfl, rfl, ?_, fun h' => absurd h' h, fun _ => ⟨rfl, rfl, tbl_getD_set_same ..⟩⟩
    rw [tbl_getD_set_other _ _ _ (by decide), tbl_getD_set_same]

theorem brioCycleAbort_counts (hn : s.brio.cur = some (n, start)) (hr : s.brio.running = true) (hc : s.brio.closed = false)
    (ha : s.brio.aborted = false) (hg : s.brio.stations.any (fun x => x.2.got) = false) :
    ∃ t, exec (.brioCycleAbort 0) s = .next t ∧ t.brio.aborted = true ∧ t.brio.sent = none ∧
      t.brio.counts.getD 1 0 = inc32 (s.brio.counts.getD 1 0) ∧ t.brio.cur = s.brio.cur := by
  have hrow : ∃ due, exec (.brioCycleAbort 0) s = .next (State.segCount { s.clockTo due with
      brio := { (s.clockTo due).brio with aborted := true, backoff := none, sent := none } } 1) :=
    ⟨_, exec_brioCycleAbort hn hr hc ha hg⟩
  obtain ⟨due, hrow⟩ := hrow
  refine ⟨_, hrow, ?_⟩
  rw [segCount_brio]
  exact ⟨rfl, rfl, tbl_getD_set_same .., rfl⟩

theorem p8BackoffExpiry_sends (hb : s.brio.backoff = some (due, b)) (hr : s.brio.running = true) :
    ∃ t, exec (.p8BackoffExpiry 0) s = .next t ∧ t.brio.backoff = none ∧ t.brio.sent = some b ∧
      t.brio.attempts = s.brio.attempts := by
  refine ⟨_, exec_p8BackoffExpiry hb hr, ?_⟩
  rw [(brioSend_sends { s.clockTo due with brio.backoff := none } b).brio_eq]
  exact ⟨rfl, rfl, rfl⟩

/-- The third miss in a row is an input fault and takes the station out of RUN. -/
theorem judgeStation_miss (h : (s.station k).got = false) : ((s.judgeStation k).station k).good = 0 ∧
    ((s.judgeStation k).station k).misses = min 255 ((s.station k).misses + 1) ∧
    ((s.judgeStation k).station k).state = (if (s.station k).state = 3 ∧ 2 ≤ (s.station k).misses then
      if (s.station k).identBad then 5 else 4 else (s.station k).state) ∧
    ((s.judgeStation k).station k).reason = (if (s.station k).state = 3 ∧ 2 ≤ (s.station k).misses then
      if (s.station k).identBad then 7 else 0 else (s.station k).reason) ∧
    ((s.judgeStation k).logic.inFault = true ↔
      s.logic.inFault = true ∨ (s.station k).state = 3 ∧ 2 ≤ (s.station k).misses) := by
  rw [judgeStation_missed s k h]
  by_cases hlost : (s.station k).state = 3 ∧ 2 ≤ (s.station k).misses
  · by_cases hid : (s.station k).identBad = true
    · simp [BrioStation.count, stationTo_inFault, hlost, hid]
    · simp [BrioStation.count, stationTo_inFault, hlost, hid]
  · rw [if_neg hlost, if_neg hlost, if_neg hlost]
    simp [BrioStation.count, hlost]

end

/-- Settles O41: rows are their branch of the chapter's operations, verdicts and counters are read off the stations. -/
theorem brioSegment : Obligations.BrioSegment := by
  unfold Obligations.BrioSegment
  refine ⟨?start, fun s n k b hf hb hk => cyclePayload_fields s hf hb hk n, ?input,
    fun src b at_ s i hp ho hh => exec_brioInputReceive_discard hp ho hh, ?inputs, ?verdict,
    fun s n start hp hc hn => exec_brioWindowClose hp hc hn, fun s n start => brioCycleAbort_counts,
    fun s b => p8Collision_counts, fun s b due => p8BackoffExpiry_sends,
    fun s t0 r hp ho hb hr hh hs => exec_brioSegmentTake hp ho hb hr hh hs, ?heard,
    completes_of_body (fun _ _ => rfl) fun _ _ _ => rfl, completes_of_body (fun _ _ => rfl) fun _ _ _ => rfl,
    answers_of_body (fun _ _ => rfl) fun _ _ _ => rfl, answers_of_body (fun _ _ => rfl) fun _ _ _ => rfl, ?stats,
    completes_of_body (fun _ _ => rfl) fun _ _ _ => rfl⟩
  case start =>
    rintro s due n u hp ho hr hb hn rfl
    exact brioCycleStart_opens hp ho hr hb hn
  case input =>
    rintro src b at_ s u k r m start x hp ho rfl hh rfl hr hi hc rfl -
    obtain ⟨hother, hcfg, hlogic, hcounts, hstate, hmisses⟩ := brioJudge_inputOf (s.clockTo at_) (byteAt b 8) m start r b
    refine ⟨_, exec_brioInputReceive_judged hp ho hh hr hi hc, hother, hcfg, hlogic, hcounts, hstate, hmisses,
      brioJudge_foreign, brioJudge_late, brioJudge_second, brioJudge_ident, fun h hl hg hid => ?_⟩
    obtain ⟨c, hst, hcount⟩ := brioApply_station (s.clockTo at_) (byteAt b 8) b
    rw [brioJudge_valid h hl hg hid, hst]
    exact ⟨rfl, h, rfl, rfl, rfl, fun i hi => getLsbD_held _ _ _ hi, hcount⟩
  case inputs =>
    rintro s k x b i v rfl hi rfl
    exact mem_stationInputs s k b hi
  case verdict =>
    rintro s k x rfl -
    exact ⟨judgeStation_got s k, judgeStation_miss⟩
  case heard =>
    rintro src b at_ s u hp ho rfl hh
    exact ⟨fun hr hs => exec_brioCycleReceive_master hp ho hh hr hs, exec_brioCycleReceive_heard hp ho hh⟩
  case stats =>
    rintro p e s t k x ha rfl hx
    exact congrArg Host.Outcome.next (run_done ha (brioStats_body hx))

end Machine
end Sys2Proof

/-! PROOFS. The clock (O45): captures, the marks Nyming writes, the servo's transitions, holdover's limit, the 1PPS
signals and the time commands (R317 to R336, R506). -/

namespace Sys2Proof
namespace Machine

/-! ## TIME_EVT (R335) -/

section

variable (s : State)

/-- A bit of TIME_EVT that sets: the rest is INT_CAUSE. -/
theorem timeEvt_time (b : Nat) : (s.timeEvt b).time = { s.time with evt := s.time.evt ||| BitVec.twoPow 8 b } := by
  unfold State.timeEvt
  extract_lets was e u
  split
  · rfl
  · exact raise_time u _

theorem timeEvt_evt {b : Nat} (h : b < 8) : (s.timeEvt b).time.evt.getLsbD b = true := by
  rw [timeEvt_time, BitVec.getLsbD_or, BitVec.getLsbD_twoPow]
  simp [h]

/-- A bit of TIME_EVT that is set stays set through another event. -/
theorem timeEvt_evt_mono {b j : Nat} (h : s.time.evt.getLsbD j = true) : (s.timeEvt b).time.evt.getLsbD j = true := by
  rw [timeEvt_time, BitVec.getLsbD_or, h, Bool.true_or]

/-! ## Transitions of the servo (R329, R331) -/

variable {s} {v : Servo}

theorem servoTo_same (h : s.time.servo = v) : s.servoTo v = s := if_pos h

/-- A transition sets SERVO, begins its counts anew, and changes the increment on entry to HOLDOVER alone. -/
theorem servoTo_time (h : s.time.servo ≠ v) : ∃ incr l, (s.servoTo v).time = { s.time with
      servo := v, servoSince := s.now, syncCount := 0, goodSyncs := 0, badSyncs := 0
      wasLocked := s.time.wasLocked || v == Servo.locked, holdExpired := false, incr := incr, lockedIncr := l
      evt := s.time.evt ||| BitVec.twoPow 8 1 } ∧ (v ≠ .holdover → incr = s.time.incr) := by
  simp only [State.servoTo, if_neg h, firnEv_time, timeEvt_time]
  exact ⟨_, _, rfl, fun hv => if_neg fun hc => hv hc.1⟩

theorem servoTo_servo : (s.servoTo v).time.servo = v := by
  by_cases h : s.time.servo = v
  · rw [servoTo_same h, h]
  · obtain ⟨_, _, ht, -⟩ := servoTo_time h
    rw [ht]

/-- What a transition leaves alone, the settings and the memory among it. -/
theorem servoTo_frame (v : Servo) : ∃ t r q f h, s.servoTo v =
    { s with time := t, rtc := r, ao.firnSeq := q, firn := f, host := h } := by
  unfold State.servoTo
  split
  · exact ⟨_, _, _, _, _, rfl⟩
  · extract_lets old m t _ _ u
    obtain ⟨t', h', e⟩ := timeEvt_frame u 1
    rw [e]
    obtain ⟨q, f, h, e'⟩ := firnEv_frame { u with time := t', host := h' } 0x0201 (leBytes 1 old.code ++ leBytes 1 v.code)
    exact ⟨_, _, q, f, h, e'⟩

@[simp] theorem servoTo_cfg (v : Servo) : (s.servoTo v).cfg = s.cfg := by
  obtain ⟨_, _, _, _, _, e⟩ := servoTo_frame (s := s) v
  rw [e]

@[simp] theorem servoTo_stored (v : Servo) : (s.servoTo v).stored = s.stored := by
  obtain ⟨_, _, _, _, _, e⟩ := servoTo_frame (s := s) v
  rw [e]

end

/-! ## Marks (R318, R319, R330) -/

section

variable {t : TimeBlk} {p : Mark}

/-- In FREE and HOLDOVER the next mark is one second on. -/
theorem nymingMark_alone (hm : t.manualSec = none) (hs : t.servo = .free ∨ t.servo = .holdover) :
    (t.nymingMark p).ns = p.ns + 1000000000 ∧ (t.nymingMark p).sec = p.sec + 1 ∧ (t.nymingMark p).gridStep = false := by
  have hservo : (t.servo == Servo.acquire || t.servo == Servo.locked) = false := by
    rcases hs with hs | hs <;> simp [hs]
  simp [TimeBlk.nymingMark, hm, hservo]
  omega

/-- A small offset moves the next mark by at most 10,000 ns. -/
theorem nymingMark_corrected (hm : t.manualSec = none) (hs : t.servo = .acquire ∨ t.servo = .locked)
    (hn : (t.secondNear (p.ns + 1000000000) (p.sec + 1)).1 = p.sec + 1)
    (ho : (t.secondNear (p.ns + 1000000000) (p.sec + 1)).2.natAbs ≤ 1000000) : (t.nymingMark p).gridStep = false ∧
      (t.nymingMark p).sec = p.sec + 1 ∧ (t.nymingMark p).renumbered = false ∧
      p.ns + 999990000 ≤ (t.nymingMark p).ns ∧ (t.nymingMark p).ns ≤ p.ns + 1000010000 := by
  have hservo : (t.servo == Servo.acquire || t.servo == Servo.locked) = true := by
    rcases hs with hs | hs <;> simp [hs]
  have hbig : ¬1000000 < (t.secondNear (p.ns + 1000000000) (p.sec + 1)).2.natAbs := by omega
  simp only [TimeBlk.nymingMark, hservo, if_true, hn, hm, bne_self_eq_false, Bool.false_or, decide_eq_false hbig,
    Bool.false_eq_true, if_false, Option.getD_none, true_and]
  omega

/-- A manual second renumbers the next mark. -/
theorem nymingMark_manual {n : Nat} (hm : t.manualSec = some n) (hs : t.servo = .free) (hn : n ≠ p.sec + 1) :
    (t.nymingMark p).sec = n ∧ (t.nymingMark p).renumbered = true ∧ (t.nymingMark p).gridStep = true := by
  simp [TimeBlk.nymingMark, hm, hs, hn]

end

section

variable {s : State}

/-- A mark that has passed is late: nothing of it is kept (R318). -/
theorem exec_pendingMarkWrite_late {n : Nat} (hr : s.time.running = true) (hn : n ≤ s.time.next.sec) :
    exec (.pendingMarkWrite n) s = .next (({ s with time.lateCnt := inc32 s.time.lateCnt }.timeEvt 3).counted
      (inc32 s.time.lateCnt) 0 0x40 0) := by
  change execPendingMarkWrite n s = _
  simp [execPendingMarkWrite, hr, hn]

theorem exec_pendingMarkWrite_kept {n : Nat} (hr : s.time.running = true) (hn : s.time.next.sec < n)
    (hi : s.injection 0x0D 0 0 = none) (hlo : s.time.next.ns + 500000000 ≤ (s.time.nymingMark s.time.next).ns)
    (hhi : (s.time.nymingMark s.time.next).ns ≤ s.time.next.ns + 1500000000) : exec (.pendingMarkWrite n) s =
      .next { s with time := { s.time with
        pend := some (s.time.nymingMark s.time.next), manualSec := none
        goodSyncs := if (s.time.nymingMark s.time.next).gridStep then 0 else s.time.goodSyncs } } := by
  change execPendingMarkWrite n s = _
  have hgap : ¬((s.time.nymingMark s.time.next).ns - s.time.next.ns < 500000000 ∨
      1500000000 < (s.time.nymingMark s.time.next).ns - s.time.next.ns) := by omega
  have hlate : ¬n ≤ s.time.next.sec := by omega
  simp only [execPendingMarkWrite, hr, hlate, hi, Option.isSome_none, Bool.not_true, Bool.false_eq_true, if_false,
    Bool.or_eq_true, decide_eq_true_eq, hgap]

theorem pendingMarkWrite_late {n : Nat} (hr : s.time.running = true) (hn : n ≤ s.time.next.sec) :
    ∃ t, exec (.pendingMarkWrite n) s = .next t ∧ t.time.pend = s.time.pend ∧
      t.time.lateCnt = inc32 s.time.lateCnt ∧ t.time.evt.getLsbD 3 = true ∧ t.time.next = s.time.next := by
  refine ⟨_, exec_pendingMarkWrite_late hr hn, ?_, ?_, ?_, ?_⟩
  · rw [counted_time, timeEvt_time]
  · rw [counted_time, timeEvt_time]
  · rw [counted_time, timeEvt_evt _ (by decide)]
  · rw [counted_time, timeEvt_time]

/-! ## HOLDOVER_EXPIRED and the 1PPS (R331 to R333) -/

theorem exec_holdoverExpired (hs : s.time.servo = .holdover) (he : s.time.holdExpired = false) :
    exec .holdoverExpired s = .next (State.firnEv
      { s.clockTo (s.time.servoSince + 1000000000 * s.cfg.holdoverLimit) with time.holdExpired := true } 0x0204 (leBytes 1 1)) :=
  congrArg Host.Outcome.next (if_pos ⟨hs, by simp [he]⟩)

theorem exec_ppsOutFall (h : s.time.ppsOut = true) : exec .ppsOutFall s =
    .next { s.clockTo (s.time.cur.ns + 1000000 * s.cfg.ppsWidth) with time.ppsOut := false } :=
  congrArg Host.Outcome.next (if_pos h)

/-- An edge with PPS_IN off, or within 500 ms of the one before, is ignored. -/
theorem exec_ppsInEdge_ignored {a : Nat}
    (h : s.cfg.ppsInMode = 0 ∨ (s.time.ppsSeen = true ∧ a - 11 < s.time.ppsExt + 500000000)) :
    exec (.ppsInEdge a) s = .next (s.clockTo a) := by
  change execPpsInEdge a s = _
  have hu : (s.clockTo a).cfg.ppsInMode = 0 ∨
      ((s.clockTo a).time.ppsSeen = true ∧ a - 11 < (s.clockTo a).time.ppsExt + 500000000) := h
  unfold execPpsInEdge
  generalize s.clockTo a = u at hu ⊢
  simp only [Bool.or_eq_true, Bool.and_eq_true, decide_eq_true_eq, hu, if_true]

/-- PPS_ALARM after one more judged edge: three in a row beyond the threshold set it, three within it clear it. -/
def TimeBlk.ppsJudged (t : TimeBlk) (thr : Nat) (o : Int) : Bool :=
  if thr < o.natAbs then t.ppsAlarm || decide (2 ≤ t.ppsBad) else t.ppsAlarm && !decide (2 ≤ t.ppsGood)

theorem ppsJudged_eq (t : TimeBlk) (thr : Nat) (o : Int) :
    (if (if thr < o.natAbs then min 3 (t.ppsBad + 1) else 0) = 3 then true
      else if (if thr < o.natAbs then 0 else min 3 (t.ppsGood + 1)) = 3 then false else t.ppsAlarm) = t.ppsJudged thr o := by
  unfold TimeBlk.ppsJudged
  have hmin (n : Nat) : min 3 (n + 1) = 3 ↔ 2 ≤ n := by omega
  by_cases h : thr < o.natAbs
  · by_cases h2 : 2 ≤ t.ppsBad <;> simp [h, hmin, h2]
  · by_cases h2 : 2 ≤ t.ppsGood <;> simp [h, hmin, h2]

/-- An accepted edge stores its stamp and its offset, and is judged. -/
theorem exec_ppsInEdge_accepted {a : Nat} {u : State} (hu : u = s.clockTo a) (hm : u.cfg.ppsInMode = 1)
    (ht : u.time.ppsSeen = false ∨ u.time.ppsExt + 500000000 ≤ a - 11) (hi : u.diag.inj = []) :
    ∃ t nb ng e, exec (.ppsInEdge a) s = .next t ∧ t.time = { u.time with
        ppsExt := a - 11, ppsOfs := satI32 (u.time.nearestOffset (a - 11)), ppsSeen := true, ppsBad := nb, ppsGood := ng
        ppsAlarm := u.time.ppsJudged u.cfg.ppsThr (u.time.nearestOffset (a - 11)), evt := e } ∧
      e.getLsbD 4 = true := by
  change ∃ t nb ng e, execPpsInEdge a s = .next t ∧ _
  unfold execPpsInEdge
  rw [← hu]
  clear hu
  have hskip : (decide (u.cfg.ppsInMode = 0) || (u.time.ppsSeen && decide (a - 11 < u.time.ppsExt + 500000000))) = false := by
    rcases ht with ht | ht
    · simp [hm, ht]
    · simp [hm]
      omega
  extract_lets u0 x add v o bad nb ng alarm changed _ w y
  have hv : v = u := congrArg Prod.snd (inject_of_nil hi 0x0F 0 0)
  have hadd : add = none := congrArg (Option.map _) (injection_of_nil hi 0x0F 0 0)
  have ho : o = u.time.nearestOffset (a - 11) := by simp [o, hadd, hv, x]
  have hy : y.time = { u.time with
      ppsExt := a - 11, ppsOfs := satI32 (u.time.nearestOffset (a - 11)), ppsSeen := true, ppsBad := nb, ppsGood := ng
      ppsAlarm := u.time.ppsJudged u.cfg.ppsThr (u.time.nearestOffset (a - 11))
      evt := u.time.evt ||| BitVec.twoPow 8 4 } := by
    rw [← ho, ← hv, ← ppsJudged_eq]
    exact timeEvt_time w 4
  have he : y.time.evt.getLsbD 4 = true := timeEvt_evt w (by decide)
  have hz : (y.timeEvt 5).time = { y.time with evt := (y.timeEvt 5).time.evt } := by rw [timeEvt_time]
  have hze : (y.timeEvt 5).time.evt.getLsbD 4 = true := timeEvt_evt_mono y he
  rw [if_neg (ne_true_of_eq_false hskip)]
  split
  · refine ⟨_, nb, ng, _, rfl, ?_, hze⟩
    split
    · rw [firnEv_time, hz, hy]
    · rw [hz, hy]
  · exact ⟨y, nb, ng, _, rfl, hy, by rwa [hy] at he⟩

theorem ppsInEdge_judged {a : Nat} {u : State} {o : Int} (hm : s.cfg.ppsInMode = 1)
    (ht : s.time.ppsSeen = false ∨ s.time.ppsExt + 500000000 ≤ a - 11) (hi : s.diag.inj = []) (hu : u = s.clockTo a)
    (ho : o = u.time.nearestOffset (a - 11)) : ∃ t, exec (.ppsInEdge a) s = .next t ∧ t.time.ppsExt = a - 11 ∧
      t.time.ppsOfs = satI32 o ∧ t.time.ppsSeen = true ∧ t.time.incr = s.time.incr ∧ t.time.evt.getLsbD 4 = true ∧
      (s.cfg.ppsThr < o.natAbs → t.time.ppsAlarm = (s.time.ppsAlarm || decide (2 ≤ s.time.ppsBad))) ∧
      (o.natAbs ≤ s.cfg.ppsThr → t.time.ppsAlarm = (s.time.ppsAlarm && !decide (2 ≤ s.time.ppsGood))) := by
  obtain ⟨t, nb, ng, e, hrow, htime, he⟩ := exec_ppsInEdge_accepted (s := s) (a := a) hu (by rw [hu]; exact hm)
    (by rw [hu]; exact ht) (by rw [hu]; exact hi)
  rw [← ho] at htime
  have hthr : u.cfg.ppsThr = s.cfg.ppsThr := by rw [hu]; rfl
  have hjudged : u.time.ppsJudged u.cfg.ppsThr o = s.time.ppsJudged s.cfg.ppsThr o := by rw [hu]; rfl
  refine ⟨t, hrow, by rw [htime], by rw [htime], by rw [htime], by rw [htime, hu]; rfl, by rwa [htime], fun h => ?_,
    fun h => ?_⟩
  · rw [htime]
    exact hjudged.trans (if_pos h)
  · rw [htime]
    exact hjudged.trans (if_neg (by omega))

/-! ## The commands (R336) -/

variable {p : Path} {e : Exec} {t : State}

/-- TIME_CFG before a LOCKED servo goes to HOLDOVER: the settings are stored, and the PTP ports start anew. -/
def State.timeSet (t : State) (b : Bytes) : State :=
  { t with
    cfg.time := b, stored.time := b
    time := { t.time with
      ports := t.time.ports.mapV (fun _ x =>
        { syncs := x.syncs, announces := x.announces, pdFail := x.pdFail, authFail := x.authFail })
      slavePort := 255, parent := 0, utc := if t.time.utcValid then t.time.utc else byteAt b 20 } }

theorem timeCfg_body (p : Path) (e : Exec) (t : State) : cmdTimeCfg.body p e t =
    .done (if t.time.servo = .locked then (t.timeSet (padTo 48 e.req.params)).servoTo .holdover
      else t.timeSet (padTo 48 e.req.params)) stOK [] none := rfl

theorem timeCfg_done {b : Bytes} (ha : Accepted cmdTimeCfg p e s t) (hb : b = padTo 48 e.req.params) :
    ∃ u : State, exec (.timeCfg p) s = .next (u.complete p stOK) ∧ u.cfg.time = b ∧ u.stored.time = b ∧
      u.time.slavePort = 255 ∧ u.time.utc = (if t.time.utcValid then t.time.utc else byteAt b 20) ∧
      u.time.servo = (if t.time.servo = .locked then .holdover else t.time.servo) := by
  subst hb
  refine ⟨_, congrArg Host.Outcome.next (run_done ha (timeCfg_body p e t)), ?_⟩
  by_cases h : t.time.servo = .locked
  · have hne : (t.timeSet (padTo 48 e.req.params)).time.servo ≠ .holdover := by
      change t.time.servo ≠ .holdover
      rw [h]
      decide
    obtain ⟨_, _, ht, -⟩ := servoTo_time hne
    rw [if_pos h, if_pos h, ht, servoTo_cfg, servoTo_stored]
    exact ⟨rfl, rfl, rfl, rfl, rfl⟩
  · rw [if_neg h, if_neg h]
    exact ⟨rfl, rfl, rfl, rfl, rfl⟩

/-- The counters of TIME_PORT_STATUS stand at bytes 12 to 27 of its answer. -/
theorem timePortStatus_done {i : Nat} {x : PtpPort} (ha : Accepted cmdTimePortStatus p e s t)
    (hi : i = byteAt e.req.params 0) (hx : x = t.ptpPort i) :
    ∃ b, exec (.timePortStatus p) s = .next (State.complete (if byteAt e.req.params 1 = 1 then
        t.setPtp i { x with syncs := 0, announces := 0, pdFail := 0, authFail := 0 } else t) p stOK [] (some b)) ∧
      slice b 12 4 = leBytes 4 x.syncs ∧ slice b 16 4 = leBytes 4 x.announces ∧ slice b 20 4 = leBytes 4 x.pdFail ∧
      slice b 24 4 = leBytes 4 x.authFail := by
  subst hi hx
  refine ⟨_, congrArg Host.Outcome.next (run_done ha rfl), ?_, ?_, ?_, ?_⟩
  all_goals simp (disch := simp) only [slice_append_left, slice_append_end]

theorem timeManualSet_body (p : Path) (e : Exec) (t : State) : ∃ (u : State) (r : Bytes) (d : Bytes), cmdTimeManualSet.body p e t =
    .done (u.firnEv 0x0206 d) stOK r none ∧ u.time = { t.time with
      manualSec := if (byteAt e.req.params 0).testBit 0 then some (le48 e.req.params 8) else t.time.manualSec
      utc := if (byteAt e.req.params 0).testBit 1 && !t.time.utcValid then byteAt e.req.params 1 else t.time.utc } := by
  refine ⟨_, _, _, rfl, ?_⟩
  by_cases h0 : (byteAt e.req.params 0).testBit 0
  · by_cases h1 : (byteAt e.req.params 0).testBit 1
    · by_cases hu : t.time.utcValid <;> simp [h0, h1, hu]
    · simp [h0, h1]
  · by_cases h1 : (byteAt e.req.params 0).testBit 1
    · by_cases hu : t.time.utcValid <;> simp [h0, h1, hu]
    · simp [h0, h1]

theorem timeManualSet_done {b : Bytes} (ha : Accepted cmdTimeManualSet p e s t) (hb : b = e.req.params) :
    ∃ (u : State) (r : Bytes), exec (.timeManualSet p) s = .next (u.complete p stOK r) ∧
      u.time.manualSec = (if (byteAt b 0).testBit 0 then some (le48 b 8) else t.time.manualSec) ∧
      u.time.utc = (if (byteAt b 0).testBit 1 && !t.time.utcValid then byteAt b 1 else t.time.utc) ∧
      u.time.servo = t.time.servo := by
  subst hb
  obtain ⟨u, r, d, hbody, htime⟩ := timeManualSet_body p e t
  refine ⟨_, r, congrArg Host.Outcome.next (run_done ha hbody), ?_⟩
  rw [firnEv_time, htime]
  exact ⟨rfl, rfl, rfl⟩

end

/-- Settles O45: the rows are branches of the chapter's operations; the marks, the edge and the commands have their own
lemmas. -/
theorem clockMarks : Obligations.ClockMarks := by
  unfold Obligations.ClockMarks
  refine ⟨fun s hs => ⟨congrArg Host.Outcome.next (if_pos hs), congrArg Host.Outcome.next (if_pos hs), fun m hm => ?cur⟩,
    fun n s => pendingMarkWrite_late, ?pending, fun t p hm => ⟨nymingMark_alone hm, nymingMark_corrected hm⟩,
    fun t p n => nymingMark_manual, ?holdover, fun s => exec_ppsOutFall, fun a s => exec_ppsInEdge_ignored,
    fun a s u o hm ht hi hu ho => ppsInEdge_judged hm ht hi hu ho, fun p e s t b => timeCfg_done,
    answers_of_body (fun _ _ => rfl) fun _ _ _ => rfl, answers_of_body (fun _ _ => rfl) fun _ _ _ => rfl,
    completes_of_body (fun _ _ => rfl) fun _ _ _ => rfl, fun p e s t i x => timePortStatus_done,
    fun p e s t b => timeManualSet_done⟩
  case cur =>
    change execTimeMarkCurRead s = _
    simp only [execTimeMarkCurRead, hs, if_true, hm, Option.map_some, Option.getD_some]
  case pending =>
    rintro n s m hr hn hi rfl hlo hhi
    exact ⟨_, exec_pendingMarkWrite_kept hr hn (injection_of_nil hi ..) hlo hhi, rfl, rfl, rfl⟩
  case holdover =>
    intro s hs he
    have hrow := exec_holdoverExpired hs he
    refine ⟨_, hrow, ?_⟩
    generalize 1000000000 * s.cfg.holdoverLimit = w
    rw [State.now, firnEv_time]
    exact ⟨rfl, hs, rfl⟩

end Machine
end Sys2Proof

/-! PROOFS. What a frame that the module sends leaves of the clock: admission and egress leave all of it, and a PTP
message that goes notes its transmit time, which leaves the sequence numbers of its port (R112, R301 to R307, R324). -/

namespace Sys2Proof
namespace Machine

variable (s : State)

/-! ## Operations that leave the clock -/

@[simp] theorem skipCopy_time (c : Copy) : (s.skipCopy c).time = s.time := rfl
@[simp] theorem passCopy_time (c : Copy) : (s.passCopy c).time = s.time := rfl
@[simp] theorem hold_time (fid cells part : Nat) : (s.hold fid cells part).time = s.time := rfl
@[simp] theorem setQueue_time (n q : Nat) (x : Queue) : (s.setQueue n q x).time = s.time := rfl
@[simp] theorem sendPort_time (c : Copy) (n : Nat) (a b d : Bool) : (s.sendPort c n a b d).time = s.time := rfl

@[simp] theorem release_time (fid : Nat) : (s.release fid).time = s.time := by
  unfold State.release
  split
  · split <;> rfl
  · rfl

@[simp] theorem queueMsg_time (n vec : Nat) (was : Bool) : (s.queueMsg n vec was).time = s.time := by
  unfold State.queueMsg
  split <;> rfl

@[simp] theorem rxDropFn_time (n : Nat) : (s.rxDropFn n).time = s.time := by simp [State.rxDropFn]

@[simp] theorem evictTail_time (d : Dest) (v : Nat) : (s.evictTail d v).time = s.time := by
  unfold State.evictTail
  split
  · split <;> simp
  · split <;> simp

theorem pushOut_time (d : Dest) (c n own k : Nat) (s : State) : (State.pushOut d c n own k s).2.time = s.time := by
  induction k generalizing s with
  | zero => rfl
  | succ k ih =>
    unfold State.pushOut
    split
    · rfl
    · split
      · rw [ih, evictTail_time]
      · rfl

theorem admission_time (d : Dest) (c n own : Nat) : (s.admission d c n own).2.time = s.time := by
  unfold State.admission
  split
  · rfl
  · split
    · exact pushOut_time ..
    · rfl

@[simp] theorem loseCopy_time (c : Copy) : (s.loseCopy c).time = s.time := by
  unfold State.loseCopy
  extract_lets u
  have hu : u.time = s.time := by simp [u]
  split
  · split
    · exact hu
    · extract_lets x
      split
      · exact hu
      · exact hu
  · exact hu

@[simp] theorem class7Start_time (port len : Nat) : (s.class7Start port len).time = s.time := by
  unfold State.class7Start
  extract_lets p recent load ahead u v _ w
  have hw : w.time = s.time := by
    dsimp only [w]
    split <;> simp [u]
  split
  · simp [hw]
  · exact hw

@[simp] theorem preempt_time (port cls : Nat) : (s.preempt port cls).time = s.time := by
  unfold State.preempt
  extract_lets p
  split
  · split <;> simp
  · rfl

@[simp] theorem countKind_time (port off dst : Nat) : (s.countKind port off dst).time = s.time := by
  unfold State.countKind
  split
  · simp
  · split <;> simp

@[simp] theorem countIf_time (c : Bool) (port off : Nat) : (s.countIf c port off).time = s.time := by
  unfold State.countIf
  split <;> simp

@[simp] theorem txCount_time (port len dst cls : Nat) (tagged : Bool) :
    (s.txCount port len dst cls tagged).time = s.time := by
  unfold State.txCount
  extract_lets u v w
  have hv : v.time = s.time := by
    dsimp only [v]
    split <;> simp [u]
  have hw : w.time = s.time := by
    dsimp only [w]
    split <;> simp [hv]
  simp [hw]

@[simp] theorem sendCounts_time (c : Copy) (n : Nat) (a b d e : Bool) : (s.sendCounts c n a b d e).time = s.time := by
  unfold State.sendCounts
  extract_lets u v
  have hu : u.time = s.time := by
    dsimp only [u]
    split <;> simp
  simp [v, hu]

@[simp] theorem fnTxDone_time (n q idx : Nat) : (s.fnTxDone n q idx).time = s.time := by
  unfold State.fnTxDone
  extract_lets x
  split <;> simp

@[simp] theorem tripTx_time (num port : Nat) : (s.tripTx num port).time = s.time := by
  unfold State.tripTx
  split
  · rfl
  · extract_lets paused bad e' _ u
    have hu : u.time = s.time := rfl
    split
    · simp [hu]
    · exact hu

/-! ## Sequence numbers of the PTP ports (R322, R325) -/

/-- `t` has the sequence numbers of `s` on every PTP port, and the rest of the clock but the ports. -/
def KeepsSeqs (s t : State) : Prop :=
  (∃ tp, t.time = { s.time with ports := tp }) ∧ ∀ i, (t.ptpPort i).reqSeq = (s.ptpPort i).reqSeq ∧
    (t.ptpPort i).syncSeq = (s.ptpPort i).syncSeq ∧ (t.ptpPort i).annSeq = (s.ptpPort i).annSeq

namespace KeepsSeqs

variable {s t u : State}

theorem of_time (h : t.time = s.time) : KeepsSeqs s t :=
  ⟨⟨s.time.ports, h⟩, fun i => by simp [State.ptpPort, h]⟩

theorem trans (a : KeepsSeqs s t) (b : KeepsSeqs t u) : KeepsSeqs s u := by
  obtain ⟨⟨p, hp⟩, ha⟩ := a
  obtain ⟨⟨q, hq⟩, hb⟩ := b
  refine ⟨⟨q, by rw [hq, hp]⟩, fun i => ?_⟩
  obtain ⟨a1, a2, a3⟩ := ha i
  obtain ⟨b1, b2, b3⟩ := hb i
  exact ⟨b1.trans a1, b2.trans a2, b3.trans a3⟩

end KeepsSeqs

@[simp] theorem ptpPort_setPtp (i : Nat) (x : PtpPort) : (s.setPtp i x).ptpPort i = x := by
  simp [State.ptpPort, State.setPtp]

theorem ptpPort_setPtp_other {i j : Nat} (h : j ≠ i) (x : PtpPort) : (s.setPtp i x).ptpPort j = s.ptpPort j := by
  simp [State.ptpPort, State.setPtp, tbl_getD_set_other _ _ _ h]

/-- A port whose sequence numbers stay. -/
theorem setPtp_keepsSeqs {i : Nat} {x : PtpPort} (h1 : x.reqSeq = (s.ptpPort i).reqSeq)
    (h2 : x.syncSeq = (s.ptpPort i).syncSeq) (h3 : x.annSeq = (s.ptpPort i).annSeq) : KeepsSeqs s (s.setPtp i x) := by
  refine ⟨⟨_, rfl⟩, fun j => ?_⟩
  by_cases hj : j = i
  · subst hj
    rw [ptpPort_setPtp]
    exact ⟨h1, h2, h3⟩
  · rw [ptpPort_setPtp_other s hj]
    exact ⟨rfl, rfl, rfl⟩

theorem ptpSent_keepsSeqs (port : Nat) (c : Content) : KeepsSeqs s (s.ptpSent port c) := by
  unfold State.ptpSent
  extract_lets x
  split
  · exact setPtp_keepsSeqs s rfl rfl rfl
  · split
    · exact setPtp_keepsSeqs s rfl rfl rfl
    · exact .of_time rfl
  · exact .of_time rfl

theorem sendTold_keepsSeqs (c : Copy) : KeepsSeqs s (s.sendTold c) := by
  unfold State.sendTold
  split
  · exact .of_time (fnTxDone_time ..)
  · exact .of_time (tripTx_time ..)
  · exact ptpSent_keepsSeqs ..
  · exact .of_time rfl

theorem send_keepsSeqs (c : Copy) (mark stomp : Bool) : KeepsSeqs s (s.send c mark stomp) := by
  unfold State.send
  extract_lets tagged maxLen tooLong sent u
  split
  · exact .of_time (by simp)
  · have hu : KeepsSeqs s ((u.passCopy c).release c.fid) := .of_time (by simp [u])
    exact hu.trans (sendTold_keepsSeqs _ c)

theorem enqueue_keepsSeqs (m : Meta) (port : Nat) : KeepsSeqs s (s.enqueue m port).2 := by
  have ha : ((s.number m port).2.admission (.port port) m.cls m.hold ((s.number m port).2.ownCells m.fid)).2.time =
      s.time := admission_time ..
  unfold State.enqueue
  extract_lets n c
  split
  · rename_i part u hadm
    have hu : u.time = s.time := by rwa [hadm] at ha
    extract_lets v
    have hv : KeepsSeqs s v := .of_time hu
    split
    · split
      · exact hv.trans (send_keepsSeqs _ _ _ _)
      · exact hv.trans (.of_time rfl)
    · exact hv.trans (.of_time rfl)
  · rename_i u hadm
    have hu : u.time = s.time := by rwa [hadm] at ha
    exact .of_time hu

theorem enqueueAll_keepsSeqs (m : Meta) (l : List Nat) (s : State) : KeepsSeqs s (State.enqueueAll m l s).2 := by
  induction l generalizing s with
  | nil => exact .of_time rfl
  | cons p ps ih => exact (enqueue_keepsSeqs s m p).trans (ih _)

theorem modSend_keepsSeqs (ports : List Nat) (f : Frame) (cls : Nat) (o : Origin) :
    KeepsSeqs s (s.modSend ports f cls o) := by
  unfold State.modSend
  extract_lets n m a
  have hn : KeepsSeqs s n.2 := .of_time rfl
  have ha : KeepsSeqs s a.2 := hn.trans (enqueueAll_keepsSeqs m _ n.2)
  refine ha.trans (.of_time ?_)
  exact foldl_keeps (fun t : State => t.time = a.2.time) _ (fun t p ht => by rw [portCount_time, ht]) _ _ rfl

theorem ptpSend_keepsSeqs (port kind seq : Nat) (corr : Int) (ingress : Option Nat) :
    KeepsSeqs s (s.ptpSend port kind seq corr ingress) := modSend_keepsSeqs ..

theorem ptpSend_cfg (port kind seq : Nat) (corr : Int) (ingress : Option Nat) :
    (s.ptpSend port kind seq corr ingress).cfg = s.cfg := (modSend_sends ..).cfg_eq.1

end Machine
end Sys2Proof

/-! PROOFS. PTP (O46): messages and their authentication, the BMCA, the servo at each Sync, delays and master ports
(R322 to R331). -/

namespace Sys2Proof
namespace Machine

variable {s : State} {m : PtpMsg} {at_ : Nat}

/-! ## Messages of the mask (R323, R326) -/

/-- A message outside the mask passes by. -/
theorem ptpTake_masked (h : s.cfg.ptpMask m.port = false) (f : State → State) : s.ptpTake m at_ f = .next (s.clockTo at_) :=
  congrArg Host.Outcome.next (if_pos (by simp [h]))

theorem ptpTake_used (h : PtpUsed s m) (f : State → State) : s.ptpTake m at_ f = .next (f (s.clockTo at_)) := by
  obtain ⟨hmask, hauth⟩ := h
  have hok : (s.clockTo at_).ptpAuthOk m = (true, s.clockTo at_) := if_pos (by simp [hauth])
  simp only [State.ptpTake, clockTo_cfg, hmask, hok, Bool.not_true, Bool.false_eq_true, if_false, if_true]

/-- A message that fails authentication without AUTH_MON is counted, raises AUTH_FAIL, and is not used. -/
theorem ptpTake_refused (h : s.cfg.ptpMask m.port = true) (ha : s.cfg.ptpAuth = true) (hm : s.cfg.ptpMon = false)
    (hi : s.ptpIcv m = false) (f : State → State) : s.ptpTake m at_ f = .next ((((s.clockTo at_).setPtp m.port
      { s.ptpPort m.port with authOk := false }).ptpCount m.port 24).timeEvt 6) := by
  have hicv : (s.clockTo at_).ptpIcv m = false := hi
  have hmon : ((s.clockTo at_).setPtp m.port { s.ptpPort m.port with authOk := false }).cfg.ptpMon = false := hm
  have hok : (s.clockTo at_).ptpAuthOk m = (false, (((s.clockTo at_).setPtp m.port
      { s.ptpPort m.port with authOk := false }).ptpCount m.port 24).timeEvt 6) := by
    have hport : (s.clockTo at_).ptpPort m.port = s.ptpPort m.port := rfl
    simp only [State.ptpAuthOk, clockTo_cfg, ha, hicv, hport, hmon, Bool.not_true, Bool.false_eq_true, if_false]
  simp only [State.ptpTake, clockTo_cfg, h, hok, Bool.not_true, Bool.false_eq_true, if_false]

/-! ## Counters of a port (R291, R336) -/

/-- A port with the counter at `pos` of TIME_PORT_STATUS one event on. -/
def PtpPort.count (x : PtpPort) (pos : Nat) : PtpPort :=
  match pos with
  | 12 => { x with syncs := inc32 x.syncs }
  | 16 => { x with announces := inc32 x.announces }
  | 20 => { x with pdFail := inc32 x.pdFail }
  | _ => { x with authFail := inc32 x.authFail }

/-- A count changes its port alone; Firn may take a record. -/
theorem ptpCount_eq (s : State) (i pos : Nat) :
    ∃ v at_, s.ptpCount i pos = (s.setPtp i ((s.ptpPort i).count pos)).counted v 0x0205 at_ i := by
  unfold State.ptpCount
  split
  · exact ⟨_, _, rfl⟩
  · exact ⟨_, _, rfl⟩
  · exact ⟨_, _, rfl⟩
  · rename_i n12 n16 n20
    refine ⟨inc32 (s.ptpPort i).authFail, 24, ?_⟩
    unfold PtpPort.count
    split
    · exact (n12 rfl).elim
    · exact (n16 rfl).elim
    · exact (n20 rfl).elim
    · rfl

theorem ptpCount_time (s : State) (i pos : Nat) :
    (s.ptpCount i pos).time = (s.setPtp i ((s.ptpPort i).count pos)).time := by
  obtain ⟨v, at_, h⟩ := ptpCount_eq s i pos
  rw [h, counted_time]

@[simp] theorem ptpPort_ptpCount (s : State) (i pos : Nat) : (s.ptpCount i pos).ptpPort i = (s.ptpPort i).count pos := by
  rw [State.ptpPort, ptpCount_time]
  exact ptpPort_setPtp s i _

@[simp] theorem ptpCount_cfg (s : State) (i pos : Nat) : (s.ptpCount i pos).cfg = s.cfg := by
  obtain ⟨v, at_, h⟩ := ptpCount_eq s i pos
  rw [h, counted_cfg]
  rfl

@[simp] theorem ptpCount_mem (s : State) (i pos : Nat) : (s.ptpCount i pos).mem = s.mem := by
  obtain ⟨v, at_, h⟩ := ptpCount_eq s i pos
  rw [h, counted_mem]
  rfl

@[simp] theorem ptpCount_diag (s : State) (i pos : Nat) : (s.ptpCount i pos).diag = s.diag := by
  obtain ⟨v, at_, h⟩ := ptpCount_eq s i pos
  rw [h, counted_diag]
  rfl

/-! ## What the BMCA leaves (R327) -/

/-- `t` has the servo's state and history, the settings and the memory of `s`, and on every port its count of
Announces. -/
def KeepsServo (s t : State) : Prop :=
  t.time.servo = s.time.servo ∧ t.time.wasLocked = s.time.wasLocked ∧ t.cfg = s.cfg ∧ t.mem = s.mem ∧
    ∀ i, (t.ptpPort i).announces = (s.ptpPort i).announces

namespace KeepsServo

variable {t u : State}

theorem refl (s : State) : KeepsServo s s := ⟨rfl, rfl, rfl, rfl, fun _ => rfl⟩

theorem trans (a : KeepsServo s t) (b : KeepsServo t u) : KeepsServo s u := by
  obtain ⟨a1, a2, a3, a4, a5⟩ := a
  obtain ⟨b1, b2, b3, b4, b5⟩ := b
  exact ⟨b1.trans a1, b2.trans a2, b3.trans a3, b4.trans a4, fun i => (b5 i).trans (a5 i)⟩

theorem setPtp {i : Nat} {x : PtpPort} (h : x.announces = (s.ptpPort i).announces) : KeepsServo s (s.setPtp i x) := by
  refine ⟨rfl, rfl, rfl, rfl, fun j => ?_⟩
  by_cases hj : j = i
  · subst hj
    rw [ptpPort_setPtp, h]
  · rw [ptpPort_setPtp_other s hj]

theorem timeEvt (s : State) (b : Nat) : KeepsServo s (s.timeEvt b) := by
  refine ⟨by rw [timeEvt_time], by rw [timeEvt_time], by simp, by simp, fun i => ?_⟩
  rw [State.ptpPort, timeEvt_time]
  rfl

theorem firnEv (s : State) (c : Nat) (d : Bytes) : KeepsServo s (s.firnEv c d) := by
  refine ⟨by rw [firnEv_time], by rw [firnEv_time], by simp, by simp, fun i => ?_⟩
  rw [State.ptpPort, firnEv_time]
  rfl

theorem gmTo (s : State) (d : AnnounceData) : KeepsServo s (s.gmTo d) := by
  unfold State.gmTo
  extract_lets old t u
  have hu : KeepsServo s u := ⟨rfl, rfl, rfl, rfl, fun _ => rfl⟩
  split
  · exact hu
  · exact (hu.trans (timeEvt u 7)).trans (firnEv _ _ _)

/-- The ports take their states, and the slave port and its parent are chosen. -/
theorem bmca (s : State) : KeepsServo s s.bmca := by
  unfold State.bmca
  extract_lets best u
  clear_value best
  have hu : KeepsServo s u := by
    refine foldl_keeps (KeepsServo s) _ (fun t p ht => ?_) _ _ (.refl s)
    split
    · exact ht.trans (setPtp rfl)
    · exact ht
  split
  · exact hu.trans ⟨rfl, rfl, rfl, rfl, fun _ => rfl⟩
  · rename_i b _
    extract_lets moved _ v _ w
    have hv : KeepsServo s v := by
      dsimp only [v]
      split
      · exact hu.trans (setPtp rfl)
      · exact hu
    have hw : KeepsServo s w := hv.trans ⟨rfl, rfl, rfl, rfl, fun _ => rfl⟩
    exact hw.trans (gmTo w b.data)

theorem parentAnnounce (s : State) (d : AnnounceData) : KeepsServo s (s.parentAnnounce d) := by
  unfold State.parentAnnounce
  extract_lets servoing t u
  split
  · exact ⟨rfl, rfl, rfl, rfl, fun _ => rfl⟩
  · exact ⟨rfl, rfl, rfl, rfl, fun _ => rfl⟩

end KeepsServo

/-- PTP_ANNOUNCE_RECEIVE of a used message, in ordinary and boundary clocks (R327). -/
theorem ptpAnnounceReceive_used {a : AnnounceData} (h : PtpUsed s m) (hr : s.cfg.ptpRole ≠ 2) :
    ∃ t, exec (.ptpAnnounceReceive m a at_) s = .next t ∧
      (t.ptpPort m.port).announces = inc32 (s.ptpPort m.port).announces ∧ t.time.servo = s.time.servo ∧ t.cfg = s.cfg ∧
      t.mem = s.mem := by
  change ∃ t, execPtpAnnounceReceive m a at_ s = .next t ∧ _
  rw [execPtpAnnounceReceive, ptpTake_used h]
  refine ⟨_, rfl, ?_⟩
  extract_lets u v w x
  have hu : (u.ptpPort m.port).announces = inc32 (s.ptpPort m.port).announces := by
    simp only [u, ptpPort_ptpCount]
    rfl
  have hus : u.time.servo = s.time.servo ∧ u.cfg = s.cfg ∧ u.mem = s.mem := by
    refine ⟨?_, ptpCount_cfg .., ptpCount_mem ..⟩
    dsimp only [u]
    rw [ptpCount_time]
    rfl
  have hv : KeepsServo u v := by
    refine .setPtp ?_
    unfold PtpPort.heard
    split
    · rfl
    · extract_lets live
      split <;> rfl
  have hx : KeepsServo u x := by
    have hw : KeepsServo u w := hv.trans (.bmca v)
    dsimp only [x]
    split
    · exact hw.trans (.parentAnnounce w a)
    · exact hw
  obtain ⟨hservo, -, hcfg, hmem, hann⟩ := hx
  have hrole : x.cfg.ptpRole ≠ 2 := by rwa [hcfg, hus.2.1]
  rw [if_neg hrole]
  exact ⟨(hann _).trans hu, hservo.trans hus.1, hcfg.trans hus.2.1, hmem.trans hus.2.2⟩

/-! ## The servo (R329) -/

/-- The state of the servo after a valid Sync with offset `o`. -/
theorem servoSync_servo (s : State) (o : Int) : (s.servoSync o).time.servo =
    match s.time.servo with
    | .free => if 1 ≤ s.time.syncCount then .acquire else .free
    | .holdover => if 1 ≤ s.time.syncCount then .acquire else .holdover
    | .acquire => if o.natAbs ≤ 1000 ∧ 15 ≤ s.time.goodSyncs then .locked else .acquire
    | .locked => if 10000 < o.natAbs ∧ 3 ≤ s.time.badSyncs then .holdover else .locked := by
  have hto (u : State) (v w : Servo) (c d : Prop) [Decidable c] [Decidable d] (hcd : c ↔ d) (hw : u.time.servo = w) :
      (if c then u.servoTo v else u).time.servo = if d then v else w := by
    by_cases h : d
    · rw [if_pos (hcd.2 h), if_pos h, servoTo_servo]
    · rw [if_neg (fun hc => h (hcd.1 hc)), if_neg h, hw]
  unfold State.servoSync
  cases hs : s.time.servo
  case free => exact hto _ _ _ _ _ (by omega) hs
  case holdover => exact hto _ _ _ _ _ (by omega) hs
  case acquire =>
    refine hto _ _ _ _ _ ?_ hs
    split <;> omega
  case locked =>
    refine hto _ _ _ _ _ ?_ hs
    split <;> omega

theorem servoTo_enters {v : Servo} (h : v ≠ s.time.servo) : (s.servoTo v).time.servo = v ∧
    (s.servoTo v).time.evt.getLsbD 1 = true ∧ (s.servoTo v).time.servoSince = s.now ∧
    (s.servoTo v).time.wasLocked = (s.time.wasLocked || decide (v = .locked)) ∧ (s.servoTo v).time.holdExpired = false ∧
    (v ≠ .holdover → (s.servoTo v).time.incr = s.time.incr) := by
  obtain ⟨incr, l, ht, hincr⟩ := servoTo_time (s := s) (v := v) (fun hc => h hc.symm)
  rw [ht]
  exact ⟨rfl, by simp, rfl, by rw [Bool.beq_eq_decide_eq], rfl, hincr⟩

/-- A lost source ends the servo's correction: HOLDOVER where it has been LOCKED, else FREE. -/
theorem ptpSourceLost_servo (h : s.time.servo = .locked ∨ s.time.servo = .acquire) : ∃ t, exec .ptpSourceLost s = .next t ∧
    t.time.servo = if s.time.wasLocked then .holdover else .free := by
  change ∃ t, execPtpSourceLost s = .next t ∧ _
  unfold execPtpSourceLost
  extract_lets servoing ann due u v w x
  have hsv : servoing = true := by
    dsimp only [servoing]
    rcases h with h | h <;> simp [h]
  have hv : KeepsServo s v := by
    have hu : KeepsServo s u := ⟨rfl, rfl, rfl, rfl, fun _ => rfl⟩
    dsimp only [v]
    split
    · exact hu.trans (.bmca u)
    · exact hu
  have hwas : x.time.wasLocked = s.time.wasLocked := hv.2.1
  refine ⟨_, rfl, ?_⟩
  rw [if_neg (by simp [hsv]), if_pos hsv, servoTo_servo, hwas]

/-! ## Syncs (R323 to R325, R329) -/

@[simp] theorem servoSync_cfg (s : State) (o : Int) : (s.servoSync o).cfg = s.cfg := by
  unfold State.servoSync
  split
  all_goals
    extract_lets n _ u
    split
    · rw [servoTo_cfg]
    · rfl

@[simp] theorem validSync_cfg (s : State) (rx : Nat) (tai : Int) : (s.validSync rx tai).cfg = s.cfg := by
  unfold State.validSync
  extract_lets o _ u v
  have hv : v.cfg = s.cfg := servoSync_cfg ..
  split
  · exact hv
  · exact hv

/-- A Sync of an ordinary or boundary clock: a two-step one waits for its Follow_Up, a valid one serves. -/
theorem ptpSyncReceive_used {o : Nat} {c : Int} {two : Bool} {u : State} {x : PtpPort} (h : PtpUsed s m)
    (hr : s.cfg.ptpRole ≠ 2) (hi : s.diag.inj = []) (hu : u = (s.clockTo at_).ptpCount m.port 12) (hx : x = u.ptpPort m.port) :
    exec (.ptpSyncReceive m o c two at_) s = .next (
      if !(u.time.slavePort == m.port && u.time.parent == m.clockId) then u
      else if two then u.setPtp m.port { x with twoStep := some (m.seq, at_, c) }
      else if u.syncValid m then (u.setPtp m.port { x with rxSeq := some m.seq, syncDiff := u.taiNow at_ - o - c }).validSync at_
        (o + c + x.meanDelay)
      else u.setPtp m.port { x with rxSeq := some m.seq, syncDiff := u.taiNow at_ - o - c }) := by
  have hdrop : u.injection 0x0E 0 0 = none := by
    refine injection_of_nil ?_ ..
    rw [hu, ptpCount_diag]
    exact hi
  have hrole : u.cfg.ptpRole ≠ 2 := by rwa [hu, ptpCount_cfg]
  change execPtpSyncReceive m o c two at_ s = _
  rw [execPtpSyncReceive, ptpTake_used h]
  dsimp only
  rw [← hu, ← hx, hdrop]
  simp only [Option.isSome_none, Bool.and_false, Bool.false_or, Bool.not_false, Bool.and_true]
  refine congrArg Host.Outcome.next (if_neg ?_)
  split
  · exact hrole
  · split
    · exact hrole
    · split
      · rwa [validSync_cfg]
      · exact hrole

/-- A Sync of the parent on the slave port of an ordinary or boundary clock, and one of another port. -/
theorem ptpSyncReceive_own {o : Nat} {c : Int} {u : State} {x : PtpPort} (h : PtpUsed s m) (hr : s.cfg.ptpRole ≠ 2)
    (hi : s.diag.inj = []) (hu : u = (s.clockTo at_).ptpCount m.port 12) (hx : x = u.ptpPort m.port) :
    (u.time.slavePort = m.port → u.time.parent = m.clockId →
      exec (.ptpSyncReceive m o c true at_) s = .next (u.setPtp m.port { x with twoStep := some (m.seq, at_, c) }) ∧
      (u.syncValid m = true → exec (.ptpSyncReceive m o c false at_) s = .next ((u.setPtp m.port { x with
        rxSeq := some m.seq, syncDiff := u.taiNow at_ - o - c }).validSync at_ (o + c + x.meanDelay)))) ∧
    (u.time.slavePort ≠ m.port → exec (.ptpSyncReceive m o c false at_) s = .next u) := by
  have hgo two := ptpSyncReceive_used (o := o) (c := c) (two := two) h hr hi hu hx
  refine ⟨fun hp hc => ?_, fun hp => (hgo false).trans ?_⟩
  · have hown : ¬(!(u.time.slavePort == m.port && u.time.parent == m.clockId)) = true := by simp [hp, hc]
    refine ⟨(hgo true).trans ?_, fun hv => (hgo false).trans ?_⟩
    · rw [if_neg hown, if_pos rfl]
    · rw [if_neg hown, if_neg Bool.false_ne_true, if_pos hv]
  · rw [if_pos (by simp [hp])]

/-- PTP_FOLLOW_UP_RECEIVE of the number of a waiting Sync of the parent. -/
theorem ptpFollowUpReceive_own {o : Nat} {c : Int} {u : State} {x : PtpPort} {rx : Nat} {k : Int} (h : PtpUsed s m)
    (hr : s.cfg.ptpRole ≠ 2) (hu : u = s.clockTo at_) (hx : x = u.ptpPort m.port) (hk : x.twoStep = some (m.seq, rx, k))
    (hp : u.time.slavePort = m.port) (hc : u.time.parent = m.clockId) (hv : u.syncValid m = true) :
    ∃ v, exec (.ptpFollowUpReceive m o c at_) s = .next (State.validSync v rx (o + c + k + x.meanDelay)) ∧
      (v.ptpPort m.port).twoStep = none ∧ (v.ptpPort m.port).rxSeq = some m.seq := by
  have hown : ¬(!(u.time.slavePort == m.port && u.time.parent == m.clockId)) = true := by simp [hp, hc]
  refine ⟨(u.setPtp m.port { x with twoStep := none }).setPtp m.port
    { (u.setPtp m.port { x with twoStep := none }).ptpPort m.port with
      rxSeq := some m.seq, syncDiff := (u.setPtp m.port { x with twoStep := none }).taiNow rx - o - c - k }, ?_, ?_, ?_⟩
  · change execPtpFollowUpReceive m o c at_ s = _
    rw [execPtpFollowUpReceive, ptpTake_used h, ← hu]
    dsimp only
    rw [← hx, hk]
    dsimp only
    rw [if_neg (fun hn => hn rfl), if_neg hown, if_pos hv]
    refine congrArg Host.Outcome.next (if_neg ?_)
    rw [validSync_cfg, hu]
    exact hr
  · rw [ptpPort_setPtp, ptpPort_setPtp]
  · rw [ptpPort_setPtp]

/-! ## Delays and master ports (R322, R324, R325) -/

/-- A request goes with the next number of its port. -/
theorem delayAsk_kept (s : State) (i kind : Nat) : ((s.delayAsk i kind).ptpPort i).reqSeq = ((s.ptpPort i).reqSeq + 1) % 65536 ∧
    (s.delayAsk i kind).cfg = s.cfg ∧ (s.delayAsk i kind).time.servo = s.time.servo := by
  unfold State.delayAsk
  extract_lets x u
  obtain ⟨⟨_, ht⟩, hseq⟩ := ptpSend_keepsSeqs u i kind x.reqSeq 0 none
  refine ⟨(hseq i).1.trans ?_, ptpSend_cfg .., by rw [ht]; rfl⟩
  rw [ptpPort_setPtp]

/-- A delay out of its range is a failure (R325). -/
theorem delayDone_invalid {i : Nat} {d : Int} (h : d < 0 ∨ 200000 < d) : ((s.delayDone i d).ptpPort i).delays =
    (s.ptpPort i).delays ∧ ((s.delayDone i d).ptpPort i).pdFail = inc32 (s.ptpPort i).pdFail := by
  have hd : s.delayDone i d = (s.setPtp i { s.ptpPort i with request := none }).ptpCount i 20 := if_pos (by simpa using h)
  rw [hd, ptpPort_ptpCount, ptpPort_setPtp]
  exact ⟨rfl, rfl⟩

theorem delayDone_valid {i : Nat} {d : Int} (h0 : 0 ≤ d) (h : d ≤ 200000) : (s.delayDone i d).ptpPort i =
    { s.ptpPort i with
      request := none, delays := ((d / 2).toNat :: (s.ptpPort i).delays).take 8, lastValid := some s.now } := by
  unfold State.delayDone
  extract_lets _ x y u
  have hu : u.ptpPort i = y := ptpPort_setPtp ..
  rw [if_neg (by simp; omega)]
  split
  · exact hu
  · exact hu

/-- PTP_PDELAY_RESP_RECEIVE of the number asked for, in time. -/
theorem ptpPdelayRespReceive_asked {t3 t1 : Nat} {c : Int} (h : PtpUsed s m) (hp : s.cfg.ptpProfile ≤ 1)
    (hr : (s.ptpPort m.port).request = some (m.seq, t1)) (ht : at_ ≤ t1 + 500000000) :
    ∃ u : State, exec (.ptpPdelayRespReceive m t3 c at_) s = .next (u.delayDone m.port ((at_ : Int) - t1 - c)) ∧
      (u.ptpPort m.port).delays = (s.ptpPort m.port).delays ∧ (u.ptpPort m.port).pdFail = (s.ptpPort m.port).pdFail := by
  have hprof : ¬((decide (m.seq ≠ m.seq) || decide ((s.clockTo at_).cfg.ptpProfile = 2)) = true) := by
    have hne : s.cfg.ptpProfile ≠ 2 := by omega
    simp only [clockTo_cfg]
    simp [hne]
  have hr' : ((s.clockTo at_).ptpPort m.port).request = some (m.seq, t1) := hr
  have hrun : ∃ ratio, exec (.ptpPdelayRespReceive m t3 c at_) s = .next (((s.clockTo at_).setPtp m.port
      { (s.clockTo at_).ptpPort m.port with prevResp := some (t3, at_), ratioErr := ratio }).delayDone m.port
        ((at_ : Int) - t1 - c)) := by
    change ∃ ratio, execPtpPdelayRespReceive m t3 c at_ s = _
    rw [execPtpPdelayRespReceive, ptpTake_used h]
    dsimp only
    rw [hr']
    dsimp only
    rw [if_neg hprof, if_neg (by omega)]
    exact ⟨_, rfl⟩
  obtain ⟨ratio, hrun⟩ := hrun
  refine ⟨_, hrun, ?_, ?_⟩
  · rw [ptpPort_setPtp]
    rfl
  · rw [ptpPort_setPtp]
    rfl

/-- PTP_DELAY_RESP_RECEIVE of the number asked for, in time. -/
theorem ptpDelayRespReceive_asked {rx t3 : Nat} {c d : Int} (h : PtpUsed s m) (hp : s.cfg.ptpProfile = 2)
    (hsl : s.time.slavePort = m.port) (hpa : s.time.parent = m.clockId)
    (hr : (s.ptpPort m.port).request = some (m.seq, t3)) (ht : at_ ≤ t3 + 500000000)
    (hd : d = (s.ptpPort m.port).syncDiff + ((rx : Int) - c - (s.clockTo at_).taiNow t3)) :
    exec (.ptpDelayRespReceive m rx c at_) s = .next ((s.clockTo at_).delayDone m.port d) := by
  have hr' : ((s.clockTo at_).ptpPort m.port).request = some (m.seq, t3) := hr
  have hown : ¬((decide (m.seq ≠ m.seq) || decide ((s.clockTo at_).cfg.ptpProfile ≠ 2) ||
      decide ((s.clockTo at_).time.slavePort ≠ m.port) || decide ((s.clockTo at_).time.parent ≠ m.clockId)) = true) := by
    have hsl' : (s.clockTo at_).time.slavePort = m.port := hsl
    have hpa' : (s.clockTo at_).time.parent = m.clockId := hpa
    rw [clockTo_cfg, hp, hsl', hpa']
    simp
  change execPtpDelayRespReceive m rx c at_ s = _
  rw [execPtpDelayRespReceive, ptpTake_used h, hd]
  dsimp only
  rw [hr']
  dsimp only
  rw [if_neg hown, if_neg (by omega)]
  rfl

/-- PTP_PDELAY_TIMEOUT of a waiting request. -/
theorem ptpPdelayTimeout_waiting {i q t1 : Nat} (h : (s.ptpPort i).request = some (q, t1)) :
    ∃ t, exec (.ptpPdelayTimeout i) s = .next t ∧ (t.ptpPort i).request = none ∧
      (t.ptpPort i).pdFail = inc32 (s.ptpPort i).pdFail := by
  have hrun : ∃ due, exec (.ptpPdelayTimeout i) s = .next (((s.clockTo due).setPtp i
      { (s.clockTo due).ptpPort i with request := none }).ptpCount i 20) := by
    refine ⟨t1 + 500000000, ?_⟩
    change execPtpPdelayTimeout i s = _
    simp only [execPtpPdelayTimeout, h]
  obtain ⟨due, hrun⟩ := hrun
  refine ⟨_, hrun, ?_, ?_⟩
  · rw [ptpPort_ptpCount, ptpPort_setPtp]
    rfl
  · rw [ptpPort_ptpCount, ptpPort_setPtp]
    rfl

theorem ptpSyncSend_master {i : Nat} (hm : s.cfg.ptpMask i = true) (h : (s.ptpPort i).state = 6) :
    ∃ t, exec (.ptpSyncSend i) s = .next t ∧ (t.ptpPort i).syncSeq = ((s.ptpPort i).syncSeq + 1) % 65536 := by
  refine ⟨_, congrArg Host.Outcome.next (if_pos (by simp [hm, h])), ?_⟩
  rw [((ptpSend_keepsSeqs ..).2 i).2.1, ptpPort_setPtp]

theorem ptpAnnounceSend_master {i : Nat} (hm : s.cfg.ptpMask i = true) (h : (s.ptpPort i).state = 6) :
    ∃ t, exec (.ptpAnnounceSend i) s = .next t ∧ (t.ptpPort i).annSeq = ((s.ptpPort i).annSeq + 1) % 65536 := by
  refine ⟨_, congrArg Host.Outcome.next (if_pos (by simp [hm, h])), ?_⟩
  rw [((ptpSend_keepsSeqs ..).2 i).2.2, ptpPort_setPtp]

/-! ## Announces (R326, R327, R334) -/

theorem ptpAnnounceReceive_masked {a : AnnounceData} (h : s.cfg.ptpMask m.port = false) :
    exec (.ptpAnnounceReceive m a at_) s = .next (s.clockTo at_) := by
  change execPtpAnnounceReceive m a at_ s = _
  rw [execPtpAnnounceReceive, ptpTake_masked h]

/-- An Announce that fails authentication is counted and not used. -/
theorem ptpAnnounceReceive_refused {a : AnnounceData} (h : s.cfg.ptpMask m.port = true) (ha : s.cfg.ptpAuth = true)
    (hm : s.cfg.ptpMon = false) (hi : s.ptpIcv m = false) : ∃ t, exec (.ptpAnnounceReceive m a at_) s = .next t ∧
      (t.ptpPort m.port).authFail = inc32 (s.ptpPort m.port).authFail ∧ t.time.evt.getLsbD 6 = true ∧
      (t.ptpPort m.port).foreign = (s.ptpPort m.port).foreign ∧ t.time.slavePort = s.time.slavePort := by
  have hport (u : State) (b i : Nat) : (u.timeEvt b).ptpPort i = u.ptpPort i := by
    rw [State.ptpPort, timeEvt_time]
    rfl
  change ∃ t, execPtpAnnounceReceive m a at_ s = .next t ∧ _
  rw [execPtpAnnounceReceive, ptpTake_refused h ha hm hi]
  refine ⟨_, rfl, ?_, timeEvt_evt _ (by decide), ?_, ?_⟩
  · rw [hport, ptpPort_ptpCount, ptpPort_setPtp]
    rfl
  · rw [hport, ptpPort_ptpCount, ptpPort_setPtp]
    rfl
  · rw [timeEvt_time, ptpCount_time]
    rfl

theorem parentAnnounce_valid {d : AnnounceData} (h : s.time.servo = .acquire ∨ s.time.servo = .locked) (hd : d.utcValid = true) :
    (s.parentAnnounce d).time.utc = (d.utcOffset % 65536).toNat ∧ (s.parentAnnounce d).time.utcValid = true := by
  unfold State.parentAnnounce
  extract_lets servoing _ u
  rw [if_pos (by rcases h with h | h <;> simp [servoing, h, hd])]
  exact ⟨rfl, rfl⟩

theorem parentAnnounce_other {d : AnnounceData} (h : d.utcValid = false ∨ s.time.servo = .free ∨ s.time.servo = .holdover) :
    (s.parentAnnounce d).time.utc = s.time.utc ∧ (s.parentAnnounce d).time.utcValid = s.time.utcValid := by
  unfold State.parentAnnounce
  extract_lets servoing _ u
  rw [if_neg (by rcases h with h | h | h <;> simp [servoing, h])]
  exact ⟨rfl, rfl⟩

/-! ## O46 -/

/-- The messages that the clauses of delays and master ports speak of. -/
theorem ptpDelays_hold :
    (∀ i s, s.cfg.ptpMask i = true → s.cfg.ptpProfile ≤ 1 → ∃ t, exec (.ptpPdelayReqSend i) s = .next t ∧
      (t.ptpPort i).reqSeq = ((s.ptpPort i).reqSeq + 1) % 65536 ∧ t.cfg = s.cfg ∧ t.time.servo = s.time.servo) ∧
    (∀ i s, s.cfg.ptpMask i = true → s.cfg.ptpProfile = 2 → s.time.slavePort = i → ∃ t, exec (.ptpDelayReqSend i) s = .next t ∧
      (t.ptpPort i).reqSeq = ((s.ptpPort i).reqSeq + 1) % 65536) ∧
    (∀ i s, s.cfg.ptpProfile = 2 → exec (.ptpPdelayReqSend i) s = .next s) := by
  refine ⟨fun i s hm hp => ⟨_, congrArg Host.Outcome.next (if_pos (by simp [hm, hp])), delayAsk_kept s i 2⟩,
    fun i s hm hp hsl => ⟨_, congrArg Host.Outcome.next (if_pos (by simp [hm, hp, hsl])), (delayAsk_kept s i 1).1⟩,
    fun i s hp => congrArg Host.Outcome.next (if_neg (by simp [hp]))⟩

theorem ptpPdelayReqReceive_used (h : PtpUsed s m) (hp : s.cfg.ptpProfile ≤ 1) : exec (.ptpPdelayReqReceive m at_) s =
    .next ((s.clockTo at_).ptpSend m.port 3 m.seq 0 (some at_)) := by
  change execPtpPdelayReqReceive m at_ s = _
  rw [execPtpPdelayReqReceive, ptpTake_used h]
  exact congrArg Host.Outcome.next (if_pos hp)

theorem ptpDelayReqReceive_used (h : PtpUsed s m) (hp : s.cfg.ptpProfile = 2) (hm : (s.ptpPort m.port).state = 6) :
    exec (.ptpDelayReqReceive m at_) s = .next ((s.clockTo at_).ptpSend m.port 9 m.seq 0 none) := by
  have hport : (s.clockTo at_).ptpPort m.port = s.ptpPort m.port := rfl
  change execPtpDelayReqReceive m at_ s = _
  rw [execPtpDelayReqReceive, ptpTake_used h]
  exact congrArg Host.Outcome.next (if_pos (by rw [clockTo_cfg, hport, hp, hm]; rfl))

/-- Settles O46, message by message. -/
theorem ptpServo : Obligations.PtpServo := by
  refine ⟨fun m a at_ s h => ptpAnnounceReceive_masked h, fun m a at_ s h ha hm hi => ptpAnnounceReceive_refused h ha hm hi,
    fun m a at_ s h hr => ptpAnnounceReceive_used h hr, fun s d h hd => parentAnnounce_valid h hd,
    fun s d h => parentAnnounce_other h, servoSync_servo, fun s v h => servoTo_enters h,
    fun m o c at_ s u x h hr hi hu hx => ptpSyncReceive_own h hr hi hu hx,
    fun m o c at_ s u x rx k h hr hu hx hk hp hc hv => ptpFollowUpReceive_own h hr hu hx hk hp hc hv,
    fun s h => ptpSourceLost_servo h, ptpDelays_hold.1, ptpDelays_hold.2.1, ptpDelays_hold.2.2,
    fun m at_ s h hp => ptpPdelayReqReceive_used h hp, fun m at_ s h hp hm => ptpDelayReqReceive_used h hp hm, ?_,
    fun m rx c at_ s t3 d h hp hsl hpa hr ht hd => ptpDelayRespReceive_asked h hp hsl hpa hr ht hd,
    fun i s q t1 h => ptpPdelayTimeout_waiting h, fun i s hm h => ⟨ptpSyncSend_master hm h, ptpAnnounceSend_master hm h⟩,
    fun i s h => ⟨congrArg Host.Outcome.next (if_neg (by simp [h])), congrArg Host.Outcome.next (if_neg (by simp [h]))⟩⟩
  intro m t3 c at_ s t1 h hp hr ht
  obtain ⟨u, hrun, hdel, hfail⟩ := ptpPdelayRespReceive_asked (t3 := t3) (c := c) h hp hr ht
  refine ⟨fun h0 hd => ⟨_, hrun, ?_, ?_, ?_⟩, fun hd => ⟨_, hrun, ?_⟩⟩
  · rw [delayDone_valid h0 hd, hdel]
  · rw [delayDone_valid h0 hd]
  · rw [delayDone_valid h0 hd, hfail]
  · obtain ⟨hd1, hd2⟩ := delayDone_invalid (s := u) (i := m.port) hd
    rw [hd1, hd2, hdel, hfail]
    exact ⟨rfl, rfl⟩

end Machine
end Sys2Proof

/-! PROOFS. The RTC (O47): counting, loads, alignment, trim windows and reads (R337 to R350). -/

namespace Sys2Proof
namespace Machine

/-! ## Counting (R338, R339) -/

/-- The day after `c`: the next one, the first of the next month, or the month an impossible one rolls to. -/
theorem nextDay_eq (c : Calendar) : c.nextDay =
    if dim c.month c.year ≤ c.day then
      if c.month < 12 then { c with day := 1, month := c.month + 1 }
      else { c with day := 1, month := 1, year := (c.year + 1) % 256 }
    else if c.month = 0 then { c with day := c.day + 1, month := 1 }
    else if 12 < c.month then { c with day := c.day + 1, month := 1, year := (c.year + 1) % 256 }
    else { c with day := c.day + 1 } := by
  unfold Calendar.nextDay
  by_cases h : dim c.month c.year ≤ c.day
  · have h' : dim c.month c.year < c.day + 1 := by omega
    simp only [if_pos h, if_pos h', Nat.add_eq_zero_iff, Nat.one_ne_zero, and_false, if_false]
    by_cases hm : c.month < 12
    · rw [if_pos hm, if_neg (by omega)]
    · rw [if_neg hm, if_pos (by omega)]
  · have h' : ¬dim c.month c.year < c.day + 1 := by omega
    simp only [if_neg h, if_neg h']
    by_cases h0 : c.month = 0
    · simp only [if_pos h0]
      rfl
    · simp only [if_neg h0]

/-- The day after `c`, for any day, month and year its counters hold. -/
theorem nextDay_spec (c : Calendar) (hd : c.day < 32) (hm : c.month < 16) (hy : c.year < 256) :
    (c.day < dim c.month c.year → c.nextDay.day = c.day + 1 ∧
      (1 ≤ c.month → c.month ≤ 12 → c.nextDay.month = c.month ∧ c.nextDay.year = c.year)) ∧
    (dim c.month c.year ≤ c.day → c.nextDay.day = 1 ∧
      (c.month < 12 → c.nextDay.month = c.month + 1 ∧ c.nextDay.year = c.year) ∧
      (c.month = 12 → c.nextDay.month = 1 ∧ c.nextDay.year = (c.year + 1) % 256)) ∧
    (12 < c.month → c.nextDay.month = 1 ∧ c.nextDay.year = (c.year + 1) % 256) ∧
    c.nextDay.day < 32 ∧ c.nextDay.month < 16 ∧ c.nextDay.year < 256 ∧
    c.nextDay.sec = c.sec ∧ c.nextDay.min = c.min ∧ c.nextDay.hour = c.hour ∧ c.nextDay.wday = c.wday := by
  have hdim : dim c.month c.year ≤ 31 := by
    unfold dim
    split
    · split <;> omega
    · split <;> omega
  rw [nextDay_eq]
  split
  · split <;> dsimp only <;> omega
  · split
    · dsimp only
      omega
    · split <;> dsimp only <;> omega

/-- A second of the calendar, carry by carry. -/
theorem tick_spec (c : Calendar) (hs : c.sec < 64) (hmi : c.min < 64) (hh : c.hour < 32) (hd : c.day < 32)
    (hm : c.month < 16) (hy : c.year < 256) (hw : c.wday < 7) (d : Calendar) (b : Bool) (h : c.tick = (d, b)) :
    (c.sec < 59 → d = { c with sec := c.sec + 1 } ∧ b = false) ∧
    (59 ≤ c.sec → d.sec = 0 ∧ (c.min < 59 → d.min = c.min + 1 ∧ d.hour = c.hour ∧ b = false)) ∧
    (59 ≤ c.sec → 59 ≤ c.min → c.hour < 23 → d.min = 0 ∧ d.hour = c.hour + 1 ∧ b = false ∧ d.day = c.day) ∧
    (59 ≤ c.sec → 59 ≤ c.min → 23 ≤ c.hour → b = true ∧ d.hour = 0 ∧ d.wday = (c.wday + 1) % 7 ∧
      (c.day < dim c.month c.year → d.day = c.day + 1 ∧ (1 ≤ c.month → c.month ≤ 12 → d.month = c.month ∧ d.year = c.year)) ∧
      (dim c.month c.year ≤ c.day → d.day = 1 ∧ (c.month < 12 → d.month = c.month + 1 ∧ d.year = c.year) ∧
        (c.month = 12 → d.month = 1 ∧ d.year = (c.year + 1) % 256)) ∧
      (12 < c.month → d.month = 1 ∧ d.year = (c.year + 1) % 256)) ∧
    d.sec < 64 ∧ d.min < 64 ∧ d.hour < 32 ∧ d.day < 32 ∧ d.month < 16 ∧ d.year < 256 ∧ d.wday < 7 := by
  unfold Calendar.tick at h
  split at h
  · obtain ⟨rfl, rfl⟩ := Prod.mk.inj h
    dsimp only
    refine ⟨fun _ => ⟨rfl, rfl⟩, ?_⟩
    omega
  · refine ⟨by omega, ?_⟩
    split at h
    · obtain ⟨rfl, rfl⟩ := Prod.mk.inj h
      refine ⟨fun _ => ⟨rfl, fun _ => ⟨rfl, rfl, rfl⟩⟩, fun _ _ _ => by omega, fun _ _ _ => by omega, ?_⟩
      dsimp only
      omega
    · split at h
      · obtain ⟨rfl, rfl⟩ := Prod.mk.inj h
        refine ⟨fun _ => ⟨rfl, fun _ => by omega⟩, fun _ _ _ => ⟨rfl, rfl, rfl, rfl⟩, fun _ _ _ => by omega, ?_⟩
        dsimp only
        omega
      · obtain ⟨rfl, rfl⟩ := Prod.mk.inj h
        obtain ⟨hday, hmonth, hyear, hd', hm', hy', hsec, hmin, hhour, hwday⟩ :=
          nextDay_spec { c with sec := 0, min := 0, hour := 0, wday := (c.wday + 1) % 7 } hd hm hy
        refine ⟨fun _ => ⟨hsec, fun _ => by omega⟩, fun _ _ _ => by omega, fun _ _ _ => ⟨rfl, hhour, hwday, hday, hmonth, hyear⟩, ?_⟩
        rw [hsec, hmin, hhour, hwday]
        exact ⟨Nat.zero_lt_succ _, Nat.zero_lt_succ _, Nat.zero_lt_succ _, hd', hm', hy', Nat.mod_lt _ (by decide)⟩

/-- The accumulator stays in its range, and nothing of the trim is lost (R338). -/
theorem trimStep_spec (acc trim : Int) (h0 : 0 ≤ acc) (h1 : acc < 16777216) (h2 : -33554432 ≤ trim) (h3 : trim ≤ 33554432) :
    0 ≤ (trimStep acc trim).1 ∧ (trimStep acc trim).1 < 16777216 ∧ 32766 ≤ (trimStep acc trim).2 ∧ (trimStep acc trim).2 ≤ 32770 ∧
    (trimStep acc trim).1 + 16777216 * (((trimStep acc trim).2 : Int) - 32768) = acc + trim := by
  simp only [trimStep]
  omega

/-! ## Events of the RTC (R349) -/

section

variable (s : State)

theorem rtcEvt_rtc (b : Nat) : (s.rtcEvt b).rtc = { s.rtc with evt := s.rtc.evt ||| BitVec.twoPow 6 b } := by
  unfold State.rtcEvt
  extract_lets was _ u
  split
  · rfl
  · exact raise_rtc u _

theorem rtcRecord_rtc (b : Nat) : (s.rtcRecord b).rtc = { s.rtc with evt := s.rtc.evt ||| BitVec.twoPow 6 b } := by
  rw [State.rtcRecord, firnEv_rtc, rtcEvt_rtc]

theorem rtcRecord_evt {b : Nat} (h : b < 6) : (s.rtcRecord b).rtc.evt.getLsbD b = true := by
  rw [rtcRecord_rtc, BitVec.getLsbD_or, BitVec.getLsbD_twoPow]
  simp [h]

end

variable {s : State}

/-- A second of the counters, which took the instant `u`; `l` are the loads that wait on. -/
def State.nextSecond (u : State) (l : List (Bytes × Nat × Path)) : State :=
  { u with rtc := { u.rtc with
    cal := u.rtc.cal.tick.1, acc := (trimStep u.rtc.acc u.rtc.trim).1, len := (trimStep u.rtc.acc u.rtc.trim).2
    secStart := u.now, loads := l } }

/-- The second's load of RTC_SET (R344). -/
theorem rtcLoad_rtc (c : Calendar) (l : Bytes × Nat × Path) : (s.rtcLoad c l).rtc = { s.rtc with
    cal := loadFields c s.rtc.cal l.1, invalid := s.rtc.invalid && !(byteAt l.1 7).testBit 0
    evt := s.rtc.evt ||| BitVec.twoPow 6 2 } := by
  rw [State.rtcLoad, complete_rtc, rtcRecord_rtc]

/-- RTC_SECOND_END where no TRIM and no RTC_CFG waits. -/
theorem rtcSecondEnd_eq {at_ : Nat} {u : State} {l : List (Bytes × Nat × Path)} (hu : s.clockTo at_ = u)
    (hl : l = u.rtc.loads.filter (fun l => decide (l.2.1 + 10000000 ≤ u.now))) (ht : u.rtc.newTrim = none)
    (hc : u.rtc.cfgNew = none) : ∃ rest, exec (.rtcSecondEnd at_) s = .next (l.foldl (fun t l => t.rtcLoad u.rtc.cal l)
      (if u.rtc.cal.tick.2 && !l.any (fun l => (byteAt l.1 7).testBit 0) then (u.nextSecond rest).rtcEvt 0
        else u.nextSecond rest)) ∧ rest = u.rtc.loads.filter (fun l => !decide (l.2.1 + 10000000 ≤ u.now)) := by
  refine ⟨_, ?_, rfl⟩
  change execRtcSecondEnd at_ s = _
  unfold execRtcSecondEnd
  rw [hu, hl]
  extract_lets v before step tr due loads dated _ a b c d _ _
  have hb : b.rtc.newTrim = none ∧ b.rtc.cfgNew = none := by
    dsimp only [b]
    split
    · rw [rtcEvt_rtc]
      exact ⟨ht, hc⟩
    · exact ⟨ht, hc⟩
  have hk : c.rtc.newTrim = none ∧ c.rtc.cfgNew = none := by
    refine foldl_keeps (fun t : State => t.rtc.newTrim = none ∧ t.rtc.cfgNew = none) _ (fun t x h => ?_) _ _ hb
    rwa [rtcLoad_rtc]
  have hd : d = c := by
    dsimp only [d]
    rw [hk.1]
  rw [hd, hk.2]
  rfl

/-- A second that ends with nothing waiting. -/
theorem rtcSecondEnd_plain {at_ : Nat} {u : State} (hu : u = s.clockTo at_) (hl : s.rtc.loads = []) (ht : s.rtc.newTrim = none)
    (hc : s.rtc.cfgNew = none) : ∃ t, exec (.rtcSecondEnd at_) s = .next t ∧ t.rtc.cal = s.rtc.cal.tick.1 ∧
      t.rtc.acc = (trimStep s.rtc.acc s.rtc.trim).1 ∧ t.rtc.len = (trimStep s.rtc.acc s.rtc.trim).2 ∧ t.rtc.secStart = u.now ∧
      t.rtc.trim = s.rtc.trim ∧ t.cfg = s.cfg ∧ t.mem = s.mem ∧ (s.rtc.cal.tick.2 = true → t.rtc.evt.getLsbD 0 = true) := by
  have hrtc : u.rtc = s.rtc := by rw [hu, clockTo_rtc]
  have hcfg : u.cfg = s.cfg := by rw [hu, clockTo_cfg]
  have hmem : u.mem = s.mem := by rw [hu, clockTo_mem]
  obtain ⟨rest, hrun, -⟩ := rtcSecondEnd_eq (l := []) hu.symm (by rw [hrtc, hl]; rfl) (hrtc ▸ ht) (hrtc ▸ hc)
  refine ⟨_, hrun, ?_⟩
  rw [List.foldl_nil, List.any_nil, Bool.not_false, Bool.and_true, ← hrtc, ← hcfg, ← hmem]
  split
  · rw [rtcEvt_rtc, rtcEvt_cfg, rtcEvt_mem]
    exact ⟨rfl, rfl, rfl, rfl, rfl, rfl, rfl, fun _ => by simp⟩
  · rename_i hb
    exact ⟨rfl, rfl, rfl, rfl, rfl, rfl, rfl, fun h => absurd h hb⟩

/-- A date-and-time load that has waited 10 ms (R344). -/
theorem rtcSecondEnd_load {at_ x : Nat} {b : Bytes} {p : Path} (hl : s.rtc.loads = [(b, x, p)])
    (hx : x + 10000000 ≤ (s.clockTo at_).now) (hb : byteAt b 7 = 1) (ht : s.rtc.newTrim = none) (hc : s.rtc.cfgNew = none) :
    ∃ u : State, exec (.rtcSecondEnd at_) s = .next (u.complete p stOK ((s.clockTo at_).stamp 17).bytes) ∧
      u.rtc.cal.sec = byteAt b 5 ∧ u.rtc.cal.min = byteAt b 4 ∧ u.rtc.cal.hour = byteAt b 3 ∧ u.rtc.cal.day = byteAt b 2 ∧
      u.rtc.cal.month = byteAt b 1 ∧ u.rtc.cal.year = byteAt b 0 ∧ u.rtc.cal.wday = s.rtc.cal.wday ∧ u.rtc.invalid = false ∧
      u.rtc.loads = [] ∧ u.rtc.evt.getLsbD 2 = true := by
  generalize hu : s.clockTo at_ = u at hx ⊢
  have hrtc : u.rtc = s.rtc := by rw [← hu, clockTo_rtc]
  have hbit : (byteAt b 7).testBit 0 = true ∧ (byteAt b 7).testBit 1 = false := by
    rw [hb]
    decide
  obtain ⟨rest, hrun, hrest⟩ := rtcSecondEnd_eq (l := [(b, x, p)]) hu (by simp [hrtc, hl, hx]) (hrtc ▸ ht) (hrtc ▸ hc)
  have hnil : rest = [] := by
    rw [hrest, hrtc, hl]
    simp [hx]
  rw [hnil, List.foldl_cons, List.foldl_nil, List.any_cons, hbit.1, Bool.true_or, Bool.not_true, Bool.and_false,
    if_neg Bool.false_ne_true] at hrun
  refine ⟨_, hrun, ?_⟩
  rw [rtcRecord_rtc]
  dsimp only [loadFields]
  rw [hbit.1, hbit.2, ← hrtc]
  exact ⟨rfl, rfl, rfl, rfl, rfl, rfl, rfl, by simp, rfl, by simp⟩

/-! ## Alignment and trim windows (R345, R346) -/

theorem rtcAlignCompare_due {ph : Int} (ha : s.cfg.rtcAlign = true) (hs : s.time.servo = .locked) (h2 : 2 ≤ s.rtc.marksLocked)
    (h64 : (s.rtc.marksLocked - 2) % 64 = 0) (hph : ph = s.rtc.phase s.time.cur.ns ((s.time.cur.sec : Int) - s.time.cur.utc)) :
    exec .rtcAlignCompare s =
      .next { s with rtc := { s.rtc with alignErr := satI32 ph, alignDue := s.rtc.alignDue || 2000 < ph.natAbs } } := by
  rw [hph]
  exact congrArg Host.Outcome.next (if_pos (by simp [ha, hs, h2, h64]))

/-- An alignment load leaves wday and the accumulator. -/
theorem alignLoad_due (h : s.rtc.alignDue = true) : (s.alignLoad).rtc.aligned = true ∧ (s.alignLoad).rtc.invalid = false ∧
    (s.alignLoad).rtc.cal.wday = s.rtc.cal.wday ∧ (s.alignLoad).rtc.acc = s.rtc.acc ∧
    (s.alignLoad).rtc.secStart = s.time.cur.ns ∧ (s.alignLoad).rtc.evt.getLsbD 3 = true := by
  unfold State.alignLoad
  rw [if_pos h]
  refine ⟨?_, ?_, ?_, ?_, ?_, rtcRecord_evt _ (by decide)⟩
  all_goals rw [rtcRecord_rtc]

theorem trimWindowClose_open {n : Nat} {w : TrimWindow} {v : Int} (h : s.rtc.window = some w)
    (hv : v = divRoundAway (((n : Int) - w.w * 32768) * 16777216) w.w) : ∃ t, exec (.trimWindowClose n) s = .next t ∧
    t.rtc.window = none ∧ t.rtc.trim = s.rtc.trim ∧
    (-33554432 ≤ v → v ≤ 33554432 → t.rtc.newTrim = some (v, s.now) ∧ t.rtc.trimLimit = false) ∧
    (33554432 < v → t.rtc.newTrim = some (33554432, s.now) ∧ t.rtc.trimLimit = true) ∧
    (v < -33554432 → t.rtc.newTrim = some (-33554432, s.now) ∧ t.rtc.trimLimit = true) := by
  have hrun : exec (.trimWindowClose n) s = .next { s with rtc := { s.rtc with
      window := none, newTrim := some (max (-33554432) (min 33554432 v), s.now)
      trimLimit := max (-33554432) (min 33554432 v) != v } } := by
    change execTrimWindowClose n s = _
    simp only [execTrimWindowClose, h, ← hv]
  refine ⟨_, hrun, rfl, rfl, fun h0 h1 => ?_, fun h1 => ?_, fun h1 => ?_⟩
  · have hc : max (-33554432) (min 33554432 v) = v := by omega
    simp [hc]
  · have hc : max (-33554432) (min 33554432 v) = 33554432 := by omega
    have hne : (33554432 : Int) ≠ v := by omega
    simp [hc, hne]
  · have hc : max (-33554432) (min 33554432 v) = -33554432 := by omega
    have hne : (-33554432 : Int) ≠ v := by omega
    simp [hc, hne]

theorem trimWindowAbandon_failed {w : TrimWindow} (h : s.rtc.window = some w) (hf : s.windowFailed w = true) :
    ∃ t, exec .trimWindowAbandon s = .next t ∧ t.rtc.window = none ∧ t.rtc.trim = s.rtc.trim ∧
      t.rtc.newTrim = s.rtc.newTrim ∧ t.rtc.evt.getLsbD 5 = true := by
  have hrun : exec .trimWindowAbandon s = .next ({ s with rtc.window := none }.rtcRecord 5) := by
    change execTrimWindowAbandon s = _
    simp only [execTrimWindowAbandon, State.trimAbandon, h, hf, if_true]
  refine ⟨_, hrun, ?_, ?_, ?_, rtcRecord_evt _ (by decide)⟩
  all_goals rw [rtcRecord_rtc]

theorem trimWindowAbandon_running {w : TrimWindow} (h : s.rtc.window = some w) (hf : s.windowFailed w = false) :
    exec .trimWindowAbandon s = .next s := by
  change execTrimWindowAbandon s = _
  simp only [execTrimWindowAbandon, h, hf, Bool.false_eq_true, if_false]

/-- A zero crossing opens a window only where none runs and the mains are the source. -/
theorem mainsZeroCrossing_none (h : s.power.mainsAbsent = true ∨ s.rtc.window ≠ none ∨ s.cfg.trimSrc ≤ 1) :
    exec .mainsZeroCrossing s = .next s := by
  refine congrArg Host.Outcome.next (if_neg ?_)
  rcases h with h | h | h
  · simp [h]
  · simp [h]
  · have h2 : s.cfg.trimSrc ≠ 2 := by omega
    have h3 : s.cfg.trimSrc ≠ 3 := by omega
    simp [h2, h3]

theorem begins_of_body {i : Path → Instr} {c : Cmd} {f : Path → Exec → State → State}
    (hi : ∀ p s, exec (i p) s = .next (s.run c p)) (hb : ∀ p e t, c.body p e t = .wait (f p e t)) : Begins i c f :=
  fun p e s t ha => by rw [hi, run_wait ha (hb p e t)]

/-- Settles O47. -/
theorem realTimeClock : Obligations.RealTimeClock := by
  refine ⟨tick_spec, trimStep_spec, fun at_ s u hu hl ht hc => rtcSecondEnd_plain hu hl ht hc,
    fun at_ s b x p hl hx hb ht hc => rtcSecondEnd_load hl hx hb ht hc,
    fun s ph ha hs h2 h64 hph => rtcAlignCompare_due ha hs h2 h64 hph, fun s h => alignLoad_due h,
    fun n s w v h hv => trimWindowClose_open h hv, fun s w h hf => trimWindowAbandon_failed h hf,
    fun s w h hf => trimWindowAbandon_running h hf, fun _ _ => rfl,
    fun s hm hw hc => congrArg Host.Outcome.next (if_pos (by simp [hm, hw, hc])), fun s h => mainsZeroCrossing_none h,
    fun s h => ⟨congrArg Host.Outcome.next (if_pos h), fun hf => (congrArg Host.Outcome.next (if_pos h)).trans (by rw [if_pos hf]),
      fun hf => (congrArg Host.Outcome.next (if_pos h)).trans (by rw [hf]; rfl)⟩,
    answers_of_body (fun _ _ => rfl) fun _ _ _ => rfl, begins_of_body (fun _ _ => rfl) fun _ _ _ => rfl,
    begins_of_body (fun _ _ => rfl) fun _ _ _ => rfl⟩

end Machine
end Sys2Proof

/-! PROOFS. Firn (O50): records, offering, programming, freeze, release, clear and reading (R374 to R384). -/

namespace Sys2Proof
namespace Machine

/-! ## Fields of a byte string that a slice of it gives -/

section

variable {b : Bytes} {i n k v : Nat}

theorem byteAt_slice (h : k < n) : byteAt (slice b i n) k = byteAt b (i + k) := by
  unfold byteAt slice
  congr 1
  simp only [List.getD_eq_getElem?_getD]
  by_cases hk : k < ((b.drop i).take n).length
  · rw [List.getElem?_append_left hk, List.getElem?_take_of_lt h, List.getElem?_drop]
  · rw [List.getElem?_append_right (by omega)]
    simp only [List.length_take, List.length_drop] at hk ⊢
    rw [List.getElem?_eq_none (l := b) (by omega)]
    simp only [zeros, List.getElem?_replicate]
    split <;> rfl

@[simp] theorem byteAt_leBytes_zero (n v : Nat) : byteAt (leBytes (n + 1) v) 0 = v % 256 := by
  simp [byteAt, leBytes]

@[simp] theorem byteAt_leBytes_succ (n v k : Nat) : byteAt (leBytes (n + 1) v) (k + 1) = byteAt (leBytes n (v / 256)) k := rfl

theorem le16_of_slice (h : slice b i 2 = leBytes 2 v) : le16 b i = v % 65536 := by
  have h0 : byteAt b i = v % 256 := by
    rw [← Nat.add_zero i, ← byteAt_slice (n := 2) (by decide), h, byteAt_leBytes_zero]
  have h1 : byteAt b (i + 1) = v / 256 % 256 := by
    rw [← byteAt_slice (n := 2) (by decide), h, byteAt_leBytes_succ, byteAt_leBytes_zero]
  rw [le16, h0, h1]
  omega

theorem le32_of_slice (h : slice b i 4 = leBytes 4 v) : le32 b i = v % 4294967296 := by
  have hb : ∀ k, k < 4 → byteAt b (i + k) = byteAt (leBytes 4 v) k := fun k hk => by rw [← h, byteAt_slice hk]
  have h0 := hb 0 (by decide)
  have h1 := hb 1 (by decide)
  have h2 := hb 2 (by decide)
  have h3 := hb 3 (by decide)
  simp only [byteAt_leBytes_zero, byteAt_leBytes_succ] at h0 h1 h2 h3
  simp only [le32, le16, Nat.add_assoc, Nat.reduceAdd]
  rw [Nat.add_zero] at h0
  rw [h0, h1, h2, h3]
  omega

end

/-! ## Records (R375) -/

theorem crc16Byte_lt {c : Nat} (h : c < 65536) (b : Byte) : crc16Byte c b < 65536 := by
  unfold crc16Byte
  refine foldl_keeps (fun c : Nat => c < 65536) _ (fun c _ hc => ?_) _ _ ?_
  · split
    · exact Nat.xor_lt_two_pow (n := 16) (Nat.mod_lt _ (by decide)) (by decide)
    · exact Nat.mod_lt _ (by decide)
  · have := b.isLt
    exact Nat.xor_lt_two_pow (n := 16) h (by omega)

theorem crc16_lt (b : Bytes) : crc16 b < 65536 :=
  foldl_keeps (fun c : Nat => c < 65536) _ (fun _ x hc => crc16Byte_lt hc x) _ _ (by decide)

namespace FirnEv

variable (e : FirnEv)

@[simp] theorem length_stamp_bytes (t : Stamp) : t.bytes.length = 6 := by simp [Stamp.bytes]

@[simp] theorem length_body : e.body.length = 30 := by simp [FirnEv.body]

theorem record_crc : slice e.record 30 2 = leBytes 2 (crc16 (slice e.record 0 30)) := by
  have hbody : slice e.record 0 30 = e.body := by
    rw [FirnEv.record, slice_append_left (by simp), slice_all (by simp)]
  rw [hbody]
  exact slice_append_end (by simp) (by simp)

/-- The fields of a record, and its crc. -/
theorem record_spec : e.record.length = 32 ∧
    slice e.record 14 2 = leBytes 1 (e.code / 256) ++ leBytes 1 (e.code % 256) ∧
    slice e.record 16 4 = leBytes 4 e.seq ∧ slice e.record 22 8 = padTo 8 e.data ∧
    slice e.record 30 2 = leBytes 2 (crc16 (slice e.record 0 30)) ∧ tornRecord e.record = false ∧
    (e.seq < 4294967296 → recordSeq e.record = e.seq) := by
  have hseq : slice e.record 16 4 = leBytes 4 e.seq := by
    simp (disch := simp) only [FirnEv.record, FirnEv.body, slice_append_left, slice_append_end]
  refine ⟨by simp [FirnEv.record], ?_, hseq, ?_, record_crc e, ?_, fun h => ?_⟩
  · rw [FirnEv.record, FirnEv.body, List.append_assoc (padTo 8 e.calendar ++ e.stamp.bytes)]
    simp (disch := simp) only [slice_append_left, slice_append_end]
  · simp (disch := simp) only [FirnEv.record, FirnEv.body, slice_append_left, slice_append_end]
  · rw [tornRecord, le16_of_slice (record_crc e), Nat.mod_eq_of_lt (crc16_lt _), slice_eq_take_drop (by simp [FirnEv.record])]
    simp
  · rw [recordSeq, le32_of_slice hseq, Nat.mod_eq_of_lt h]

end FirnEv

/-! ## Offering (R377, R379) -/

variable {s : State} {code : Nat} {data : Bytes}

/-- What an event detected now becomes. -/
def State.firnNew (s : State) (code : Nat) (data : Bytes) : FirnEv :=
  { seq := s.ao.firnSeq, code := code, stamp := s.stamp 11, calendar := s.calendarOf s.now, boot := s.mod.state == 0
    held := s.firn.frozen.isSome || s.firn.clear.isSome, calInvalid := s.rtc.invalid && !s.time.wasLocked
    calFree := !s.time.wasLocked, data := padTo 8 data }

/-- An event with room joins the queue. -/
theorem firnEv_room (hr : s.romServed = false) (hf : s.firn.full = false) (hq : s.firn.queue.length < 4096) :
    s.firnEv code data = { s with
      ao.firnSeq := (s.ao.firnSeq + 1) % 4294967296, firn.queue := s.firn.queue ++ [s.firnNew code data]
      firn.qMax := max s.firn.qMax (s.firn.queue.length + 1) } := by
  have hroom : ¬((s.firn.full || decide (s.firn.queue.length ≥ 4096)) = true) := by
    simp [hf]
    omega
  unfold State.firnEv State.firnAt State.firnTake
  rw [hr, if_neg Bool.false_ne_true]
  dsimp only
  rw [if_neg hroom, List.length_append]
  rfl

/-- An event without room takes its seq and is counted. -/
theorem firnEv_discarded (hr : s.romServed = false) (h : s.firn.full = true ∨ 4096 ≤ s.firn.queue.length) :
    (s.firnEv code data).ao.firnSeq = (s.ao.firnSeq + 1) % 4294967296 ∧ (s.firnEv code data).firn = { s.firn with
      discarded := inc32 s.firn.discarded
      lost := if s.firn.full then s.firn.lost else
        some (match s.firn.lost with | none => (s.ao.firnSeq, 1) | some l => (l.1, l.2 + 1)) } := by
  have hfull : (s.firn.full || decide (s.firn.queue.length ≥ 4096)) = true := by
    rcases h with h | h <;> simp [h]
  unfold State.firnEv State.firnAt State.firnTake
  rw [hr, if_neg Bool.false_ne_true]
  dsimp only
  rw [if_pos hfull]
  split
  · rw [raise_ao, raise_firn]
    exact ⟨rfl, rfl⟩
  · exact ⟨rfl, rfl⟩

/-- The freeze, the clear and the records written stay through an event. -/
theorem firnEv_firn (s : State) (code : Nat) (data : Bytes) : ∃ q m d l, (s.firnEv code data).firn =
    { s.firn with queue := q, qMax := m, discarded := d, lost := l } := by
  cases hr : s.romServed
  · by_cases h : s.firn.full = true ∨ 4096 ≤ s.firn.queue.length
    · exact ⟨_, _, _, _, (firnEv_discarded hr h).2⟩
    · simp only [not_or, Bool.not_eq_true, not_le] at h
      rw [firnEv_room hr h.1 h.2]
      exact ⟨_, _, _, _, rfl⟩
  · have hs : s.firnEv code data = s := if_pos hr
    rw [hs]
    exact ⟨_, _, _, _, rfl⟩

/-- INT_CAUSE takes the bit that is raised (R89, R90). -/
theorem raise_cause (s : State) {b : Nat} (h : b < 16) : (s.raise b).host.cause.getLsbD b = true := by
  have hset : (s.host.cause ||| BitVec.twoPow 16 b).getLsbD b = true := by
    rw [BitVec.getLsbD_or, BitVec.getLsbD_twoPow]
    simp [h]
  unfold State.raise
  split
  · assumption
  · dsimp only
    split
    · exact hset
    · exact hset

/-! ## Programming (R379, R380) -/

theorem firnLoss_none (h : s.firn.lost = none) : s.firnLoss = s := by
  unfold State.firnLoss
  rw [h]

/-- The oldest record is programmed. -/
theorem firnNext_cons {e : FirnEv} {rest : List FirnEv} (h : s.firn.queue = e :: rest) :
    (s.firnNext).flash = { s.flash with firn := e.record :: s.flash.firn } ∧ (s.firnNext).firn = { s.firn with queue := rest } ∧
    (s.firnNext).host.cause.getLsbD 10 = true ∧ (s.firnNext).mod = s.mod := by
  unfold State.firnNext
  rw [h]
  dsimp only [State.firnStore]
  rw [raise_flash, raise_firn, raise_mod]
  exact ⟨rfl, rfl, raise_cause _ (by decide), rfl⟩

theorem firnProgram_cons {e : FirnEv} {rest : List FirnEv} (h : s.firn.queue = e :: rest) (hl : s.firn.lost = none) :
    s.firnProgram = if s.flash.firn.length + 1 = 245760 then { s.firnNext with firn.nearFull := true }.firnEv 0x0C04 []
      else if s.flash.firn.length + 1 = 262143 then s.firnNext.firnFull else s.firnNext := by
  obtain ⟨hflash, hfirn, -, -⟩ := firnNext_cons h
  have hloss : s.firnNext.firnLoss = s.firnNext := firnLoss_none (by rw [hfirn]; exact hl)
  have hlen : s.firnNext.flash.firn.length = s.flash.firn.length + 1 := by rw [hflash]; rfl
  unfold State.firnProgram
  rw [h, List.isEmpty_cons, if_neg Bool.false_ne_true]
  dsimp only
  rw [hloss, hlen]
  simp only [beq_iff_eq]

/-- An event of an empty queue that is programmed at once. -/
theorem firnEv_firnNext (hr : s.romServed = false) (hf : s.firn.full = false) (hq : s.firn.queue = []) :
    ∃ r, ((s.firnEv code data).firnNext).flash.firn = r :: s.flash.firn ∧
      slice r 14 2 = leBytes 1 (code / 256) ++ leBytes 1 (code % 256) ∧
      ((s.firnEv code data).firnNext).firn = { s.firn with queue := [], qMax := max s.firn.qMax 1 } := by
  have hev := firnEv_room (code := code) (data := data) hr hf (by rw [hq]; exact Nat.zero_lt_succ _)
  have hone : (s.firnEv code data).firn.queue = s.firnNew code data :: [] := by rw [hev, hq]; rfl
  obtain ⟨hflash, hfirn, -, -⟩ := firnNext_cons hone
  refine ⟨(s.firnNew code data).record, ?_, (FirnEv.record_spec _).2.1, ?_⟩
  · rw [hflash, firnEv_flash]
  · rw [hfirn, hev, hq]
    rfl

/-- The full record takes the last slot, and what still waits is discarded (R380). -/
theorem firnFull_spec (hr : s.romServed = false) (hf : s.firn.full = false) : (s.firnFull).firn.full = true ∧
    (s.firnFull).firn.queue = [] ∧ (s.firnFull).flash.firn.length = s.flash.firn.length + 1 ∧
    (s.firnFull).firn.discarded = (s.firn.discarded + s.firn.queue.length) % 4294967296 ∧
    ((s.firnFull).flash.firn.head?.map (fun b => slice b 14 2)) = some [0x0C, 0x03] := by
  obtain ⟨r, hflash, hcode, hfirn⟩ := firnEv_firnNext (s := { s with firn.queue := [] }) (code := 0x0C03) (data := []) hr hf rfl
  unfold State.firnFull
  extract_lets k _ u d _ v
  have hu : u.flash.firn = r :: s.flash.firn ∧ u.firn = { s.firn with queue := [], qMax := max s.firn.qMax 1 } :=
    ⟨hflash, hfirn⟩
  have hv : v.firn = { u.firn with full := true, discarded := d } ∧ v.flash = u.flash := ⟨rfl, rfl⟩
  have hd : d = (s.firn.discarded + s.firn.queue.length) % 4294967296 := by
    dsimp only [d]
    rw [hu.2]
  split
  · rw [raise_firn, raise_flash, hv.1, hv.2, hu.1, hu.2]
    exact ⟨rfl, rfl, rfl, hd, congrArg some hcode⟩
  · rw [hv.1, hv.2, hu.1, hu.2]
    exact ⟨rfl, rfl, rfl, hd, congrArg some hcode⟩

/-- FIRN_RECORD_PROGRAMMED with a record to program. -/
theorem firnRecordProgrammed_cons {e : FirnEv} {rest : List FirnEv} (hp : .mgmt ∈ s.power.on) (hfr : s.firn.frozen = none)
    (hc : s.firn.clear = none) (hf : s.firn.full = false) (h : s.firn.queue = e :: rest) :
    ∃ t, exec .firnRecordProgrammed s = .next t ∧
      (s.firn.lost = none → s.flash.firn.length + 1 ≠ 245760 → s.flash.firn.length + 1 ≠ 262143 →
        t.flash = { s.flash with firn := e.record :: s.flash.firn } ∧ t.firn = { s.firn with queue := rest } ∧
        t.host.cause.getLsbD 10 = true) ∧
      (s.firn.lost = none → s.romServed = false → s.flash.firn.length + 1 = 245760 → rest.length < 4096 →
        t.firn.nearFull = true ∧ t.firn.queue.map (·.code) = rest.map (·.code) ++ [0x0C04]) ∧
      (s.firn.lost = none → s.romServed = false → s.flash.firn.length + 1 = 262143 → t.firn.full = true ∧ t.firn.queue = [] ∧
        t.flash.firn.length = 262144 ∧ t.firn.discarded = (s.firn.discarded + rest.length) % 4294967296 ∧
        (t.flash.firn.head?.map (fun b => slice b 14 2)) = some [0x0C, 0x03]) := by
  obtain ⟨hflash, hfirn, hcause, hmod⟩ := firnNext_cons h
  have hrom : s.firnNext.romServed = s.romServed := by simp only [State.romServed, hmod]
  have hfull : s.firnNext.firn.full = false := by
    rw [hfirn]
    exact hf
  have hqueue : s.firnNext.firn.queue = rest := by rw [hfirn]
  refine ⟨s.firnProgram, congrArg Host.Outcome.next (if_pos (by simp [hp, hfr, hc, hf])), fun hl h1 h2 => ?_,
    fun hl hr h1 hroom => ?_, fun hl hr h2 => ?_⟩
  · rw [firnProgram_cons h hl, if_neg h1, if_neg h2]
    exact ⟨hflash, hfirn, hcause⟩
  · have hev := firnEv_room (s := { s.firnNext with firn.nearFull := true }) (code := 0x0C04) (data := []) (hrom.trans hr)
      hfull (by rwa [← hqueue] at hroom)
    rw [firnProgram_cons h hl, if_pos h1, hev]
    refine ⟨rfl, ?_⟩
    rw [List.map_append, ← hqueue]
    rfl
  · obtain ⟨h3, h4, h5, h6, h7⟩ := firnFull_spec (s := s.firnNext) (hrom.trans hr) hfull
    rw [firnProgram_cons h hl, if_neg (by omega), if_pos h2]
    refine ⟨h3, h4, ?_, ?_, h7⟩
    · rw [h5, hflash, List.length_cons, h2]
    · rw [h6, hfirn]

theorem firnRecordProgrammed_none
    (h : s.firn.frozen.isSome = true ∨ s.firn.clear.isSome = true ∨ s.firn.queue = [] ∨ s.firn.full = true) :
    exec .firnRecordProgrammed s = .next s := by
  by_cases hq : s.firn.queue = []
  · refine congrArg Host.Outcome.next ?_
    split
    · exact if_pos (by rw [hq]; rfl)
    · rfl
  · refine congrArg Host.Outcome.next (if_neg ?_)
    rcases h with h | h | h | h
    · simp [Option.ne_none_iff_isSome.2 h]
    · simp [Option.ne_none_iff_isSome.2 h]
    · exact absurd h hq
    · simp [h]

/-! ## Freeze, release and clear (R381, R382) -/

theorem finish_active (s : State) {c : Nat} (h : c ≠ 10) : (s.finish c).active c = false := by
  have h10 : (c == 10) = false := by simpa using h
  simp [State.active, State.finish, h10]

theorem begin_active (s : State) (c : Nat) (p : Option Path) : (s.begin c p).active c = true := by
  simp [State.active, State.begin]

/-- The end of a freeze. -/
theorem firnRelease_spec (s : State) (n : Nat) : (s.firnRelease n).firn.frozen = none ∧ (s.firnRelease n).flash = s.flash ∧
    (s.firnRelease n).cfg = s.cfg ∧ (s.firnRelease n).active 4 = false := by
  refine ⟨rfl, firnEv_flash .., firnEv_cfg .., finish_active _ (by decide)⟩

theorem firnAutoRelease_frozen {t0 : Nat} (h : s.firn.frozen = some t0) : ∃ t, exec .firnAutoRelease s = .next t ∧
    t.firn.frozen = none ∧ t.flash = s.flash ∧ t.cfg = s.cfg ∧ t.active 4 = false ∧
    (s.romServed = false → s.firn.full = false → s.firn.queue.length < 4096 → ∃ e, t.firn.queue = s.firn.queue ++ [e] ∧
      e.code = 0x0C02 ∧ e.held = true ∧ e.data = padTo 8 [0, 1]) := by
  have hrun : ∃ due, exec .firnAutoRelease s = .next ((s.clockTo due).firnRelease 1) := by
    refine ⟨t0 + 600000000000, ?_⟩
    change execFirnAutoRelease s = _
    simp only [execFirnAutoRelease, h]
  obtain ⟨due, hrun⟩ := hrun
  obtain ⟨h1, h2, h3, h4⟩ := firnRelease_spec (s.clockTo due) 1
  refine ⟨_, hrun, h1, h2, h3, h4, fun hr hf hq => ⟨(s.clockTo due).firnNew 0x0C02 (leBytes 1 0 ++ leBytes 1 1), ?_, rfl, ?_, rfl⟩⟩
  · unfold State.firnRelease
    rw [firnEv_room (s := s.clockTo due) hr hf hq]
    rfl
  · unfold State.firnNew
    rw [clockTo_firn, h]
    rfl

theorem firnAutoRelease_none (h : s.firn.frozen = none) : exec .firnAutoRelease s = .next s := by
  change execFirnAutoRelease s = _
  simp only [execFirnAutoRelease, h]

theorem firnEraseComplete_clearing {c : FirnClear} (h : s.firn.clear = some c) : ∃ u : State,
    exec .firnEraseComplete s = .next (u.completeWaiting 0x0C04 stOK (leBytes 4 c.erased ++ leBytes 4 c.seq)) ∧
    u.flash = { s.flash with firn := [c.ev.record], clearMark := none } ∧
    u.firn = { s.firn with clear := none, discarded := 0, nearFull := false, full := false } ∧
    u.host.cause.getLsbD 10 = true ∧ u.active 5 = false ∧ u.cfg = s.cfg ∧ u.mem = s.mem := by
  refine ⟨(State.firnStore { s with
      flash.firn := [], flash.clearMark := none, firn := { s.firn with
        clear := none, discarded := 0, nearFull := false, full := false } } c.ev).finish 5, ?_, ?_⟩
  · change execFirnEraseComplete s = _
    simp only [execFirnEraseComplete, h]
  · dsimp only [State.firnStore]
    exact ⟨raise_flash .., raise_firn .., raise_cause _ (by decide), finish_active _ (by decide), raise_cfg .., raise_mem ..⟩

theorem firnEraseComplete_none (h : s.firn.clear = none) : exec .firnEraseComplete s = .next s := by
  change execFirnEraseComplete s = _
  simp only [execFirnEraseComplete, h]

/-! ## The commands (R384) -/

theorem firnRead_slice {p : Path} {e : Exec} {t : State} {l : List Bytes} (ha : Accepted cmdFirnRead p e s t)
    (hl : l = (t.flash.firn.reverse.drop (le32 e.req.params 0)).take (le16 e.req.params 4)) :
    ∃ r b, exec (.firnRead p) s = .next (t.complete p stOK r (some b)) ∧
      slice r 0 8 = leBytes 4 l.length ++ leBytes 4 (le32 e.req.params 0 + l.length) ∧
      (l.all (fun x => !tornRecord x) = true → b = l.flatten ∧ byteAt r 8 = 0) := by
  subst hl
  refine ⟨_, _, congrArg Host.Outcome.next (run_done ha rfl), ?_, fun hall => ?_⟩
  · rw [slice_append_left (by simp), slice_all (by simp)]
    rfl
  · have hwhole : ∀ x ∈ t.firnSlice (le32 e.req.params 0) (le16 e.req.params 4), tornRecord x = false := fun x hx => by
      simpa using List.all_eq_true.1 hall x hx
    constructor
    · refine congrArg List.flatten ((List.map_congr_left fun x hx => ?_).trans (List.map_id _))
      rw [hwhole x hx]
      rfl
    · have hnone : (t.firnSlice (le32 e.req.params 0) (le16 e.req.params 4)).countP tornRecord = 0 :=
        List.countP_eq_zero.2 fun x hx => by simp [hwhole x hx]
      rw [hnone]
      rfl

theorem firnNext_cfg (s : State) : (s.firnNext).cfg = s.cfg := by
  unfold State.firnNext
  split
  · rfl
  · exact raise_cfg ..

theorem firnLoss_cfg (s : State) : (s.firnLoss).cfg = s.cfg := by
  unfold State.firnLoss
  split
  · exact firnEv_cfg ..
  · rfl

theorem firnFull_cfg (s : State) : (s.firnFull).cfg = s.cfg := by
  unfold State.firnFull
  extract_lets k _ u d _ v
  have hv : v.cfg = s.cfg := (firnNext_cfg _).trans (firnEv_cfg ..)
  split
  · rw [raise_cfg, hv]
  · exact hv

theorem firnProgram_cfg (s : State) : (s.firnProgram).cfg = s.cfg := by
  unfold State.firnProgram
  extract_lets u n
  have hu : u.cfg = s.cfg := (firnLoss_cfg _).trans (firnNext_cfg _)
  split
  · rfl
  · split
    · exact (firnEv_cfg ..).trans hu
    · split
      · rw [firnFull_cfg, hu]
      · exact hu

theorem firnDrain_cfg (n : Nat) (s : State) : (State.firnDrain n s).cfg = s.cfg := by
  induction n generalizing s with
  | zero => rfl
  | succ n ih => exact (ih _).trans (firnProgram_cfg s)

theorem firnDrain_empty (n : Nat) (h : s.firn.queue = []) : State.firnDrain n s = s := by
  induction n with
  | zero => rfl
  | succ n ih =>
    have hs : s.firnProgram = s := if_pos (by rw [h]; rfl)
    exact (congrArg (State.firnDrain n) hs).trans ih

theorem firnFreeze_accepted {p : Path} {e : Exec} {t : State} (ha : Accepted cmdFirnFreeze p e s t) :
    ∃ u : State, exec (.firnFreeze p) s = .next (u.complete p stOK (t.stamp 17).bytes none) ∧ u.flash = t.flash ∧ u.cfg = t.cfg ∧
      (byteAt e.req.params 0 = 1 → u.firn.frozen = some t.now ∧ u.active 4 = true) ∧
      (byteAt e.req.params 0 ≠ 1 → u.firn.frozen = none ∧ u.active 4 = false) := by
  by_cases h : byteAt e.req.params 0 = 1
  · refine ⟨_, congrArg Host.Outcome.next (run_done ha (if_pos h)), firnEv_flash .., firnEv_cfg .., fun _ => ⟨?_, ?_⟩,
      fun hn => absurd h hn⟩
    · obtain ⟨_, _, _, _, hf⟩ := firnEv_firn ({ t with firn.frozen := some t.now }.begin 4 (some p)) 0x0C02 [1]
      rw [hf]
      rfl
    · unfold State.active
      rw [firnEv_diag]
      exact begin_active _ 4 (some p)
  · obtain ⟨h1, h2, h3, h4⟩ := firnRelease_spec t 0
    exact ⟨_, congrArg Host.Outcome.next (run_done ha (if_neg h)), h2, h3, fun hy => absurd hy h, fun _ => ⟨h1, h4⟩⟩

theorem firnClear_accepted {p : Path} {e : Exec} {t : State} (ha : Accepted cmdFirnClear p e s t) :
    ∃ u : State, exec (.firnClear p) s = .next (u.goesOnAt p) ∧ u.active 5 = true ∧ u.cfg = t.cfg ∧
      ∃ c, u.firn.clear = some c ∧ c.keyId = le32 e.req.block 0 ∧ c.erased = u.flash.firn.length ∧
        u.ao.firnSeq = (c.seq + 1) % 4294967296 ∧ c.ev.code = 0x0C01 ∧ c.ev.data = leBytes 4 c.lastSeq ++ leBytes 4 c.keyId ∧
        (t.firn.queue = [] → u.flash.firn = t.flash.firn ∧ c.seq = t.ao.firnSeq) := by
  refine ⟨_, congrArg Host.Outcome.next (run_wait ha rfl), begin_active .., firnDrain_cfg .., _, rfl, rfl, rfl, rfl, rfl, rfl,
    fun hq => ?_⟩
  dsimp only [State.begin]
  rw [firnDrain_empty _ hq]
  exact ⟨rfl, rfl⟩

/-- FIRN_EVENT of a listed event that has no room. -/
theorem firnEvent_discarded (hk : firnKnown code = true) (hr : s.romServed = false)
    (h : s.firn.full = true ∨ 4096 ≤ s.firn.queue.length) : ∃ t, exec (.firnEvent code data) s = .next t ∧
      t.ao.firnSeq = (s.ao.firnSeq + 1) % 4294967296 ∧ t.firn.queue = s.firn.queue ∧
      t.firn.discarded = inc32 s.firn.discarded ∧ t.flash = s.flash ∧
      (s.firn.full = false → s.firn.lost = none → t.firn.lost = some (s.ao.firnSeq, 1)) := by
  obtain ⟨hseq, hfirn⟩ := firnEv_discarded (code := code) (data := data) hr h
  refine ⟨_, congrArg Host.Outcome.next (if_pos hk), hseq, ?_, ?_, firnEv_flash .., fun hf hl => ?_⟩
  · rw [hfirn]
  · rw [hfirn]
  · rw [hfirn]
    dsimp only
    rw [hf, hl]
    rfl

/-- Settles O50. -/
theorem firnLog : Obligations.FirnLog := by
  refine ⟨FirnEv.record_spec, fun s code data hk hr hf hq => ⟨_, s.firnNew code data, congrArg Host.Outcome.next (if_pos hk), ?_⟩,
    fun s code data hk hr h => firnEvent_discarded hk hr h, fun s code data hk => congrArg Host.Outcome.next (if_neg (by simp [hk])),
    fun s e rest hp hfr hc hf h => firnRecordProgrammed_cons hp hfr hc hf h, fun s h => firnRecordProgrammed_none h,
    fun s t0 h => firnAutoRelease_frozen h, fun s h => firnAutoRelease_none h, fun s c h => firnEraseComplete_clearing h,
    fun s h => firnEraseComplete_none h, answers_of_body (fun _ _ => rfl) fun _ _ _ => rfl,
    fun p e s t l ha hl => firnRead_slice ha hl, fun p e s t ha => firnFreeze_accepted ha, fun p e s t ha => firnClear_accepted ha⟩
  rw [firnEv_room hr hf hq]
  exact ⟨rfl, rfl, rfl, rfl, rfl, rfl, rfl, rfl⟩

end Machine
end Sys2Proof

/-! PROOFS. The safety island's operations: what each does to inputs, outputs and causes, and what it leaves
(R385 to R399). -/

namespace Sys2Proof
namespace Machine

variable {s t u : State}

/-! ## What an operation of the island leaves -/

/-- `t` is `s` but for the island itself, Firn, INT_CAUSE and what injections have used. -/
def OnlyIsland (s t : State) : Prop :=
  ∃ f q r h d, t = { s with safe := f, ao.firnSeq := q, firn := r, host := h, diag := d }

namespace OnlyIsland

theorem refl (s : State) : OnlyIsland s s := ⟨_, _, _, _, _, rfl⟩

theorem trans (a : OnlyIsland s t) (b : OnlyIsland t u) : OnlyIsland s u := by
  obtain ⟨_, _, _, _, _, rfl⟩ := a
  obtain ⟨_, _, _, _, _, rfl⟩ := b
  exact ⟨_, _, _, _, _, rfl⟩

theorem of_safe (s : State) (f : SafeBlk) : OnlyIsland s { s with safe := f } := ⟨_, _, _, _, _, rfl⟩

theorem firnEv (s : State) (code : Nat) (data : Bytes) : OnlyIsland s (s.firnEv code data) := by
  obtain ⟨_, _, _, h⟩ := firnEv_frame s code data
  exact ⟨_, _, _, _, _, h⟩

theorem raise (s : State) (b : Nat) : OnlyIsland s (s.raise b) := by
  obtain ⟨_, h⟩ := raise_frame s b
  exact ⟨_, _, _, _, _, h⟩

theorem counted (s : State) (n o p x : Nat) : OnlyIsland s (s.counted n o p x) := by
  unfold State.counted
  split
  · exact firnEv ..
  · exact refl s

theorem inject (s : State) (c o u : Nat) : OnlyIsland s (s.inject c o u).2 := by
  obtain ⟨_, _, _, _, h⟩ := inject_frame s c o u
  exact ⟨_, _, _, _, _, h⟩

theorem safeEvt (s : State) (code : Nat) (data : Bytes) : OnlyIsland s (s.safeEvt code data) :=
  (firnEv ..).trans (raise ..)

variable (h : OnlyIsland s t)

include h

theorem cfg : t.cfg = s.cfg := by
  obtain ⟨_, _, _, _, _, rfl⟩ := h
  rfl

theorem mem : t.mem = s.mem := by
  obtain ⟨_, _, _, _, _, rfl⟩ := h
  rfl

theorem flash : t.flash = s.flash := by
  obtain ⟨_, _, _, _, _, rfl⟩ := h
  rfl

theorem time : t.time = s.time := by
  obtain ⟨_, _, _, _, _, rfl⟩ := h
  rfl

theorem now : t.now = s.now := by
  obtain ⟨_, _, _, _, _, rfl⟩ := h
  rfl

theorem gated : t.gated = s.gated := by
  obtain ⟨_, _, _, _, _, rfl⟩ := h
  rfl

theorem stamp (src : Nat) : t.stamp src = s.stamp src := by
  obtain ⟨_, _, _, _, _, rfl⟩ := h
  rfl

end OnlyIsland

section

variable (s)

@[simp] theorem safeEvt_safe (code : Nat) (data : Bytes) : (s.safeEvt code data).safe = s.safe := by
  simp [State.safeEvt]

@[simp] theorem safeEvt_safeOut (code : Nat) (data : Bytes) (n : Nat) : (s.safeEvt code data).safeOut n = s.safeOut n := by
  simp [State.safeOut]

@[simp] theorem safeEvt_safeIn (code : Nat) (data : Bytes) (n : Nat) : (s.safeEvt code data).safeIn n = s.safeIn n := by
  simp [State.safeIn]

@[simp] theorem safeEvt_halter (code : Nat) (data : Bytes) : (s.safeEvt code data).halter = s.halter := by
  simp [State.halter]

@[simp] theorem safeOut_setSafeOut (n : Nat) (x : SafeOut) : (s.setSafeOut n x).safeOut n = x := by
  simp [State.safeOut, State.setSafeOut]

theorem safeOut_setSafeOut_other {m n : Nat} (h : m ≠ n) (x : SafeOut) : (s.setSafeOut n x).safeOut m = s.safeOut m := by
  simp [State.safeOut, State.setSafeOut, tbl_getD_set_other _ _ _ h]

@[simp] theorem safeIn_setSafeIn (n : Nat) (x : SafeInput) : (s.setSafeIn n x).safeIn n = x := by
  simp [State.safeIn, State.setSafeIn]

/-- A counter of SAFE_STATUS is all of the island that its count changes. -/
theorem safeCount_safe (i : Nat) :
    (s.safeCount i).safe = { s.safe with counts := s.safe.counts.set i (inc32 (s.safe.counts.getD i 0)) } := by
  rw [State.safeCount, counted_safe]

theorem safeCount_only (i : Nat) : OnlyIsland s (s.safeCount i) := (OnlyIsland.of_safe s _).trans (.counted ..)

end

/-! ## Switching an output (R394, R410) -/

section

variable (s) (n : Nat) (on : Bool) (reason : Nat)

/-- The output after a switch. -/
def SafeOut.switched (x : SafeOut) (on : Bool) : SafeOut :=
  if x.on = on then x else { x with on := on, delay := if on then x.delay else none, onBad := 0, extBad := 0 }

theorem switchOut_only : OnlyIsland s (s.switchOut n on reason) := by
  unfold State.switchOut
  extract_lets x
  split
  · exact .refl s
  · exact (OnlyIsland.of_safe s _).trans (.safeEvt ..)

/-- A switch changes the outputs alone. -/
theorem switchOut_safe : ∃ o, (s.switchOut n on reason).safe = { s.safe with outs := o } := by
  unfold State.switchOut
  extract_lets x
  split
  · exact ⟨_, rfl⟩
  · rw [safeEvt_safe]
    exact ⟨_, rfl⟩

@[simp] theorem safeOut_switchOut : (s.switchOut n on reason).safeOut n = (s.safeOut n).switched on := by
  unfold State.switchOut SafeOut.switched
  extract_lets x
  split
  · rfl
  · rw [safeEvt_safeOut, safeOut_setSafeOut]

theorem safeOut_switchOut_other {m : Nat} (h : m ≠ n) : (s.switchOut n on reason).safeOut m = s.safeOut m := by
  unfold State.switchOut
  extract_lets x
  split
  · rfl
  · rw [safeEvt_safeOut, safeOut_setSafeOut_other s h]

@[simp] theorem switched_on (x : SafeOut) (on : Bool) : (x.switched on).on = on := by
  unfold SafeOut.switched
  split
  · assumption
  · rfl

/-- A switch leaves the arming, the condition and the fault. -/
theorem switched_kept (x : SafeOut) (on : Bool) : (x.switched on).armed = x.armed ∧ (x.switched on).cond = x.cond ∧
    (x.switched on).fault = x.fault ∧ (x.switched on).ext = x.ext := by
  unfold SafeOut.switched
  split <;> exact ⟨rfl, rfl, rfl, rfl⟩

theorem switched_same {x : SafeOut} {on : Bool} (h : x.on = on) : x.switched on = x := if_pos h

theorem switched_off_delay {x : SafeOut} (h : x.on = true) : (x.switched false).delay = none := by
  simp [SafeOut.switched, h]

@[simp] theorem switchOut_causes : (s.switchOut n on reason).safe.causes = s.safe.causes := by
  obtain ⟨o, h⟩ := switchOut_safe s n on reason
  rw [h]

end

/-- The outputs that a list of switches turns off. -/
theorem foldl_switchOut (reason : Nat) (l : List Nat) (s : State) :
    OnlyIsland s (l.foldl (fun s n => s.switchOut n false reason) s) ∧
    (∃ o, (l.foldl (fun s n => s.switchOut n false reason) s).safe = { s.safe with outs := o }) ∧
    ∀ n, (l.foldl (fun s n => s.switchOut n false reason) s).safeOut n =
      if n ∈ l then (s.safeOut n).switched false else s.safeOut n := by
  induction l generalizing s with
  | nil => exact ⟨.refl s, ⟨_, rfl⟩, fun n => rfl⟩
  | cons k l ih =>
    obtain ⟨h1, ⟨o, h2⟩, h3⟩ := ih (s.switchOut k false reason)
    refine ⟨(switchOut_only ..).trans h1, ?_, fun n => ?_⟩
    · obtain ⟨o', h'⟩ := switchOut_safe s k false reason
      rw [List.foldl_cons, h2, h']
      exact ⟨_, rfl⟩
    · rw [List.foldl_cons, h3 n]
      by_cases hk : n = k
      · subst hk
        rw [safeOut_switchOut, if_pos (List.mem_cons_self ..)]
        split
        · exact switched_same (switched_on ..)
        · rfl
      · rw [safeOut_switchOut_other s k false reason hk]
        simp only [List.mem_cons, hk, false_or]

theorem allOff_only (s : State) (reason : Nat) : OnlyIsland s (s.allOff reason) := (foldl_switchOut ..).1

theorem allOff_safe (s : State) (reason : Nat) : ∃ o, (s.allOff reason).safe = { s.safe with outs := o } :=
  (foldl_switchOut ..).2.1

theorem safeOut_allOff (s : State) (reason : Nat) {n : Nat} (h : n < 4) :
    (s.allOff reason).safeOut n = (s.safeOut n).switched false := by
  rw [State.allOff, (foldl_switchOut ..).2.2, if_pos (List.mem_range.2 h)]

theorem tbl_getD_mapV {α β : Type} {t : Tbl α} {f : Nat → α → β} {k : Nat} {d : α} {e : β} (h : f k d = e) :
    (Tbl.mapV t f).getD k e = f k (t.getD k d) := by
  rw [Tbl.getD, tbl_get_mapV, Tbl.getD]
  cases t.get? k
  · exact h.symm
  · rfl

/-- Outputs that one change is made to. -/
theorem safeOut_mapV {f : SafeOut → SafeOut} (hf : f {} = {}) (h : t.safe.outs = s.safe.outs.mapV (fun _ x => f x)) (n : Nat) :
    t.safeOut n = f (s.safeOut n) := by
  rw [State.safeOut, h]
  exact tbl_getD_mapV (f := fun _ x => f x) hf

/-! ## Halter (R398, R399) -/

/-- A cause that joins others changes the mask alone. -/
theorem halterCause_halter (h : s.halter = true) (c : Nat) :
    s.halterCause c = { s with safe.causes := s.safe.causes ||| BitVec.twoPow 16 c } := if_pos h

/-- An output in the state of HALTER. -/
def SafeOut.halted (x : SafeOut) : SafeOut := { x.switched false with armed := false, delay := none }

/-- The first cause: every output off and unarmed, stamped. -/
theorem halterCause_first (h : s.halter = false) (c : Nat) : OnlyIsland s (s.halterCause c) ∧
    (∃ o, (s.halterCause c).safe =
      { s.safe with causes := s.safe.causes ||| BitVec.twoPow 16 c, halt := s.stamp 17, outs := o }) ∧
    ∀ n, n < 4 → (s.halterCause c).safeOut n = (s.safeOut n).halted := by
  unfold State.halterCause
  extract_lets was _ a b _ d
  have ha : OnlyIsland s a := .of_safe s _
  have hab : OnlyIsland a b := allOff_only a 3
  obtain ⟨o, hb⟩ := allOff_safe a 3
  have hstamp : b.stamp 17 = s.stamp 17 := (ha.trans hab).stamp 17
  have hd : OnlyIsland s d := (ha.trans hab).trans (.of_safe b _)
  have hwas : ¬was = true := by simp [was, h]
  rw [if_neg hwas]
  refine ⟨hd.trans (.safeEvt ..), ?_, fun n hn => ?_⟩
  · have hds : ∃ o, d.safe = { b.safe with halt := b.stamp 17, outs := o } := ⟨_, rfl⟩
    obtain ⟨o', hds⟩ := hds
    rw [safeEvt_safe, hds, hstamp, show b.safe = _ from hb]
    exact ⟨_, rfl⟩
  · rw [safeEvt_safeOut]
    have hout : b.safeOut n = (s.safeOut n).switched false := safeOut_allOff a 3 hn
    have hmap : d.safeOut n = { b.safeOut n with armed := false, delay := none } :=
      safeOut_mapV (s := b) (f := fun x => { x with armed := false, delay := none }) rfl rfl n
    rw [hmap, hout]
    rfl

theorem halterCause_only (s : State) (c : Nat) : OnlyIsland s (s.halterCause c) := by
  cases h : s.halter
  · exact (halterCause_first h c).1
  · rw [halterCause_halter h]
    exact .of_safe s _

/-- A cause changes the mask, the stamp of the entry and the outputs alone. -/
theorem halterCause_safe (s : State) (c : Nat) : ∃ o w, (s.halterCause c).safe =
    { s.safe with causes := s.safe.causes ||| BitVec.twoPow 16 c, halt := w, outs := o } := by
  cases h : s.halter
  · obtain ⟨o, ho⟩ := (halterCause_first h c).2.1
    exact ⟨_, _, ho⟩
  · rw [halterCause_halter h]
    exact ⟨_, _, rfl⟩

@[simp] theorem halterCause_causes (s : State) (c : Nat) :
    (s.halterCause c).safe.causes = s.safe.causes ||| BitVec.twoPow 16 c := by
  obtain ⟨_, _, h⟩ := halterCause_safe s c
  rw [h]

theorem halterCause_bit (s : State) {c : Nat} (h : c < 16) : (s.halterCause c).safe.causes.getLsbD c = true := by
  rw [halterCause_causes, BitVec.getLsbD_or, BitVec.getLsbD_twoPow]
  simp [h]

theorem halter_of_bit {c : Nat} (h : s.safe.causes.getLsbD c = true) : s.halter = true := by
  unfold State.halter
  rw [bne_iff_ne]
  intro h0
  rw [h0] at h
  simp at h

theorem halter_halterCause (s : State) {c : Nat} (h : c < 16) : (s.halterCause c).halter = true :=
  halter_of_bit (halterCause_bit s h)

/-- What a cause does (R398, R399). -/
theorem halterCause_spec (s : State) {c : Nat} (hc : c < 16) :
    (s.halterCause c).safe.causes = s.safe.causes ||| BitVec.twoPow 16 c ∧ (s.halterCause c).halter = true ∧
    (s.halter = false → (s.halterCause c).safe.halt = s.stamp 17 ∧
      ∀ n, n < 4 → ((s.halterCause c).safeOut n).on = false ∧ ((s.halterCause c).safeOut n).armed = false) ∧
    (s.halter = true → (s.halterCause c).safe.outs = s.safe.outs ∧ (s.halterCause c).safe.halt = s.safe.halt) := by
  refine ⟨halterCause_causes s c, halter_halterCause s hc, fun h => ?_, fun h => ?_⟩
  · obtain ⟨-, ⟨o, ho⟩, houts⟩ := halterCause_first h c
    refine ⟨by rw [ho], fun n hn => ?_⟩
    rw [houts n hn]
    exact ⟨switched_on .., rfl⟩
  · rw [halterCause_halter h]
    exact ⟨rfl, rfl⟩

/-- An output that is off stays off when a cause is raised. -/
theorem halterCause_off {n : Nat} (hn : n < 4) (h : (s.safeOut n).on = false) (c : Nat) :
    ((s.halterCause c).safeOut n).on = false := by
  cases hh : s.halter
  · rw [(halterCause_first hh c).2.2 n hn]
    exact switched_on ..
  · rw [halterCause_halter hh]
    exact h

theorem halterCause_fault {n : Nat} (hn : n < 4) (c : Nat) : ((s.halterCause c).safeOut n).fault = (s.safeOut n).fault := by
  cases hh : s.halter
  · rw [(halterCause_first hh c).2.2 n hn]
    exact (switched_kept _ false).2.2.1
  · rw [halterCause_halter hh]
    rfl

/-! ## Faults of an output, and the field supply (R396, R397) -/

/-- A fault switches the output off and raises the cause of its kind. -/
theorem outFault_spec (s : State) {n : Nat} (hn : n < 4) (kind : Nat) : OnlyIsland s (s.outFault n kind) ∧
    ((s.outFault n kind).safeOut n).on = false ∧ ((s.outFault n kind).safeOut n).fault = true ∧
    (s.outFault n kind).safe.causes.getLsbD (if kind = 1 then 4 else if kind = 2 then 6 else 7) = true := by
  unfold State.outFault
  extract_lets _ a b c
  have ha : OnlyIsland s a := .of_safe s _
  have hc : OnlyIsland s c := (ha.trans (switchOut_only a n false 6)).trans (.safeEvt b 8 _)
  have hout : c.safeOut n = SafeOut.switched { s.safeOut n with fault := true } false := by
    dsimp only [c, b, a]
    rw [safeEvt_safeOut, safeOut_switchOut, safeOut_setSafeOut]
  refine ⟨hc.trans (halterCause_only ..), halterCause_off hn ?_ _, ?_, halterCause_bit _ ?_⟩
  · rw [hout]
    exact switched_on ..
  · rw [halterCause_fault hn, hout]
    exact (switched_kept _ false).2.2.1
  · split
    · decide
    · split <;> decide

theorem fv24LowSet_high (h : s.safe.fv24Low = false) (hp : Domain.safe ∈ s.power.on) : ∃ t, exec .fv24LowSet s = .next t ∧
    t.safe.fv24Low = true ∧ t.safe.causes = s.safe.causes ∧ t.cfg = s.cfg ∧
    ∀ n, n < 4 → (t.safeOut n).on = false ∧ (t.safeOut n).armed = false := by
  refine ⟨s.fv24Fall, rfl, ?_⟩
  unfold State.fv24Fall
  extract_lets a _ b
  obtain ⟨o, ha⟩ := allOff_safe s 4
  have hb : OnlyIsland s b := (allOff_only s 4).trans (.of_safe a _)
  rw [if_neg (by simp [h, hp])]
  refine ⟨by rw [safeEvt_safe], ?_, (hb.trans (.safeEvt ..)).cfg, fun n hn => ?_⟩
  · have hcauses : b.safe.causes = a.safe.causes := rfl
    rw [safeEvt_safe, hcauses, show a.safe = _ from ha]
  · rw [safeEvt_safeOut]
    have hmap : b.safeOut n = { a.safeOut n with armed := false, delay := none } :=
      safeOut_mapV (s := a) (f := fun x => { x with armed := false, delay := none }) rfl rfl n
    rw [hmap, show a.safeOut n = _ from safeOut_allOff s 4 hn]
    exact ⟨switched_on .., rfl⟩

/-! ## Inputs (R389 to R392) -/

theorem tpOf_spec (k p : Nat) (h : 0 < p) : tpOf (k * (4 * p)) p = 1 ∧ tpOf (k * (4 * p) + 2 * p) p = 2 := by
  have h2 : (k * (4 * p) + 2 * p) % (4 * p) = 2 * p := by
    rw [Nat.add_comm, Nat.add_mul_mod_self_right]
    exact Nat.mod_eq_of_lt (by omega)
  refine ⟨if_pos (Nat.mul_mod_left ..), ?_⟩
  rw [tpOf, h2, if_neg (by omega), if_pos rfl]

theorem sample_spec (t : Terminal) (v : Bool) (nf : Nat) : (t.sample v nf).last = v ∧
    (t.run < 65535 → (t.sample v nf).run = (if v = t.last then t.run + 1 else 1)) ∧
    (t.sample v nf).val = (if nf ≤ (if v = t.last then t.run + 1 else 1) then v else t.val) := by
  refine ⟨rfl, fun h => ?_, rfl⟩
  dsimp only [Terminal.sample]
  split <;> omega

/-- An input's next state (R392). -/
theorem inStep_state (s : State) (n : Nat) (a b : Bool) : ((s.inStep n a b).safeIn n).state =
    match (s.safeIn n).state with
    | 1 => if a && b then 1 else 2
    | 2 => if !a && !b then 3 else 2
    | 3 => if a && b then 1 else 3
    | 4 => if !a && !b then 3 else 4
    | k => k := by
  unfold State.inStep
  extract_lets x new u
  have hu : (u.safeIn n).state = new := by
    dsimp only [u]
    rw [safeIn_setSafeIn]
  split
  · rw [safeEvt_safeIn]
    exact hu
  · exact hu

theorem inFaulted_spec (s : State) (n k : Nat) : OnlyIsland s (s.inFaulted n k) ∧ ((s.inFaulted n k).safeIn n).state = 4 ∧
    ((s.inFaulted n k).safeIn n).kind = k ∧ (s.inFaulted n k).safe.outs = s.safe.outs ∧
    (s.inFaulted n k).safe.counts = s.safe.counts.set (if k = 1 then 0 else 1)
      (inc32 (s.safe.counts.getD (if k = 1 then 0 else 1) 0)) := by
  unfold State.inFaulted
  extract_lets x a b
  have ha : OnlyIsland s a ∧ a.safe = _ := ⟨safeCount_only .., safeCount_safe ..⟩
  have hb : OnlyIsland s b ∧ b.safe = a.safe := by
    dsimp only [b]
    split
    · exact ⟨ha.1, rfl⟩
    · exact ⟨ha.1.trans (.safeEvt ..), safeEvt_safe ..⟩
  refine ⟨hb.1.trans (.of_safe b _), by rw [safeIn_setSafeIn], by rw [safeIn_setSafeIn], ?_, ?_⟩
  · change b.safe.outs = _
    rw [hb.2, ha.2]
  · change b.safe.counts = _
    rw [hb.2, ha.2]

end Machine
end Sys2Proof

/-! PROOFS. The safety slot, the rows of the island and its commands (O51): R386 to R399, R409, R411. -/

namespace Sys2Proof
namespace Machine

variable {s t u : State}

/-! ## Step 6 of a slot (R394) -/

/-- The output that a slot leaves: its condition and arming, and the switch it asks for. -/
theorem slotOut_switched (s : State) (srst : Bool) (n : Nat) {r : Bytes} {x : SafeOut} {c a : Bool} {d : Option Nat}
    (hr : r = s.outRec n) (hx : x = s.safeOut n) (hc : c = (outEn r && s.outCond r))
    (ha : a = (!s.safe.fv24Low && c && (if outManual r then x.armed || srst else true)))
    (hd : d = if x.cond && !c && x.on && outCat1 r && x.delay.isNone then some (s.now + 1000000 * le16 r 2) else x.delay) :
    ∃ v d', (s.slotOut srst n).safeOut n = SafeOut.switched { x with cond := c, armed := a, delay := d' } v ∧
      (s.outBlocked n ≠ 0 → v = false) ∧ (s.outBlocked n = 0 → d = none → v = (c && a)) ∧
      (s.outBlocked n = 0 → x.on = true → ∀ k, d = some k → s.now < k → v = true ∧ d' = d) := by
  unfold State.slotOut
  extract_lets r' x' cond fell armed delay expired block u
  have ex : x' = x := hx.symm
  have ec : cond = c := by rw [hc, hr]
  have ea : armed = a := by rw [ha, hc, hr, hx]
  have ed : delay = d := by rw [hd, hc, hr, hx]
  have eb : s.outBlocked n = block := rfl
  have hu : u.safeOut n = { x' with cond := cond, armed := armed, delay := if expired then none else delay } :=
    safeOut_setSafeOut ..
  have hoff (reason : Nat) : (u.switchOut n false reason).safeOut n = (u.safeOut n).switched false := safeOut_switchOut ..
  have hon (reason : Nat) : (u.switchOut n true reason).safeOut n = (u.safeOut n).switched true := safeOut_switchOut ..
  have hsame {v : Bool} (h : x'.on = v) : u.safeOut n = (u.safeOut n).switched v := (switched_same (by rw [hu]; exact h)).symm
  have hexp (k : Nat) (h : delay = some k) (hk : s.now < k) : expired = false := by
    dsimp only [expired]
    rw [h]
    exact decide_eq_false (by omega)
  clear_value u expired delay armed fell cond block x'
  subst ex ec ea ed
  rw [eb]
  split
  · rename_i hb
    refine ⟨false, _, (hoff _).trans (by rw [hu]), fun _ => rfl, fun h => absurd h hb, fun h => absurd h hb⟩
  · rename_i hb
    split
    · rename_i hx
      cases delay with
      | some k =>
        have hne : some k ≠ none := Option.some_ne_none k
        dsimp only
        split
        · rename_i he
          exact ⟨false, _, (hoff _).trans (by rw [hu]), fun h => absurd h hb, fun _ h => absurd h hne,
            fun _ _ j hj hlt => absurd he (by rw [hexp j hj hlt]; exact Bool.false_ne_true)⟩
        · rename_i he
          refine ⟨true, _, (hsame hx).trans (by rw [hu]), fun h => absurd h hb, fun _ h => absurd h hne, fun _ _ _ _ _ => ⟨rfl, if_neg he⟩⟩
      | none =>
        dsimp only
        split
        · rename_i hca
          exact ⟨true, _, (hsame hx).trans (by rw [hu]), fun h => absurd h hb, fun _ _ => hca.symm, fun _ _ j hj => nomatch hj⟩
        · rename_i hca
          exact ⟨false, _, (hoff _).trans (by rw [hu]), fun h => absurd h hb, fun _ _ => (Bool.eq_false_iff.2 hca).symm,
            fun _ _ j hj => nomatch hj⟩
    · rename_i hx
      split
      · rename_i hca
        exact ⟨true, _, (hon _).trans (by rw [hu]), fun h => absurd h hb, fun _ _ => hca.symm, fun _ h => absurd h hx⟩
      · rename_i hca
        exact ⟨false, _, (hsame (Bool.eq_false_iff.2 hx)).trans (by rw [hu]), fun h => absurd h hb,
          fun _ _ => (Bool.eq_false_iff.2 hca).symm, fun _ h => absurd h hx⟩

/-- Step 6 of a slot for an output. -/
theorem slotOut_spec (s : State) (srst : Bool) (n : Nat) (r : Bytes) (x : SafeOut) (c : Bool) (y : SafeOut) (hr : r = s.outRec n)
    (hx : x = s.safeOut n) (hc : c = (outEn r && s.outCond r)) (hy : y = (s.slotOut srst n).safeOut n) :
    y.cond = c ∧ y.armed = (!s.safe.fv24Low && c && (if outManual r then x.armed || srst else true)) ∧
    (s.outBlocked n ≠ 0 → y.on = false) ∧
    (s.outBlocked n = 0 → x.delay = none → (x.cond && !c && x.on && outCat1 r) = false → y.on = (c && y.armed)) ∧
    (s.outBlocked n = 0 → x.delay = none → x.cond = true → c = false → x.on = true → outCat1 r = true → 0 < le16 r 2 →
      y.on = true ∧ y.delay = some (s.now + 1000000 * le16 r 2)) := by
  obtain ⟨v, d, hv, hblock, hplain, hdelay⟩ := slotOut_switched s srst n hr hx hc rfl rfl
  rw [← hy] at hv
  have hon : y.on = v := by rw [hv, switched_on]
  have harmed : y.armed = (!s.safe.fv24Low && c && (if outManual r then x.armed || srst else true)) := by
    rw [hv]
    exact (switched_kept _ v).1
  refine ⟨?_, harmed, fun h => hon.trans (hblock h), fun h h0 hf => ?_, fun h h0 hcond hc0 hxon hcat hpos => ?_⟩
  · rw [hv]
    exact (switched_kept _ v).2.1
  · rw [hon, harmed]
    refine hplain h ?_
    rw [hf]
    exact h0
  · have hd : (if (x.cond && !c && x.on && outCat1 r && x.delay.isNone) = true then some (s.now + 1000000 * le16 r 2) else x.delay) =
        some (s.now + 1000000 * le16 r 2) := if_pos (by simp [h0, hcond, hc0, hxon, hcat])
    obtain ⟨h1, h2⟩ := hdelay h hxon _ hd (by omega)
    refine ⟨hon.trans h1, ?_⟩
    rw [hv, h1, h2, hd]
    simp only [SafeOut.switched, hxon, if_true]

theorem slotOut_only (s : State) (srst : Bool) (n : Nat) : OnlyIsland s (s.slotOut srst n) ∧
    (∃ o, (s.slotOut srst n).safe = { s.safe with outs := o }) ∧ ∀ m, m ≠ n → (s.slotOut srst n).safeOut m = s.safeOut m := by
  unfold State.slotOut
  extract_lets r x cond fell armed delay expired block u
  have hu : OnlyIsland s u ∧ (∃ o, u.safe = { s.safe with outs := o }) ∧ ∀ m, m ≠ n → u.safeOut m = s.safeOut m :=
    ⟨.of_safe s _, ⟨_, rfl⟩, fun m h => safeOut_setSafeOut_other s h _⟩
  have hsw (v : Bool) (k : Nat) : OnlyIsland s (u.switchOut n v k) ∧ (∃ o, (u.switchOut n v k).safe = { s.safe with outs := o }) ∧
      ∀ m, m ≠ n → (u.switchOut n v k).safeOut m = s.safeOut m := by
    obtain ⟨h1, ⟨o, h2⟩, h3⟩ := hu
    obtain ⟨o', h4⟩ := switchOut_safe u n v k
    refine ⟨h1.trans (switchOut_only ..), ⟨o', by rw [h4, h2]⟩, fun m h => ?_⟩
    rw [safeOut_switchOut_other u n v k h, h3 m h]
  clear_value u delay expired block
  split
  · exact hsw ..
  · split
    · split
      · split
        · exact hsw ..
        · exact hu
      · split
        · exact hu
        · exact hsw ..
    · split
      · exact hsw ..
      · exact hu

theorem outBlocked_of_halter {n : Nat} (h : s.halter = true) : s.outBlocked n ≠ 0 := by
  unfold State.outBlocked
  split
  · decide
  · decide

/-! ## A whole slot (R386, R387) -/

/-- A step of a slot: it works in the island alone, and leaves the slot's number and the comparison's count. -/
def SlotStep (s t : State) : Prop := OnlyIsland s t ∧ t.safe.slot = s.safe.slot ∧ t.safe.cross = s.safe.cross

namespace SlotStep

theorem refl (s : State) : SlotStep s s := ⟨.refl s, rfl, rfl⟩

theorem trans (a : SlotStep s t) (b : SlotStep t u) : SlotStep s u := by
  obtain ⟨a1, a2, a3⟩ := a
  obtain ⟨b1, b2, b3⟩ := b
  exact ⟨a1.trans b1, b2.trans a2, b3.trans a3⟩

/-- A change of the island that is not of its slot's number and its comparison. -/
theorem of_safe {f : SafeBlk} (h1 : f.slot = s.safe.slot) (h2 : f.cross = s.safe.cross) : SlotStep s { s with safe := f } :=
  ⟨.of_safe s f, h1, h2⟩

/-- A step that leaves the island. -/
theorem of_same (h : OnlyIsland s t) (hs : t.safe = s.safe) : SlotStep s t := ⟨h, by rw [hs], by rw [hs]⟩

theorem foldl {α : Type} {f : State → α → State} (hf : ∀ t a, SlotStep t (f t a)) (l : List α) (s : State) :
    SlotStep s (l.foldl f s) :=
  foldl_keeps (SlotStep s) f (fun t a h => h.trans (hf t a)) l s (.refl s)

theorem safeEvt (s : State) (code : Nat) (data : Bytes) : SlotStep s (s.safeEvt code data) :=
  of_same (.safeEvt ..) (safeEvt_safe ..)

theorem counted (s : State) (n o p x : Nat) : SlotStep s (s.counted n o p x) := of_same (.counted ..) (counted_safe ..)

theorem inject (s : State) (c o x : Nat) : SlotStep s (s.inject c o x).2 := of_same (.inject ..) (inject_safe ..)

theorem safeCount (s : State) (i : Nat) : SlotStep s (s.safeCount i) := (of_safe rfl rfl).trans (counted ..)

theorem setTerminal (s : State) (i : Nat) (x : Terminal) : SlotStep s (s.setTerminal i x) := of_safe rfl rfl

theorem setSafeIn (s : State) (i : Nat) (x : SafeInput) : SlotStep s (s.setSafeIn i x) := of_safe rfl rfl

theorem setSafeOut (s : State) (i : Nat) (x : SafeOut) : SlotStep s (s.setSafeOut i x) := of_safe rfl rfl

theorem setConn (s : State) (i : Nat) (x : Conn) : SlotStep s (s.setConn i x) := of_safe rfl rfl

theorem switchOut (s : State) (n : Nat) (on : Bool) (k : Nat) : SlotStep s (s.switchOut n on k) := by
  obtain ⟨o, h⟩ := switchOut_safe s n on k
  exact ⟨switchOut_only .., by rw [h], by rw [h]⟩

theorem halterCause (s : State) (c : Nat) : SlotStep s (s.halterCause c) := by
  obtain ⟨o, w, h⟩ := halterCause_safe s c
  exact ⟨halterCause_only .., by rw [h], by rw [h]⟩

theorem outFault (s : State) (n kind : Nat) : SlotStep s (s.outFault n kind) :=
  ((((setSafeOut ..).trans (switchOut ..)).trans (safeEvt ..)).trans (halterCause ..))

theorem inFaulted (s : State) (n kind : Nat) : SlotStep s (s.inFaulted n kind) := by
  unfold State.inFaulted
  extract_lets x a b
  have hb : SlotStep s b := by
    have ha : SlotStep s a := safeCount ..
    dsimp only [b]
    split
    · exact ha
    · exact ha.trans (safeEvt ..)
  exact hb.trans (setSafeIn ..)

theorem inStep (s : State) (n : Nat) (a b : Bool) : SlotStep s (s.inStep n a b) := by
  unfold State.inStep
  extract_lets x new u
  have hu : SlotStep s u := setSafeIn ..
  split
  · exact hu.trans (safeEvt ..)
  · exact hu

theorem connTo (s : State) (c new reason : Nat) : SlotStep s (s.connTo c new reason) := by
  unfold State.connTo
  extract_lets x clear u
  exact (setConn ..).trans (safeEvt ..)

theorem pathLost (s : State) (c : Nat) (dual pathB : Bool) : SlotStep s (s.pathLost c dual pathB) := by
  unfold State.pathLost
  extract_lets x _ _ y u
  have hu : SlotStep s u := setConn ..
  split
  · exact hu
  · split
    · exact hu.trans ((setConn ..).trans (safeEvt ..))
    · exact hu.trans (connTo ..)

theorem slotConn (s : State) (r : Bytes) : SlotStep s (s.slotConn r) := by
  unfold State.slotConn
  extract_lets c late a b x v
  have hb : SlotStep s b := by
    have ha : SlotStep s a := by
      dsimp only [a]
      split
      · exact pathLost ..
      · exact refl s
    dsimp only [b]
    split
    · exact ha.trans (pathLost ..)
    · exact ha
  split
  · exact hb.trans (connTo ..)
  · split
    · have hv : SlotStep s v := hb.trans (setConn ..)
      split
      · exact hv.trans (connTo ..)
      · exact hv
    · exact hb.trans (setConn ..)

theorem slotInput (s : State) (i : SlotInput) (b : Bytes) (pulse n : Nat) : SlotStep s (s.slotInput i b pulse n) := by
  unfold State.slotInput
  extract_lets r one v judge ja jb w c x count y faults
  have hjudge (u : State) (ch : Nat) : SlotStep u (judge u ch).2 := by
    dsimp only [judge]
    split
    · exact inject ..
    · exact refl u
  have hy : SlotStep s y := by
    have hv : SlotStep s v := (setTerminal ..).trans (setTerminal ..)
    exact hv.trans ((hjudge v 0).trans ((hjudge ja.2 1).trans (setSafeIn w n _)))
  split
  · exact refl s
  · split
    · exact hy.trans (inStep ..)
    · exact hy.trans (foldl (fun t k => inFaulted t n k) _ _)

theorem slotReadback (s : State) (i : SlotInput) (n : Nat) : SlotStep s (s.slotReadback i n) := by
  unfold State.slotReadback
  extract_lets x bad u par fed bad' w
  split
  · split
    · exact (setSafeOut ..).trans (outFault ..)
    · exact setSafeOut ..
  · split
    · exact (setSafeOut ..).trans (outFault ..)
    · exact setSafeOut ..

theorem slotCauses (s : State) (i : SlotInput) (pulse : Nat) : SlotStep s (s.slotCauses i pulse) := by
  unfold State.slotCauses
  extract_lets a bad _ b c
  have ha : SlotStep s a := by
    dsimp only [a]
    split
    · exact refl s
    · exact halterCause ..
  have hb : SlotStep a b := by
    dsimp only [b]
    split
    · exact of_safe rfl rfl
    · split
      · exact of_safe rfl rfl
      · exact refl a
  have hc : SlotStep b c := by
    dsimp only [c]
    split
    · exact halterCause ..
    · exact refl b
  exact ((ha.trans hb).trans hc).trans (foldl (fun t n => slotReadback t i n) _ _)

theorem leaveHalter (s : State) (how : Nat) : SlotStep s (s.leaveHalter how) := by
  unfold State.leaveHalter
  extract_lets c _ u
  have hu : SlotStep s u := of_safe rfl rfl
  exact hu.trans (safeEvt ..)

theorem slotSrst (s : State) (v quiet : Bool) : SlotStep s (s.slotSrst v quiet).2 := by
  unfold State.slotSrst
  extract_lets x x' a _ n b ok c d e acks
  have ha : SlotStep s a := setTerminal ..
  have hd : SlotStep s d := by
    have hb : SlotStep s b := ha.trans (of_safe rfl rfl)
    exact (hb.trans (safeCount ..)).trans (safeEvt ..)
  split
  · exact ha.trans (of_safe rfl rfl)
  · split
    · split
      · exact hd
      · have he : SlotStep s e := by
          dsimp only [e]
          split
          · exact hd.trans (leaveHalter ..)
          · exact hd
        refine he.trans (foldl (fun t k => ?_) _ _)
        split
        · split
          · exact refl t
          · exact connTo ..
        · exact refl t
    · exact ha

theorem slotOut (s : State) (srst : Bool) (n : Nat) : SlotStep s (s.slotOut srst n) := by
  obtain ⟨h, ⟨o, ho⟩, -⟩ := slotOut_only s srst n
  exact ⟨h, by rw [ho], by rw [ho]⟩

theorem slotImages (s : State) (b : Bytes) : SlotStep s (s.slotImages b) := by
  unfold State.slotImages
  extract_lets put data outs _ u
  have hu : SlotStep s u := of_safe rfl rfl
  exact hu.trans (foldl (fun t r => setConn ..) _ _)

end SlotStep

/-- The images of a slot change neither outputs nor causes. -/
theorem slotImages_kept (s : State) (b : Bytes) :
    (s.slotImages b).safe.outs = s.safe.outs ∧ (s.slotImages b).safe.causes = s.safe.causes := by
  unfold State.slotImages
  extract_lets put data outs _ u
  refine foldl_keeps (fun t : State => t.safe.outs = s.safe.outs ∧ t.safe.causes = s.safe.causes) _ ?_ _ _ ⟨rfl, rfl⟩
  exact fun t r h => h

/-- Step 6 over outputs leaves HALTER as it is, and leaves them off in it. -/
theorem foldl_slotOut (srst : Bool) (l : List Nat) (s : State) :
    (l.foldl (fun s n => s.slotOut srst n) s).halter = s.halter ∧
    (s.halter = true → ∀ n, n ∈ l ∨ (s.safeOut n).on = false → ((l.foldl (fun s n => s.slotOut srst n) s).safeOut n).on = false) := by
  induction l generalizing s with
  | nil => exact ⟨rfl, fun _ n hn => hn.resolve_left (List.not_mem_nil)⟩
  | cons k l ih =>
    obtain ⟨-, ⟨o, ho⟩, hother⟩ := slotOut_only s srst k
    have hh : (s.slotOut srst k).halter = s.halter := by rw [State.halter, ho]; rfl
    obtain ⟨h1, h2⟩ := ih (s.slotOut srst k)
    refine ⟨h1.trans hh, fun hs n hn => h2 (hh.trans hs) n ?_⟩
    by_cases hk : n = k
    · subst hk
      exact .inr ((slotOut_spec s srst n _ _ _ _ rfl rfl rfl rfl).2.2.1 (outBlocked_of_halter hs))
    · rw [hother n hk]
      exact hn.imp_left fun h => (List.mem_cons.1 h).resolve_left hk

/-- The comparison at the end of a slot (R387). -/
theorem slotCompare_spec (s : State) (agree : Bool) : OnlyIsland s (s.slotCompare agree) ∧
    (s.slotCompare agree).safe.slot = s.safe.slot ∧
    ((s.halter = true → ∀ n, n < 4 → (s.safeOut n).on = false) → (s.slotCompare agree).halter = true →
      ∀ n, n < 4 → ((s.slotCompare agree).safeOut n).on = false) ∧
    (agree = false → s.safe.cross = 1 → (s.slotCompare agree).safe.causes.getLsbD 1 = true) := by
  unfold State.slotCompare
  extract_lets j a n _ b
  have ha : OnlyIsland s a := .inject ..
  have hsafe : a.safe = s.safe := inject_safe ..
  have hb : OnlyIsland s b := ha.trans (.of_safe a _)
  have hbs : b.safe = { a.safe with cross := min 2 n } := rfl
  rw [hsafe] at hbs
  have hslot : b.safe.slot = s.safe.slot := by rw [hbs]
  have hhalter : b.halter = s.halter := by rw [State.halter, hbs]; rfl
  have hout (m : Nat) : b.safeOut m = s.safeOut m := by rw [State.safeOut, hbs]; rfl
  split
  · obtain ⟨-, hslot', -⟩ := SlotStep.halterCause b 1
    refine ⟨hb.trans (halterCause_only ..), hslot'.trans hslot, fun hoff _ m hm => ?_, fun _ _ => halterCause_bit b (by decide)⟩
    cases hh : b.halter
    · exact (((halterCause_spec b (c := 1) (by decide)).2.2.1 hh).2 m hm).1
    · refine halterCause_off hm ?_ 1
      rw [hout]
      exact hoff (hhalter.symm.trans hh) m hm
  · rename_i hn
    refine ⟨hb, hslot, fun hoff hh m hm => ?_, fun hag hc => ?_⟩
    · rw [hout]
      exact hoff (hhalter.symm.trans hh) m hm
    · refine absurd ?_ hn
      dsimp only [n]
      rw [hag, Bool.false_and, if_neg Bool.false_ne_true, hsafe, hc]

/-- What a slot does to its number, the settings and the memory, and to the outputs in HALTER. -/
theorem safetySlot_running (s : State) (i : SlotInput) (hp : Domain.safe ∈ s.power.on) (hr : s.safe.ready = true) :
    (s.safetySlot i).safe.slot = s.safe.slot + 1 ∧ (s.safetySlot i).cfg = s.cfg ∧ (s.safetySlot i).mem = s.mem ∧
    (s.safe.cfg ≠ none → (s.safetySlot i).halter = true → ∀ n, n < 4 → ((s.safetySlot i).safeOut n).on = false) ∧
    (s.diag.inj = [] → i.agree = false → s.safe.cross = 1 → (s.safetySlot i).safe.causes.getLsbD 1 = true) := by
  unfold State.safetySlot
  rw [if_neg (by simp [hp, hr])]
  extract_lets a k _ b before c
  have hb : b.safe.slot = s.safe.slot + 1 ∧ b.safe.cross = s.safe.cross ∧ b.cfg = s.cfg ∧ b.mem = s.mem ∧ b.safe.cfg = s.safe.cfg :=
    ⟨rfl, rfl, rfl, rfl, rfl⟩
  obtain ⟨hslot, hcross, hcfg, hmem, hconf⟩ := hb
  clear_value b
  split
  · rename_i hnone
    have hc : SlotStep b (c.slotSrst i.srst (before == c.safe.causes)).2 := (SlotStep.slotCauses ..).trans (SlotStep.slotSrst ..)
    generalize (c.slotSrst i.srst (before == c.safe.causes)).2 = d at hc
    obtain ⟨hd, hdslot, hdcross⟩ := hc
    obtain ⟨h1, h2, -, h4⟩ := slotCompare_spec d i.agree
    refine ⟨h2.trans (hdslot.trans hslot), (h1.cfg.trans hd.cfg).trans hcfg, (h1.mem.trans hd.mem).trans hmem,
      fun hs => absurd (hconf.symm.trans hnone) hs, fun _ hag hcr => h4 hag (hdcross.trans (hcross.trans hcr))⟩
  · rename_i g hg
    extract_lets pulse c d before e r f
    have hf : SlotStep b f := by
      have hd : SlotStep b d := (SlotStep.foldl (fun t n => SlotStep.slotInput ..) _ _).trans
        (SlotStep.foldl (fun t r => SlotStep.slotConn ..) _ _)
      exact ((hd.trans (SlotStep.slotCauses ..)).trans (SlotStep.slotSrst ..)).trans
        (SlotStep.foldl (fun t n => SlotStep.slotOut ..) _ _)
    have hoff : f.halter = true → ∀ n, n < 4 → (f.safeOut n).on = false := by
      obtain ⟨hh, hout⟩ := foldl_slotOut r.1 (List.range 4) r.2
      exact fun h n hn => hout (hh.symm.trans h) n (.inl (List.mem_range.2 hn))
    clear_value f
    obtain ⟨houts, hcauses⟩ := slotImages_kept f g
    obtain ⟨hg1, hgslot, hgcross⟩ := hf.trans (SlotStep.slotImages f g)
    have hoff' : (f.slotImages g).halter = true → ∀ n, n < 4 → ((f.slotImages g).safeOut n).on = false := by
      intro h n hn
      rw [State.safeOut, houts]
      refine hoff ?_ n hn
      rwa [State.halter, ← hcauses]
    obtain ⟨h1, h2, h3, h4⟩ := slotCompare_spec (f.slotImages g) i.agree
    exact ⟨h2.trans (hgslot.trans hslot), (h1.cfg.trans hg1.cfg).trans hcfg, (h1.mem.trans hg1.mem).trans hmem,
      fun _ => h3 hoff', fun _ hag hcr => h4 hag (hgcross.trans (hcross.trans hcr))⟩

theorem safetySlot_stopped (i : SlotInput) (h : Domain.safe ∉ s.power.on ∨ s.safe.ready = false) : s.safetySlot i = s := by
  refine if_pos ?_
  rcases h with h | h <;> simp [h]

/-! ## Rows of the island -/

/-- INPUT_FILTER_CHANGE at the sample that may complete the run (R390). -/
theorem inputFilterChange_spec {n : Nat} {ch v : Bool} {b : Bytes} {x : Terminal} {k : Nat} (hb : s.safe.cfg = some b) (hn : n < 8)
    (hm : inMode (blobIn b n) ≠ 0) (hk : k = 2 * n + b2n ch) (hx : x = s.terminal k) (hv : x.val ≠ v) (hl : x.last = v) :
    (inNf (blobIn b n) ≤ x.run + 1 →
      exec (.inputFilterChange n ch v) s = .next (s.setTerminal k { x with run := x.run + 1, val := v })) ∧
    (x.run + 1 < inNf (blobIn b n) → exec (.inputFilterChange n ch v) s = .next s) := by
  have hrun : exec (.inputFilterChange n ch v) s = .next (if n < 8 && inMode (blobIn b n) != 0 && x.val != v && x.last = v &&
      inNf (blobIn b n) ≤ x.run + 1 then s.setTerminal k { x with run := x.run + 1, val := v } else s) := by
    change execInputFilterChange n ch v s = _
    simp only [execInputFilterChange, hb, hk, hx]
  refine ⟨fun h => hrun.trans (congrArg _ (if_pos ?_)), fun h => hrun.trans (congrArg _ (if_neg ?_))⟩
  · simp [hn, hm, hv, hl, h]
  · simp only [Bool.and_eq_true, decide_eq_true_eq]
    omega

/-- DISCREPANCY_FAULT at the slot that may complete the count (R391). -/
theorem discrepancyFault_spec {n : Nat} {b : Bytes} {x : SafeInput} (hb : s.safe.cfg = some b) (hn : n < 8)
    (hm : inMode (blobIn b n) ≠ 0) (hx : x = s.safeIn n) (hc : x.count < inDisc (blobIn b n))
    (hd : (s.inChans n (blobIn b n)).1 ≠ (s.inChans n (blobIn b n)).2) :
    (x.count + 1 = inDisc (blobIn b n) → ∃ t, exec (.discrepancyFault n) s = .next t ∧ (t.safeIn n).state = 4 ∧
      (t.safeIn n).kind = 1 ∧ t.safe.counts.getD 0 0 = inc32 (s.safe.counts.getD 0 0) ∧ t.safe.outs = s.safe.outs ∧ t.cfg = s.cfg) ∧
    (x.count + 1 < inDisc (blobIn b n) → exec (.discrepancyFault n) s = .next s) := by
  have hrun : exec (.discrepancyFault n) s = .next (if n < 8 && inMode (blobIn b n) != 0 &&
      (s.inChans n (blobIn b n)).1 != (s.inChans n (blobIn b n)).2 && x.count < inDisc (blobIn b n) &&
      inDisc (blobIn b n) ≤ x.count + 1 then (s.setSafeIn n { x with count := inDisc (blobIn b n) }).inFaulted n 1 else s) := by
    change execDiscrepancyFault n s = _
    simp only [execDiscrepancyFault, hb, hx]
  refine ⟨fun h => ?_, fun h => hrun.trans (congrArg _ (if_neg ?_))⟩
  · obtain ⟨h1, h2, h3, h4, h5⟩ := inFaulted_spec (s.setSafeIn n { x with count := inDisc (blobIn b n) }) n 1
    refine ⟨_, hrun.trans (congrArg _ (if_pos ?_)), h2, h3, ?_, h4, h1.cfg⟩
    · simp [hn, hm, hd, hc, h]
    · rw [h5, if_pos rfl, tbl_getD_set_same]
      rfl
  · simp only [Bool.and_eq_true, decide_eq_true_eq]
    omega

theorem offDelayExpiry_due {n d : Nat} (hd : (s.safeOut n).delay = some d) (hn : n < 4) (hon : (s.safeOut n).on = true) :
    ∃ t, exec (.offDelayExpiry n) s = .next t ∧ (t.safeOut n).on = false ∧ (t.safeOut n).delay = none ∧ t.cfg = s.cfg ∧
      ∀ m, m ≠ n → t.safeOut m = s.safeOut m := by
  have hrun : exec (.offDelayExpiry n) s = .next ((s.clockTo d).switchOut n false 2) := by
    change execOffDelayExpiry n s = _
    simp only [execOffDelayExpiry, hd, hn, hon, decide_true, Bool.true_and, if_true]
  refine ⟨_, hrun, ?_, ?_, (switchOut_only ..).cfg, fun m hm => safeOut_switchOut_other _ n false 2 hm⟩
  · rw [safeOut_switchOut, switched_on]
  · rw [safeOut_switchOut]
    exact switched_off_delay hon

theorem outputDarkTest_spec {n : Nat} {high ok : Bool} (hn : n < 4) (hon : (s.safeOut n).on = true) (hi : s.diag.inj = []) :
    (ok = true → exec (.outputDarkTest n high ok) s = .next s) ∧
    (ok = false → ∃ t, exec (.outputDarkTest n high ok) s = .next t ∧ (t.safeOut n).on = false ∧ (t.safeOut n).fault = true ∧
      t.safe.causes.getLsbD 4 = true ∧ t.cfg = s.cfg) := by
  have hrun : exec (.outputDarkTest n high ok) s = .next (if ok then s else s.outFault n 1) := by
    change execOutputDarkTest n high ok s = _
    simp only [execOutputDarkTest, hn, hon, inject_of_nil hi, decide_true, Bool.not_false, Bool.and_true, if_true]
  refine ⟨fun h => hrun.trans (congrArg _ (if_pos h)), fun h => ?_⟩
  obtain ⟨h1, h2, h3, h4⟩ := outFault_spec s hn 1
  exact ⟨_, hrun.trans (congrArg _ (if_neg (by simp [h]))), h2, h3, h4, h1.cfg⟩

theorem outputOverload_on {n : Nat} (hn : n < 4) (hon : (s.safeOut n).on = true) : ∃ t, exec (.outputOverload n) s = .next t ∧
    (t.safeOut n).on = false ∧ (t.safeOut n).fault = true ∧ t.safe.causes.getLsbD 6 = true ∧ t.cfg = s.cfg := by
  obtain ⟨h1, h2, h3, h4⟩ := outFault_spec s hn 2
  exact ⟨_, congrArg Host.Outcome.next (if_pos (by simp [hn, hon])), h2, h3, h4, h1.cfg⟩

theorem fv24LowClear_low (h : s.safe.fv24Low = true) (hi : s.diag.inj = []) : ∃ t, exec .fv24LowClear s = .next t ∧
    t.safe = { s.safe with fv24Low := false } ∧ t.cfg = s.cfg :=
  ⟨_, congrArg Host.Outcome.next (if_pos (by simp [h, injection_of_nil hi])), safeEvt_safe ..,
    ((OnlyIsland.of_safe s _).trans (.safeEvt ..)).cfg⟩

theorem clockMonitorFault_spec {n : Nat} (hp : Domain.safe ∈ s.power.on) (hi : s.diag.inj = []) :
    (95703 ≤ n → n ≤ 99609 → exec (.clockMonitorFault false n) s = .next s) ∧
    (n < 95703 ∨ 99609 < n → exec (.clockMonitorFault false n) s = .next (s.halterCause 2)) ∧
    exec (.clockMonitorFault true n) s = .next (s.halterCause 2).rtcInvalidate := by
  have hon : ¬(!s.power.on.contains Domain.safe) = true := by simp [hp]
  have hrun : exec (.clockMonitorFault false n) s = .next (if n < 95703 || 99609 < n then s.halterCause 2 else s) := by
    change execClockMonitorFault false n s = _
    simp only [execClockMonitorFault, if_neg hon, inject_of_nil hi, Bool.false_eq_true, if_false, Bool.false_or]
  refine ⟨fun h0 h1 => hrun.trans (congrArg _ (if_neg ?_)), fun h => hrun.trans (congrArg _ (if_pos ?_)), ?_⟩
  · simp only [Bool.or_eq_true, decide_eq_true_eq]
    omega
  · simpa using h
  · exact congrArg Host.Outcome.next (if_neg hon)

/-! ## The commands (R409, R411) -/

section

variable {p : Path} {e : Exec}

theorem safeCfgLoad_accepted (ha : Accepted cmdSafeCfgLoad p e s t) {b : Bytes} (hb : b = e.req.region) :
    t.safeBlobOk b = true ∧ ∃ u : State, exec (.safeCfgLoad p) s = .next (u.complete p stOK (slice b 12 4) none) ∧
      u.safe = { t.safe with staged := some b } ∧ u.cfg = t.cfg ∧ u.flash = t.flash := by
  subst hb
  have hparam : (restZero e.req 0 && e.req.xp && t.safeBlobOk e.req.region) = true := (accepted_judged ha).1
  simp only [Bool.and_eq_true] at hparam
  have hu : OnlyIsland t (State.safeEvt { t with safe.staged := some e.req.region } 7 ([1, 0, 0, 0] ++ slice e.req.region 12 4)) :=
    (OnlyIsland.of_safe t _).trans (.safeEvt ..)
  exact ⟨hparam.2, _, congrArg Host.Outcome.next (run_done ha rfl), safeEvt_safe .., hu.cfg, hu.flash⟩

theorem connTo_safe (s : State) (c new reason : Nat) : ∃ cs, (s.connTo c new reason).safe = { s.safe with conns := cs } := by
  unfold State.connTo
  extract_lets x clear u
  rw [safeEvt_safe]
  exact ⟨_, rfl⟩

theorem connTo_only (s : State) (c new reason : Nat) : OnlyIsland s (s.connTo c new reason) :=
  (SlotStep.connTo ..).1

/-- A step that changes the island's connections alone. -/
def ConnsOnly (s t : State) : Prop := OnlyIsland s t ∧ ∃ cs, t.safe = { s.safe with conns := cs }

theorem ConnsOnly.trans (a : ConnsOnly s t) (b : ConnsOnly t u) : ConnsOnly s u := by
  obtain ⟨a, ca, ha⟩ := a
  obtain ⟨b, cb, hb⟩ := b
  exact ⟨a.trans b, cb, by rw [hb, ha]⟩

theorem ConnsOnly.connTo (s : State) (c new reason : Nat) : ConnsOnly s (s.connTo c new reason) :=
  ⟨connTo_only .., connTo_safe ..⟩

/-- A start under a new configuration sets the inputs and the connections (R392, R405). -/
theorem safeRestart_spec (s : State) (was : Option Bytes) : OnlyIsland s (s.safeRestart was) ∧ ∃ cs, (s.safeRestart was).safe =
    { s.safe with
      inputs := (List.range 8).map (fun n => (n, { state := if inMode (blobIn (s.safe.cfg.getD []) n) = 0 then 0 else 3 }))
      conns := cs } := by
  unfold State.safeRestart
  extract_lets b ins cs gone a _ c
  have ha : ConnsOnly s a := foldl_keeps (ConnsOnly s) _ (fun t k h => h.trans (.connTo ..)) _ _ ⟨.refl s, _, rfl⟩
  have hc : OnlyIsland s c ∧ ∃ k, c.safe = { s.safe with inputs := ins, conns := k } := by
    obtain ⟨h1, k, h2⟩ := ha
    have hca : c.safe = { a.safe with inputs := ins, conns := a.safe.conns.delIf (fun c => gone.contains c) } := rfl
    exact ⟨h1.trans (.of_safe a _), _, by rw [hca, h2]⟩
  obtain ⟨h1, k, h2⟩ := hc
  refine foldl_keeps (fun t : State => OnlyIsland s t ∧ ∃ k, t.safe = { s.safe with inputs := ins, conns := k }) _
    (fun t r ht => ?_) _ _ ⟨h1, k, h2⟩
  obtain ⟨ht1, k', ht2⟩ := ht
  dsimp only
  split
  · obtain ⟨h3, k'', h4⟩ := ConnsOnly.connTo t (cNo r) 1 0
    exact ⟨ht1.trans h3, k'', by rw [h4, ht2]⟩
  · refine ⟨ht1.trans (.of_safe t _), t.safe.conns.set (cNo r) {}, ?_⟩
    rw [show (t.setConn (cNo r) {}).safe = { t.safe with conns := t.safe.conns.set (cNo r) {} } from rfl, ht2]

/-- The inputs after a start. -/
theorem safeIn_restart {b : Bytes} {n : Nat} (hn : n < 8) (h : s.safe.inputs =
    (List.range 8).map (fun n => (n, { state := if inMode (blobIn b n) = 0 then 0 else 3 }))) :
    (s.safeIn n).state = if inMode (blobIn b n) = 0 then 0 else 3 := by
  unfold State.safeIn
  rw [h]
  interval_cases n <;> rfl

/-- What a commit does to the island. -/
theorem safeCfgCommit_body {b : Bytes} (h : t.safe.staged = some b) : ∃ (u : State) (w : Stamp),
    cmdSafeCfgCommit.body p e t = .done u stOK w.bytes none ∧ u.safe.cfg = some b ∧ u.safe.staged = none ∧
      u.flash.safeCfg = some b ∧ u.safe.causes.getLsbD 8 = true ∧ u.safe.causes.getLsbD 9 = false ∧
      (∀ n, n < 4 → (u.safeOut n).on = false) ∧
      ∀ n, n < 8 → (u.safeIn n).state = (if inMode (blobIn b n) = 0 then 0 else 3) := by
  unfold cmdSafeCfgCommit
  dsimp -zeta only
  rw [h]
  dsimp -zeta only
  extract_lets was a _ _ c _ d f
  have hd : (∃ o w, d.safe = { c.safe with causes := c.safe.causes ||| BitVec.twoPow 16 8, halt := w, outs := o }) ∧
      d.flash = c.flash ∧ ∀ n, n < 4 → (c.safeOut n).on = false → (d.safeOut n).on = false := by
    dsimp only [d]
    split
    · exact ⟨⟨_, _, rfl⟩, rfl, fun n _ h => h⟩
    · exact ⟨halterCause_safe c 8, (halterCause_only c 8).flash, fun n hn h => halterCause_off hn h 8⟩
  obtain ⟨⟨o, w, hd1⟩, hd2, hd3⟩ := hd
  obtain ⟨hf1, k, hf2⟩ := safeRestart_spec d was
  have hcauses : f.safe.causes = (a.safe.causes &&& ~~~BitVec.twoPow 16 9) ||| BitVec.twoPow 16 8 := by
    rw [show f.safe = _ from hf2, hd1]
  have hcfg : d.safe.cfg = some b := by rw [hd1]
  refine ⟨_, f.stamp 17, rfl, ?_, ?_, ?_, ?_, ?_, fun n hn => ?_, fun n hn => ?_⟩
  · rw [safeEvt_safe, show f.safe = _ from hf2, hcfg]
  · rw [safeEvt_safe, show f.safe = _ from hf2, hd1]
  · rw [(OnlyIsland.safeEvt ..).flash, hf1.flash, hd2]
  · rw [safeEvt_safe, hcauses, BitVec.getLsbD_or, BitVec.getLsbD_twoPow]
    simp
  · rw [safeEvt_safe, hcauses, BitVec.getLsbD_or, BitVec.getLsbD_and, BitVec.getLsbD_not, BitVec.getLsbD_twoPow, BitVec.getLsbD_twoPow]
    simp
  · rw [safeEvt_safeOut]
    have hout : f.safeOut n = d.safeOut n := by rw [State.safeOut, show f.safe = _ from hf2]; rfl
    rw [hout]
    refine hd3 n hn ?_
    rw [show c.safeOut n = a.safeOut n from rfl, show a.safeOut n = _ from safeOut_allOff t 3 hn, switched_on]
  · rw [safeEvt_safeIn]
    refine safeIn_restart hn ?_
    rw [show f.safe = _ from hf2, hcfg]
    rfl

theorem safeCfgCommit_accepted (ha : Accepted cmdSafeCfgCommit p e s t) : ∃ (u : State) (b : Bytes) (w : Stamp),
    t.safe.staged = some b ∧ slice b 12 4 = slice e.req.params 0 4 ∧ exec (.safeCfgCommit p) s = .next (u.complete p stOK w.bytes none) ∧
    u.safe.cfg = some b ∧ u.safe.staged = none ∧ u.flash.safeCfg = some b ∧ u.safe.causes.getLsbD 8 = true ∧
    u.safe.causes.getLsbD 9 = false ∧ (∀ n, n < 4 → (u.safeOut n).on = false) ∧
    ∀ n, n < 8 → (u.safeIn n).state = (if inMode (blobIn b n) = 0 then 0 else 3) := by
  obtain ⟨hparam, hstate⟩ := accepted_judged ha
  change (restZero e.req 4 && match t.safe.staged with | some b => slice b 12 4 == slice e.req.params 0 4 | none => true) = true at hparam
  change (if t.safe.staged.isSome then 0 else stSTATE) = 0 at hstate
  cases hb : t.safe.staged with
  | none =>
    rw [hb] at hstate
    exact absurd hstate (by decide)
  | some b =>
    rw [hb, Bool.and_eq_true, beq_iff_eq] at hparam
    obtain ⟨u, w, hbody, h⟩ := safeCfgCommit_body (p := p) (e := e) hb
    exact ⟨u, b, w, rfl, hparam.2, congrArg Host.Outcome.next (run_done ha hbody), h⟩

theorem safeCfgRead_accepted (ha : Accepted cmdSafeCfgRead p e s t) :
    ∃ b, (if byteAt e.req.params 0 = 1 then t.safe.staged else t.safe.cfg) = some b ∧
      exec (.safeCfgRead p) s = .next (t.complete p stOK [] (some b)) := by
  have hstate : (if (if byteAt e.req.params 0 = 1 then t.safe.staged else t.safe.cfg).isSome then 0 else stSTATE) = 0 :=
    (accepted_judged ha).2
  cases hb : (if byteAt e.req.params 0 = 1 then t.safe.staged else t.safe.cfg) with
  | none =>
    rw [hb] at hstate
    exact absurd hstate (by decide)
  | some b =>
    refine ⟨b, rfl, ?_⟩
    rw [← hb]
    exact congrArg Host.Outcome.next (run_done ha rfl)

/-- Leaving HALTER clears the causes and the faults, and switches and arms nothing (R399). -/
theorem leaveHalter_spec (s : State) (how : Nat) : (s.leaveHalter how).halter = false ∧ (s.leaveHalter how).cfg = s.cfg ∧
    ∀ n, ((s.leaveHalter how).safeOut n).armed = (s.safeOut n).armed ∧ ((s.leaveHalter how).safeOut n).on = (s.safeOut n).on := by
  unfold State.leaveHalter
  extract_lets c _ u
  refine ⟨?_, ((OnlyIsland.of_safe s _).trans (.safeEvt u _ _)).cfg, fun n => ?_⟩
  · rw [safeEvt_halter]
    rfl
  · have hout : u.safeOut n = { s.safeOut n with fault := false } :=
      safeOut_mapV (s := s) (f := fun x => { x with fault := false }) rfl rfl n
    rw [safeEvt_safeOut, hout]
    exact ⟨rfl, rfl⟩

theorem safeReset_accepted (ha : Accepted cmdSafeReset p e s t) : t.mayLeave = true ∧ ∃ u : State,
    exec (.safeReset p) s = .next (u.complete p stOK (t.stamp 17).bytes none) ∧ u.halter = false ∧ u.cfg = t.cfg ∧
    ∀ n, (u.safeOut n).armed = (t.safeOut n).armed ∧ (u.safeOut n).on = (t.safeOut n).on := by
  have hstate : (if t.mayLeave then 0 else stSTATE) = 0 := (accepted_judged ha).2
  refine ⟨?_, if t.halter then t.leaveHalter 1 else t, congrArg Host.Outcome.next (run_done ha rfl), ?_⟩
  · by_contra hm
    rw [if_neg hm] at hstate
    exact absurd hstate (by decide)
  · split
    · exact leaveHalter_spec t 1
    · rename_i hh
      exact ⟨Bool.eq_false_iff.2 hh, rfl, fun n => ⟨rfl, rfl⟩⟩

end

/-- Settles O51. -/
theorem safetyIsland : Obligations.SafetyIsland := by
  refine ⟨fun src v test => ?_, fun k p h => tpOf_spec k p h, sample_spec, fun s n a b k hk => ?_,
    fun s n k => ?_, fun s n ch v b x k hb hn hm hk hx hv hl => inputFilterChange_spec hb hn hm hk hx hv hl,
    fun s n b x hb hn hm hx hc hd => discrepancyFault_spec hb hn hm hx hc hd, fun s srst n r x c y hr hx hc hy => ?_,
    fun s n h => outBlocked_of_halter h, fun s c hc => halterCause_spec s hc, fun s i hp hr => safetySlot_running s i hp hr,
    fun s i h => congrArg Host.Outcome.next (if_neg (by rw [h]; exact Bool.false_ne_true)), fun s i h => safetySlot_stopped i h,
    fun s n d hd hn hon => offDelayExpiry_due hd hn hon, fun s n high ok hn hon hi => outputDarkTest_spec hn hon hi,
    fun s n hn hon => outputOverload_on hn hon, fun s h hp => fv24LowSet_high h hp, fun s h hi => fv24LowClear_low h hi,
    fun s => ⟨rfl, fun hp => congrArg Host.Outcome.next (if_neg (by simp [hp]))⟩, fun s n hp hi => clockMonitorFault_spec hp hi,
    answers_of_body (fun _ _ => rfl) fun _ _ _ => rfl, fun p e s t b ha hb => safeCfgLoad_accepted ha hb,
    fun p e s t ha => safeCfgCommit_accepted ha, fun p e s t ha => safeCfgRead_accepted ha,
    completes_of_body (fun _ _ => rfl) fun _ _ _ => rfl, fun p e s t ha => safeReset_accepted ha⟩
  · cases v <;> cases test <;> exact ⟨rfl, rfl, rfl, rfl, rfl⟩
  · rw [inStep_state, ← hk]
    split
    · rfl
    · rfl
    · rfl
    · rfl
    · rename_i h1 h2 h3 h4
      rw [if_neg h1, if_neg h2, if_neg h3, if_neg h4]
  · obtain ⟨-, h2, h3, h4, -⟩ := inFaulted_spec s n k
    exact ⟨h2, h3, h4⟩
  · obtain ⟨h1, h2, h3, h4, h5⟩ := slotOut_spec s srst n r x c y hr hx hc hy
    exact ⟨h1, h2, h3, h4, h5, (slotOut_only s srst n).2.2⟩

end Machine
end Sys2Proof

/-! PROOFS. Harness connections (O52): received PDUs, watchdogs, dual paths, cycles and status (R402 to R407, R411). -/

namespace Sys2Proof
namespace Machine

variable {s t u : State}

/-! ## A connection's state -/

section

variable (s)

@[simp] theorem conn_setConn (c : Nat) (x : Conn) : (s.setConn c x).conn c = x := by
  simp [State.conn, State.setConn]

theorem conn_setConn_other {k c : Nat} (h : k ≠ c) (x : Conn) : (s.setConn c x).conn k = s.conn k := by
  simp [State.conn, State.setConn, tbl_getD_set_other _ _ _ h]

@[simp] theorem safeEvt_conn (code : Nat) (data : Bytes) (c : Nat) : (s.safeEvt code data).conn c = s.conn c := by
  simp [State.conn]

/-- A count of a connection changes the counter alone. -/
theorem connCount_conn (c i : Nat) : (s.connCount c i).conn c =
    { s.conn c with counts := (s.conn c).counts.set i (inc32 ((s.conn c).counts.getD i 0)) } := by
  rw [State.connCount, State.conn, counted_safe]
  exact conn_setConn ..

/-- A path's numbers are forgotten in WAIT and FAULT (R405). -/
def ConnPath.entered (p : ConnPath) (new : Nat) : ConnPath :=
  if new = 1 || new = 3 then { p with last := none, alive := false } else p

/-- A transition of a connection. -/
theorem connTo_conn (c new reason : Nat) : (s.connTo c new reason).conn c = { s.conn c with
    state := new, reason := reason, acks := 0, differ := 0, degraded := (s.conn c).degraded && new == 2
    a := (s.conn c).a.entered new, b := (s.conn c).b.entered new } := by
  unfold State.connTo
  extract_lets x clear u
  rw [safeEvt_conn]
  exact conn_setConn ..

theorem connTo_conn_other {k c : Nat} (h : k ≠ c) (new reason : Nat) : (s.connTo c new reason).conn k = s.conn k := by
  unfold State.connTo
  extract_lets x clear u
  rw [safeEvt_conn]
  exact conn_setConn_other s h _

end

/-! ## PDUs received (R404) -/

section

variable {port src : Nat} {b g r : Bytes} {at_ : Nat}

/-- The input connection that a PDU is for. -/
def pduConn (g b : Bytes) (port : Nat) : Option Bytes :=
  (connList g).find? (fun r => cValid r && !cOut r && cId r == rdBe32 b 4 && (cPorts r).contains port)

/-- A PDU that fails check `i`: only a repeated one (3) leaves the count of ACK. -/
def State.pduFail (s : State) (c i : Nat) : State :=
  if i = 3 then s.connCount c i else (s.connCount c i).setConn c { (s.connCount c i).conn c with acks := 0 }

theorem pduFail_conn (s : State) (c i : Nat) : (s.pduFail c i).conn c = { s.conn c with
    counts := (s.conn c).counts.set i (inc32 ((s.conn c).counts.getD i 0)), acks := if i = 3 then (s.conn c).acks else 0 } := by
  unfold State.pduFail
  split
  · rw [connCount_conn]
  · rw [conn_setConn, connCount_conn]

theorem harnessPduReceive_none (hg : s.safe.cfg = some g) (h : pduConn g b port = none) :
    exec (.harnessPduReceive port src b at_) s = .next (s.clockTo at_) := by
  have hfind : (s.clockTo at_).safe.cfg.bind (fun g => pduConn g b port) = none := by
    rw [clockTo_safe, hg]
    exact h
  unfold pduConn at hfind
  change execHarnessPduReceive port src b at_ s = _
  unfold execHarnessPduReceive
  dsimp only
  rw [hfind]

/-- The header of a PDU and its CRC (R403, R404 steps 2 to 4). -/
def pduBad (r b : Bytes) : Bool :=
  b.length < 20 || byteAt b 0 != 1 || byteAt b 1 != 1 || 8 ≤ byteAt b 2 || byteAt b 3 != 0 || !zeroAt b 12 4 ||
    pduCrc r b != rdBe32 b 16

/-- A PDU for a connection of one path, with no injection armed. -/
theorem harnessPduReceive_single {u : State} (hg : s.safe.cfg = some g) (h : pduConn g b port = some r) (hi : s.diag.inj = [])
    (hu : u = s.clockTo at_) (hd : cDual r = false) : exec (.harnessPduReceive port src b at_) s = .next (
      if macAt r 40 ≠ 0 ∧ src ≠ macAt r 40 then u.pduFail (cNo r) 0
      else if pduBad r b then u.pduFail (cNo r) 1
      else if (byteAt b 2).testBit 2 then u.pduFail (cNo r) 4
      else match (u.conn (cNo r)).a.last with
        | none => u.pduAccept r b false
        | some l =>
          if (rdBe16 b 8 + 65536 - l) % 65536 = 0 then u.pduFail (cNo r) 3
          else if 256 ≤ (rdBe16 b 8 + 65536 - l) % 65536 then u.pduFail (cNo r) 2 else u.pduAccept r b false) := by
  have hfind : u.safe.cfg.bind (fun g => pduConn g b port) = some r := by
    rw [hu, clockTo_safe, hg]
    exact h
  have hiu : u.diag.inj = [] := by rw [hu, clockTo_diag, hi]
  unfold pduConn at hfind
  change execHarnessPduReceive port src b at_ s = _
  unfold execHarnessPduReceive
  extract_lets v flags
  have hv : v = u := hu.symm
  clear_value v
  subst hv
  rw [hfind]
  dsimp -zeta only
  extract_lets c pathB fail j w p
  have hpath : pathB = false := by rw [show pathB = (cDual r && harnessLanB port) from rfl, hd, Bool.false_and]
  have hj : j = (false, v) := inject_of_nil hiu ..
  have hp : p = (v.conn c).a := by
    dsimp only [p, w]
    rw [hpath, hj]
    rfl
  have hw : w = v := by dsimp only [w]; rw [hj]
  have hbad : (j.1 || b.length < 20 || byteAt b 0 != 1 || byteAt b 1 != 1 || 8 ≤ flags || byteAt b 3 != 0 || !zeroAt b 12 4 ||
      pduCrc r b != rdBe32 b 16) = pduBad r b := by rw [hj, Bool.false_or]; rfl
  have hflags : (flags.testBit 2 != cDual r || (cDual r && flags.testBit 1 != pathB)) = (byteAt b 2).testBit 2 := by
    rw [hd, Bool.false_and, Bool.or_false, Bool.bne_false]
  rw [hbad, hflags, hw, hp, hpath, injection_of_nil hiu, Option.isSome_none, if_neg Bool.false_ne_true]
  rfl

/-- The connection's next state at a valid PDU (R405). -/
def Conn.heard (x : Conn) (auto : Bool) : Nat :=
  if x.state = 1 then 2 else if x.state = 3 then 4 else if x.state = 4 ∧ auto = true ∧ 2 ≤ x.acks then 2 else x.state

/-- An accepted PDU on path A is kept, and moves the connection (R404 step 6, R405). -/
theorem pduAccept_a (u : State) (r b : Bytes) : ((u.pduAccept r b false).conn (cNo r)).a =
      ⟨some (rdBe16 b 8), rdBe16 b 10, (byteAt b 2).testBit 0, u.now, true⟩ ∧
    ((u.pduAccept r b false).conn (cNo r)).rx = u.stamp 1 ∧ (u.pduAccept r b false).safe.outs = u.safe.outs ∧
    ((u.pduAccept r b false).conn (cNo r)).state = (u.conn (cNo r)).heard (cAuto r) := by
  unfold State.pduAccept
  extract_lets c x p y v
  have hv : (v.conn c).a = p ∧ (v.conn c).rx = u.stamp 1 ∧ v.safe.outs = u.safe.outs ∧ (v.conn c).state = x.state := by
    have hconn : v.conn c = { y with
        rx := u.stamp 1, fs := p.fs, acks := y.acks + 1, degraded := y.degraded && !(y.a.alive && y.b.alive) } := conn_setConn ..
    have hy : y = { x with a := p } := if_neg Bool.false_ne_true
    rw [hconn, hy]
    exact ⟨rfl, rfl, rfl, rfl⟩
  have hto {n : Nat} (hn : n = 2 ∨ n = 4) : ((v.connTo c n 0).conn c).a = p ∧ ((v.connTo c n 0).conn c).rx = u.stamp 1 ∧
      (v.connTo c n 0).safe.outs = u.safe.outs ∧ ((v.connTo c n 0).conn c).state = n := by
    obtain ⟨cs, hcs⟩ := connTo_safe v c n 0
    have ha : (v.conn c).a.entered n = (v.conn c).a := by
      rcases hn with rfl | rfl <;> rfl
    rw [connTo_conn, hcs, ha]
    exact ⟨hv.1, hv.2.1, hv.2.2.1, rfl⟩
  have hy : y.state = x.state ∧ y.acks = x.acks := by
    rw [show y = { x with a := p } from if_neg Bool.false_ne_true]
    exact ⟨rfl, rfl⟩
  rw [hy.1, hy.2]
  unfold Conn.heard
  clear_value y v
  split
  · exact hto (.inl rfl)
  · split
    · exact hto (.inr rfl)
    · by_cases hc : x.state = 4 ∧ cAuto r = true ∧ 2 ≤ x.acks
      · have hc' : (decide (x.state = 4) && cAuto r && decide (3 ≤ x.acks + 1)) = true := by
          obtain ⟨h1, h2, h3⟩ := hc
          simp only [h1, h2, decide_true, Bool.true_and, decide_eq_true_eq]
          omega
        rw [if_pos hc', if_pos hc]
        exact hto (.inl rfl)
      · have hc' : ¬(decide (x.state = 4) && cAuto r && decide (3 ≤ x.acks + 1)) = true := by
          simp only [Bool.and_eq_true, decide_eq_true_eq, and_assoc]
          exact fun h => hc ⟨h.1, h.2.1, by omega⟩
        rw [if_neg hc', if_neg hc]
        exact hv

/-- The header of a PDU that passes steps 2 to 4. -/
theorem pduBad_ok (hl : b.length = 20) (h0 : byteAt b 0 = 1) (h1 : byteAt b 1 = 1) (h2 : byteAt b 2 ≤ 3) (h3 : byteAt b 3 = 0)
    (hz : zeroAt b 12 4 = true) (hc : pduCrc r b = rdBe32 b 16) : pduBad r b = false ∧ (byteAt b 2).testBit 2 = false := by
  refine ⟨?_, Nat.testBit_lt_two_pow (by omega)⟩
  simp only [pduBad, hl, h0, h1, h3, hz, hc]
  simp
  omega

/-- HARNESS_PDU_RECEIVE on a connection of one path. -/
theorem harnessPduReceive_spec {c : Nat} {u : State} {x : Conn} (hg : s.safe.cfg = some g) (h : pduConn g b port = some r)
    (hc : c = cNo r) (hi : s.diag.inj = []) (hu : u = s.clockTo at_) (hx : x = s.conn c) (hd : cDual r = false) :
    (macAt r 40 ≠ 0 → src ≠ macAt r 40 → ∃ t, exec (.harnessPduReceive port src b at_) s = .next t ∧ (t.conn c).a = x.a ∧
      (t.conn c).state = x.state ∧ (t.conn c).counts.getD 0 0 = inc32 (x.counts.getD 0 0) ∧ (t.conn c).acks = 0) ∧
    (macAt r 40 = 0 ∨ src = macAt r 40 →
      (pduCrc r b ≠ rdBe32 b 16 → ∃ t, exec (.harnessPduReceive port src b at_) s = .next t ∧ (t.conn c).a = x.a ∧
        (t.conn c).state = x.state ∧ (t.conn c).counts.getD 1 0 = inc32 (x.counts.getD 1 0)) ∧
      (b.length = 20 → byteAt b 0 = 1 → byteAt b 1 = 1 → byteAt b 2 ≤ 3 → byteAt b 3 = 0 → zeroAt b 12 4 = true →
        pduCrc r b = rdBe32 b 16 →
        (x.a.last = some (rdBe16 b 8) → ∃ t, exec (.harnessPduReceive port src b at_) s = .next t ∧ (t.conn c).a = x.a ∧
          (t.conn c).state = x.state ∧ (t.conn c).acks = x.acks ∧ (t.conn c).counts.getD 3 0 = inc32 (x.counts.getD 3 0)) ∧
        (∀ l, x.a.last = some l → 256 ≤ (rdBe16 b 8 + 65536 - l) % 65536 → ∃ t,
          exec (.harnessPduReceive port src b at_) s = .next t ∧ (t.conn c).a = x.a ∧ (t.conn c).state = x.state ∧
          (t.conn c).counts.getD 2 0 = inc32 (x.counts.getD 2 0)) ∧
        (x.a.last = none ∨ (∃ l, x.a.last = some l ∧ 0 < (rdBe16 b 8 + 65536 - l) % 65536 ∧
            (rdBe16 b 8 + 65536 - l) % 65536 < 256) →
          ∃ t, exec (.harnessPduReceive port src b at_) s = .next t ∧
            (t.conn c).a = ⟨some (rdBe16 b 8), rdBe16 b 10, (byteAt b 2).testBit 0, u.now, true⟩ ∧ (t.conn c).rx = u.stamp 1 ∧
            t.safe.outs = s.safe.outs ∧ (t.conn c).state = x.heard (cAuto r)))) := by
  have hrun := harnessPduReceive_single (src := src) hg h hi hu hd
  have hconn : u.conn (cNo r) = x := by rw [hx, hu, hc]; rfl
  have houts : u.safe.outs = s.safe.outs := by rw [hu]; rfl
  have hfail (i : Nat) := pduFail_conn u (cNo r) i
  rw [hconn] at hrun
  subst hc
  refine ⟨fun h1 h2 => ?_, fun hsrc => ⟨fun hcrc => ?_, fun hl h0 h1 h2 h3 hz hcrc => ?_⟩⟩
  · refine ⟨_, hrun.trans (congrArg _ (if_pos ⟨h1, h2⟩)), ?_⟩
    rw [hfail, hconn]
    exact ⟨rfl, rfl, tbl_getD_set_same .., rfl⟩
  all_goals
    rw [if_neg (fun hn => hsrc.elim (fun h => hn.1 h) (fun h => hn.2 h))] at hrun
  · have hbad : pduBad r b = true := by simp [pduBad, hcrc]
    refine ⟨_, hrun.trans (congrArg _ (if_pos hbad)), ?_⟩
    rw [hfail, hconn]
    exact ⟨rfl, rfl, tbl_getD_set_same ..⟩
  · obtain ⟨hbad, hbit⟩ := pduBad_ok hl h0 h1 h2 h3 hz hcrc
    rw [hbad, hbit, if_neg Bool.false_ne_true, if_neg Bool.false_ne_true] at hrun
    refine ⟨fun hlast => ?_, fun l hlast hfar => ?_, fun hlast => ?_⟩
    · rw [hlast] at hrun
      refine ⟨_, hrun.trans (congrArg _ (if_pos ?_)), ?_⟩
      · rw [Nat.add_sub_cancel_left]
      · rw [hfail, hconn]
        exact ⟨rfl, rfl, rfl, tbl_getD_set_same ..⟩
    · rw [hlast] at hrun
      refine ⟨_, hrun.trans (congrArg _ ((if_neg (by omega)).trans (if_pos hfar))), ?_⟩
      rw [hfail, hconn]
      exact ⟨rfl, rfl, tbl_getD_set_same ..⟩
    · have haccept : exec (.harnessPduReceive port src b at_) s = .next (u.pduAccept r b false) := by
        rcases hlast with hlast | ⟨l, hlast, hpos, hlt⟩
        · rw [hlast] at hrun
          exact hrun
        · rw [hlast] at hrun
          exact hrun.trans (congrArg _ ((if_neg (by omega)).trans (if_neg (by omega))))
      obtain ⟨k1, k2, k3, k4⟩ := pduAccept_a u r b
      exact ⟨_, haccept, k1, k2, k3.trans houts, by rw [k4, hconn]⟩

end

/-! ## Watchdogs and dual paths (R405, R406) -/

section

variable {c : Nat} {r : Bytes} {x : Conn}

theorem harnessWatchdogExpiry_alive {pathB : Bool} {p : ConnPath} (hr : s.connRec c = some r) (ho : cOut r = false)
    (hp : p = if pathB then (s.conn c).b else (s.conn c).a) (ha : p.alive = true) (hd : pathB = true → cDual r = true) :
    exec (.harnessWatchdogExpiry c pathB) s = .next ((s.clockTo (p.rxExt + cWd r + 1)).pathLost c (cDual r) pathB) := by
  have hpath : (cDual r || !pathB) = true := by
    cases pathB
    · simp
    · simp [hd rfl]
  change execHarnessWatchdogExpiry c pathB s = _
  simp only [execHarnessWatchdogExpiry, hr, ← hp]
  rw [if_pos (by simp only [ho, ha, hpath]; rfl)]

/-- The loss of the only path faults the connection. -/
theorem pathLost_single (hx : x = s.conn c) (h2 : x.state = 2) : ∃ t, s.pathLost c false false = t ∧ (t.conn c).state = 3 ∧
    (t.conn c).reason = 1 ∧ (t.conn c).a.last = none ∧ t.cfg = s.cfg ∧ ∀ k, k ≠ c → t.conn k = s.conn k := by
  have hrun : s.pathLost c false false = (s.setConn c { x with a := { x.a with alive := false } }).connTo c 3 1 := by
    unfold State.pathLost
    rw [← hx]
    simp only [Bool.false_eq_true, if_false, h2, ne_eq, not_true, Bool.false_and, Bool.or_false]
  refine ⟨_, rfl, ?_⟩
  rw [hrun, connTo_conn]
  refine ⟨rfl, rfl, rfl, ?_, fun k hk => ?_⟩
  · exact (connTo_only ..).cfg
  · rw [connTo_conn_other _ hk, conn_setConn_other s hk]

/-- The loss of path B of two leaves the connection degraded on path A. -/
theorem pathLost_dual (hx : x = s.conn c) (h2 : x.state = 2) (ha : x.a.alive = true) : (s.pathLost c true true).conn c =
    { x with b := { x.b with alive := false }, degraded := true } := by
  unfold State.pathLost
  rw [← hx]
  simp only [if_true, h2, ne_eq, not_true, if_false, ha, Bool.true_or]
  rw [safeEvt_conn, conn_setConn]

theorem harnessWatchdogExpiry_single (hr : s.connRec c = some r) (ho : cOut r = false) (hd : cDual r = false) (hx : x = s.conn c)
    (ha : x.a.alive = true) (h2 : x.state = 2) : ∃ t, exec (.harnessWatchdogExpiry c false) s = .next t ∧ (t.conn c).state = 3 ∧
      (t.conn c).reason = 1 ∧ (t.conn c).a.last = none ∧ Conn.bits (t.conn c) false = 0 ∧ t.cfg = s.cfg ∧
      ∀ k, k ≠ c → t.conn k = s.conn k := by
  have hrun := harnessWatchdogExpiry_alive (pathB := false) (p := x.a) hr ho (by rw [hx]; rfl) ha (fun h => nomatch h)
  generalize x.a.rxExt + cWd r + 1 = due at hrun
  rw [hd] at hrun
  obtain ⟨t, ht, h3, h4, h5, h6, h7⟩ := pathLost_single (s := s.clockTo due) (c := c) (x := x) hx h2
  refine ⟨t, hrun.trans (congrArg _ ht), h3, h4, h5, ?_, h6, h7⟩
  exact if_pos (by rw [h3]; decide)

theorem harnessWatchdogExpiry_dual (hr : s.connRec c = some r) (ho : cOut r = false) (hd : cDual r = true) (hx : x = s.conn c)
    (ha : x.a.alive = true) (hb : x.b.alive = true) (h2 : x.state = 2) : ∃ t, exec (.harnessWatchdogExpiry c true) s = .next t ∧
      (t.conn c).state = 2 ∧ (t.conn c).degraded = true ∧ (t.conn c).b.alive = false ∧ (t.conn c).a = x.a ∧
      Conn.bits (t.conn c) true = x.a.bits := by
  have hrun := harnessWatchdogExpiry_alive (pathB := true) (p := x.b) hr ho (by rw [hx]; rfl) hb (fun _ => hd)
  generalize x.b.rxExt + cWd r + 1 = due at hrun
  rw [hd] at hrun
  have hconn := pathLost_dual (s := s.clockTo due) (c := c) (x := x) hx h2 ha
  refine ⟨_, hrun, ?_⟩
  rw [hconn]
  refine ⟨h2, rfl, rfl, rfl, ?_⟩
  simp [Conn.bits, h2, ha]

theorem harnessDualMismatch_spec (hr : s.connRec c = some r) (ho : cOut r = false) (hd : cDual r = true) (hx : x = s.conn c)
    (ha : x.a.alive = true) (hb : x.b.alive = true) (h2 : x.state = 2) (hbits : x.a.bits ≠ x.b.bits) :
    (8 ≤ x.differ → ∃ t, exec (.harnessDualMismatch c) s = .next t ∧ (t.conn c).state = 3 ∧ (t.conn c).reason = 2 ∧ t.cfg = s.cfg) ∧
    (x.differ < 8 → exec (.harnessDualMismatch c) s = .next s) := by
  have hrun : exec (.harnessDualMismatch c) s = .next (if 8 ≤ x.differ then s.connTo c 3 2 else s) := by
    change execHarnessDualMismatch c s = _
    simp only [execHarnessDualMismatch, hr, ← hx]
    simp [hd, ho, h2, ha, hb, hbits]
  refine ⟨fun h => ⟨_, hrun.trans (congrArg _ (if_pos h)), ?_⟩, fun h => hrun.trans (congrArg _ (if_neg (by omega)))⟩
  rw [connTo_conn]
  exact ⟨rfl, rfl, (connTo_only ..).cfg⟩

theorem bits_spec (x : Conn) (dual : Bool) : (x.state ≠ 2 → Conn.bits x dual = 0) ∧
    (x.state = 2 → x.a.fs = true → Conn.bits x false = 0) ∧
    (x.state = 2 → x.a.alive = true → x.b.alive = true → Conn.bits x true = x.a.bits &&& x.b.bits) := by
  refine ⟨fun h => if_pos h, fun h hf => ?_, fun h ha hb => ?_⟩
  · simp [Conn.bits, h, ConnPath.bits, hf]
  · simp [Conn.bits, h, ha, hb]

end

/-! ## PDUs sent (R403, R407) -/

theorem crcBit_lt_of {p c : Nat} (hp : p < 2 ^ 32) (h : c < 2 ^ 32) : crcBit p c < 2 ^ 32 := by
  unfold crcBit
  split
  · exact Nat.xor_lt_two_pow (by omega) hp
  · omega

theorem crc32c_lt (b : Bytes) : crc32c b < 2 ^ 32 := by
  have hbit {c : Nat} (h : c < 2 ^ 32) : crcBit 0x82F63B78 c < 2 ^ 32 := crcBit_lt_of (by decide) h
  have hbyte (c : Nat) (x : Byte) (h : c < 2 ^ 32) : crcByte 0x82F63B78 c x < 2 ^ 32 := by
    have hx := x.isLt
    exact hbit (hbit (hbit (hbit (hbit (hbit (hbit (hbit (Nat.xor_lt_two_pow h (by omega)))))))))
  exact Nat.xor_lt_two_pow (foldl_keeps (fun c : Nat => c < 2 ^ 32) _ (fun c x h => hbyte c x h) _ _ (by decide)) (by decide)

theorem rdBe16_of_slice {b : Bytes} {i v : Nat} (h : slice b i 2 = be16 v) : rdBe16 b i = v % 65536 := by
  have h0 : byteAt b i = v / 256 % 256 := by
    rw [← Nat.add_zero i, ← byteAt_slice (n := 2) (by decide), h]
    exact byteAt_leBytes_zero 0 _
  have h1 : byteAt b (i + 1) = v % 256 := by
    rw [← byteAt_slice (n := 2) (by decide), h]
    exact byteAt_leBytes_zero 0 _
  rw [rdBe16, h0, h1]
  omega

theorem rdBe32_of_slice {b : Bytes} {i v : Nat} (h : slice b i 4 = be32 v) : rdBe32 b i = v % 4294967296 := by
  have hb : ∀ k, k < 4 → byteAt b (i + k) = byteAt (be32 v) k := fun k hk => by rw [← h, byteAt_slice hk]
  have h0 : byteAt b i = v / 256 / 256 / 256 % 256 := (hb 0 (by decide)).trans (byteAt_leBytes_zero 0 _)
  have h1 : byteAt b (i + 1) = v / 256 / 256 % 256 := (hb 1 (by decide)).trans (byteAt_leBytes_zero 0 _)
  have h2 : byteAt b (i + 2) = v / 256 % 256 := (hb 2 (by decide)).trans (byteAt_leBytes_zero 0 _)
  have h3 : byteAt b (i + 3) = v % 256 := (hb 3 (by decide)).trans (byteAt_leBytes_zero 0 _)
  rw [rdBe32, rdBe16, rdBe16, Nat.add_assoc i 2 1, h0, h1, h2, h3]
  omega

/-- The first 16 bytes of a PDU. -/
def pduHead (r : Bytes) (pathB fs : Bool) (seq data : Nat) : Bytes :=
  [1, 1] ++ leBytes 1 (b2n fs + 2 * b2n pathB + 4 * b2n (cDual r)) ++ [0] ++ be32 (cId r) ++ be16 seq ++
    be16 (if fs then 0 else data) ++ zeros 4

theorem mkPdu_spec (r : Bytes) (pathB fs : Bool) (seq data : Nat) : (mkPdu r pathB fs seq data).length = 20 ∧
    byteAt (mkPdu r pathB fs seq data) 1 = 1 ∧
    pduCrc r (mkPdu r pathB fs seq data) = rdBe32 (mkPdu r pathB fs seq data) 16 ∧
    (seq < 65536 → rdBe16 (mkPdu r pathB fs seq data) 8 = seq) ∧
    (data < 65536 → rdBe16 (mkPdu r pathB fs seq data) 10 = (if fs then 0 else data)) := by
  have h16 (n : Nat) : (be16 n).length = 2 := by simp [be16]
  have h32 (n : Nat) : (be32 n).length = 4 := by simp [be32]
  have hlen : (pduHead r pathB fs seq data).length = 16 := by simp [pduHead, h16, h32]
  have hpdu : mkPdu r pathB fs seq data = pduHead r pathB fs seq data ++ be32 (pduCrc r (pduHead r pathB fs seq data)) := rfl
  have htake (d : Bytes) : (pduHead r pathB fs seq data ++ d).take 16 = pduHead r pathB fs seq data := List.take_left' hlen
  have hseq : slice (mkPdu r pathB fs seq data) 8 2 = be16 seq := by
    rw [hpdu, slice_append_left (by omega)]
    simp (disch := simp [h16, h32]) only [pduHead, slice_append_left, slice_append_end]
  have hdata : slice (mkPdu r pathB fs seq data) 10 2 = be16 (if fs then 0 else data) := by
    rw [hpdu, slice_append_left (by omega)]
    simp (disch := simp [h16, h32]) only [pduHead, slice_append_left, slice_append_end]
  have hcrc : slice (mkPdu r pathB fs seq data) 16 4 = be32 (pduCrc r (pduHead r pathB fs seq data)) := slice_append_end hlen (h32 _)
  refine ⟨?_, rfl, ?_, fun h => ?_, fun h => ?_⟩
  · rw [hpdu, List.length_append, hlen, h32]
  · have hlt : pduCrc r (pduHead r pathB fs seq data) < 4294967296 := crc32c_lt _
    rw [rdBe32_of_slice hcrc, Nat.mod_eq_of_lt hlt, hpdu, pduCrc, htake, pduCrc, List.take_of_length_le hlen.le]
  · rw [rdBe16_of_slice hseq, Nat.mod_eq_of_lt h]
  · rw [rdBe16_of_slice hdata]
    split
    · rfl
    · exact Nat.mod_eq_of_lt h

/-- The one output connection sends at the start of its cycle. -/
theorem harnessOutputCycle_one {b r : Bytes} {due q : Nat} (hb : s.safe.cfg = some b)
    (hl : (connList b).filter (fun r => cValid r && cOut r) = [r]) (hc : s.connCycle r = some (due, q)) (u : State)
    (hu : u = s.clockTo due) : exec .harnessOutputCycle s =
      .next ((u.setConn (cNo r) { u.conn (cNo r) with sched := due }).sendConn r q) := by
  change execHarnessOutputCycle s = _
  simp only [execHarnessOutputCycle, hb, hl, hu]
  simp [hc]

theorem harnessOutputCycle_none {b : Bytes} (hb : s.safe.cfg = some b)
    (hl : (connList b).filter (fun r => cValid r && cOut r) = []) : exec .harnessOutputCycle s = .next s := by
  change execHarnessOutputCycle s = _
  simp only [execHarnessOutputCycle, hb, hl]
  simp

/-! ## SAFE_HARNESS_STATUS (R411) -/

theorem length_harnessRecord (s : State) (c : Nat) : (s.harnessRecord c).length = 32 := by
  unfold State.harnessRecord
  split
  · exact length_zeros 32
  · have hcounts (x : Conn) : ((List.range 4).flatMap (fun i => leBytes 4 (x.counts.getD i 0))).length = 16 :=
      length_flatMap_range (w := 4) (fun _ => length_leBytes ..) 4
    simp [hcounts]

/-- Clears the counters of a connection there is. -/
def State.harnessWipe (s : State) (c : Nat) : State :=
  if (s.safe.conns.get? c).isSome then s.setConn c { s.conn c with counts := [] } else s

theorem harnessWipe_conn (s : State) (c : Nat) : (s.harnessWipe c).conn c = { s.conn c with counts := [] } := by
  unfold State.harnessWipe
  split
  · rw [conn_setConn]
  · rename_i h
    have hnone : s.safe.conns.get? c = none := by simpa using h
    simp only [State.conn, Tbl.getD, hnone, Option.getD_none]

theorem harnessWipe_conn_other (s : State) {k c : Nat} (h : k ≠ c) : (s.harnessWipe c).conn k = s.conn k := by
  unfold State.harnessWipe
  split
  · rw [conn_setConn_other s h]
  · rfl

/-- Clearing a list of connections: settings and outputs stay, and no connection but those listed changes. -/
theorem foldl_harnessWipe (l : List Nat) (s : State) : (l.foldl State.harnessWipe s).cfg = s.cfg ∧
    (l.foldl State.harnessWipe s).safe.outs = s.safe.outs ∧
    ∀ c, ((l.foldl State.harnessWipe s).conn c) = if c ∈ l then { s.conn c with counts := [] } else s.conn c := by
  induction l generalizing s with
  | nil => exact ⟨rfl, rfl, fun c => rfl⟩
  | cons k l ih =>
    obtain ⟨h1, h2, h3⟩ := ih (s.harnessWipe k)
    have hk : (s.harnessWipe k).cfg = s.cfg ∧ (s.harnessWipe k).safe.outs = s.safe.outs := by
      unfold State.harnessWipe
      split <;> exact ⟨rfl, rfl⟩
    refine ⟨h1.trans hk.1, h2.trans hk.2, fun c => ?_⟩
    rw [List.foldl_cons, h3 c]
    by_cases hc : c = k
    · subst hc
      rw [harnessWipe_conn, if_pos (List.mem_cons_self ..)]
      split <;> rfl
    · rw [harnessWipe_conn_other s hc]
      simp only [List.mem_cons, hc, false_or]

theorem safeHarnessStatus_accepted {p : Path} {e : Exec} (ha : Accepted cmdSafeHarnessStatus p e s t) :
    ∃ (u : State) (b : Bytes), exec (.safeHarnessStatus p) s = .next (u.complete p stOK [] (some b)) ∧
      b.length = 32 * byteAt e.req.params 1 ∧ (byteAt e.req.params 2 ≠ 1 → u = t) ∧ u.cfg = t.cfg ∧ u.safe.outs = t.safe.outs ∧
      ∀ i c, i < byteAt e.req.params 1 → c = byteAt e.req.params 0 + i → slice b (32 * i) 32 = t.harnessRecord c ∧
        (byteAt e.req.params 2 = 1 → (u.conn c).counts = [] ∧ (u.conn c).state = (t.conn c).state) := by
  generalize hcs : (List.range (byteAt e.req.params 1)).map (fun i => byteAt e.req.params 0 + i) = cs
  have hbody : cmdSafeHarnessStatus.body p e t = .done (if byteAt e.req.params 2 = 1 then cs.foldl State.harnessWipe t else t) stOK []
      (some (cs.flatMap t.harnessRecord)) := by rw [← hcs]; rfl
  have hrec (i : Nat) : (t.harnessRecord (byteAt e.req.params 0 + i)).length = 32 := length_harnessRecord ..
  have hbytes : cs.flatMap t.harnessRecord =
      (List.range (byteAt e.req.params 1)).flatMap (fun i => t.harnessRecord (byteAt e.req.params 0 + i)) := by
    rw [← hcs, List.flatMap_map]
  obtain ⟨h1, h2, h3⟩ := foldl_harnessWipe cs t
  refine ⟨_, _, congrArg Host.Outcome.next (run_done ha hbody), ?_, fun h => if_neg h, ?_, ?_, fun i c hi hc => ⟨?_, fun h => ?_⟩⟩
  · rw [hbytes, length_flatMap_range hrec]
  · split
    · exact h1
    · rfl
  · split
    · exact h2
    · rfl
  · rw [hbytes, slice_flatMap_range hrec hi, hc]
  · have hmem : c ∈ cs := by
      rw [← hcs, hc]
      exact List.mem_map_of_mem (List.mem_range.2 hi)
    rw [if_pos h, h3 c, if_pos hmem]
    exact ⟨rfl, rfl⟩

/-- Settles O52. -/
theorem harnessConnections : Obligations.HarnessConnections := by
  refine ⟨fun s port src b at_ g hg h => harnessPduReceive_none hg h,
    fun s port src b at_ g r c u x hg h hc hi hu hx hd => harnessPduReceive_spec hg h hc hi hu hx hd,
    fun s c r x hr ho hd hx ha h2 => harnessWatchdogExpiry_single hr ho hd hx ha h2,
    fun s c r x hr ho hd hx ha hb h2 => harnessWatchdogExpiry_dual hr ho hd hx ha hb h2,
    fun s c r x hr ho hd hx ha hb h2 hbits => harnessDualMismatch_spec hr ho hd hx ha hb h2 hbits, bits_spec,
    fun s r seq h => if_pos h, mkPdu_spec, fun s b r due q hb hl hc u hu => harnessOutputCycle_one hb hl hc u hu,
    fun s b hb hl => harnessOutputCycle_none hb hl, fun p e s t ha => safeHarnessStatus_accepted ha⟩

end Machine
end Sys2Proof

/-! PROOFS. The key store (O53): imports, removal, backup and restore, fuses, the entropy source and readings
(R415 to R439). -/

namespace Sys2Proof
namespace Machine

variable {s t u : State}

/-! ## Records and the secure flags (R437, R438) -/

/-- `t` is `s` with records written and the secure flags evaluated. -/
def Recorded (s t : State) : Prop :=
  ∃ v q f h, t = { s with sec.secure := v, ao.firnSeq := q, firn := f, host := h }

namespace Recorded

theorem refl (s : State) : Recorded s s := ⟨_, _, _, _, rfl⟩

theorem trans (a : Recorded s t) (b : Recorded t u) : Recorded s u := by
  obtain ⟨_, _, _, _, rfl⟩ := a
  obtain ⟨_, _, _, _, rfl⟩ := b
  exact ⟨_, _, _, _, rfl⟩

theorem firnEv (s : State) (code : Nat) (data : Bytes) : Recorded s (s.firnEv code data) := by
  obtain ⟨_, _, _, h⟩ := firnEv_frame s code data
  exact ⟨_, _, _, _, h⟩

theorem raise (s : State) (b : Nat) : Recorded s (s.raise b) := by
  obtain ⟨_, h⟩ := raise_frame s b
  exact ⟨_, _, _, _, h⟩

theorem secSettle (s : State) : Recorded s s.secSettle := by
  unfold State.secSettle
  extract_lets f changed _ w
  have hw : Recorded s w := ⟨f, _, _, _, rfl⟩
  split
  · exact hw.trans ((firnEv ..).trans (raise ..))
  · exact hw

/-- A record, then the flags anew. -/
theorem settled (s : State) (code : Nat) (data : Bytes) : Recorded s (s.firnEv code data).secSettle :=
  (firnEv ..).trans (secSettle _)

variable (h : Recorded s t)

include h

theorem slots : t.sec.slots = s.sec.slots := by
  obtain ⟨_, _, _, _, rfl⟩ := h
  rfl

theorem sessions : t.sec.sessions = s.sec.sessions := by
  obtain ⟨_, _, _, _, rfl⟩ := h
  rfl

theorem derived : t.sec.derived = s.sec.derived := by
  obtain ⟨_, _, _, _, rfl⟩ := h
  rfl

theorem entropyFail : t.sec.entropyFail = s.sec.entropyFail := by
  obtain ⟨_, _, _, _, rfl⟩ := h
  rfl

theorem keys : t.ao.keys = s.ao.keys := by
  obtain ⟨_, _, _, _, rfl⟩ := h
  rfl

theorem cfg : t.cfg = s.cfg := by
  obtain ⟨_, _, _, _, rfl⟩ := h
  rfl

theorem flash : t.flash = s.flash := by
  obtain ⟨_, _, _, _, rfl⟩ := h
  rfl

end Recorded

/-! ## Imports (R421 to R423) -/

section

variable {p : Path} {e : Exec} {type usage : Nat} {i : ImportSession}

/-- The generation that an import into slot `n` makes. -/
def State.nextGen (s : State) (n : Nat) : Nat :=
  match (s.sec.slots.get? n).bind (·.cur) with
  | some g => (g.gen + 1) % 4294967296
  | none => 1

/-- The slot after an import of material `m`. -/
def State.imported (s : State) (n type usage keyId : Nat) (m : Bytes) : KeySlot :=
  ⟨type, usage, some ⟨s.nextGen n, keyId, padTo (keyMaterial type) m, s.stamp 17⟩, (s.sec.slots.get? n).bind (·.cur)⟩

/-- The state after an import of material `m` in session `i`. -/
def State.afterImport (t : State) (p : Path) (i : ImportSession) (n type usage keyId : Nat) (m : Bytes) : State :=
  ((({ t with sec.sessions := t.sec.sessions.set (chanKey p) { i with uses := i.uses + 1 } } : State).putKey n type usage keyId
    (padTo (keyMaterial type) m)).1.firnEv 0x0E03 (leBytes 2 n ++ [1, 0] ++ leBytes 4 keyId)).secSettle

/-- What an import whose material unwraps as `m` leaves. -/
theorem importBody_some {m : Bytes} (hi : t.session p = some i)
    (hm : Config.keyUnwrap (i.kek (slice e.req.region 0 64)) (slice e.req.region 64 (keyMaterial type + 8)) = some m) :
    importBody type usage p e t = .done
      (t.afterImport p i (byteAt e.req.params 0) type usage (le32 e.req.params 4) m) stOK
      (leBytes 4 (t.nextGen (byteAt e.req.params 0))) none := by
  simp only [importBody, hi, hm]
  rfl

theorem importBody_none (hi : t.session p = some i)
    (hm : Config.keyUnwrap (i.kek (slice e.req.region 0 64)) (slice e.req.region 64 (keyMaterial type + 8)) = none) :
    importBody type usage p e t = .done t stAUTH [] none := by
  simp only [importBody, hi, hm]

theorem afterImport_spec (t : State) (p : Path) (i : ImportSession) (n type usage keyId : Nat) (m : Bytes) :
    (t.afterImport p i n type usage keyId m).sec.slots = t.sec.slots.set n (t.imported n type usage keyId m) ∧
    (t.afterImport p i n type usage keyId m).ao.keys = t.ao.keys.set n (t.imported n type usage keyId m) ∧
    ((t.afterImport p i n type usage keyId m).sec.sessions.get? (chanKey p)).map (·.uses) = some (i.uses + 1) ∧
    (t.afterImport p i n type usage keyId m).cfg = t.cfg ∧ (t.afterImport p i n type usage keyId m).flash = t.flash := by
  have h := Recorded.settled (({ t with sec.sessions := t.sec.sessions.set (chanKey p) { i with uses := i.uses + 1 } } : State).putKey
    n type usage keyId (padTo (keyMaterial type) m)).1 0x0E03 (leBytes 2 n ++ [1, 0] ++ leBytes 4 keyId)
  refine ⟨h.slots, h.keys, ?_, h.cfg, h.flash⟩
  rw [State.afterImport, h.sessions]
  change (Tbl.get? (t.sec.sessions.set (chanKey p) { i with uses := i.uses + 1 }) (chanKey p)).map (·.uses) = _
  rw [tbl_get_set_same]
  rfl

theorem secKeyImport_accepted {n : Nat} {old : Option KeyGen} {g : Nat} (ha : Accepted cmdSecKeyImport p e s t)
    (hi : t.session p = some i) (hn : n = byteAt e.req.params 0) (ht : type = byteAt e.req.params 1)
    (ho : old = (t.sec.slots.get? n).bind (·.cur)) (hg : g = t.nextGen n) :
    ∃ u : Bytes → State, exec (.secKeyImport p) s = .next (match Config.keyUnwrap (i.kek (slice e.req.region 0 64))
        (slice e.req.region 64 (keyMaterial type + 8)) with
      | none => t.complete p stAUTH [] none
      | some m => (u m).complete p stOK (leBytes 4 g) none) ∧
      ∀ m, (u m).sec.slots = t.sec.slots.set n
          ⟨type, le16 e.req.params 2, some ⟨g, le32 e.req.params 4, padTo (keyMaterial type) m, t.stamp 17⟩, old⟩ ∧
        (u m).ao.keys = t.ao.keys.set n
          ⟨type, le16 e.req.params 2, some ⟨g, le32 e.req.params 4, padTo (keyMaterial type) m, t.stamp 17⟩, old⟩ ∧
        ((u m).sec.sessions.get? (chanKey p)).map (·.uses) = some (i.uses + 1) ∧ (u m).cfg = t.cfg ∧ (u m).flash = t.flash := by
  subst hn ht ho
  refine ⟨fun m => t.afterImport p i (byteAt e.req.params 0) (byteAt e.req.params 1) (le16 e.req.params 2) (le32 e.req.params 4) m,
    ?_, fun m => ?_⟩
  · rw [hg]
    cases hm : Config.keyUnwrap (i.kek (slice e.req.region 0 64)) (slice e.req.region 64 (keyMaterial (byteAt e.req.params 1) + 8)) with
    | none => exact congrArg Host.Outcome.next (run_done ha (importBody_none hi hm))
    | some m => exact congrArg Host.Outcome.next (run_done ha (importBody_some hi hm))
  · rw [hg]
    exact afterImport_spec ..

theorem importOk_of_param {r : Req} {keyId : Nat} (h : importParam t r type usage keyId = true) :
    t.importOk (byteAt r.params 0) type usage keyId = true := by
  simp only [importParam, Bool.and_eq_true] at h
  exact h.1.1.1

theorem secKeyImport_checks (ha : Accepted cmdSecKeyImport p e s t) : (t.session p).isSome = true ∧
    t.importOk (byteAt e.req.params 0) (byteAt e.req.params 1) (le16 e.req.params 2) (le32 e.req.params 4) = true := by
  obtain ⟨hparam, hstate⟩ := accepted_judged ha
  refine ⟨?_, importOk_of_param hparam⟩
  by_contra hn
  have hst : (if (t.session p).isSome then 0 else stSTATE) = 0 := hstate
  rw [if_neg hn] at hst
  exact absurd hst (by decide)

/-- The first operator key (R422). -/
theorem secOperatorEnrol_accepted {n : Nat} (ha : Accepted cmdSecOperatorEnrol p e s t) (hi : t.session p = some i)
    (hn : n = byteAt e.req.params 0) : t.sec.slots.any (fun x => x.2.type == 3) = false ∧
    ∃ (u : Bytes → State) (g : Nat), exec (.secOperatorEnrol p) s = .next (match Config.keyUnwrap (i.kek (slice e.req.region 0 64))
        (slice e.req.region 64 40) with
      | none => t.complete p stAUTH [] none
      | some m => (u m).complete p stOK (leBytes 4 g) none) ∧
      ∀ m, ∃ k, (u m).sec.slots.get? n = some k ∧ k.type = 3 ∧ k.usage = 160 ∧ k.cur.map (·.keyId) = some (le32 e.req.params 4) ∧
        ∀ j, j ≠ n → (u m).sec.slots.get? j = t.sec.slots.get? j := by
  subst hn
  have hstate : (if (t.sec.slots.any (fun x => x.2.type == 3) || (t.session p).isNone) = true then stSTATE else 0) = 0 :=
    (accepted_judged ha).2
  refine ⟨?_, fun m => t.afterImport p i (byteAt e.req.params 0) 3 0xA0 (le32 e.req.params 4) m, t.nextGen (byteAt e.req.params 0),
    ?_, fun m => ?_⟩
  · by_contra hany
    rw [if_pos (by simp [hany])] at hstate
    exact absurd hstate (by decide)
  · cases hm : Config.keyUnwrap (i.kek (slice e.req.region 0 64)) (slice e.req.region 64 40) with
    | none => exact congrArg Host.Outcome.next (run_done ha (importBody_none (type := 3) hi hm))
    | some m => exact congrArg Host.Outcome.next (run_done ha (importBody_some (type := 3) hi hm))
  · obtain ⟨hslots, -⟩ := afterImport_spec t p i (byteAt e.req.params 0) 3 0xA0 (le32 e.req.params 4) m
    refine ⟨t.imported (byteAt e.req.params 0) 3 0xA0 (le32 e.req.params 4) m, ?_, rfl, rfl, rfl, fun j hj => ?_⟩
    · rw [hslots, tbl_get_set_same]
    · rw [hslots, tbl_get_set_other _ _ _ _ hj]

/-! ## Removal, zeroising (R418, R431, R439) -/

theorem secKeyRemove_held {n : Nat} {k : KeySlot} (ha : Accepted cmdSecKeyRemove p e s t) (hn : n = byteAt e.req.params 0)
    (hk : t.sec.slots.get? n = some k) : ∃ u : State, exec (.secKeyRemove p) s = .next (u.complete p stOK [] none) ∧ u.cfg = t.cfg ∧
      u.flash = t.flash ∧
      (byteAt e.req.params 1 = 0 → u.sec.slots = t.sec.slots.del n ∧ u.ao.keys = t.ao.keys.del n) ∧
      (byteAt e.req.params 1 = 1 → k.cur.isSome = true →
        u.sec.slots = t.sec.slots.set n { k with prev := none } ∧ u.ao.keys = t.ao.keys.set n { k with prev := none }) := by
  subst hn
  have hrun : ∃ u v, exec (.secKeyRemove p) s = .next (u.complete p stOK [] none) ∧ Recorded v u ∧
      v = if byteAt e.req.params 1 = 0 ∨ k.cur.isNone = true then t.clearSlot (byteAt e.req.params 0)
        else t.setSlot (byteAt e.req.params 0) { k with prev := none } := by
    have hbody : ∃ u v, cmdSecKeyRemove.body p e t = .done u stOK [] none ∧ Recorded v u ∧
        v = if byteAt e.req.params 1 = 0 ∨ k.cur.isNone = true then t.clearSlot (byteAt e.req.params 0)
          else t.setSlot (byteAt e.req.params 0) { k with prev := none } := by
      simp only [cmdSecKeyRemove, hk]
      refine ⟨_, _, rfl, ?_, rfl⟩
      cases (if byteAt e.req.params 1 = 1 then k.prev else k.cur.or k.prev) with
      | none => exact .refl _
      | some g => exact .settled ..
    obtain ⟨u, v, hb, h⟩ := hbody
    exact ⟨u, v, congrArg Host.Outcome.next (run_done ha hb), h⟩
  obtain ⟨u, v, hexec, hu, hv⟩ := hrun
  have hkeep : v.cfg = t.cfg ∧ v.flash = t.flash := by
    rw [hv]
    split <;> exact ⟨rfl, rfl⟩
  refine ⟨u, hexec, hu.cfg.trans hkeep.1, hu.flash.trans hkeep.2, fun h => ?_, fun h hc => ?_⟩
  · rw [hu.slots, hu.keys, hv, if_pos (.inl h)]
    exact ⟨rfl, rfl⟩
  · rw [hu.slots, hu.keys, hv, if_neg (by simp [h, Option.isSome_iff_ne_none.1 hc])]
    exact ⟨rfl, rfl⟩

theorem secKeyRemove_empty {n : Nat} (ha : Accepted cmdSecKeyRemove p e s t) (hn : n = byteAt e.req.params 0)
    (hk : t.sec.slots.get? n = none) : exec (.secKeyRemove p) s = .next (t.complete p stOK [] none) := by
  subst hn
  have hbody : cmdSecKeyRemove.body p e t = .done t stOK [] none := by simp only [cmdSecKeyRemove, hk]
  exact congrArg Host.Outcome.next (run_done ha hbody)

theorem secZeroise_accepted (ha : Accepted cmdSecZeroise p e s t) : ∃ u : State,
    exec (.secZeroise p) s = .next (u.complete p stOK [] none) ∧ u.sec.slots = [] ∧ u.ao.keys = [] ∧
    u.sec.derived = t.sec.derived ∧ u.cfg = t.cfg := by
  have hfold : Recorded { t with sec.slots := [], ao.keys := [] }
      (t.sec.slots.foldl (fun t x => t.removeRecord x.1 x.2) { t with sec.slots := [], ao.keys := [] }) := by
    refine foldl_keeps (Recorded { t with sec.slots := [], ao.keys := [] }) _ (fun v x h => h.trans ?_) _ _ (.refl _)
    unfold State.removeRecord
    split
    · exact .firnEv ..
    · exact .refl v
  have h := hfold.trans (.settled _ 0x0E02 [2])
  exact ⟨_, congrArg Host.Outcome.next (run_done ha rfl), h.slots, h.keys, h.derived, h.cfg⟩

/-! ## Backup and restore (R427) -/

/-- A slot of another number keeps its key and its wrapped copy. -/
def KeepsSlot (n : Nat) (s t : State) : Prop := t.sec.slots.get? n = s.sec.slots.get? n ∧ t.ao.keys.get? n = s.ao.keys.get? n

theorem KeepsSlot.trans {n : Nat} (a : KeepsSlot n s t) (b : KeepsSlot n t u) : KeepsSlot n s u :=
  ⟨b.1.trans a.1, b.2.trans a.2⟩

theorem Recorded.keepsSlot (h : Recorded s t) (n : Nat) : KeepsSlot n s t := by
  rw [KeepsSlot, h.slots, h.keys]
  exact ⟨rfl, rfl⟩

/-- The slot a restored entry makes of the one before (R427). -/
def State.restoredSlot (s : State) (x : Nat × Nat × Nat × Bool × KeyGen) : KeySlot :=
  let old : KeySlot := (s.sec.slots.get? x.1).getD { type := x.2.1, usage := x.2.2.1, cur := none, prev := none }
  let k := if x.2.2.2.1 then { old with cur := some x.2.2.2.2 } else { old with prev := some x.2.2.2.2 }
  { k with type := x.2.1, usage := x.2.2.1 }

theorem restoreOne_recorded (s : State) (x : Nat × Nat × Nat × Bool × KeyGen) :
    Recorded (s.setSlot x.1 (s.restoredSlot x)) (s.restoreOne x) := .firnEv ..

theorem foldl_keepsSlot {α : Type} {n : Nat} {f : State → Nat × α → State} (hf : ∀ t x, x.1 ≠ n → KeepsSlot n t (f t x))
    (l : List (Nat × α)) (hl : n ∉ l.map (·.1)) (s : State) : KeepsSlot n s (l.foldl f s) := by
  induction l generalizing s with
  | nil => exact ⟨rfl, rfl⟩
  | cons x l ih =>
    simp only [List.map_cons, List.mem_cons, not_or] at hl
    exact (hf s x (Ne.symm hl.1)).trans (ih hl.2 _)

/-- The three passes of a restore: the slots named are emptied, then written, current generations last. -/
def State.restoreAll (s : State) (xs : List (Nat × Nat × Nat × Bool × KeyGen)) : State :=
  (xs.filter (fun x => x.2.2.2.1)).foldl State.restoreOne ((xs.filter (fun x => !x.2.2.2.1)).foldl State.restoreOne
    (xs.foldl (fun s x => s.clearSlot x.1) s))

theorem restoreAll_keeps {xs : List (Nat × Nat × Nat × Bool × KeyGen)} {n : Nat} (h : n ∉ xs.map (·.1)) :
    KeepsSlot n s (s.restoreAll xs) := by
  have hone (t : State) (x : Nat × Nat × Nat × Bool × KeyGen) (hx : x.1 ≠ n) : KeepsSlot n t (t.restoreOne x) :=
    KeepsSlot.trans ⟨tbl_get_set_other _ _ _ _ hx.symm, tbl_get_set_other _ _ _ _ hx.symm⟩ ((restoreOne_recorded t x).keepsSlot n)
  have hfilter (f : Nat × Nat × Nat × Bool × KeyGen → Bool) : n ∉ (xs.filter f).map (·.1) := by
    intro hmem
    obtain ⟨x, hx, rfl⟩ := List.mem_map.1 hmem
    exact h (List.mem_map_of_mem (List.mem_filter.1 hx).1)
  have hclear : KeepsSlot n s (xs.foldl (fun s x => s.clearSlot x.1) s) :=
    foldl_keepsSlot (fun t x hx => ⟨tbl_get_del_other _ hx.symm, tbl_get_del_other _ hx.symm⟩) xs h s
  exact (hclear.trans (foldl_keepsSlot hone _ (hfilter _) _)).trans (foldl_keepsSlot hone _ (hfilter _) _)

theorem restoreAll_cfg (s : State) (xs : List (Nat × Nat × Nat × Bool × KeyGen)) : (s.restoreAll xs).cfg = s.cfg := by
  have hfold (l : List (Nat × Nat × Nat × Bool × KeyGen)) (s : State) : (l.foldl State.restoreOne s).cfg = s.cfg :=
    foldl_keeps (fun t : State => t.cfg = s.cfg) _ (fun t x h => (restoreOne_recorded t x).cfg.trans h) _ _ rfl
  rw [State.restoreAll, hfold, hfold]
  refine foldl_keeps (fun t : State => t.cfg = s.cfg) _ ?_ _ _ rfl
  exact fun t x h => h

/-- A blob of one generation makes its slot anew. -/
theorem restoreAll_one (s : State) (n ty us : Nat) (c : Bool) (g : KeyGen) :
    (s.restoreAll [(n, ty, us, c, g)]).sec.slots.get? n = some ⟨ty, us, if c then some g else none, if c then none else some g⟩ := by
  have hone : s.restoreAll [(n, ty, us, c, g)] = (s.clearSlot n).restoreOne (n, ty, us, c, g) := by cases c <;> rfl
  have hold : (s.clearSlot n).sec.slots.get? n = none := tbl_get_del_same ..
  have hslot : (s.clearSlot n).restoredSlot (n, ty, us, c, g) =
      ⟨ty, us, if c then some g else none, if c then none else some g⟩ := by
    unfold State.restoredSlot
    rw [hold]
    cases c <;> rfl
  rw [hone, (restoreOne_recorded ..).slots, hslot]
  exact tbl_get_set_same ..

theorem secRestore_accepted (ha : Accepted cmdSecRestore p e s t) : t.blobOk e.req.region = true ∧
    ∃ (xs : List (Nat × Nat × Nat × Bool × KeyGen)) (u : State), t.restoreEntries e.req.region = some xs ∧
      exec (.secRestore p) s = .next (u.complete p stOK (leBytes 2 xs.length) none) ∧ u.cfg = t.cfg ∧
      (∀ n, n ∉ xs.map (·.1) → u.sec.slots.get? n = t.sec.slots.get? n ∧ u.ao.keys.get? n = t.ao.keys.get? n) ∧
      (∀ n ty us c g, xs = [(n, ty, us, c, g)] →
        u.sec.slots.get? n = some ⟨ty, us, if c then some g else none, if c then none else some g⟩) := by
  have hparam : (e.req.xp && restZero e.req 0 && t.blobOk e.req.region) = true := (accepted_judged ha).1
  have hok : t.blobOk e.req.region = true := by
    rw [Bool.and_eq_true] at hparam
    exact hparam.2
  have hsome : (t.restoreEntries e.req.region).isSome = true := by
    have h := hok
    simp only [State.blobOk, Bool.and_eq_true] at h
    exact h.2
  obtain ⟨xs, hxs⟩ := Option.isSome_iff_exists.1 hsome
  have hbody : cmdSecRestore.body p e t = .done ((t.restoreAll xs).firnEv 0x0E09 (leBytes 4 2 ++ leBytes 4 xs.length)).secSettle stOK
      (leBytes 2 xs.length) none := by
    simp only [cmdSecRestore, hxs, Option.getD_some]
    rfl
  have hrec := Recorded.settled (t.restoreAll xs) 0x0E09 (leBytes 4 2 ++ leBytes 4 xs.length)
  refine ⟨hok, xs, _, hxs, congrArg Host.Outcome.next (run_done ha hbody), hrec.cfg.trans (restoreAll_cfg t xs),
    fun n hn => (restoreAll_keeps hn).trans (hrec.keepsSlot n), fun n ty us c g h => ?_⟩
  rw [hrec.slots, h]
  exact restoreAll_one t n ty us c g

theorem secBackup_accepted (ha : Accepted cmdSecBackup p e s t) : ∃ (u : State) (b : Bytes),
    exec (.secBackup p) s = .next (u.complete p stOK [] (some b)) ∧ b = t.backup ∧ u.sec = t.sec ∧ u.cfg = t.cfg ∧
    slice b 8 8 = leBytes 8 Config.serial.toNat := by
  refine ⟨_, _, congrArg Host.Outcome.next (run_done ha rfl), rfl, firnEv_sec .., firnEv_cfg .., ?_⟩
  unfold State.backup
  extract_lets es b
  have hb : slice b 8 8 = leBytes 8 Config.serial.toNat := by
    dsimp only [b]
    rw [slice_append_left (by simp), slice_append_left (by simp), slice_append_left (by simp), slice_append_end (by simp) (by simp)]
  rwa [slice_append_left (by simp [b]; omega)]

/-! ## Fuses and the reset of a cleared tamper (R432, R434 to R436) -/

theorem secDebugDisable_accepted (ha : Accepted cmdSecDebugDisable p e s t) : ∃ u : State,
    exec (.secDebugDisable p) s = .next (u.complete p stOK [] none) ∧ u.flash = { t.flash with debugFuse := true } ∧
    u.cfg = t.cfg ∧ u.sec.slots = t.sec.slots := by
  have h := Recorded.settled { t with flash.debugFuse := true } 0x0E07 []
  exact ⟨_, congrArg Host.Outcome.next (run_done ha rfl), h.flash, h.cfg, h.slots⟩

theorem secRollbackCommit_accepted {v : Nat} (ha : Accepted cmdSecRollbackCommit p e s t)
    (hv : v = max t.flash.rollback (min 64 t.runImage.svn)) : t.mod.fallback = false ∧ ∃ u : State,
    exec (.secRollbackCommit p) s = .next (u.complete p stOK (leBytes 1 v) none) ∧ u.flash = { t.flash with rollback := v } ∧
    u.cfg = t.cfg := by
  subst hv
  have hstate : (if t.mod.fallback = true then stSTATE else 0) = 0 := (accepted_judged ha).2
  refine ⟨?_, _, congrArg Host.Outcome.next (run_done ha rfl), (Recorded.settled ..).flash, (Recorded.settled ..).cfg⟩
  by_contra h
  rw [if_pos (by simpa using h)] at hstate
  exact absurd hstate (by decide)

theorem secKeyrev_accepted (ha : Accepted cmdSecKeyrev p e s t) : t.runImage.keyIdx = 2 ∧ ∃ u : State,
    exec (.secKeyrev p) s = .next (u.complete p stOK [] none) ∧ u.flash = { t.flash with key1Revoked := true } ∧ u.cfg = t.cfg := by
  have hstate : (if t.runImage.keyIdx = 2 then 0 else stSTATE) = 0 := (accepted_judged ha).2
  refine ⟨?_, _, congrArg Host.Outcome.next (run_done ha rfl), (Recorded.settled ..).flash, (Recorded.settled ..).cfg⟩
  by_contra h
  rw [if_neg h] at hstate
  exact absurd hstate (by decide)

theorem secTamperClear_accepted (ha : Accepted cmdSecTamperClear p e s t) : t.sec.loopOpen = false ∧ ∃ u : State,
    exec (.secTamperClear p) s = .next (u.complete p stOK [] none) ∧
    u.mod = { t.mod with resetReq := some .tamperClear, resetAt := t.now + 10000000 } ∧ u.sec = t.sec := by
  have hstate : (if t.sec.loopOpen = true then stSTATE else 0) = 0 := (accepted_judged ha).2
  refine ⟨?_, _, congrArg Host.Outcome.next (run_done ha rfl), firnEv_mod .., firnEv_sec ..⟩
  by_contra h
  rw [if_pos (by simpa using h)] at hstate
  exact absurd hstate (by decide)

/-! ## Randomness and import sessions (R101, R415, R421) -/

theorem authNonce_accepted (ha : Accepted cmdAuthNonce p e s t) :
    (t.sec.entropyFail = true → exec (.authNonce p) s = .next (t.complete p stFAULT [] none)) ∧
    (t.sec.entropyFail = false → t.sec.zeroised = false → ∃ (u : State) (b : Bytes),
      exec (.authNonce p) s = .next (u.complete p stOK (t.stamp 17).bytes (some b)) ∧ b.length = 16 ∧
      u.sec = { t.sec with draws := t.sec.draws + 1 } ∧
      (∀ n, p = .mb n → u.nonceOf p = some (b, t.now) ∧ ∀ m, m ≠ n → u.nonceOf (.mb m) = t.nonceOf (.mb m))) := by
  refine ⟨fun h => ?_, fun h hz => ?_⟩
  · have hbody : cmdAuthNonce.body p e t = .done t stFAULT [] none := if_pos (by simp [h])
    exact congrArg Host.Outcome.next (run_done ha hbody)
  · have hbody : cmdAuthNonce.body p e t = .done ((t.random 16).2.setNonce p (some ((t.random 16).1, t.now))) stOK
        (t.stamp 17).bytes (some (t.random 16).1) := if_neg (by simp [h, hz])
    refine ⟨_, _, congrArg Host.Outcome.next (run_done ha hbody), length_padTo .., ?_, fun n hp => ⟨?_, fun m hm => ?_⟩⟩
    · unfold State.setNonce
      split
      · split <;> rfl
      · rfl
    · subst hp
      simp [State.setNonce, State.nonceOf, State.chan, State.setChan]
    · subst hp
      simp only [State.setNonce, State.nonceOf, State.chan, State.setChan]
      rw [tbl_getD_set_other _ _ _ (show chanKey (.mb m) ≠ chanKey (.mb n) from hm)]
      rfl

/-- The session SEC_IMPORT_SESSION opens. -/
def State.openedSession (s : State) : ImportSession :=
  { since := s.now, nonce := ({ s with sec.draws := s.sec.draws + 1 }.random 16).1, draw := s.sec.draws }

/-- The state SEC_IMPORT_SESSION leaves. -/
def State.openImport (s : State) (p : Path) : State :=
  { s with sec.sessions := s.sec.sessions.set (chanKey p) s.openedSession, sec.draws := s.sec.draws + 3 }

theorem openImport_session (s : State) (p : Path) : (s.openImport p).session p = some s.openedSession := by
  have hget : (s.openImport p).sec.sessions.get? (chanKey p) = some s.openedSession := tbl_get_set_same ..
  have hlive : (s.openImport p).now < s.openedSession.since + 60000000000 := Nat.lt_add_of_pos_right (by decide)
  unfold State.session
  rw [hget]
  exact if_pos (by simpa using ⟨hlive, show 0 < 64 by decide⟩)

theorem secImportSession_accepted (ha : Accepted cmdSecImportSession p e s t) :
    (t.sec.entropyFail = true → exec (.secImportSession p) s = .next (t.complete p stFAULT [] none)) ∧
    (t.sec.entropyFail = false → t.sec.zeroised = false → ∃ (u : State) (b : Bytes) (i : ImportSession),
      exec (.secImportSession p) s = .next (u.complete p stOK [] (some b)) ∧ b.length = 144 ∧ u.session p = some i ∧ i.uses = 0 ∧
      i.since = t.now ∧ i.nonce = slice b 64 16 ∧ u.sec.slots = t.sec.slots ∧
      ∀ k, k ≠ chanKey p → u.sec.sessions.get? k = t.sec.sessions.get? k) := by
  refine ⟨fun h => ?_, fun h hz => ?_⟩
  · have hbody : cmdSecImportSession.body p e t = .done t stFAULT [] none := if_pos (by simp [h])
    exact congrArg Host.Outcome.next (run_done ha hbody)
  · have hbody : cmdSecImportSession.body p e t = .done (t.openImport p) stOK [] (some (padTo 64 (Config.ecPublic t.sec.draws) ++
        t.openedSession.nonce ++ padTo 64 (Config.identitySign (t.sec.draws + 2)
          (padTo 64 (Config.ecPublic t.sec.draws) ++ t.openedSession.nonce)))) := if_neg (by simp [h, hz])
    have hnonce : t.openedSession.nonce.length = 16 := length_padTo ..
    refine ⟨_, _, t.openedSession, congrArg Host.Outcome.next (run_done ha hbody), by simp [hnonce], openImport_session .., rfl, rfl, ?_,
      rfl, fun k hk => tbl_get_set_other _ _ _ _ hk⟩
    rw [slice_append_mid (length_padTo ..) hnonce]

theorem importSessionExpiry_open (hi : s.sec.sessions.get? (chanKey p) = some i) : ∃ t, exec (.importSessionExpiry p) s = .next t ∧
    t.sec.sessions.get? (chanKey p) = none ∧ t.sec.slots = s.sec.slots ∧ t.session p = none ∧ t.cfg = s.cfg := by
  have hrun : ∃ due, exec (.importSessionExpiry p) s =
      .next { s.clockTo due with sec.sessions := s.sec.sessions.del (chanKey p) } := by
    refine ⟨i.since + 60000000000, ?_⟩
    change execImportSessionExpiry p s = _
    simp only [execImportSessionExpiry, hi]
  obtain ⟨due, hrun⟩ := hrun
  have hnone : (s.sec.sessions.del (chanKey p)).get? (chanKey p) = none := tbl_get_del_same ..
  refine ⟨_, hrun, hnone, rfl, ?_, rfl⟩
  unfold State.session
  dsimp only
  rw [hnone]

/-! ## Readings (R428, R439) -/

theorem length_calendarOf (s : State) (ext : Nat) : (s.calendarOf ext).length = 8 := by
  unfold State.calendarOf
  split <;> simp [calBytes]

/-- The statement's places that the readings name: the magic, the roll-back counter with the state, the challenge (R428). -/
theorem attest_parts (s : State) (c : Bytes) : ∃ a b d : Bytes, a.length = 20 ∧ b.length = 6 ∧ d.length = 128 ∧
    s.attest c = leBytes 4 0x31545441 ++ a ++ (leBytes 1 s.flash.rollback ++ leBytes 1 s.mod.state) ++ b ++ padTo 32 c ++ d := by
  unfold State.attest
  extract_lets im
  have hst : (s.stamp 17).bytes.length = 6 := FirnEv.length_stamp_bytes ..
  have hcal := length_calendarOf s s.now
  generalize (s.stamp 17).bytes = st at *
  generalize s.calendarOf s.now = cal at *
  generalize Config.sha256 (((List.range 256).map s.slotDigest).flatten) = x
  generalize Config.sha256 (Config.storedBytes s.stored) = y
  refine ⟨leBytes 2 1 ++ leBytes 2 256 ++ leBytes 8 Config.serial.toNat ++
  leBytes 1 Config.hwRev.toNat ++ leBytes 1 im.major ++ leBytes 1 im.minor ++ leBytes 1 7 ++ leBytes 2 im.build ++
  leBytes 1 (s.mod.slot + 2 * b2n s.mod.fallback) ++ leBytes 1 im.svn, leBytes 1 s.mod.role ++ leBytes 1 s.secureFlags ++ leBytes 4 s.ao.tamperCount, padTo 32 im.digest ++ padTo 32 x ++ padTo 32 y ++ st ++ cal ++ zeros 18, ?_, ?_, ?_, ?_⟩
  · simp
  · simp
  · simp [hst, hcal]
  · simp only [List.append_assoc]
theorem secAttest_accepted (ha : Accepted cmdSecAttest p e s t) (hz : t.sec.zeroised = false) : ∃ b : Bytes,
    exec (.secAttest p) s = .next (State.complete { t with sec.draws := t.sec.draws + 1 } p stOK [] (some b)) ∧ b.length = 256 ∧
    slice b 0 4 = leBytes 4 0x31545441 ∧ slice b 24 2 = leBytes 1 t.flash.rollback ++ leBytes 1 t.mod.state ∧
    slice b 32 32 = slice e.req.region 0 32 := by
  have hbody : cmdSecAttest.body p e t = .done { t with sec.draws := t.sec.draws + 1 } stOK []
      (some (t.attest (slice e.req.region 0 32) ++ padTo 64 (Config.identitySign t.sec.draws (t.attest (slice e.req.region 0 32))))) :=
    if_neg (by simp [hz])
  have hchal : padTo 32 (slice e.req.region 0 32) = slice e.req.region 0 32 := slice_all (length_slice ..)
  obtain ⟨a, b, d, hla, hlb, hld, hat⟩ := attest_parts t (slice e.req.region 0 32)
  refine ⟨_, congrArg Host.Outcome.next (run_done ha hbody), by simp [hat, hla, hlb, hld], ?_, ?_, ?_⟩
  all_goals rw [hat, hchal]
  · simp (disch := simp [hla, hlb, hld]) only [slice_append_left, slice_all]
  · rw [slice_append_left (by simp [hla, hlb, hld]), slice_append_left (by simp [hla, hlb]), slice_append_left (by simp [hla, hlb]),
      slice_append_left (by simp [hla]), slice_append_end (by simp [hla]) (by simp)]
  · rw [slice_append_left (by simp [hla, hlb, hld]), slice_append_left (by simp [hla, hlb]),
      slice_append_end (by simp [hla, hlb]) (by simp)]

theorem secStatus_accepted (ha : Accepted cmdSecStatus p e s t) (hl : t.sec.lockout = none) : ∃ b : Bytes,
    exec (.secStatus p) s = .next (t.complete p stOK [] (some b)) ∧ b.length = 32 ∧ byteAt b 0 = t.secureFlags % 256 ∧
    slice b 4 4 = leBytes 4 t.ao.tamperCount ∧ slice b 20 2 = [0, 0] := by
  have hleft : t.lockoutLeft = (0, t) := by
    unfold State.lockoutLeft
    rw [hl]
  have hbody : ∃ flags used, cmdSecStatus.body p e t = .done t stOK [] (some (leBytes 1 t.secureFlags ++ leBytes 1 flags ++
      leBytes 1 t.sec.rootBank ++ leBytes 1 t.flash.rollback ++ leBytes 4 t.ao.tamperCount ++ leBytes 1 t.sec.tamperSrc ++ zeros 3 ++
      t.sec.tamperStamp.bytes ++ leBytes 2 used ++ leBytes 2 0 ++ zeros 10)) := by
    simp only [cmdSecStatus, hleft]
    exact ⟨_, _, rfl⟩
  obtain ⟨flags, used, hbody⟩ := hbody
  refine ⟨_, congrArg Host.Outcome.next (run_done ha hbody), by simp, ?_, ?_, ?_⟩
  · simp only [List.append_assoc]
    exact byteAt_leBytes_zero 0 _
  · simp (disch := simp) only [slice_append_left, slice_append_end]
  · simp (disch := simp) only [slice_append_left, slice_append_end]
    rfl

theorem length_slotInfo (s : State) (n : Nat) : (s.slotInfo n).length = 32 := by
  unfold State.slotInfo
  split
  · extract_lets gen
    have hgen (g : Option KeyGen) : (gen g).length = 8 := by cases g <;> simp [gen]
    split <;> simp [hgen]
  · exact length_zeros 32

theorem secKeyInfo_accepted (ha : Accepted cmdSecKeyInfo p e s t) : ∃ b : Bytes,
    exec (.secKeyInfo p) s = .next (t.complete p stOK [] (some b)) ∧ b.length = 32 * infoCount e.req ∧
    ∀ i, i < infoCount e.req → slice b (32 * i) 32 = t.slotInfo (byteAt e.req.params 0 + i) := by
  have hlen (i : Nat) : (t.slotInfo (byteAt e.req.params 0 + i)).length = 32 := length_slotInfo ..
  refine ⟨_, congrArg Host.Outcome.next (run_done ha rfl), ?_, fun i hi => ?_⟩
  · exact length_flatMap_range hlen _
  · exact slice_flatMap_range hlen hi

/-! ## Re-masking and the entropy source (R415, R426) -/

theorem keyRemask_waits (h : s.keyCommand = true) : exec .keyRemask s = .next s :=
  congrArg Host.Outcome.next (if_neg (by simp [h]))

theorem keyRemask_idle (hd : s.sec.derived = true) (hz : s.sec.zeroised = false) (hf : s.sec.entropyFail = false)
    (h : s.keyCommand = false) : exec .keyRemask s =
      .next { s with ao.keyMask := some s.sec.draws, sec.draws := s.sec.draws + 1, sec.slots := s.ao.keys } :=
  congrArg Host.Outcome.next (if_pos (by simp [hd, hz, hf, h]))

theorem entropyHealthFail_spec (s : State) :
    (s.sec.healthFails < 2 → exec .entropyHealthFail s = .next { s with sec.healthFails := s.sec.healthFails + 1 }) ∧
    (2 ≤ s.sec.healthFails → s.sec.entropyFail = false → ∃ t, exec .entropyHealthFail s = .next t ∧ t.sec.entropyFail = true ∧
      t.sec.slots = s.sec.slots ∧ t.cfg = s.cfg) := by
  have hrun : exec .entropyHealthFail s = .next s.healthFail := rfl
  refine ⟨fun h => hrun.trans (congrArg _ ?_), fun h hf => ⟨_, hrun, ?_⟩⟩
  · have hmin : min 3 (s.sec.healthFails + 1) = s.sec.healthFails + 1 := by omega
    unfold State.healthFail
    dsimp only
    rw [hmin, if_neg (by simp; omega)]
  · unfold State.healthFail
    extract_lets n _ v
    have hv : v.sec.slots = s.sec.slots ∧ v.cfg = s.cfg ∧ v.sec.entropyFail = false := ⟨rfl, rfl, hf⟩
    clear_value v
    have hn : 3 ≤ n := by dsimp only [n]; omega
    rw [if_pos (by simp [hn, hv.2.2])]
    unfold State.entropyFail
    extract_lets d
    exact ⟨(Recorded.settled ..).entropyFail, (Recorded.settled ..).slots.trans hv.1, (Recorded.settled ..).cfg.trans hv.2.1⟩

end

/-- Settles O53. -/
theorem keyStore : Obligations.KeyStore := by
  refine ⟨fun p e s t i n type old g ha hi hn ht ho hg => secKeyImport_accepted ha hi hn ht ho (by rw [hg, ho]; rfl),
    fun p e s t ha => secKeyImport_checks ha, fun p e s t i n ha hi hn => secOperatorEnrol_accepted ha hi hn,
    fun p e s t n k ha hn hk => secKeyRemove_held ha hn hk, fun p e s t n ha hn hk => secKeyRemove_empty ha hn hk,
    fun p e s t ha => secRestore_accepted ha, fun p e s t ha => secBackup_accepted ha, 
    completes_of_body (fun _ _ => rfl) fun _ _ _ => rfl, fun p e s t ha => secDebugDisable_accepted ha,
    fun p e s t v ha hv => secRollbackCommit_accepted ha hv, fun p e s t ha => secKeyrev_accepted ha,
    fun p e s t ha => secZeroise_accepted ha, fun p e s t ha => secTamperClear_accepted ha, fun p e s t ha => authNonce_accepted ha,
    fun p e s t ha => secImportSession_accepted ha, fun s p i hi => importSessionExpiry_open hi,
    fun p e s t ha hz => secAttest_accepted ha hz, fun p e s t ha hl => secStatus_accepted ha hl,
    fun p e s t ha => secKeyInfo_accepted ha, answers_of_body (fun _ _ => rfl) fun _ _ _ => rfl, fun s h => keyRemask_waits h,
    fun s hd hz hf h => keyRemask_idle hd hz hf h, entropyHealthFail_spec⟩

end Machine
end Sys2Proof

/-! PROOFS. DRAM words (O54): the code, what a store and a detection do (R440, R443 to R445, R450 to R453). -/

namespace Sys2Proof
namespace Machine

/-! ## The code (R440, R444, R445) -/

theorem mem_bits72 {e i : Nat} : i ∈ bits72 e ↔ i < 72 ∧ e.testBit i = true := by simp [bits72]

theorem nodup_bits72 (e : Nat) : (bits72 e).Nodup := List.nodup_range.filter _

theorem bits72_single {i : Nat} (h : i < 72) : bits72 (2 ^ i) = [i] := by
  refine List.perm_singleton.1 ((List.perm_ext_iff_of_nodup (nodup_bits72 _) (List.nodup_singleton i)).2 fun k => ?_)
  simp only [mem_bits72, Nat.testBit_two_pow, decide_eq_true_eq, List.mem_singleton]
  omega

theorem length_bits72_pair {i j : Nat} (hi : i < 72) (hj : j < i) : (bits72 (2 ^ i + 2 ^ j)).length = 2 := by
  have hmem (k : Nat) : k ∈ bits72 (2 ^ i + 2 ^ j) ↔ k ∈ [i, j] := by
    have hlt : 2 ^ j < 2 ^ i := Nat.pow_lt_pow_right (by decide) hj
    have hor : 2 ^ i + 2 ^ j = 2 ^ i ||| 2 ^ j := by
      have := Nat.two_pow_add_eq_or_of_lt hlt 1
      simpa using this
    rw [mem_bits72, hor, Nat.testBit_or, Nat.testBit_two_pow, Nat.testBit_two_pow]
    simp only [Bool.or_eq_true, decide_eq_true_eq, List.mem_cons, List.not_mem_nil, or_false]
    omega
  have hnodup : [i, j].Nodup := by simp; omega
  exact ((List.perm_ext_iff_of_nodup (nodup_bits72 _) hnodup).2 hmem).length_eq

theorem classify_single {i : Nat} (h : i < 72) : classify (2 ^ i) = .corrected i := by
  rw [classify, bits72_single h]

/-- Two wrong bits never look correct, nor like one. -/
theorem classify_pair {i j : Nat} (hi : i < 72) (hj : j < i) :
    classify (2 ^ i + 2 ^ j) = .poison ∨ classify (2 ^ i + 2 ^ j) = .uncorrectable := by
  have hlen := length_bits72_pair hi hj
  unfold classify
  split
  case h_1 h => rw [h] at hlen; exact absurd hlen (by decide)
  case h_2 h => rw [h] at hlen; exact absurd hlen (by simp)
  case h_3 =>
    dsimp only
    split
    · exact .inl rfl
    · exact .inr rfl

theorem classify_zero : classify 0 = .clean := by decide

theorem classify_poison : classify poisonErr = .poison := by decide

theorem corrected_single {d i : Nat} (h : i < 64) : corrected (d ^^^ 2 ^ i) (2 ^ i) = (d, false) := by
  rw [corrected, classify_single (by omega)]
  simp [h]

theorem corrected_clean (d : Nat) : corrected d 0 = (d, false) := by rw [corrected, classify_zero]

/-! ## Eight bytes and their number -/

theorem bytes_eq_leBytes (d : Nat) : (List.range 8).map (fun i => BitVec.ofNat 8 (d / 256 ^ i)) = leBytes 8 d := by
  simp [List.range_succ, leBytes, Nat.div_div_eq_div_mul]

theorem le64_leBytes (d : Nat) : le64 (leBytes 8 d) 0 = d % 2 ^ 64 := by
  simp only [le64, le32, le16, byteAt_leBytes_zero, byteAt_leBytes_succ, Nat.zero_add]
  omega

theorem leBytes_le64 {b : Bytes} (h : b.length = 8) : leBytes 8 (le64 b 0) = b := by
  obtain ⟨x0, x1, x2, x3, x4, x5, x6, x7, rfl⟩ : ∃ x0 x1 x2 x3 x4 x5 x6 x7, b = [x0, x1, x2, x3, x4, x5, x6, x7] := by
    match b, h with
    | [x0, x1, x2, x3, x4, x5, x6, x7], _ => exact ⟨_, _, _, _, _, _, _, _, rfl⟩
  have hb (x : Byte) : x.toNat < 256 := x.isLt
  simp only [leBytes, le64, le32, le16, byteAt, List.getD_cons_zero, List.getD_cons_succ, Nat.zero_add, List.cons.injEq]
  refine ⟨?_, ?_, ?_, ?_, ?_, ?_, ?_, ?_, trivial⟩
  all_goals
    refine BitVec.eq_of_toNat_eq ?_
    rw [BitVec.toNat_ofNat]
    have h0 := hb x0; have h1 := hb x1; have h2 := hb x2; have h3 := hb x3
    have h4 := hb x4; have h5 := hb x5; have h6 := hb x6; have h7 := hb x7
    omega

/-! ## Storing a word (R443, R450) -/

/-- The cells after a word is stored. -/
def storeWord (m : List Host.Cell) (a d : Nat) : List Host.Cell :=
  (List.range 8).foldl (fun m i => cellSet m (a + i) (BitVec.ofNat 8 (d / 256 ^ i))) m

theorem cellAt_cellSets (m : List Host.Cell) (a n k : Nat) (f : Nat → Byte) :
    cellAt ((List.range n).foldl (fun m i => cellSet m (a + i) (f i)) m) k =
      if a ≤ k ∧ k < a + n then some (f (k - a)) else cellAt m k := by
  induction n with
  | zero => simp
  | succ n ih =>
    rw [List.range_succ, List.foldl_append, List.foldl_cons, List.foldl_nil]
    by_cases hk : k = a + n
    · subst hk
      rw [cellAt_cellSet_same, if_pos (by omega), Nat.add_sub_cancel_left]
    · rw [cellAt_cellSet_other _ _ _ _ hk, ih]
      exact if_congr (by omega) rfl rfl

theorem cellAt_storeWord_in (m : List Host.Cell) (a d i : Nat) (h : i < 8) :
    cellAt (storeWord m a d) (a + i) = some (BitVec.ofNat 8 (d / 256 ^ i)) := by
  rw [storeWord, cellAt_cellSets, if_pos (by omega), Nat.add_sub_cancel_left]

theorem cellAt_storeWord_out (m : List Host.Cell) (a d k : Nat) (h : k < a ∨ a + 8 ≤ k) :
    cellAt (storeWord m a d) k = cellAt m k := by
  rw [storeWord, cellAt_cellSets, if_neg (by omega)]

/-- The word stored at an address. -/
theorem stored_storeWord {m : MemBlk} {c : List Host.Cell} {a d : Nat} (h : m.data = storeWord c a d) :
    m.stored a = (d % 2 ^ 64, m.err.getD a 0) := by
  have hhead : cellAt m.data a = some (BitVec.ofNat 8 (d / 256 ^ 0)) := by
    rw [h]
    exact cellAt_storeWord_in c a d 0 (by decide)
  have hbytes : (List.range 8).map (fun i => (cellAt m.data (a + i)).getD 0) = leBytes 8 d := by
    rw [← bytes_eq_leBytes]
    refine List.map_congr_left fun i hi => ?_
    rw [h, cellAt_storeWord_in c a d i (List.mem_range.1 hi)]
    rfl
  unfold MemBlk.stored
  rw [hhead]
  dsimp only
  rw [hbytes, le64_leBytes]

/-- A word is what it was where its bytes and its difference are. -/
theorem stored_congr {m n : MemBlk} {a : Nat} (h : ∀ i, i < 8 → cellAt m.data (a + i) = cellAt n.data (a + i))
    (he : m.err.getD a 0 = n.err.getD a 0) : m.stored a = n.stored a := by
  have hbytes : (List.range 8).map (fun i => (cellAt m.data (a + i)).getD 0) =
      (List.range 8).map (fun i => (cellAt n.data (a + i)).getD 0) :=
    List.map_congr_left fun i hi => by rw [h i (List.mem_range.1 hi)]
  have h0 : cellAt m.data a = cellAt n.data a := h 0 (by decide)
  unfold MemBlk.stored
  rw [h0, hbytes, he]

/-- The memory after a whole word is stored. -/
def MemBlk.putWord (m : MemBlk) (a d e : Nat) : MemBlk :=
  { m with
    data := storeWord m.data a d
    err := if e = 0 then m.err.del a else m.err.set a e
    log := m.log.map (fun l => if l.address = a ∧ l.kind ≤ 3 then { l with rewritten := true } else l) }

theorem err_putWord (m : MemBlk) (a d e : Nat) : (m.putWord a d e).err.getD a 0 = e := by
  unfold MemBlk.putWord
  dsimp only
  split
  next h => rw [Tbl.getD, tbl_get_del_same, h]; rfl
  next => exact tbl_getD_set_same ..

theorem err_putWord_other (m : MemBlk) {a b : Nat} (d e : Nat) (h : b ≠ a) : (m.putWord a d e).err.getD b 0 = m.err.getD b 0 := by
  unfold MemBlk.putWord
  dsimp only
  split
  · rw [Tbl.getD, tbl_get_del_other _ h]; rfl
  · exact tbl_getD_set_other _ _ _ h

theorem stored_putWord (m : MemBlk) (a d e : Nat) : (m.putWord a d e).stored a = (d % 2 ^ 64, e) := by
  rw [stored_storeWord (m := m.putWord a d e) rfl, err_putWord]

theorem stored_putWord_other (m : MemBlk) {a b : Nat} (d e : Nat) (h : b + 8 ≤ a ∨ a + 8 ≤ b) :
    (m.putWord a d e).stored b = m.stored b :=
  stored_congr (fun i hi => cellAt_storeWord_out _ _ _ _ (by omega)) (err_putWord_other m d e (by omega))

variable {s : State}

/-- The difference from a valid codeword of a fresh word. -/
def markErr (p : Bool) : Nat := if p then poisonErr else 0

theorem wordWrite_unarmed (a d : Nat) (p : Bool) (h : s.mem.flipArmed = false) :
    s.wordWrite a d p = { s with mem := s.mem.putWord a d (markErr p) } := by
  have hhit : (s.mem.flipArmed && s.mem.flipAddr == a) = false := by simp [h]
  unfold State.wordWrite
  simp only [hhit, Bool.false_eq_true, if_false]
  rfl

theorem wordWrite_armed (a d : Nat) (p : Bool) (h : s.mem.flipArmed = true) (ha : s.mem.flipAddr = a) :
    s.wordWrite a d p = (({ s with mem := { s.mem.putWord a (d ^^^ (s.mem.flipMask % 2 ^ 64)) (markErr p ^^^ s.mem.flipMask) with
      flipArmed := false } } : State).eccEvt 5).firnEv 0x1106 ([1] ++ leBytes 4 (a / 16)) := by
  have hhit : (s.mem.flipArmed && s.mem.flipAddr == a) = true := by simp [h, ha]
  unfold State.wordWrite
  simp only [hhit, if_true]
  rfl

/-! ## What a detection does (R444, R445, R451 to R454) -/

theorem eccEvt_mem (s : State) (b : Nat) : (s.eccEvt b).mem = { s.mem with evt := s.mem.evt ||| BitVec.twoPow 7 b } := by
  unfold State.eccEvt
  dsimp only
  split <;> simp

theorem eccEvt_evt (s : State) {b : Nat} (h : b < 7) : (s.eccEvt b).mem.evt.getLsbD b = true := by
  simp [eccEvt_mem, h]

/-- A detection's record limits its own time and count only. -/
def LimitOnly (m n : MemBlk) : Prop := ∃ a b c d, n = { m with ceFirn := a, ceMore := b, ueFirn := c, ueMore := d }

theorem ceRecord_mem (s : State) (a : Nat) : LimitOnly s.mem (s.ceRecord a).mem := by
  unfold State.ceRecord
  split
  · exact ⟨some s.now, 0, s.mem.ueFirn, s.mem.ueMore, by simp⟩
  · exact ⟨_, _, _, _, rfl⟩

theorem ueRecord_mem (s : State) (a k : Nat) : LimitOnly s.mem (s.ueRecord a k).mem := by
  unfold State.ueRecord
  split
  · exact ⟨s.mem.ceFirn, s.mem.ceMore, some s.now, 0, by simp⟩
  · exact ⟨_, _, _, _, rfl⟩

/-- The memory after a detection, from the block with its counter and register set. -/
def Detected (m n : MemBlk) (bit : Nat) : Prop :=
  ∃ l o a b c d, n = { m with
    log := l, overwritten := o, evt := m.evt ||| BitVec.twoPow 7 bit
    ceFirn := a, ceMore := b, ueFirn := c, ueMore := d }

theorem detection_mem (s : State) (m : MemBlk) (e : EccLog) (bit new opcode pos obj : Nat) {n : MemBlk}
    (h : LimitOnly ((((s.logEcc m e).eccEvt bit).counted new opcode pos obj).mem) n) : Detected m n bit := by
  obtain ⟨l, o, hl⟩ := logAdd_frame m e
  obtain ⟨a, b, c, d, rfl⟩ := h
  refine ⟨l, o, a, b, c, d, ?_⟩
  rw [counted_mem, eccEvt_mem]
  simp only [State.logEcc, hl]

/-- The memory's counters and registers after a detection (R452). -/
def MemBlk.noted (m : MemBlk) (a src e : Nat) (st : Stamp) : MemBlk :=
  match classify e with
  | .clean => m
  | .corrected i => { m with ceCnt := inc32 m.ceCnt, ce := ⟨a, syndrome e, i, src, st⟩ }
  | .poison => { m with poisonCnt := inc32 m.poisonCnt }
  | .uncorrectable => { m with ueCnt := inc32 m.ueCnt, ue := ⟨a, syndrome e, 255, src, st⟩ }

/-- The event bit of what was found. -/
def WordState.evtBit : WordState → Nat
  | .clean => 7
  | .corrected _ => 0
  | .poison => 2
  | .uncorrectable => 1

theorem detect_clean {e : Nat} (a src : Nat) (h : classify e = .clean) : s.detect a src e = s := by
  unfold State.detect
  rw [h]

theorem detect_mem (s : State) (a src e : Nat) (h : classify e ≠ .clean) :
    Detected (s.mem.noted a src e (s.stamp 17)) (s.detect a src e).mem (classify e).evtBit := by
  unfold State.detect MemBlk.noted
  cases hc : classify e with
  | clean => exact absurd hc h
  | corrected i => exact detection_mem s _ _ 0 _ _ _ _ (ceRecord_mem _ _)
  | poison => exact detection_mem s _ _ 2 _ _ _ _ (ueRecord_mem _ _ _)
  | uncorrectable => exact detection_mem s _ _ 1 _ _ _ _ (ueRecord_mem _ _ _)

theorem detect_flipArmed (s : State) (a src e : Nat) : (s.detect a src e).mem.flipArmed = s.mem.flipArmed := by
  by_cases h : classify e = .clean
  · rw [detect_clean a src h]
  · obtain ⟨_, _, _, _, _, _, hm⟩ := detect_mem s a src e h
    rw [hm]
    unfold MemBlk.noted
    split <;> rfl

theorem detect_spec (s : State) (a src e : Nat) : (classify e = .clean → s.detect a src e = s) ∧
    (s.detect a src e).mem.data = s.mem.data ∧
    (∀ i, classify e = .corrected i → (s.detect a src e).mem.ceCnt = inc32 s.mem.ceCnt ∧
      (s.detect a src e).mem.ce = ⟨a, syndrome e, i, src, s.stamp 17⟩ ∧ (s.detect a src e).mem.ueCnt = s.mem.ueCnt ∧
      (s.detect a src e).mem.evt.getLsbD 0 = true) ∧
    (classify e = .poison → (s.detect a src e).mem.poisonCnt = inc32 s.mem.poisonCnt ∧
      (s.detect a src e).mem.ueCnt = s.mem.ueCnt ∧ (s.detect a src e).mem.ue = s.mem.ue ∧ (s.detect a src e).mem.evt.getLsbD 2 = true) ∧
    (classify e = .uncorrectable → (s.detect a src e).mem.ueCnt = inc32 s.mem.ueCnt ∧
      (s.detect a src e).mem.ue = ⟨a, syndrome e, 255, src, s.stamp 17⟩ ∧ (s.detect a src e).mem.evt.getLsbD 1 = true) := by
  refine ⟨detect_clean a src, (detect_cells s a src e).1, fun i h => ?_, fun h => ?_, fun h => ?_⟩
  all_goals
    obtain ⟨_, _, _, _, _, _, hm⟩ := detect_mem s a src e (by simp [h])
    rw [hm]
    simp only [MemBlk.noted, h, WordState.evtBit]
    simp

end Machine
end Sys2Proof

/-! PROOFS. Writes of lines and reads of DRAM (O54): the merge buffer's entries, BAR2 and fills (R442, R443, R448). -/

namespace Sys2Proof
namespace Machine

variable {s : State} {l : MergeLine}

/-! ## The words of an entry (R443) -/

/-- What an entry's whole word is stored as. -/
def MergeLine.value (l : MergeLine) (i : Nat) : Nat × Nat :=
  (overlay 0 (l.word i) % 2 ^ 64, markErr (l.poisoned.contains i))

theorem overlay_whole (d : Nat) (f : Nat → Byte) :
    overlay d ((List.range 8).map (fun j => some (f j))) = le64 ((List.range 8).map f) 0 := rfl

/-- The bytes of a number with an entry's bytes laid over it. -/
theorem leBytes_overlay (d : Nat) (bs : List (Option Byte)) (h : bs.length = 8) :
    leBytes 8 (overlay d bs) = (bs.zip (leBytes 8 d)).map (fun p => p.1.getD p.2) :=
  leBytes_le64 (by simp [h])

theorem word_congr {l l' : MergeLine} {i : Nat} (h : ∀ j, j < 8 → l.bytes.get? (8 * i + j) = l'.bytes.get? (8 * i + j)) :
    l.word i = l'.word i :=
  List.map_congr_left fun j hj => h j (List.mem_range.1 hj)

theorem full_iff {i : Nat} : l.full i = true ↔ ∀ j, j < 8 → (l.bytes.get? (8 * i + j)).isSome = true := by
  simp [MergeLine.full, MergeLine.word]

theorem untouched_iff {i : Nat} : l.untouched i = true ↔ ∀ j, j < 8 → l.bytes.get? (8 * i + j) = none := by
  simp [MergeLine.untouched, MergeLine.word]

/-! ## A store of an entry's whole words -/

/-- What storing the words `f` of an entry leaves: those words hold the entry's values, every other word its own. -/
def Stores (m n : MemBlk) (l : MergeLine) (f : Nat → Bool) : Prop :=
  n.flipArmed = false ∧ n.merge = m.merge ∧ (∀ i, f i = true → n.stored (l.line + 8 * i) = l.value i) ∧
    ∀ b, (∀ i, f i = true → b + 8 ≤ l.line + 8 * i ∨ l.line + 8 * i + 8 ≤ b) → n.stored b = m.stored b

theorem Stores.congr {m n : MemBlk} {l l' : MergeLine} {f g : Nat → Bool} (hline : l'.line = l.line) (hf : ∀ i, g i = f i)
    (hv : ∀ i, f i = true → l'.value i = l.value i) (h : Stores m n l' g) : Stores m n l f := by
  obtain ⟨h1, h2, h3, h4⟩ := h
  refine ⟨h1, h2, fun i hi => ?_, fun b hb => h4 b fun i hi => ?_⟩
  · rw [← hline, h3 i ((hf i).trans hi), hv i hi]
  · rw [hline]
    exact hb i ((hf i).symm.trans hi)

/-- The words of the first `n` that an entry touches. -/
def MergeLine.touches (l : MergeLine) (n i : Nat) : Bool := decide (i < n) && !l.untouched i

theorem storeWords_stores (l : MergeLine) (h : s.mem.flipArmed = false) (n : Nat) : ∃ m, (List.range n).foldl (fun s i =>
    if l.untouched i then s
    else s.wordWrite (l.line + 8 * i) (overlay 0 (l.word i)) (l.poisoned.contains i)) s = { s with mem := m } ∧
    Stores s.mem m l (l.touches n) := by
  induction n with
  | zero => exact ⟨s.mem, rfl, h, rfl, fun i hi => absurd hi (by simp [MergeLine.touches]), fun _ _ => rfl⟩
  | succ n ih =>
    obtain ⟨m, hm, harm, hmerge, hin, hout⟩ := ih
    rw [List.range_succ, List.foldl_append, List.foldl_cons, List.foldl_nil, hm]
    cases hu : l.untouched n with
    | true =>
      have hsame (i : Nat) : l.touches (n + 1) i = l.touches n i := by
        by_cases hi : i = n
        · subst hi; simp [MergeLine.touches, hu]
        · have : i < n + 1 ↔ i < n := by omega
          simp [MergeLine.touches, this]
      refine ⟨m, if_pos rfl, harm, hmerge, fun i hi => hin i (hsame i ▸ hi), fun b hb => hout b fun i hi => hb i (hsame i ▸ hi)⟩
    | false =>
      rw [if_neg (by simp), wordWrite_unarmed _ _ _ harm]
      have hlast : l.touches (n + 1) n = true := by simp [MergeLine.touches, hu]
      refine ⟨_, rfl, harm, hmerge, fun i hi => ?_, fun b hb => ?_⟩
      · by_cases hin' : i = n
        · subst hin'
          exact stored_putWord ..
        · have hlt : i < n := by
            have : i < n + 1 := of_decide_eq_true (Bool.and_eq_true _ _ ▸ hi : _ ∧ _).1
            omega
          rw [stored_putWord_other m _ _ (by omega)]
          refine hin i ?_
          simp only [MergeLine.touches, Bool.and_eq_true, decide_eq_true_eq] at hi ⊢
          exact ⟨hlt, hi.2⟩
      · rw [stored_putWord_other m _ _ (hb n hlast)]
        refine hout b fun i hi => hb i ?_
        simp only [MergeLine.touches, Bool.and_eq_true, decide_eq_true_eq] at hi ⊢
        exact ⟨by omega, hi.2⟩

theorem lineStore_stores (l : MergeLine) (h : s.mem.flipArmed = false) : ∃ m, s.lineStore l = { s with mem := m } ∧
    Stores s.mem m l (l.touches 8) :=
  storeWords_stores l h 8

/-- Nothing is stored of an entry with no byte. -/
theorem lineStore_empty (h : l.bytes = []) : s.lineStore l = s := by
  refine foldl_keeps (fun t : State => t = s) _ (fun t i ht => ?_) _ _ rfl
  have hu : l.untouched i = true := untouched_iff.2 fun j _ => by rw [h]; rfl
  rw [if_pos hu]
  exact ht

theorem tbl_eq_nil {α : Type} {t : Tbl α} (h : ∀ k, t.get? k = none) : t = [] := by
  cases t with
  | nil => rfl
  | cons x t =>
    obtain ⟨k, v⟩ := x
    have hk := h k
    simp [Tbl.get?] at hk

/-! ## A new entry (R443) -/

/-- An entry of whole words only is stored at once. -/
theorem lineNew_whole (h : s.mem.flipArmed = false) (hw : ∀ k, (l.bytes.get? k).isSome = true → l.full (k / 8) = true) :
    ∃ m, s.lineNew l = { s with mem := m } ∧ Stores s.mem m l (fun i => decide (i < 8) && l.full i) := by
  have hrest : l.bytes.delIf (fun k => l.full (k / 8)) = [] := tbl_eq_nil fun k => by
    rw [tbl_get_delIf]
    split
    next => rfl
    next hn =>
      by_contra hsome
      exact hn (hw k (Option.isSome_iff_ne_none.2 hsome))
  have hbytes (k : Nat) : (l.bytes.delIf (fun k => !l.full (k / 8))).get? k = l.bytes.get? k := by
    rw [tbl_get_delIf]
    split
    next hn =>
      by_contra hsome
      have := hw k (Option.isSome_iff_ne_none.2 (Ne.symm hsome))
      simp [this] at hn
    next => rfl
  obtain ⟨m, hm, hst⟩ := lineStore_stores { l with bytes := l.bytes.delIf (fun k => !l.full (k / 8)) } h
  refine ⟨m, ?_, hst.congr (l' := { l with bytes := l.bytes.delIf (fun k => !l.full (k / 8)) }) rfl (fun i => ?_) (fun i _ => ?_)⟩
  · unfold State.lineNew
    dsimp only
    rw [hrest, hm]
    rfl
  · have hfull : (!MergeLine.untouched { l with bytes := l.bytes.delIf (fun k => !l.full (k / 8)) } i) = l.full i := by
      cases hf : l.full i with
      | true =>
        have hu : ¬ MergeLine.untouched { l with bytes := l.bytes.delIf (fun k => !l.full (k / 8)) } i = true := fun hu => by
          have hnone := untouched_iff.1 hu 0 (by decide)
          have hsome := full_iff.1 hf 0 (by decide)
          rw [← hbytes, hnone] at hsome
          exact absurd hsome (by decide)
        simpa using hu
      | false =>
        have hu : MergeLine.untouched { l with bytes := l.bytes.delIf (fun k => !l.full (k / 8)) } i = true :=
          untouched_iff.2 fun j hj => by
            have hdiv : (8 * i + j) / 8 = i := by omega
            dsimp only
            rw [tbl_get_delIf, hdiv, hf]
            rfl
        simp [hu]
    rw [MergeLine.touches, hfull]
  · unfold MergeLine.value
    rw [word_congr (l' := l) fun j _ => hbytes _]

/-- An entry with no whole word waits in the buffer. -/
theorem lineNew_partial (hroom : s.mem.merge.length < 16) (hp : ∀ i, l.full i = false) (hb : l.bytes ≠ []) :
    ∃ r : MergeLine, s.lineNew l = { s with mem.merge := s.mem.merge ++ [r] } ∧ r.line = l.line ∧
      (∀ k, r.bytes.get? k = l.bytes.get? k) := by
  have hgone : l.bytes.delIf (fun k => !l.full (k / 8)) = [] := tbl_eq_nil fun k => by
    rw [tbl_get_delIf, hp]
    rfl
  have hstay (k : Nat) : (l.bytes.delIf (fun k => l.full (k / 8))).get? k = l.bytes.get? k := by
    rw [tbl_get_delIf, hp]
    rfl
  have hne : (l.bytes.delIf (fun k => l.full (k / 8))).isEmpty = false := by
    cases he : l.bytes.delIf (fun k => l.full (k / 8)) with
    | nil =>
      refine absurd (tbl_eq_nil fun k => ?_) hb
      rw [← hstay, he]
      rfl
    | cons x t => rfl
  refine ⟨{ l with bytes := l.bytes.delIf (fun k => l.full (k / 8)) }, ?_, rfl, hstay⟩
  unfold State.lineNew
  dsimp only
  rw [lineStore_empty (l := { l with bytes := l.bytes.delIf (fun k => !l.full (k / 8)) }) hgone, hne, State.mergeRoom,
    if_neg (by simp), if_neg (by omega)]

/-! ## A write into a line with no entry -/

theorem get_sets (bytes : Bytes) (off n k : Nat) :
    Tbl.get? ((List.range n).foldl (fun (t : Tbl Byte) i => t.set (off + i) (bytes.getD i 0)) []) k =
      if off ≤ k ∧ k < off + n then some (bytes.getD (k - off) 0) else none := by
  induction n with
  | zero =>
    rw [if_neg (by omega)]
    rfl
  | succ n ih =>
    rw [List.range_succ, List.foldl_append, List.foldl_cons, List.foldl_nil]
    by_cases hk : k = off + n
    · subst hk
      rw [tbl_get_set_same, if_pos (by omega), Nat.add_sub_cancel_left]
    · rw [tbl_get_set_other _ _ _ _ hk, ih]
      exact if_congr (by omega) rfl rfl

/-- The entry a write into a line with none makes. -/
def freshLine (line off : Nat) (bytes : Bytes) (poisoned : Bool) (now : Nat) : MergeLine :=
  MergeLine.put { line := line } off bytes poisoned now

theorem get_freshLine (line off : Nat) (bytes : Bytes) (p : Bool) (now k : Nat) : (freshLine line off bytes p now).bytes.get? k =
    if off ≤ k ∧ k < off + bytes.length then some (bytes.getD (k - off) 0) else none :=
  get_sets bytes off bytes.length k

theorem full_freshLine {line off : Nat} {bytes : Bytes} {p : Bool} {now i : Nat} :
    (freshLine line off bytes p now).full i = true ↔ off ≤ 8 * i ∧ 8 * i + 8 ≤ off + bytes.length := by
  simp only [full_iff, get_freshLine]
  constructor
  · intro h
    have h0 := h 0 (by decide)
    have h7 := h 7 (by decide)
    split at h0
    · split at h7
      · omega
      · exact absurd h7 (by simp)
    · exact absurd h0 (by simp)
  · intro h j hj
    rw [if_pos (by omega)]
    rfl

/-- The value of a whole word of the data written. -/
theorem value_freshLine {line off : Nat} {bytes : Bytes} {now i : Nat} (h : (freshLine line off bytes false now).full i = true) :
    (freshLine line off bytes false now).value i = (le64 ((List.range 8).map (fun j => bytes.getD (8 * i + j - off) 0)) 0 % 2 ^ 64, 0) := by
  have hb := full_freshLine.1 h
  have hw : (freshLine line off bytes false now).word i =
      (List.range 8).map (fun j => some (bytes.getD (8 * i + j - off) 0)) := by
    refine List.map_congr_left fun j hj => ?_
    have := List.mem_range.1 hj
    rw [get_freshLine, if_pos (by omega)]
  unfold MergeLine.value
  rw [hw, overlay_whole]
  rfl

theorem lineWrite_fresh {a : Nat} {b : Bytes} {p : Bool} (he : s.mem.entry (a / 64 * 64) = none) :
    s.lineWrite a b p = s.lineNew (freshLine (a / 64 * 64) (a % 64) b p s.now) := by
  have hpre (w : Bool) : s.linePre (a / 64 * 64) w = s := by
    unfold State.linePre
    rw [he]
  unfold State.lineWrite
  dsimp only
  rw [hpre, he]
  rfl

/-- A write that lies in one line is one piece. -/
theorem memWrite_one {a : Nat} {b : Bytes} {p : Bool} (hne : b ≠ []) (h : a % 64 + b.length ≤ 64) :
    s.memWrite a b p = s.lineWrite a b p := by
  have hlen : b.length ≠ 0 := fun h0 => hne (List.length_eq_zero_iff.1 h0)
  have htake : b.take (64 - a % 64) = b := List.take_of_length_le (by omega)
  have hdrop : b.drop (64 - a % 64) = [] := List.drop_of_length_le (by omega)
  have hempty : b.isEmpty = false := by simpa using hne
  have hnil (n k : Nat) : linePieces n k [] = [] := by cases n <;> rfl
  have hpieces : linePieces (b.length + 1) a b = [(a, b)] := by
    unfold linePieces
    dsimp only
    rw [hempty, htake, hdrop, hnil]
    rfl
  rw [State.memWrite, hpieces]
  rfl

/-! ## A read inside one word -/

theorem memRead_one (s : State) {a len src : Nat} (h0 : 0 < len) (h : a % 8 + len ≤ 8) : s.memRead a len src =
    ((((leBytes 8 (s.wordFetch (a / 8 * 8) src).1).map (fun b => (b, (s.wordFetch (a / 8 * 8) src).2.1))).drop (a % 8)).take len,
      (s.wordFetch (a / 8 * 8) src).2.2) := by
  have hn : (a + len - a / 8 * 8 + 7) / 8 = 1 := by omega
  have hoff : a - a / 8 * 8 = a % 8 := by omega
  unfold State.memRead
  dsimp only
  rw [if_neg (by omega), hn, hoff]
  simp only [State.wordsFetch, List.append_nil]

theorem wordFetch_none {a src : Nat} (he : s.mem.entry (a / 64 * 64) = none) : s.wordFetch a src = s.wordRead a src := by
  unfold State.wordFetch
  rw [he]

theorem wordFetch_partial {a src : Nat} (he : s.mem.entry (a / 64 * 64) = some l) (hf : l.full (a % 64 / 8) = false) :
    (s.wordFetch a src).1 = overlay (s.wordRead a src).1 (l.word (a % 64 / 8)) := by
  unfold State.wordFetch
  rw [he]
  dsimp only
  rw [hf]
  rfl

end Machine
end Sys2Proof

/-! PROOFS. DRAM and SRAM (O54): BAR2, the merge buffer, the error registers, flips, fills, scrubs and SRAM errors
(R440 to R455). -/

namespace Sys2Proof
namespace Machine

variable {s t : State} {p : Path} {e : Exec}

/-! ## BAR2 (R85, R442 to R445) -/

theorem bar2Write_dram {off a : Nat} {data : Bytes} {q : Bool} (hon : s.hostOn = true) (ha : a = 1073741824 * s.host.window + off)
    (hin : off + data.length ≤ 1073741824) (hfw : firmwareEnd ≤ a) : exec (.bar2Write off data q) s = .next (s.memWrite a data q) := by
  refine congrArg Host.Outcome.next ((if_pos (by simp [hon, hin])).trans ?_)
  rw [← ha, if_neg (by omega)]

theorem bar2Read_dram {off a len : Nat} (hon : s.hostOn = true) (ha : a = 1073741824 * s.host.window + off)
    (hin : off + len ≤ 1073741824) (hfw : firmwareEnd ≤ a) : exec (.bar2Read off len) s = .next { (s.memRead a len 1).2 with
      host.bar2 := some ((s.memRead a len 1).1.map (·.1), (s.memRead a len 1).1.any (·.2)) } := by
  refine congrArg Host.Outcome.next ((if_pos (by simp [hon, hin])).trans ?_)
  rw [← ha, if_neg (by omega)]

theorem le64_lt {b : Bytes} (h : b.length = 8) : le64 b 0 % 2 ^ 64 = le64 b 0 := by
  rw [← le64_leBytes, leBytes_le64 h]

theorem bytes_range {b : Bytes} {n : Nat} (h : b.length = n) : (List.range n).map (fun j => b.getD j 0) = b := by
  refine List.ext_getElem (by simp [h]) fun i hi hb => ?_
  simp [hb]

theorem readback_word {a : Nat} {b : Bytes} (he : s.mem.entry (a / 64 * 64) = none) (h8 : a % 8 = 0) (hb : b.length = 8)
    (hst : s.mem.stored a = (le64 b 0 % 2 ^ 64, 0)) : s.memRead a 8 1 = (b.map (fun x => (x, false)), s) := by
  have ha : a / 8 * 8 = a := by omega
  rw [memRead_one s (by decide) (by omega), ha, wordFetch_none he, h8]
  simp only [State.wordRead, hst, corrected_clean, detect_clean a 1 classify_zero]
  rw [le64_lt hb, leBytes_le64 hb, List.drop_zero, List.take_of_length_le (by simp [hb])]

theorem bar2_word {off a : Nat} {data : Bytes} (hon : s.hostOn = true) (ha : a = 1073741824 * s.host.window + off) (h8 : off % 8 = 0)
    (hb : data.length = 8) (hin : off + 8 ≤ 1073741824) (hfw : firmwareEnd ≤ a) (he : s.mem.entry (a / 64 * 64) = none)
    (harm : s.mem.flipArmed = false) : ∃ t u, exec (.bar2Write off data false) s = .next t ∧ exec (.bar2Read off 8) t = .next u ∧
      u.host.bar2 = some (data, false) ∧ (∀ b, b + 8 ≤ a ∨ a + 8 ≤ b → t.mem.stored b = s.mem.stored b) ∧
      t.mem.merge = s.mem.merge ∧ t.cfg = s.cfg := by
  have ha8 : a % 8 = 0 := by omega
  have hne : data ≠ [] := fun h0 => by rw [h0] at hb; exact absurd hb (by decide)
  have hwhole (k : Nat) (hk : ((freshLine (a / 64 * 64) (a % 64) data false s.now).bytes.get? k).isSome = true) :
      (freshLine (a / 64 * 64) (a % 64) data false s.now).full (k / 8) = true := by
    rw [get_freshLine] at hk
    split at hk
    · exact full_freshLine.2 (by omega)
    · exact absurd hk (by simp)
  have hwrite : s.memWrite a data false = s.lineNew (freshLine (a / 64 * 64) (a % 64) data false s.now) := by
    rw [memWrite_one hne (by omega), lineWrite_fresh he]
  obtain ⟨m, hm, -, hmerge, hstored, hother⟩ := lineNew_whole harm hwhole
  have hfull : (freshLine (a / 64 * 64) (a % 64) data false s.now).full (a % 64 / 8) = true := full_freshLine.2 (by omega)
  have haddr : a / 64 * 64 + 8 * (a % 64 / 8) = a := by omega
  have hst : m.stored a = (le64 data 0 % 2 ^ 64, 0) := by
    have hval := hstored (a % 64 / 8) (by simp [hfull]; omega)
    rw [value_freshLine hfull] at hval
    have hoff (j : Nat) : 8 * (a % 64 / 8) + j - a % 64 = j := by omega
    simp only [hoff, bytes_range hb] at hval
    exact (congrArg m.stored haddr).symm.trans hval
  have hread : ({ s with mem := m } : State).memRead a 8 1 = (data.map (fun x => (x, false)), { s with mem := m }) := by
    refine readback_word ?_ ha8 hb hst
    unfold MemBlk.entry at he ⊢
    rw [hmerge]
    exact he
  refine ⟨{ s with mem := m }, _, ?_, bar2Read_dram (s := { s with mem := m }) hon ha hin hfw, ?_, fun b hb' => hother b fun i hi => ?_,
    hmerge, rfl⟩
  · rw [bar2Write_dram hon ha (by omega) hfw, hwrite, hm]
  · rw [hread]
    simp [Function.comp_def]
  · have hi' := full_freshLine.1 (by simpa using (Bool.and_eq_true _ _ ▸ hi : _ ∧ _).2)
    have hline : (freshLine (a / 64 * 64) (a % 64) data false s.now).line = a / 64 * 64 := rfl
    omega

/-- A byte that waits in the buffer is read from there. -/
theorem readback_byte {a src : Nat} {v : Byte} {r : MergeLine} (he : s.mem.entry (a / 64 * 64) = some r)
    (hv : r.bytes.get? (a % 64) = some v) (hf : r.full (a % 64 / 8) = false) : (s.memRead a 1 src).1.map (·.1) = [v] := by
  have hline : a / 8 * 8 / 64 * 64 = a / 64 * 64 := by omega
  have hword : a / 8 * 8 % 64 / 8 = a % 64 / 8 := by omega
  have hidx : 8 * (a % 64 / 8) + a % 8 = a % 64 := by omega
  have hlt : a % 8 < 8 := Nat.mod_lt _ (by decide)
  have hlen : (r.word (a % 64 / 8)).length = 8 := by simp [MergeLine.word]
  have hbyte : (r.word (a % 64 / 8))[a % 8]? = some (some v) := by
    rw [MergeLine.word, List.getElem?_map, List.getElem?_range hlt, Option.map_some, hidx, hv]
  have hfetch := wordFetch_partial (s := s) (a := a / 8 * 8) (src := src) (by rw [hline]; exact he) (by rw [hword]; exact hf)
  rw [hword] at hfetch
  rw [memRead_one s (by decide) (by omega), hfetch]
  generalize (s.wordRead (a / 8 * 8) src).1 = d
  generalize (s.wordFetch (a / 8 * 8) src).2.1 = q
  obtain ⟨x, hx⟩ : ∃ x, (leBytes 8 d)[a % 8]? = some x := ⟨_, List.getElem?_eq_getElem (by simpa using hlt)⟩
  have hat : (leBytes 8 (overlay d (r.word (a % 64 / 8))))[a % 8]? = some v := by
    rw [leBytes_overlay d _ hlen, List.getElem?_map, List.getElem?_zip_eq_some (z := (some v, x)) |>.2 ⟨hbyte, hx⟩]
    rfl
  obtain ⟨hin, hget⟩ := List.getElem?_eq_some_iff.1 hat
  rw [List.drop_eq_getElem_cons (by simpa using hin), List.take_succ_cons, List.take_zero, List.map_singleton, List.getElem_map, hget]

/-- A byte written waits in the buffer. -/
theorem memWrite_byte {a : Nat} {v : Byte} (he : s.mem.entry (a / 64 * 64) = none) (hroom : s.mem.merge.length < 16) :
    ∃ r : MergeLine, s.memWrite a [v] false = { s with mem.merge := s.mem.merge ++ [r] } ∧
      MergeLine.line r = a / 64 * 64 ∧ r.bytes.get? (a % 64) = some v ∧ ∀ i, r.full i = false := by
  have hget (k : Nat) := get_freshLine (a / 64 * 64) (a % 64) [v] false s.now k
  have hpart (i : Nat) : (freshLine (a / 64 * 64) (a % 64) [v] false s.now).full i = false := by
    by_contra hf
    have := full_freshLine.1 (by simpa using hf)
    simp only [List.length_cons, List.length_nil] at this
    omega
  have hsome : (freshLine (a / 64 * 64) (a % 64) [v] false s.now).bytes.get? (a % 64) = some v := by
    rw [hget, if_pos (by simp), Nat.sub_self]
    rfl
  have hne : (freshLine (a / 64 * 64) (a % 64) [v] false s.now).bytes ≠ [] := fun h0 => by
    rw [h0] at hsome
    exact absurd hsome (by simp [Tbl.get?])
  obtain ⟨r, hr, hline, hbytes⟩ := lineNew_partial hroom hpart hne
  refine ⟨r, ?_, hline, (hbytes _).trans hsome, fun i => ?_⟩
  · rw [memWrite_one (by simp) (by simp; omega), lineWrite_fresh he, hr]
  · rw [← hpart i, MergeLine.full, MergeLine.full, word_congr fun j _ => hbytes _]

theorem bar2_byte {off a : Nat} {v : Byte} (hon : s.hostOn = true) (ha : a = 1073741824 * s.host.window + off)
    (hin : off < 1073741824) (hfw : firmwareEnd ≤ a) (he : s.mem.entry (a / 64 * 64) = none) (hroom : s.mem.merge.length < 16) :
    ∃ t u, exec (.bar2Write off [v] false) s = .next t ∧ exec (.bar2Read off 1) t = .next u ∧ u.host.bar2.map (·.1) = some [v] ∧
      t.mem.data = s.mem.data ∧ t.mem.err = s.mem.err ∧ t.mem.merge.length = s.mem.merge.length + 1 := by
  obtain ⟨r, hr, hline, hv, hfull⟩ := memWrite_byte (v := v) he hroom
  have hentry : MemBlk.entry { s.mem with merge := s.mem.merge ++ [r] } (a / 64 * 64) = some r := by
    unfold MemBlk.entry at he ⊢
    rw [List.find?_append, he, List.find?_singleton, hline]
    exact if_pos (beq_self_eq_true _)
  refine ⟨{ s with mem := { s.mem with merge := s.mem.merge ++ [r] } }, _, ?_,
    bar2Read_dram (s := { s with mem := { s.mem with merge := s.mem.merge ++ [r] } }) hon ha hin hfw,
    congrArg some (readback_byte (s := { s with mem := { s.mem with merge := s.mem.merge ++ [r] } }) hentry hv (hfull _)), rfl, rfl, by simp⟩
  rw [bar2Write_dram (data := [v]) hon ha (Nat.succ_le_of_lt hin) hfw, hr]

theorem bar2Read_firmware {off len : Nat} (hon : s.hostOn = true) (hin : off + len ≤ 1073741824) (hw : s.host.window < 2) :
    exec (.bar2Read off len) s = .next { s with host.bar2 := some (zeros len, false) } := by
  refine congrArg Host.Outcome.next ((if_pos (by simp [hon, hin])).trans ?_)
  dsimp only
  by_cases hfw : 1073741824 * s.host.window + off < firmwareEnd
  · rw [if_pos hfw]
  · have hlen : len = 0 := by unfold firmwareEnd at hfw; omega
    subst hlen
    rw [if_neg hfw]
    rfl

theorem bar2Write_firmware {off : Nat} {data : Bytes} {q : Bool} (hon : s.hostOn = true) (hw : s.host.window < 2)
    (hin : off + data.length ≤ 1073741824) : exec (.bar2Write off data q) s = .next s := by
  refine congrArg Host.Outcome.next ((if_pos (by simp [hon, hin])).trans ?_)
  dsimp only
  by_cases hfw : 1073741824 * s.host.window + off < firmwareEnd
  · rw [if_pos hfw]
  · have hdata : data = [] := List.length_eq_zero_iff.1 (by unfold firmwareEnd at hfw; omega)
    subst hdata
    rw [if_neg hfw]
    rfl

/-! ## The merge buffer -/

theorem wordWrite_merge (s : State) (a d : Nat) (q : Bool) : (s.wordWrite a d q).mem.merge = s.mem.merge := by
  unfold State.wordWrite
  extract_lets
  split
  · rw [firnEv_mem, eccEvt_mem]
  · rfl

theorem lineStore_merge (s : State) (l : MergeLine) : (s.lineStore l).mem.merge = s.mem.merge := by
  refine foldl_keeps (fun t : State => t.mem.merge = s.mem.merge) _ (fun t i h => ?_) _ _ rfl
  split
  · exact h
  · exact (wordWrite_merge ..).trans h

theorem lineMerge_merge (s : State) (l : MergeLine) : (s.lineMerge l).mem.merge = s.mem.merge := by
  refine foldl_keeps (fun t : State => t.mem.merge = s.mem.merge) _ (fun t i h => ?_) _ _ rfl
  dsimp only
  split
  · exact (wordWrite_merge ..).trans h
  · exact ((wordWrite_merge ..).trans (wordRead_cells ..).2.2).trans h

theorem evict_merge (s : State) (l : MergeLine) : (s.evict l).mem.merge = s.mem.merge.filter (fun x => x.line != l.line) := by
  unfold State.evict
  extract_lets _ u
  split
  · exact lineStore_merge u l
  · exact lineMerge_merge u l

theorem mergeBufferEvict_some {l : MergeLine} {ls : List MergeLine} (h : s.mem.merge = l :: ls) : ∃ t, exec .mergeBufferEvict s = .next t ∧
    t.mem.merge = (l :: ls).filter (fun x => x.line != l.line) ∧ t.cfg = s.cfg := by
  have hrun : ∃ due, exec .mergeBufferEvict s = .next ((s.clockTo due).evict l) := by
    refine ⟨l.touched + 1000, ?_⟩
    change execMergeBufferEvict s = _
    simp only [execMergeBufferEvict, h]
  obtain ⟨due, hrun⟩ := hrun
  refine ⟨_, hrun, ?_, (evict_touches _ l).cfg_eq⟩
  rw [evict_merge]
  exact congrArg _ h

theorem mergeBufferEvict_none (h : s.mem.merge = []) : exec .mergeBufferEvict s = .next s := by
  change execMergeBufferEvict s = _
  simp only [execMergeBufferEvict, h]

/-! ## Registers (R450, R452) -/

theorem wordWrite_spec (a d : Nat) (q : Bool) (h : s.mem.flipArmed = false) :
    (s.wordWrite a d q).mem.stored a = (d % 2 ^ 64, if q then poisonErr else 0) ∧
    (∀ b, b + 8 ≤ a ∨ a + 8 ≤ b → (s.wordWrite a d q).mem.stored b = s.mem.stored b) ∧ (s.wordWrite a d q).cfg = s.cfg ∧
    (s.wordWrite a d q).mem.merge = s.mem.merge := by
  rw [wordWrite_unarmed a d q h]
  exact ⟨stored_putWord .., fun b hb => stored_putWord_other _ _ _ hb, rfl, rfl⟩

theorem wordWrite_flip (a d : Nat) (q : Bool) (h : s.mem.flipArmed = true) (ha : s.mem.flipAddr = a) :
    (s.wordWrite a d q).mem.flipArmed = false ∧ (s.wordWrite a d q).mem.stored a =
      ((d ^^^ (s.mem.flipMask % 2 ^ 64)) % 2 ^ 64, (if q then poisonErr else 0) ^^^ s.mem.flipMask) := by
  rw [wordWrite_armed a d q h ha, firnEv_mem, eccEvt_mem]
  exact ⟨rfl, stored_putWord s.mem a _ _⟩

theorem eccFlipArm_spec (hon : s.hostOn = true) :
    ((s.mod.state = 1 ∨ s.mod.state = 3) → firmwareEnd ≤ s.mem.flipAddr → s.mem.flipArmed = false →
      exec .eccFlipArm s = .next { s with mem.flipArmed := true }) ∧
    (¬(s.mod.state = 1 ∨ s.mod.state = 3) ∨ s.mem.flipAddr < firmwareEnd ∨ s.mem.flipArmed = true →
      ∃ t, exec .eccFlipArm s = .next t ∧ t.mem.evt.getLsbD 6 = true ∧
      t.mem.flipArmed = s.mem.flipArmed ∧ t.mem.data = s.mem.data ∧ t.cfg = s.cfg) ∧
    exec (.eccFlipDisarm false) s = .next { s with mem.flipArmed := false } ∧ exec (.eccFlipDisarm true) s = .next s := by
  have hrun : exec .eccFlipArm s = .next (if ((s.mod.state == 1 || s.mod.state == 3) && firmwareEnd ≤ s.mem.flipAddr && !s.mem.flipArmed) = true
      then { s with mem.flipArmed := true } else (s.eccEvt 6).firnEv 0x1106 ([0] ++ leBytes 4 (s.mem.flipAddr / 16))) :=
    congrArg Host.Outcome.next (if_pos hon)
  refine ⟨fun hs hf ha => hrun.trans (congrArg _ (if_pos (by simp [hs, hf, ha]))), fun h => ⟨_, hrun.trans (congrArg _ (if_neg ?_)), ?_⟩,
    congrArg Host.Outcome.next (if_pos (by simp [hon])), congrArg Host.Outcome.next (if_neg (by simp))⟩
  · simp only [Bool.and_eq_true, Bool.or_eq_true, beq_iff_eq, decide_eq_true_eq, Bool.not_eq_true']
    rintro ⟨⟨hs, hf⟩, ha⟩
    rcases h with h | h | h
    · exact h hs
    · omega
    · rw [ha] at h
      exact absurd h (by decide)
  · rw [firnEv_mem, firnEv_cfg, eccEvt_cfg]
    exact ⟨eccEvt_evt s (by decide), by rw [eccEvt_mem], (eccEvt_cells s 6).1, rfl⟩

/-! ## Fills (R448) -/

theorem begin_active_range (s : State) (c : Nat) (q : Option Path) (lo hi : Nat) : (s.begin c q lo hi).active c = true := by
  simp [State.active, State.begin]

theorem memFill_accepted {lo len : Nat} (ha : Accepted cmdMemFill p e s t) (hlo : lo = le64 e.req.params 0) (hlen : len = le64 e.req.params 8) :
    rangeOk lo len = true ∧ ∃ u : State, exec (.memFill p) s = .next (u.goesOnAt p) ∧
      u.mem = { t.mem with fill := some ⟨lo, lo + len, t.now, le64 e.req.params 16⟩ } ∧ u.active 3 = true ∧ u.cfg = t.cfg := by
  subst hlo hlen
  have hparam : (rangeOk (le64 e.req.params 0) (le64 e.req.params 8) && restZero e.req 24) = true := (accepted_judged ha).1
  rw [Bool.and_eq_true] at hparam
  exact ⟨hparam.1, _, congrArg Host.Outcome.next (run_wait ha rfl), rfl, begin_active_range .., rfl⟩

theorem getD_flatten_replicate {b : Bytes} {w n i j : Nat} (hb : b.length = w) (hi : i < n) (hj : j < w) :
    (List.replicate n b).flatten.getD (w * i + j) 0 = b.getD j 0 := by
  induction n generalizing i with
  | zero => omega
  | succ n ih =>
    rw [List.replicate_succ, List.flatten_cons]
    cases i with
    | zero => rw [Nat.mul_zero, Nat.zero_add, List.getD_append _ _ _ _ (by omega)]
    | succ i =>
      have hidx : w * (i + 1) + j - b.length = w * i + j := by rw [Nat.mul_succ]; omega
      rw [List.getD_append_right _ _ _ _ (by rw [Nat.mul_succ]; omega), hidx, ih (by omega)]

theorem fillWords_touches (s : State) (lo hi v : Nat) : TouchesDram s (s.fillWords lo hi v) :=
  .foldl (fun t _ => lineWrite_touches t _ _ _) _ s

/-- A fill of one line. -/
theorem fillWords_line {lo hi v : Nat} (hhi : hi = lo + 64) (h64 : lo % 64 = 0) (hm : s.mem.merge = []) (harm : s.mem.flipArmed = false) :
    (∀ i, i < 8 → (s.fillWords lo hi v).mem.stored (lo + 8 * i) = (v % 2 ^ 64, 0)) ∧
    ∀ b, b + 8 ≤ lo ∨ hi ≤ b → (s.fillWords lo hi v).mem.stored b = s.mem.stored b := by
  subst hhi
  have hlen : (List.replicate 8 (leBytes 8 v)).flatten.length = 64 := by simp
  have hline : lo / 64 * 64 = lo := by omega
  have hentry : s.mem.entry (lo / 64 * 64) = none := by
    unfold MemBlk.entry
    rw [hm]
    rfl
  have hfill : s.fillWords lo (lo + 64) v = s.lineNew (freshLine lo 0 (List.replicate 8 (leBytes 8 v)).flatten false s.now) := by
    have hone : (lo + 64 - lo) / 64 = 1 := by omega
    have hwrite := lineWrite_fresh (b := (List.replicate 8 (leBytes 8 v)).flatten) (p := false) hentry
    rw [hline, h64] at hwrite
    rw [State.fillWords, hone]
    exact hwrite
  have hfull (i : Nat) (hi : i < 8) : (freshLine lo 0 (List.replicate 8 (leBytes 8 v)).flatten false s.now).full i = true :=
    full_freshLine.2 (by omega)
  obtain ⟨m, hm', -, -, hin, hout⟩ := lineNew_whole (l := freshLine lo 0 (List.replicate 8 (leBytes 8 v)).flatten false s.now) harm
    fun k hk => by
      rw [get_freshLine] at hk
      split at hk
      · exact hfull _ (by omega)
      · exact absurd hk (by simp)
  rw [hfill, hm']
  refine ⟨fun i hi => ?_, fun b hb => hout b fun i hi => ?_⟩
  · have hval := hin i (Bool.and_eq_true_iff.2 ⟨decide_eq_true hi, hfull i hi⟩)
    rw [value_freshLine (hfull i hi)] at hval
    have hbytes : (List.range 8).map (fun j => (List.replicate 8 (leBytes 8 v)).flatten.getD (8 * i + j - 0) 0) = leBytes 8 v := by
      refine Eq.trans (List.map_congr_left fun j hj => ?_) (bytes_range (length_leBytes 8 v))
      rw [Nat.sub_zero, getD_flatten_replicate (length_leBytes 8 v) hi (List.mem_range.1 hj)]
    rw [hbytes, le64_leBytes, Nat.mod_mod] at hval
    exact hval
  · have hi8 : i < 8 := of_decide_eq_true (Bool.and_eq_true _ _ ▸ hi : _ ∧ _).1
    have hl : (freshLine lo 0 (List.replicate 8 (leBytes 8 v)).flatten false s.now).line = lo := rfl
    omega

theorem fillComplete_running {j : MemJob} (hj : s.mem.fill = some j) : ∃ u : State,
    exec .fillComplete s = .next (u.completeWaiting 0x1101 stOK (u.stamp 17).bytes) ∧ u.mem.fill = none ∧ u.active 3 = false ∧
    u.cfg = s.cfg ∧ (j.hi = j.lo + 64 → j.lo % 64 = 0 → s.mem.merge = [] → s.mem.flipArmed = false →
      (∀ i, i < 8 → u.mem.stored (j.lo + 8 * i) = (j.pattern % 2 ^ 64, 0)) ∧
      ∀ b, b + 8 ≤ j.lo ∨ j.hi ≤ b → u.mem.stored b = s.mem.stored b) := by
  have hrun : ∃ due, exec .fillComplete s = .next (State.completeWaiting
      ((({ (s.clockTo due).fillWords j.lo j.hi j.pattern with mem.fill := none } : State).finish 3).firnEv 0x1105
        (leBytes 4 ((j.hi - j.lo) / 64) ++ [1])) 0x1101 stOK (State.stamp
      ((({ (s.clockTo due).fillWords j.lo j.hi j.pattern with mem.fill := none } : State).finish 3).firnEv 0x1105
        (leBytes 4 ((j.hi - j.lo) / 64) ++ [1])) 17).bytes) := by
    refine ⟨j.start + (j.hi - j.lo) / 16, ?_⟩
    change execFillComplete s = _
    simp only [execFillComplete, hj]
  obtain ⟨due, hrun⟩ := hrun
  refine ⟨_, hrun, ?_, ?_, ?_, fun hhi h64 hm harm => ?_⟩
  · rw [firnEv_mem]
    rfl
  · rw [State.active, firnEv_diag]
    exact finish_active _ (by decide)
  · rw [firnEv_cfg]
    exact (fillWords_touches (s.clockTo due) j.lo j.hi j.pattern).cfg_eq
  · rw [firnEv_mem]
    exact fillWords_line (s := s.clockTo due) hhi h64 hm harm

theorem fillComplete_none (h : s.mem.fill = none) : exec .fillComplete s = .next s := by
  change execFillComplete s = _
  simp only [execFillComplete, h]

/-! ## Scrubs (R449) -/

theorem memScrub_start {lo len : Nat} (ha : Accepted cmdMemScrub p e s t) (h0 : byteAt e.req.params 16 = 0) (hlo : lo = le64 e.req.params 0)
    (hlen : len = le64 e.req.params 8) : ∃ u : State, exec (.memScrub p) s = .next (u.goesOnAt p) ∧
      u.mem = { t.mem with scrub := some ⟨lo, lo + len, t.now, 0⟩ } ∧ u.active 1 = true := by
  subst hlo hlen
  have hbody : ∃ u : State, cmdMemScrub.body p e t = .wait u ∧
      u.mem = { t.mem with scrub := some ⟨le64 e.req.params 0, le64 e.req.params 0 + le64 e.req.params 8, t.now, 0⟩ } ∧
      u.active 1 = true := by
    simp only [cmdMemScrub, h0]
    exact ⟨_, rfl, rfl, begin_active_range ..⟩
  obtain ⟨u, hb, h⟩ := hbody
  exact ⟨u, congrArg Host.Outcome.next (run_wait ha hb), h⟩

theorem memScrub_stop (ha : Accepted cmdMemScrub p e s t) (h1 : byteAt e.req.params 16 = 1) : ∃ j r, t.mem.scrub = some j ∧
    r = t.scrubEnd j (j.progress t.now 4) ∧
    exec (.memScrub p) s = .next ((r.2.completeWaiting 0x1102 stABORTED r.1).complete p stOK r.1 none) := by
  have hstate : (if byteAt e.req.params 16 = 1 ∧ t.mem.scrub.isNone = true then stSTATE else 0) = 0 := (accepted_judged ha).2
  cases hj : t.mem.scrub with
  | none =>
    rw [if_pos ⟨h1, by rw [hj]; rfl⟩] at hstate
    exact absurd hstate (by decide)
  | some j =>
    refine ⟨j, _, rfl, rfl, congrArg Host.Outcome.next (run_done ha ?_)⟩
    simp only [cmdMemScrub, h1, hj]

theorem scrubEnd_ended (s : State) (j : MemJob) (len : Nat) : (s.scrubEnd j len).2.mem.scrub = none ∧ (s.scrubEnd j len).2.active 1 = false := by
  refine ⟨?_, ?_⟩
  · rw [State.scrubEnd, firnEv_mem]
    rfl
  · rw [State.active, State.scrubEnd, firnEv_diag]
    exact finish_active _ (by decide)

theorem scrubComplete_running {j : MemJob} {r : Bytes × State} (hj : s.mem.scrub = some j)
    (hr : r = (s.clockTo (j.start + (j.hi - j.lo) / 4)).scrubEnd j (j.hi - j.lo)) :
    exec .scrubComplete s = .next (r.2.completeWaiting 0x1102 stOK r.1) ∧ r.2.mem.scrub = none ∧ r.2.active 1 = false := by
  subst hr
  refine ⟨?_, scrubEnd_ended ..⟩
  change execScrubComplete s = _
  simp only [execScrubComplete, hj]

theorem scrubComplete_none (h : s.mem.scrub = none) : exec .scrubComplete s = .next s := by
  change execScrubComplete s = _
  simp only [execScrubComplete, h]

theorem scrubWords_corrected {a c m f i : Nat} (harm : s.mem.flipArmed = false) (h : classify (s.mem.stored a).2 = .corrected i) :
    (State.scrubWords 1 a (c, m, f) s).1 = (c + 1, m, f) ∧ (State.scrubWords 1 a (c, m, f) s).2.mem.stored a =
      ((corrected (s.mem.stored a).1 (s.mem.stored a).2).1 % 2 ^ 64, 0) := by
  have hd : (s.detect a 5 (s.mem.stored a).2).mem.flipArmed = false := (detect_flipArmed ..).trans harm
  simp only [State.scrubWords, h, true_and]
  exact (wordWrite_spec a _ false hd).1

theorem scrubWords_uncorrectable {a c m f : Nat} (harm : s.mem.flipArmed = false) (h : classify (s.mem.stored a).2 = .uncorrectable) :
    (State.scrubWords 1 a (c, m, f) s).1 = (c, m + 1, f) ∧ (State.scrubWords 1 a (c, m, f) s).2.mem.stored a =
      ((s.mem.stored a).1 % 2 ^ 64, poisonErr) := by
  have hd : (s.detect a 5 (s.mem.stored a).2).mem.flipArmed = false := (detect_flipArmed ..).trans harm
  simp only [State.scrubWords, h, true_and]
  exact (wordWrite_spec a _ true hd).1

/-! ## The error log (R451) -/

theorem memEccLogRead_accepted {l : List EccLog} (ha : Accepted cmdMemEccLogRead p e s t)
    (hl : l = (if (byteAt e.req.params 2).testBit 0 then t.mem.log.reverse else t.mem.log).take (le16 e.req.params 0)) : ∃ u : State,
    exec (.memEccLogRead p) s = .next (u.complete p stOK (leBytes 2 l.length ++ leBytes 4 t.mem.overwritten)
      (some (l.map EccLog.bytes).flatten)) ∧
      ((byteAt e.req.params 2).testBit 1 = false → u = t) ∧
      ((byteAt e.req.params 2).testBit 1 = true → u = { t with mem := { t.mem with
        log := [], overwritten := 0, ceCnt := 0, ueCnt := 0, poisonCnt := 0, sramCeCnt := 0 } }) := by
  subst hl
  refine ⟨_, congrArg Host.Outcome.next (run_done ha rfl), fun h => ?_, fun h => ?_⟩
  · rw [h]
    rfl
  · rw [h]
    rfl

/-! ## SRAM errors (R445, R446) -/

theorem sramLog_frame (s : State) (kind code row : Nat) : ∃ fr l o, s.sramLog kind code row =
    { s with free := fr, mem := { s.mem with log := l, overwritten := o } } := by
  unfold State.sramLog
  extract_lets y b
  obtain ⟨l, o, h⟩ := logAdd_frame b.2.mem
    { stamp := s.stamp 17, kind := kind, source := code, address := row, syndrome := y.1 % 256, bit := if kind = 4 then b.1 % 72 else 255 }
  refine ⟨b.2.free, l, o, ?_⟩
  rw [State.logEcc, h]
  rfl

theorem sramLog_keeps (s : State) (kind code row : Nat) : (s.sramLog kind code row).mem.data = s.mem.data ∧
    (s.sramLog kind code row).mem.sramCeCnt = s.mem.sramCeCnt ∧ (s.sramLog kind code row).mem.sramUe = s.mem.sramUe ∧
    (s.sramLog kind code row).sec = s.sec ∧ (s.sramLog kind code row).ao = s.ao ∧ (s.sramLog kind code row).cfg = s.cfg := by
  obtain ⟨_, _, _, h⟩ := sramLog_frame s kind code row
  rw [h]
  exact ⟨rfl, rfl, rfl, rfl, rfl, rfl⟩

theorem sramCe_spec (s : State) (code row : Nat) : (s.sramCe code row).mem.sramCeCnt = inc32 s.mem.sramCeCnt ∧
    (s.sramCe code row).mem.data = s.mem.data ∧ (s.sramCe code row).cfg = s.cfg := by
  unfold State.sramCe
  extract_lets v
  obtain ⟨hdata, hcnt, -, -, -, hcfg⟩ := sramLog_keeps s 4 code row
  rw [counted_mem, eccEvt_mem, counted_cfg, eccEvt_cfg]
  exact ⟨congrArg inc32 hcnt, hdata, hcfg⟩

/-- A lost row of the key SRAM takes the slot's key, not its wrapped copy. -/
theorem sramUe_key (s : State) (row : Nat) : (s.sramUe 0x18 row).sec.slots = s.sec.slots.del row ∧
    (s.sramUe 0x18 row).ao.keys = s.ao.keys ∧ (s.sramUe 0x18 row).mem.sramUe = inc32 s.mem.sramUe := by
  unfold State.sramUe
  rw [if_neg (by decide), if_neg (by decide), if_pos (by decide)]
  extract_lets v _ w
  obtain ⟨-, -, hue, hsec, hao, -⟩ := sramLog_keeps s 5 0x18 row
  have hw : w.sec = s.sec ∧ w.ao.keys = s.ao.keys ∧ w.mem.sramUe = inc32 s.mem.sramUe := by
    dsimp only [w]
    rw [eccEvt_mem, eccEvt_sec, eccEvt_ao]
    exact ⟨hsec, congrArg AoBlk.keys hao, congrArg inc32 hue⟩
  obtain ⟨q, f, h, hf⟩ := firnEv_frame w 0x1103 (leBytes 1 0x18 ++ leBytes 3 row)
  rw [hf]
  obtain ⟨hsec, hkeys, hcnt⟩ := hw
  exact ⟨congrArg (fun b : SecBlk => b.slots.del row) hsec, hkeys, hcnt⟩

theorem sramError_spec {code row : Nat} (hp : .mgmt ∈ s.power.on) :
    (∃ t, exec (.sramError code false row) s = .next t ∧ t.mem.sramCeCnt = inc32 s.mem.sramCeCnt ∧ t.mem.data = s.mem.data ∧ t.cfg = s.cfg) ∧
    exec (.sramError 0x10 true row) s = .next (s.resetWith .eccFw row) ∧ exec (.sramError 0x11 true row) s = .next (s.resetWith .eccSafe row) ∧
    (code < 0x10 ∨ 0x1A < code → exec (.sramError code true row) s = .next (s.resetWith .eccFw (2 ^ 62 + code))) ∧
    (∃ t, exec (.sramError 0x18 true row) s = .next t ∧ t.sec.slots = s.sec.slots.del row ∧ t.ao.keys = s.ao.keys ∧
      t.mem.sramUe = inc32 s.mem.sramUe) := by
  have hrun (c : Nat) (ue : Bool) : exec (.sramError c ue row) s = .next (if ue then s.sramUe c row else s.sramCe c row) :=
    congrArg Host.Outcome.next (if_pos (by simpa using hp))
  refine ⟨⟨_, hrun code false, sramCe_spec ..⟩, hrun .., hrun .., fun h => (hrun code true).trans (congrArg _ ?_), _, hrun .., sramUe_key ..⟩
  rw [if_pos rfl, State.sramUe, if_neg (by omega), if_neg (by omega), if_neg (by omega)]

theorem firmwareScrub_spec {ce ue : List Nat} {a : Nat} {ps : List Nat} (hp : .mem ∈ s.power.on) (hr : s.romServed = false)
    (hx : ∀ x, x ∈ ce ++ ue → firmwareEnd ≤ x) (ha : a < firmwareEnd) :
    exec (.firmwareScrub ce ue []) s = .next s ∧
    exec (.firmwareScrub ce ue (a :: ps)) s = .next (s.resetWith .eccFw (2 ^ 63 + a)) := by
  have hnone (l : List Nat) (hl : ∀ x, x ∈ l → x ∈ ce ++ ue) : l.filter (· < firmwareEnd) = [] :=
    List.filter_eq_nil_iff.2 fun x h => by simpa using hx x (hl x h)
  have hce := hnone ce fun x h => List.mem_append_left _ h
  have hue := hnone ue fun x h => List.mem_append_right _ h
  have hc : (s.power.on.contains .mem && !s.romServed) = true := by simpa [hr] using hp
  refine ⟨congrArg Host.Outcome.next ((if_pos hc).trans ?_), congrArg Host.Outcome.next ((if_pos hc).trans ?_)⟩
  · rw [hce, hue]
    rfl
  · rw [hce, hue, List.filter_cons_of_pos (by simpa using ha)]
    rfl

/-- Settles O54. -/
theorem dramAndSram : Obligations.DramAndSram := by
  refine ⟨classify_zero, classify_poison, fun i h => ⟨classify_single h, fun j hj => classify_pair h hj⟩, fun d i h => corrected_single h,
    fun s a d p h => wordWrite_spec a d p h, fun s a d p h ha => wordWrite_flip a d p h ha,
    fun s off data a hon ha h8 hb hin hfw he harm => bar2_word hon ha h8 hb hin hfw he harm,
    fun s off v a hon ha hin hfw he hroom => bar2_byte hon ha hin hfw he hroom,
    fun s off len hon hin hw => bar2Read_firmware hon hin hw, fun s off data p hon hw hin => bar2Write_firmware hon hw hin,
    fun s l ls h => mergeBufferEvict_some h, fun s h => mergeBufferEvict_none h, detect_spec,
    fun s hon => ⟨congrArg Host.Outcome.next (if_pos hon), congrArg Host.Outcome.next (if_pos hon)⟩, fun s hon => eccFlipArm_spec hon,
    fun p e s t lo len ha hlo hlen => memFill_accepted ha hlo hlen, fun s j hj => fillComplete_running hj, fun s h => fillComplete_none h,
    fun p e s t lo len ha h0 hlo hlen => memScrub_start ha h0 hlo hlen, fun p e s t ha h1 => memScrub_stop ha h1,
    fun s j r hj hr => scrubComplete_running hj hr, fun s h => scrubComplete_none h,
    fun s a c m f i harm h => scrubWords_corrected harm h, fun s a c m f harm h => scrubWords_uncorrectable harm h,
    answers_of_body (fun _ _ => rfl) fun _ _ _ => rfl, fun p e s t l ha hl => memEccLogRead_accepted ha hl,
    fun s code row hp => sramError_spec hp, fun s ce ue a ps hp hr hx ha => firmwareScrub_spec hp hr hx ha⟩

end Machine
end Sys2Proof

/-! PROOFS. The Bridle arbiter's operations (O55): what letting go, gaining and settling leave (R456, R459, R468 to R470,
R477, R481). -/

namespace Sys2Proof
namespace Machine

variable {s t u : State}

/-! ## What every operation of the arbiter may change besides -/

/-- `t` is `s` but for records, frames sent, activities and the outputs of the safety island. -/
def Besides (s t : State) : Prop := ∃ q f h p w g y tp o d, t = { s with
  ao.firnSeq := q, firn := f, host := h, ports := p, sw := w, goose := g, fns := y, time.ports := tp, safe.outs := o, diag := d }

namespace Besides

theorem refl (s : State) : Besides s s := ⟨_, _, _, _, _, _, _, _, _, _, rfl⟩

theorem trans (a : Besides s t) (b : Besides t u) : Besides s u := by
  obtain ⟨_, _, _, _, _, _, _, _, _, _, rfl⟩ := a
  obtain ⟨_, _, _, _, _, _, _, _, _, _, rfl⟩ := b
  exact ⟨_, _, _, _, _, _, _, _, _, _, rfl⟩

theorem of_sends (a : Sends s t) : Besides s t := by
  obtain ⟨_, _, _, _, _, _, _, _, rfl⟩ := a
  exact ⟨_, _, _, _, _, _, _, _, _, _, rfl⟩

theorem of_island (a : OnlyIsland s t) (b : ∃ o, t.safe = { s.safe with outs := o }) : Besides s t := by
  obtain ⟨f, _, _, _, _, rfl⟩ := a
  obtain ⟨o, ho⟩ := b
  have hf : f = { s.safe with outs := o } := ho
  rw [hf]
  exact ⟨_, _, _, _, _, _, _, _, _, _, rfl⟩

theorem firnEv (s : State) (code : Nat) (data : Bytes) : Besides s (s.firnEv code data) := of_sends (firnEv_sends ..)

theorem raise (s : State) (b : Nat) : Besides s (s.raise b) := by
  obtain ⟨_, h⟩ := raise_frame s b
  rw [h]
  exact ⟨_, _, _, _, _, _, _, _, _, _, rfl⟩

theorem counted (s : State) (n o p x : Nat) : Besides s (s.counted n o p x) := of_sends (counted_sends ..)

theorem redRec (s : State) (code : Nat) (data : Bytes) : Besides s (s.redRec code data) := (firnEv ..).trans (raise ..)

theorem handoverRec (s : State) (code sec : Nat) : Besides s (s.handoverRec code sec) := redRec ..

theorem finish (s : State) (c : Nat) : Besides s (s.finish c) := ⟨_, _, _, _, _, _, _, _, _, _, rfl⟩

theorem begin (s : State) (c : Nat) (p : Option Path) : Besides s (s.begin c p) := ⟨_, _, _, _, _, _, _, _, _, _, rfl⟩

theorem outsCheck (s : State) : Besides s s.outsCheck := by
  refine foldl_keeps (Besides s) _ (fun t n h => ?_) _ _ (.refl s)
  split
  · exact h
  · exact h.trans (of_island (switchOut_only ..) (switchOut_safe ..))

theorem pubTakeover (s : State) : Besides s s.pubTakeover := by
  refine of_sends (Sends.foldl (fun t x => ?_) _ _)
  exact ((tripLog_sends ..).trans (setPub_sends ..)).trans (pubSend_sends ..)

variable (h : Besides s t)

include h

theorem mod : t.mod = s.mod := by
  obtain ⟨_, _, _, _, _, _, _, _, _, _, rfl⟩ := h
  rfl

theorem red : t.red = s.red := by
  obtain ⟨_, _, _, _, _, _, _, _, _, _, rfl⟩ := h
  rfl

theorem power : t.power = s.power := by
  obtain ⟨_, _, _, _, _, _, _, _, _, _, rfl⟩ := h
  rfl

theorem cfg : t.cfg = s.cfg := by
  obtain ⟨_, _, _, _, _, _, _, _, _, _, rfl⟩ := h
  rfl

theorem mem : t.mem = s.mem := by
  obtain ⟨_, _, _, _, _, _, _, _, _, _, rfl⟩ := h
  rfl

theorem logic : t.logic = s.logic := by
  obtain ⟨_, _, _, _, _, _, _, _, _, _, rfl⟩ := h
  rfl

theorem now : t.now = s.now := by
  obtain ⟨_, _, _, _, _, _, _, _, _, _, rfl⟩ := h
  rfl

theorem causes : t.safe.causes = s.safe.causes := by
  obtain ⟨_, _, _, _, _, _, _, _, _, _, rfl⟩ := h
  rfl

end Besides

/-- `t` is `s` with the module block, the redundancy block and BRIO's running set, and what the arbiter changes besides. -/
def Put (s : State) (m : ModBlk) (r : RedBlk) (b : Bool) (t : State) : Prop :=
  Besides { s with mod := m, red := r, brio.running := b } t

section

variable {m m' : ModBlk} {r r' : RedBlk} {b b' : Bool}

theorem Put.refl (s : State) : Put s s.mod s.red s.brio.running s := Besides.refl s

namespace Put

variable (h : Put s m r b t)

include h

theorem mod : t.mod = m := Besides.mod h

theorem red : t.red = r := Besides.red h

theorem running : t.brio.running = b := by
  obtain ⟨_, _, _, _, _, _, _, _, _, _, rfl⟩ := h
  rfl

theorem besides (h' : Besides t u) : Put s m r b u := Besides.trans h h'

theorem power : t.power = s.power := (Besides.power h :)

theorem cfg : t.cfg = s.cfg := (Besides.cfg h :)

theorem mem : t.mem = s.mem := (Besides.mem h :)

theorem logic : t.logic = s.logic := (Besides.logic h :)

theorem now : t.now = s.now := (Besides.now h :)

theorem causes : t.safe.causes = s.safe.causes := (Besides.causes h :)

/-- What follows sets the blocks anew. -/
theorem trans (h' : Put t m' r' b' u) : Put s m' r' b' u := by
  obtain ⟨_, _, _, _, _, _, _, _, _, _, rfl⟩ := h
  obtain ⟨_, _, _, _, _, _, _, _, _, _, rfl⟩ := h'
  exact ⟨_, _, _, _, _, _, _, _, _, _, rfl⟩

theorem setRed (r' : RedBlk) : Put s m r' b { t with red := r' } := by
  obtain ⟨_, _, _, _, _, _, _, _, _, _, rfl⟩ := h
  exact ⟨_, _, _, _, _, _, _, _, _, _, rfl⟩

theorem setHandover (x : Option (Nat × Nat × Bool)) :
    Put s m { r with handover := x } b { t with red := { t.red with handover := x } } := by
  obtain ⟨_, _, _, _, _, _, _, _, _, _, rfl⟩ := h
  exact ⟨_, _, _, _, _, _, _, _, _, _, rfl⟩

end Put

end

/-! ## Single operations -/

/-- A takeback or handover is over. -/
def RedBlk.ended (r : RedBlk) : RedBlk := { r with handover := none, takeback := false, released := none }

theorem handoverEnd_put (s : State) (c : Option Nat) : Put s s.mod s.red.ended s.brio.running (s.handoverEnd c) := by
  unfold State.handoverEnd
  split
  next h =>
    simp only [Bool.and_eq_true, Option.isNone_iff_eq_none, Bool.not_eq_true'] at h
    obtain ⟨⟨h1, h2⟩, h3⟩ := h
    have hred : s.red.ended = s.red := by rw [RedBlk.ended, ← h1, ← h2, ← h3]
    rw [hred]
    exact .refl s
  next =>
    cases c with
    | none => exact Besides.finish ..
    | some c => exact (Besides.finish ..).trans (.handoverRec ..)

theorem bridleChanged_put (s : State) (g : Bool) (reason : Nat) (ovr : Bool) :
    Put s s.mod { s.red with changes := inc32 s.red.changes } s.brio.running (s.bridleChanged g reason ovr) :=
  ((Besides.counted ..).trans (.redRec ..)).trans (.raise ..)

theorem roleTo_put (s : State) (k reason : Nat) :
    ∃ st at_, Put s { s.mod with role := k } { s.red with roleStamp := st, roleAt := at_ } s.brio.running (s.roleTo k reason) := by
  unfold State.roleTo
  split
  next h => exact ⟨s.red.roleStamp, s.red.roleAt, h ▸ .refl s⟩
  next => exact ⟨_, _, (Besides.redRec ..).trans (.raise ..)⟩

namespace Put

variable {m : ModBlk} {r : RedBlk} {b : Bool} (h : Put s m r b t)

include h

theorem handoverEnd (c : Option Nat) : Put s m r.ended b (t.handoverEnd c) := by
  have h' := handoverEnd_put t c
  rw [h.mod, h.red, h.running] at h'
  exact h.trans h'

theorem bridleChanged (g : Bool) (reason : Nat) (ovr : Bool) :
    Put s m { r with changes := inc32 r.changes } b (t.bridleChanged g reason ovr) := by
  have h' := bridleChanged_put t g reason ovr
  rw [h.mod, h.red, h.running] at h'
  exact h.trans h'

theorem roleTo (k reason : Nat) :
    ∃ st at_, Put s { m with role := k } { r with roleStamp := st, roleAt := at_ } b (t.roleTo k reason) := by
  obtain ⟨st, at_, h'⟩ := roleTo_put t k reason
  rw [h.mod, h.red, h.running] at h'
  exact ⟨st, at_, h.trans h'⟩

end Put

/-! ## Letting go and gaining (R459, R461, R468 to R470) -/

/-- The role a release with a reason leaves. -/
def leaveRole (reason : Nat) : Nat := if 7 ≤ reason ∧ reason ≤ 11 then 1 else 2

/-- The redundancy block as a release at `now` sets it. -/
def RedBlk.dropped (r : RedBlk) (reason now : Nat) : RedBlk :=
  { r with
    out1 := false, out2 := false, claim := none, reason := reason, fault := !(reason == 11)
    released := if reason == 11 then some now else none }

/-- The redundancy block after a release at `now`. -/
def RedBlk.left (r : RedBlk) (reason now : Nat) (st : Stamp) (at_ : Nat) : RedBlk :=
  { r.dropped reason now with
    handover := if reason == 11 then some (0, (r.handover.map (·.2.1)).getD 0, true) else none
    takeback := if reason == 11 then r.takeback else false
    changes := inc32 r.changes, roleStamp := st, roleAt := at_ }

theorem left_planned {reason : Nat} (r : RedBlk) (now : Nat) (h : (reason == 11) = true) :
    { { r.dropped reason now with changes := inc32 (r.dropped reason now).changes } with
      handover := some (0, (r.handover.map (·.2.1)).getD 0, true) } = r.left reason now r.roleStamp r.roleAt := by
  simp only [RedBlk.left, RedBlk.dropped, h, if_true]

theorem left_unplanned {reason : Nat} (r : RedBlk) (now : Nat) (h : (reason == 11) = false) :
    { r.ended.dropped reason now with changes := inc32 (r.ended.dropped reason now).changes } =
      r.left reason now r.roleStamp r.roleAt := by
  simp only [RedBlk.left, RedBlk.dropped, RedBlk.ended, h, Bool.false_eq_true, if_false]

theorem leaveRole_eq (reason : Nat) : (if keepsStandby reason then 1 else 2) = leaveRole reason := by
  simp [keepsStandby, leaveRole]

theorem letGo_put (h : s.mod.bridle = true) (reason : Nat) : ∃ st at_, Put s { s.mod with bridle := false, role := leaveRole reason }
    (s.red.left reason s.now st at_) false (s.letGo reason) := by
  unfold State.letGo
  rw [if_neg (by simp [h]), leaveRole_eq]
  extract_lets _ planned sec v _ _ _ w x y _ z
  have hv : Put s s.mod (if planned then s.red else s.red.ended) s.brio.running v := by
    dsimp only [v]
    split
    · exact .refl s
    · exact handoverEnd_put s _
  have hw : Put s { s.mod with bridle := false } ((if planned then s.red else s.red.ended).dropped reason s.now) false w := by
    have h' : Put v { v.mod with bridle := false } (v.red.dropped reason v.now) false w := Besides.refl _
    rw [hv.mod, hv.red, hv.now] at h'
    exact hv.trans h'
  have hy : Put s { s.mod with bridle := false } _ false y := (hw.bridleChanged false reason false).besides (.outsCheck x)
  have hz : Put s { s.mod with bridle := false } (s.red.left reason s.now s.red.roleStamp s.red.roleAt) false z := by
    have hyes : planned = true → z = { y with red := { y.red with handover := some (0, sec, true) } } := fun hp => if_pos hp
    have hno : planned = false → z = y := fun hp => if_neg (by simp [hp])
    clear_value z y
    cases hp : (reason == 11) with
    | true =>
      rw [hyes hp, ← left_planned s.red s.now hp]
      rw [if_pos hp] at hy
      exact hy.setHandover _
    | false =>
      rw [hno hp, ← left_unplanned s.red s.now hp]
      rw [if_neg (by simp [planned, hp])] at hy
      exact hy
  obtain ⟨st, at_, h'⟩ := hz.roleTo (leaveRole reason) reason
  exact ⟨st, at_, h'⟩

theorem letGo_free (h : s.mod.bridle = false) (reason : Nat) : s.letGo reason = s := by
  rw [State.letGo, if_pos (by simp [h])]

/-- The redundancy block after a gain. -/
def RedBlk.gained (r : RedBlk) (pair : Bool) (st : Stamp) (at_ : Nat) : RedBlk :=
  { r.ended with
    out1 := pair, out2 := pair, claim := none, again := false, wait := 0, fault := false, changes := inc32 r.changes, roleStamp := st, roleAt := at_ }

theorem gain_put (s : State) (ovr : Bool) : ∃ st at_, Put s { s.mod with bridle := true, role := 0 }
    (s.red.gained s.pairMode st at_) s.brio.running (s.gain ovr) := by
  unfold State.gain
  extract_lets _ asked _ u v w
  have h0 : Put s { s.mod with bridle := true } { s.red with
      out1 := s.pairMode, out2 := s.pairMode, claim := none, again := false, wait := 0, fault := false } s.brio.running u := Besides.refl _
  obtain ⟨st, at_, h1⟩ := ((h0.handoverEnd (if asked then some 3 else none)).bridleChanged true 0 ovr).roleTo 0 0
  exact ⟨st, at_, h1.besides (.pubTakeover _)⟩

end Machine
end Sys2Proof

/-! PROOFS. What the conditions as they stand make of the arbiter (O55): both modes' settling (R456, R468, R469, R477). -/

namespace Sys2Proof
namespace Machine

variable {s t u v : State}

/-! ## What settling may change of the redundancy block -/

/-- `r'` is `r` but for the claim, the outputs, the roles, the handover and Farrier's verdict. -/
def RedBlk.Settled (r r' : RedBlk) : Prop := ∃ a o p c g w k n f st ra ch rd m cs rs tb ho rl, r' = { r with
  armTake := a, out1 := o, out2 := p, claim := c, again := g, wait := w, takeSince := k, reason := n, fault := f, roleStamp := st
  roleAt := ra, changes := ch, ready := rd, failMask := m, cleanSince := cs, readySince := rs, takeback := tb, handover := ho
  released := rl }

theorem RedBlk.Settled.refl (r : RedBlk) : r.Settled r := ⟨_, _, _, _, _, _, _, _, _, _, _, _, _, _, _, _, _, _, _, rfl⟩

theorem RedBlk.Settled.trans {r r' r'' : RedBlk} (a : r.Settled r') (b : r'.Settled r'') : r.Settled r'' := by
  obtain ⟨_, _, _, _, _, _, _, _, _, _, _, _, _, _, _, _, _, _, _, rfl⟩ := a
  obtain ⟨_, _, _, _, _, _, _, _, _, _, _, _, _, _, _, _, _, _, _, rfl⟩ := b
  exact ⟨_, _, _, _, _, _, _, _, _, _, _, _, _, _, _, _, _, _, _, rfl⟩

theorem left_settled (r : RedBlk) (reason now : Nat) (st : Stamp) (at_ : Nat) : r.Settled (r.left reason now st at_) :=
  ⟨_, _, _, _, _, _, _, _, _, _, _, _, _, _, _, _, _, _, _, rfl⟩

theorem gained_settled (r : RedBlk) (pair : Bool) (st : Stamp) (at_ : Nat) : r.Settled (r.gained pair st at_) :=
  ⟨_, _, _, _, _, _, _, _, _, _, _, _, _, _, _, _, _, _, _, rfl⟩

/-! ## Farrier (R477) -/

/-- `r'` is `r`, or what the end of a takeback or handover leaves of it, with Farrier's verdict. -/
def RedBlk.Judged (r r' : RedBlk) : Prop :=
  ∃ q m c rd rs, (q = r ∨ q = r.ended) ∧ r' = { q with failMask := m, cleanSince := c, ready := rd, readySince := rs }

theorem readyTo_put (s : State) (x : Bool) : ∃ r, s.red.Judged r ∧ Put s s.mod r s.brio.running (s.readyTo x) := by
  unfold State.readyTo
  split
  next => exact ⟨s.red, ⟨s.red, _, _, _, _, .inl rfl, rfl⟩, .refl s⟩
  next =>
    extract_lets _ w y
    have hw : Put s s.mod { s.red with ready := x, readySince := if x then some s.now else none } s.brio.running w := Besides.refl _
    have hy : Put s s.mod { s.red with ready := x, readySince := if x then some s.now else none } s.brio.running y :=
      hw.besides (.redRec ..)
    split
    · exact ⟨_, ⟨s.red.ended, _, _, _, _, .inr rfl, rfl⟩, hy.handoverEnd (some 5)⟩
    · exact ⟨_, ⟨s.red, _, _, _, _, .inl rfl, rfl⟩, hy⟩

theorem farrier_put (s : State) : ∃ r, s.red.Judged r ∧ Put s s.mod r s.brio.running s.farrier := by
  unfold State.farrier
  split
  next => exact ⟨s.red, ⟨s.red, _, _, _, _, .inl rfl, rfl⟩, .refl s⟩
  next =>
    extract_lets m _ w
    have hw : ∃ c, Put s s.mod { s.red with failMask := m, cleanSince := c } s.brio.running w := ⟨_, Besides.refl _⟩
    obtain ⟨c, hw⟩ := hw
    clear_value w
    split
    · exact ⟨_, ⟨s.red, _, _, _, _, .inl rfl, rfl⟩, hw⟩
    · obtain ⟨r, ⟨q, _, _, _, _, hq, rfl⟩, hr⟩ := readyTo_put w false
      rw [hw.red] at hq
      rw [hw.mod, hw.running] at hr
      refine ⟨_, ?_, hw.trans hr⟩
      rcases hq with rfl | rfl
      · exact ⟨s.red, _, _, _, _, .inl rfl, rfl⟩
      · exact ⟨s.red.ended, _, _, _, _, .inr rfl, rfl⟩

theorem RedBlk.Judged.settled {r r' : RedBlk} (h : r.Judged r') : r.Settled r' := by
  obtain ⟨q, _, _, _, _, rfl | rfl, rfl⟩ := h <;> exact ⟨_, _, _, _, _, _, _, _, _, _, _, _, _, _, _, _, _, _, _, rfl⟩

/-! ## The stages of a pair's settling (R468, R469) -/

/-- The releases that have come due. -/
def State.dueRelease (s : State) : State :=
  if !s.acting then s.letGo s.idleReason
  else if s.red.isolated then s.letGo 5
  else if s.red.genFail then s.letGo 6
  else match s.yields with
    | c :: _ => if s.peerReady then s.letGo c else s
    | [] => s

/-- ARM_TAKE, and the claim that goes without it. -/
def State.armNoted (s : State) (arm : Bool) : State :=
  let s := { s with red.armTake := arm }
  if arm || s.mod.bridle || s.red.claim.isNone then s else { s with red := { s.red with claim := none, out1 := false } }

/-- The roles without a claim. -/
def State.roleNoted (s : State) (arm : Bool) : State :=
  if !s.acting || s.red.isolated then s.roleTo 2 (if s.red.isolated then 5 else s.idleReason)
  else if s.mod.role = 2 && arm && !s.mod.bridle && (s.red.in1 || s.red.in2 || s.recentIs (fun b => hbFlag b 2)) then s.roleTo 1 0
  else s

/-- An isolated unit asks for nothing. -/
def State.takebackNoted (s : State) : State := if s.mod.role = 2 && s.red.takeback then s.handoverEnd (some 5) else s

/-- Since when the take condition holds. -/
def State.takeNoted (s : State) (arm : Bool) : State :=
  let take := arm && s.takeHb && s.linesReleased && !s.mod.bridle
  { s with red.takeSince := if take then some (s.red.takeSince.getD s.now) else none }

theorem pairSettle_eq (s : State) : s.pairSettle = ((((s.dueRelease.armNoted s.dueRelease.mayArm).roleNoted
    s.dueRelease.mayArm).takebackNoted).takeNoted s.dueRelease.mayArm).farrier := by
  unfold State.pairSettle
  extract_lets u arm _ s1 _ s2 s3 s4 take _ s5
  have hu : u = s.dueRelease := rfl
  have harm : arm = u.mayArm := rfl
  have h2 : s2 = u.armNoted arm := rfl
  have h3 : s3 = s2.roleNoted arm := rfl
  have h4 : s4 = s3.takebackNoted := rfl
  have h5 : s5 = s4.takeNoted arm := rfl
  rw [h5, h4, h3, h2, harm, hu]

/-! ## What follows a release -/

theorem armNoted_put (s : State) (arm : Bool) : ∃ c o, Put s s.mod { s.red with armTake := arm, claim := c, out1 := o } s.brio.running
    (s.armNoted arm) ∧ c = if arm || s.mod.bridle then s.red.claim else none := by
  unfold State.armNoted
  extract_lets _ w
  have hw : Put s s.mod { s.red with armTake := arm } s.brio.running w := Besides.refl _
  cases hb : arm || s.mod.bridle with
  | true =>
    rw [Bool.true_or, if_pos rfl]
    exact ⟨_, _, hw, rfl⟩
  | false =>
    rw [Bool.false_or]
    cases hc : s.red.claim with
    | none =>
      exact ⟨_, _, hw, hc⟩
    | some c =>
      exact ⟨none, false, Besides.refl _, rfl⟩

theorem acting_congr (hm : t.mod.state = s.mod.state) (hp : t.power = s.power) : t.acting = s.acting := by
  unfold State.acting
  rw [hm, hp]

theorem roleNoted_put (s : State) (arm : Bool) : ∃ k st at_, Put s { s.mod with role := k } { s.red with roleStamp := st, roleAt := at_ }
    s.brio.running (s.roleNoted arm) ∧ (s.acting = false ∨ s.red.isolated = true → k = 2) := by
  unfold State.roleNoted
  split
  next =>
    obtain ⟨st, at_, h⟩ := roleTo_put s 2 (if s.red.isolated then 5 else s.idleReason)
    exact ⟨2, st, at_, h, fun _ => rfl⟩
  next hc =>
    have hno : ¬ (s.acting = false ∨ s.red.isolated = true) := by simpa using hc
    split
    next =>
      obtain ⟨st, at_, h⟩ := roleTo_put s 1 0
      exact ⟨1, st, at_, h, fun h => absurd h hno⟩
    next => exact ⟨_, _, _, Besides.refl s, fun h => absurd h hno⟩

theorem takebackNoted_put (s : State) : ∃ r, (r = s.red ∨ r = s.red.ended) ∧ Put s s.mod r s.brio.running s.takebackNoted := by
  unfold State.takebackNoted
  split
  · exact ⟨_, .inr rfl, handoverEnd_put ..⟩
  · exact ⟨_, .inl rfl, .refl s⟩

theorem takeNoted_put (s : State) (arm : Bool) : ∃ k, Put s s.mod { s.red with takeSince := k } s.brio.running (s.takeNoted arm) :=
  ⟨_, Besides.refl _⟩

/-- What is noted after ARM_TAKE and the claim leaves those, the reason, and a takeback or handover that is over. -/
def RedBlk.Noted (r r' : RedBlk) : Prop :=
  r.Settled r' ∧ r'.armTake = r.armTake ∧ r'.claim = r.claim ∧ r'.reason = r.reason ∧ (r.ended = r → r'.ended = r')

namespace RedBlk.Noted

theorem refl (r : RedBlk) : r.Noted r := ⟨.refl r, rfl, rfl, rfl, id⟩

theorem trans {r r' r'' : RedBlk} (x : r.Noted r') (y : r'.Noted r'') : r.Noted r'' := by
  obtain ⟨a, b, c, d, e⟩ := x
  obtain ⟨a', b', c', d', e'⟩ := y
  exact ⟨a.trans a', b'.trans b, c'.trans c, d'.trans d, e' ∘ e⟩

theorem ended (r : RedBlk) : r.Noted r.ended := ⟨⟨_, _, _, _, _, _, _, _, _, _, _, _, _, _, _, _, _, _, _, rfl⟩, rfl, rfl, rfl, fun _ => rfl⟩

theorem role (r : RedBlk) (st : Stamp) (at_ : Nat) : r.Noted { r with roleStamp := st, roleAt := at_ } :=
  ⟨⟨_, _, _, _, _, _, _, _, _, _, _, _, _, _, _, _, _, _, _, rfl⟩, rfl, rfl, rfl,
    congrArg fun q : RedBlk => { q with roleStamp := st, roleAt := at_ }⟩

theorem take (r : RedBlk) (k : Option Nat) : r.Noted { r with takeSince := k } :=
  ⟨⟨_, _, _, _, _, _, _, _, _, _, _, _, _, _, _, _, _, _, _, rfl⟩, rfl, rfl, rfl, congrArg fun q : RedBlk => { q with takeSince := k }⟩

theorem judged {r r' : RedBlk} (h : r.Judged r') : r.Noted r' := by
  obtain ⟨q, m, c, rd, rs, hq, rfl⟩ := h
  have hverdict : q.Noted { q with failMask := m, cleanSince := c, ready := rd, readySince := rs } :=
    ⟨⟨_, _, _, _, _, _, _, _, _, _, _, _, _, _, _, _, _, _, _, rfl⟩, rfl, rfl, rfl,
      congrArg fun q : RedBlk => { q with failMask := m, cleanSince := c, ready := rd, readySince := rs }⟩
  rcases hq with rfl | rfl
  · exact hverdict
  · exact (ended r).trans hverdict

end RedBlk.Noted

theorem pairRest_put (s : State) (arm : Bool) : ∃ k r c o, Put s { s.mod with role := k } r s.brio.running
      ((((s.armNoted arm).roleNoted arm).takebackNoted).takeNoted arm).farrier ∧
    RedBlk.Noted { s.red with armTake := arm, claim := c, out1 := o } r ∧ c = (if arm || s.mod.bridle then s.red.claim else none) ∧
    (s.acting = false ∨ s.red.isolated = true → k = 2) := by
  obtain ⟨c, o, h1, hc⟩ := armNoted_put s arm
  generalize s.armNoted arm = t1 at *
  obtain ⟨k, st, at_, h2, hk⟩ := roleNoted_put t1 arm
  rw [acting_congr (by rw [h1.mod]) h1.power, h1.red] at hk
  rw [h1.mod, h1.red, h1.running] at h2
  replace h2 := h1.trans h2
  generalize t1.roleNoted arm = t2 at *
  obtain ⟨r3, hr3, h3⟩ := takebackNoted_put t2
  rw [h2.mod, h2.running] at h3
  replace h3 := h2.trans h3
  generalize t2.takebackNoted = t3 at *
  obtain ⟨ts, h4⟩ := takeNoted_put t3 arm
  rw [h3.mod, h3.red, h3.running] at h4
  replace h4 := h3.trans h4
  generalize t3.takeNoted arm = t4 at *
  obtain ⟨r5, hr5, h5⟩ := farrier_put t4
  rw [h4.red] at hr5
  rw [h4.mod, h4.running] at h5
  have hrole := RedBlk.Noted.role { s.red with armTake := arm, claim := c, out1 := o } st at_
  rw [h2.red] at hr3
  have hback : RedBlk.Noted { { s.red with armTake := arm, claim := c, out1 := o } with roleStamp := st, roleAt := at_ } r3 := by
    rcases hr3 with rfl | rfl
    · exact .refl _
    · exact .ended _
  exact ⟨k, r5, c, o, h4.trans h5, ((hrole.trans hback).trans (.take r3 ts)).trans (.judged hr5), hc, hk⟩

/-! ## Releases that have come due (R469) -/

/-- Nothing makes the unit release. -/
def State.stays (s : State) : Bool := s.acting && !s.red.isolated && !s.red.genFail && (s.yields.isEmpty || !s.peerReady)

theorem yields_range {c : Nat} (h : c ∈ s.yields) : 7 ≤ c ∧ c ≤ 10 := by
  have hmem : c ∈ [7, 8, 9, 10] := (List.mem_filter.1 h).1
  simp only [List.mem_cons, List.not_mem_nil, or_false] at hmem
  omega

theorem dueRelease_stays (h : s.stays = true) : s.dueRelease = s := by
  simp only [State.stays, Bool.and_eq_true, Bool.or_eq_true, Bool.not_eq_true'] at h
  obtain ⟨⟨⟨ha, hi⟩, hg⟩, hy⟩ := h
  unfold State.dueRelease
  rw [if_neg (by simp [ha]), if_neg (by simp [hi]), if_neg (by simp [hg])]
  cases hl : s.yields with
  | nil => rfl
  | cons c l =>
    have hp : s.peerReady = false := by simpa [hl] using hy
    exact if_neg (by simp [hp])

theorem dueRelease_leaves (h : s.stays = false) : ∃ r, r ≠ 11 ∧ s.dueRelease = s.letGo r := by
  unfold State.dueRelease
  split
  · refine ⟨_, ?_, rfl⟩
    unfold State.idleReason
    split
    · split <;> decide
    · decide
  · split
    · exact ⟨5, by decide, rfl⟩
    · split
      · exact ⟨6, by decide, rfl⟩
      · cases hl : s.yields with
        | nil => simp_all [State.stays]
        | cons c l =>
          have hc := yields_range (s := s) (c := c) (by simp [hl])
          refine ⟨c, by omega, if_pos ?_⟩
          simp_all [State.stays]

end Machine
end Sys2Proof

/-! PROOFS. The Bridle arbiter (O55): holding in both modes, claims, contention, lines, releases, handovers and the pair's
commands (R456 to R483). -/

namespace Sys2Proof
namespace Machine

variable {s t u v : State} {p : Path} {e : Exec}

/-! ## Settling as a whole -/

theorem settled_keeps {r r' : RedBlk} (h : r.Settled r') : r'.cfg = r.cfg ∧ r'.isolated = r.isolated ∧ r'.genFail = r.genFail ∧
    r'.fwStall = r.fwStall ∧ r'.portsDown = r.portsDown ∧ r'.in1 = r.in1 ∧ r'.in2 = r.in2 ∧ r'.bothSince = r.bothSince ∧
    r'.brdDisc = r.brdDisc ∧ r'.hbw = r.hbw ∧ r'.hbwAt = r.hbwAt ∧ r'.hbwQuiet = r.hbwQuiet := by
  obtain ⟨_, _, _, _, _, _, _, _, _, _, _, _, _, _, _, _, _, _, _, rfl⟩ := h
  exact ⟨rfl, rfl, rfl, rfl, rfl, rfl, rfl, rfl, rfl, rfl, rfl, rfl⟩

theorem yields_congr {m : ModBlk} {r : RedBlk} {b : Bool} (h : Put s m r b t) (hr : s.red.Settled r) : t.yields = s.yields := by
  obtain ⟨hcfg, -, -, hfw, hpd, -⟩ := settled_keeps hr
  unfold State.yields State.yieldOn
  rw [h.red, h.logic, h.causes, hcfg, hfw, hpd]

theorem mayArm_congr {m : ModBlk} {r : RedBlk} {b : Bool} (h : Put s m r b t) (hm : m.state = s.mod.state) (hr : s.red.Settled r) :
    t.mayArm = s.mayArm := by
  obtain ⟨hcfg, hiso, hgen, -⟩ := settled_keeps hr
  unfold State.mayArm State.pairMode
  rw [yields_congr h hr, acting_congr (by rw [h.mod, hm]) h.power, h.red, hcfg, hiso, hgen]

theorem left_ended {r : RedBlk} {reason now : Nat} {st : Stamp} {at_ : Nat} (h : reason ≠ 11) :
    (r.left reason now st at_).ended = r.left reason now st at_ := by
  have h11 : (reason == 11) = false := by simpa using h
  simp only [RedBlk.ended, RedBlk.left, RedBlk.dropped, h11, Bool.false_eq_true, if_false]

/-- A release that is not for a handover. -/
theorem letGo_unplanned (s : State) {reason : Nat} (h : reason ≠ 11) : ∃ k r b,
    Put s { s.mod with bridle := false, role := k } r b (s.letGo reason) ∧ s.red.Settled r ∧ (s.red.ended = s.red → r.ended = r) := by
  cases hb : s.mod.bridle with
  | true =>
    obtain ⟨st, at_, hput⟩ := letGo_put hb reason
    exact ⟨_, _, _, hput, left_settled .., fun _ => left_ended h⟩
  | false =>
    rw [letGo_free hb]
    refine ⟨s.mod.role, s.red, s.brio.running, ?_, .refl _, id⟩
    rw [← hb]
    exact .refl s

theorem dueRelease_put (s : State) : ∃ k r b, Put s { s.mod with bridle := s.mod.bridle && s.stays, role := k } r b s.dueRelease ∧
    s.red.Settled r ∧ (s.red.ended = s.red → r.ended = r) ∧ (s.stays = true ∨ s.mod.bridle = false → s.dueRelease = s) := by
  cases hs : s.stays with
  | true =>
    rw [dueRelease_stays hs, Bool.and_true]
    exact ⟨_, _, _, .refl s, .refl _, id, fun _ => rfl⟩
  | false =>
    obtain ⟨reason, hr, hgo⟩ := dueRelease_leaves hs
    obtain ⟨k, r, b, hput, hset, hend⟩ := letGo_unplanned s hr
    rw [hgo, Bool.and_false]
    refine ⟨k, r, b, hput, hset, hend, fun h => ?_⟩
    rcases h with h | h
    · exact absurd h (by decide)
    · exact letGo_free h reason

/-- Mode 1. -/
theorem pairSettle_put (s : State) : ∃ k r b, Put s { s.mod with bridle := s.mod.bridle && s.stays, role := k } r b s.pairSettle ∧
    s.red.Settled r ∧ (s.red.ended = s.red → r.ended = r) ∧ r.armTake = s.mayArm ∧
    ((s.mayArm || (s.mod.bridle && s.stays)) = false → r.claim = none) ∧
    (s.stays = true ∨ s.mod.bridle = false → r.reason = s.red.reason ∧ (s.mayArm = true → r.claim = s.red.claim)) ∧
    (s.acting = false ∨ s.red.isolated = true → k = 2) := by
  obtain ⟨k0, r0, b0, h0, hset0, hend0, hsame⟩ := dueRelease_put s
  have harm : s.dueRelease.mayArm = s.mayArm := mayArm_congr h0 rfl hset0
  obtain ⟨k, r, c, o, h1, ⟨hset, harmr, hclaim, hreason, hend⟩, hc, hk⟩ := pairRest_put s.dueRelease s.dueRelease.mayArm
  rw [← pairSettle_eq] at h1
  rw [acting_congr (by rw [h0.mod]) h0.power] at hk
  rw [h0.red] at hk
  rw [(settled_keeps hset0).2.1] at hk
  have hfirst : s.dueRelease.red.Settled { s.dueRelease.red with armTake := s.dueRelease.mayArm, claim := c, out1 := o } :=
    ⟨_, _, _, _, _, _, _, _, _, _, _, _, _, _, _, _, _, _, _, rfl⟩
  have hred := h0.red
  have hbr : s.dueRelease.mod.bridle = (s.mod.bridle && s.stays) := by rw [h0.mod]
  refine ⟨k, r, s.dueRelease.brio.running, ?_, ?_, ?_, ?_, ?_, ?_, hk⟩
  · rw [h0.mod] at h1
    exact h0.trans h1
  · rw [hred] at hfirst
    exact hset0.trans (hfirst.trans (by rw [← hred]; exact hset))
  · intro h
    refine hend ?_
    have h' := hend0 h
    rw [← hred] at h'
    exact congrArg (fun q : RedBlk => { q with armTake := s.dueRelease.mayArm, claim := c, out1 := o }) h'
  · rw [harmr, ← harm]
  · intro h
    rw [hclaim]
    change c = none
    rw [hc, harm, hbr, if_neg (by simpa using h)]
  · intro h
    have hd := hsame h
    refine ⟨hreason.trans (by rw [hd]), fun ha => hclaim.trans ?_⟩
    change c = _
    rw [hc, harm, ha, hd]
    rfl

theorem idleReason_ne (s : State) : s.idleReason ≠ 11 := by
  unfold State.idleReason
  split
  · split <;> decide
  · decide

/-- Mode 0 (R456). -/
theorem singleSettle_put (s : State) : ∃ r b, Put s { s.mod with
    bridle := s.acting, role := if s.acting && !s.red.isolated then 0 else 2 } r b s.singleSettle ∧ s.red.Settled r := by
  unfold State.singleSettle
  extract_lets _ _ w x
  have hw : Put s s.mod { s.red with armTake := false, claim := none } s.brio.running w := Besides.refl _
  have hnoted : s.red.Settled w.red := ⟨_, _, _, _, _, _, _, _, _, _, _, _, _, _, _, _, _, _, _, rfl⟩
  have hact : w.acting = s.acting := rfl
  have hheld : w.mod.bridle = s.mod.bridle := rfl
  have hx : ∃ k r b, Put s { s.mod with bridle := s.acting, role := k } r b x ∧ s.red.Settled r := by
    cases ha : s.acting with
    | false =>
      have hxe : x = w.letGo w.idleReason := by simp only [x, hact, ha, Bool.false_and, Bool.not_false, Bool.false_eq_true, if_false, if_true]
      obtain ⟨k, r, b, h, hr, -⟩ := letGo_unplanned w (idleReason_ne w)
      rw [hxe]
      exact ⟨k, r, b, Put.trans hw h, hnoted.trans hr⟩
    | true =>
      cases hb : s.mod.bridle with
      | false =>
        have hxe : x = w.gain false := by simp only [x, hact, ha, hheld, hb, Bool.not_false, Bool.and_self, if_true]
        obtain ⟨st, at_, h⟩ := gain_put w false
        rw [hxe]
        exact ⟨0, _, _, Put.trans hw h, hnoted.trans (gained_settled ..)⟩
      | true =>
        have hxe : x = w := by simp only [x, hact, ha, hheld, hb, Bool.not_true, Bool.and_false, Bool.false_eq_true, if_false]
        rw [hxe, ← hb]
        exact ⟨s.mod.role, _, _, hw, hnoted⟩
  obtain ⟨k, r, b, hx, hr⟩ := hx
  clear_value x
  rw [hx.mod, hx.red, (settled_keeps hr).2.1]
  obtain ⟨st, at_, h⟩ := hx.roleTo (if s.acting && !s.red.isolated then 0 else 2)
    (if s.red.isolated then 5 else if s.acting then 0 else x.idleReason)
  exact ⟨_, _, h, hr.trans ⟨_, _, _, _, _, _, _, _, _, _, _, _, _, _, _, _, _, _, _, rfl⟩⟩

/-- In either mode settling changes the Bridle, the role and what the arbiter decides. -/
theorem redSettle_put (s : State) : ∃ br k r b, Put s { s.mod with bridle := br, role := k } r b s.redSettle ∧ s.red.Settled r := by
  unfold State.redSettle
  split
  · obtain ⟨k, r, b, h, hr, -⟩ := pairSettle_put s
    exact ⟨_, k, r, b, h, hr⟩
  · obtain ⟨r, b, h, hr⟩ := singleSettle_put s
    exact ⟨_, _, r, b, h, hr⟩

theorem redSettle_cfg (s : State) : s.redSettle.cfg = s.cfg := by
  obtain ⟨_, _, _, _, h, -⟩ := redSettle_put s
  exact h.cfg

theorem redSettle_power (s : State) : s.redSettle.power = s.power := by
  obtain ⟨_, _, _, _, h, -⟩ := redSettle_put s
  exact h.power

theorem redSettle_red (s : State) : s.red.Settled s.redSettle.red := by
  obtain ⟨_, _, _, _, h, hr⟩ := redSettle_put s
  rw [h.red]
  exact hr

end Machine
end Sys2Proof

/-! PROOFS. The Bridle arbiter's rows (O55): holding in both modes, claims, contention, lines and releases (R456 to R472). -/

namespace Sys2Proof
namespace Machine

variable {s t u v : State} {p : Path} {e : Exec}

/-! ## Letting go, gaining, holding (R456, R459, R468 to R470) -/

theorem letGo_spec {r : Nat} (h : s.mod.bridle = true) (ht : t = s.letGo r) : t.mod.bridle = false ∧ t.red.out1 = false ∧
    t.red.out2 = false ∧ t.red.claim = none ∧ t.red.reason = r ∧ t.red.fault = (r != 11) ∧
    t.red.released = (if r = 11 then some s.now else none) ∧ t.red.changes = inc32 s.red.changes ∧
    t.mod.role = (if 7 ≤ r ∧ r ≤ 11 then 1 else 2) ∧ t.cfg = s.cfg ∧ t.mem = s.mem ∧ t.logic = s.logic := by
  subst ht
  obtain ⟨st, at_, hput⟩ := letGo_put h r
  rw [hput.mod, hput.red]
  refine ⟨rfl, rfl, rfl, rfl, rfl, rfl, ?_, rfl, rfl, hput.cfg, hput.mem, hput.logic⟩
  exact if_congr (by simp) rfl rfl

theorem gain_spec {o : Bool} (ht : t = s.gain o) : t.mod.bridle = true ∧ t.mod.role = 0 ∧ t.red.out1 = s.pairMode ∧
    t.red.out2 = s.pairMode ∧ t.red.claim = none ∧ t.red.fault = false ∧ t.cfg = s.cfg ∧ t.mem = s.mem := by
  subst ht
  obtain ⟨st, at_, hput⟩ := gain_put s o
  rw [hput.mod, hput.red]
  exact ⟨rfl, rfl, rfl, rfl, rfl, rfl, hput.cfg, hput.mem⟩

theorem recentIs_of_peer {f : Bytes → Bool} {b : Bytes} {w : Nat} (h : s.red.peer = some (b, w)) :
    s.recentIs f = (decide (s.now ≤ w + 3000000) && f b) := by
  unfold State.recentIs State.recent
  rw [h]
  dsimp only
  by_cases hr : s.now ≤ w + 3000000
  · rw [if_pos hr, decide_eq_true hr, Bool.true_and]
  · rw [if_neg hr, decide_eq_false hr, Bool.false_and]

theorem redSettle_single (h : s.pairMode = false) : s.redSettle.mod.bridle = s.acting ∧
    s.redSettle.mod.role = (if s.acting && !s.red.isolated then 0 else 2) := by
  obtain ⟨r, b, hput, -⟩ := singleSettle_put s
  rw [State.redSettle, if_neg (by simp [h]), hput.mod]
  exact ⟨rfl, rfl⟩

theorem redSettle_pair (h : s.pairMode = true) : s.redSettle = s.pairSettle := if_pos h

theorem stays_eq (ha : s.acting = true) (hi : s.red.isolated = false) (hg : s.red.genFail = false) :
    s.stays = (s.yields.isEmpty || !s.peerReady) := by simp [State.stays, ha, hi, hg]

theorem mayArm_eq (hp : s.pairMode = true) (ha : s.acting = true) (hi : s.red.isolated = false) (hg : s.red.genFail = false) :
    s.mayArm = s.yields.isEmpty := by simp [State.mayArm, hp, ha, hi, hg]

/-- A unit that must not hold lets go and is not armed. -/
theorem pairSettle_must (h : s.acting = false ∨ s.red.isolated = true ∨ s.red.genFail = true) :
    s.stays = false ∧ s.mayArm = false := by
  rcases h with h | h | h <;> simp [State.stays, State.mayArm, h]

theorem redSettle_mode1 (hp : s.pairMode = true) : s.redSettle.cfg = s.cfg ∧
    (s.acting = false ∨ s.red.isolated = true → s.redSettle.mod.bridle = false ∧ s.redSettle.red.armTake = false ∧
      s.redSettle.red.claim = none ∧ s.redSettle.mod.role = 2) ∧
    (s.red.genFail = true → s.redSettle.mod.bridle = false ∧ s.redSettle.red.armTake = false) ∧
    (s.acting = true → s.red.isolated = false → s.red.genFail = false →
      (s.yields = [] → s.redSettle.mod.bridle = s.mod.bridle ∧ s.redSettle.red.armTake = true ∧ s.redSettle.red.claim = s.red.claim) ∧
      (s.yields ≠ [] → s.redSettle.mod.bridle = (s.mod.bridle && !s.peerReady) ∧ s.redSettle.red.armTake = false)) := by
  obtain ⟨k, r, b, hput, -, -, harm, hnone, hsame, hrole⟩ := pairSettle_put s
  rw [redSettle_pair hp, hput.mod, hput.red]
  refine ⟨hput.cfg, fun h => ?_, fun h => ?_, fun ha hi hg => ⟨fun hy => ?_, fun hy => ?_⟩⟩
  · obtain ⟨hstay, hmay⟩ := pairSettle_must (s := s) (h.imp_right .inl)
    refine ⟨?_, harm.trans hmay, hnone ?_, hrole h⟩
    · change (s.mod.bridle && s.stays) = false
      rw [hstay, Bool.and_false]
    · rw [hmay, hstay, Bool.and_false]
      rfl
  · obtain ⟨hstay, hmay⟩ := pairSettle_must (s := s) (.inr (.inr h))
    refine ⟨?_, harm.trans hmay⟩
    change (s.mod.bridle && s.stays) = false
    rw [hstay, Bool.and_false]
  · have hstay : s.stays = true := by rw [stays_eq ha hi hg, hy]; rfl
    have hmay : s.mayArm = true := by rw [mayArm_eq hp ha hi hg, hy]; rfl
    refine ⟨?_, harm.trans hmay, (hsame (.inl hstay)).2 hmay⟩
    change (s.mod.bridle && s.stays) = s.mod.bridle
    rw [hstay, Bool.and_true]
  · have hne : s.yields.isEmpty = false := by simpa using hy
    refine ⟨?_, harm.trans ((mayArm_eq hp ha hi hg).trans hne)⟩
    change (s.mod.bridle && s.stays) = _
    rw [stays_eq ha hi hg, hne, Bool.false_or]

/-- A unit that does not hold gains nothing and keeps its reason. -/
theorem redSettle_free (hp : s.pairMode = true) (hb : s.mod.bridle = false) :
    s.redSettle.mod.bridle = false ∧ s.redSettle.red.reason = s.red.reason := by
  obtain ⟨k, r, b, hput, -, -, -, -, hsame, -⟩ := pairSettle_put s
  rw [redSettle_pair hp, hput.mod, hput.red]
  refine ⟨?_, (hsame (.inr hb)).1⟩
  change (s.mod.bridle && s.stays) = false
  rw [hb, Bool.false_and]

/-! ## Claims (R459, R463, R468) -/

theorem deepStop_keeps (s : State) (n : Nat) : (s.deepStop n).red = s.red ∧ (s.deepStop n).mod = s.mod ∧ (s.deepStop n).cfg = s.cfg ∧
    (s.deepStop n).now = s.now := by
  unfold State.deepStop State.completeWaiting
  split
  · exact ⟨complete_red .., complete_mod .., complete_cfg .., by unfold State.now; rw [complete_time]; rfl⟩
  · exact ⟨rfl, rfl, rfl, rfl⟩

theorem claimStart_spec (s : State) (o : Bool) : (s.claimStart o).red.out1 = true ∧ (s.claimStart o).red.claim = some (s.now, o) ∧
    (s.claimStart o).mod = s.mod ∧ (s.claimStart o).red.out2 = s.red.out2 ∧ (s.claimStart o).cfg = s.cfg := by
  unfold State.claimStart
  extract_lets w
  have hw : w.red = s.red ∧ w.mod = s.mod ∧ w.cfg = s.cfg ∧ w.now = s.now := by
    dsimp only [w]
    split
    · exact deepStop_keeps ..
    · exact ⟨rfl, rfl, rfl, rfl⟩
  clear_value w
  obtain ⟨hred, hmod, hcfg, hnow⟩ := hw
  exact ⟨rfl, by rw [← hnow], hmod, by rw [← hred], hcfg⟩

theorem bridleClaim_not (hu : u = s.redSettle) (h : u.mayClaim = false) : exec .bridleClaim s = .next u := by
  subst hu
  exact congrArg Host.Outcome.next (if_pos (by simp [h]))

theorem bridleClaim_free {f k w : Nat} (hu : u = s.redSettle) (h : u.mayClaim = true) (hf : u.red.freeSince = some f)
    (hk : u.red.takeSince = some k) (hw : w = (if u.mod.role = 2 ∧ u.home = false then u.startWait else 0))
    (hv : v = u.clockTo (max (f + 20000 + u.red.wait) (max k (f + 20000) + w))) (hb : v.takeHb = true) :
    exec .bridleClaim s = .next (v.claimStart false) := by
  have hsw : (if (decide (u.mod.role = 2) && !u.home) = true then u.startWait else 0) = w := by
    rw [hw]
    exact if_congr (by simp) rfl rfl
  subst hu
  change execBridleClaim s = _
  unfold execBridleClaim
  dsimp only
  rw [if_neg (by simp [h]), hsw, hf, hk]
  dsimp only
  rw [← hv, if_pos (by simp [hb])]

theorem bridleClaim_busy (hu : u = s.redSettle) (h : u.mayClaim = true) (hf : u.red.freeSince = none) :
    (u.override = false → exec .bridleClaim s = .next u) ∧
    (u.override = true → u.takeHb = true → u.mod.role = 1 ∨ u.home = true → exec .bridleClaim s = .next (u.claimStart true)) := by
  have hrun : exec .bridleClaim s = .next (if (u.override && u.takeHb &&
      decide ((if (decide (u.mod.role = 2) && !u.home) = true then u.startWait else 0) = 0)) = true then u.claimStart true else u) := by
    subst hu
    change execBridleClaim s = _
    unfold execBridleClaim
    dsimp only
    rw [if_neg (by simp [h]), hf]
  refine ⟨fun ho => hrun.trans (congrArg _ (if_neg (by simp [ho]))), fun ho hb hr => hrun.trans (congrArg _ (if_pos ?_))⟩
  have h0 : (decide (u.mod.role = 2) && !u.home) = false := by
    rcases hr with hr | hr <;> simp [hr]
  simp [ho, hb, h0]

theorem bridleClaimComplete_some {k : Nat} {o : Bool} (h : s.red.claim = some (k, o)) :
    (s.red.armTake = true → s.acting = true → o = true ∨ s.linesReleased = true →
      exec .bridleClaimComplete s = .next ((s.clockTo (k + 20000)).gain o)) ∧
    (s.red.armTake = false ∨ s.acting = false ∨ (o = false ∧ s.linesReleased = false) → exec .bridleClaimComplete s = .next s) := by
  have hrun : exec .bridleClaimComplete s = .next (if (s.red.armTake && s.acting && (o || s.linesReleased)) = true then
      (s.clockTo (k + 20000)).gain o else s) := by
    change execBridleClaimComplete s = _
    simp only [execBridleClaimComplete, h]
  refine ⟨fun ha hact hl => hrun.trans (congrArg _ (if_pos ?_)), fun hno => hrun.trans (congrArg _ (if_neg ?_))⟩
  · rcases hl with hl | hl <;> simp [ha, hact, hl]
  · rcases hno with hno | hno | ⟨h1, h2⟩
    · simp [hno]
    · simp [hno]
    · simp [h1, h2]

theorem bridleClaimComplete_none (h : s.red.claim = none) : exec .bridleClaimComplete s = .next s := by
  change execBridleClaimComplete s = _
  simp only [execBridleClaimComplete, h]

/-! ## Contention (R460) -/

theorem bridleContention_not (h : s.red.bothSince = none ∨ s.mod.bridle = false ∨ s.pairMode = false) :
    exec .bridleContention s = .next s := by
  change execBridleContention s = _
  unfold execBridleContention
  cases hk : s.red.bothSince with
  | none => rfl
  | some k =>
    rcases h with h | h | h
    · rw [h] at hk
      exact absurd hk (by simp)
    · exact congrArg Host.Outcome.next (if_neg (by simp [h]))
    · exact congrArg Host.Outcome.next (if_neg (by simp [h]))

/-- A holder that must yield to the other one (R460). -/
def State.contentionLets (s : State) : Bool :=
  match s.peerHb with
  | some b => if hbFlag b 0 == s.posB then decide (4294967296 * rdBe32 b 4 + rdBe32 b 8 < Config.serial.toNat) else s.posB
  | none => s.posB

theorem contentionLets_congr (hp : t.red.peer = s.red.peer) (hc : t.red.cfg = s.red.cfg) : t.contentionLets = s.contentionLets := by
  unfold State.contentionLets State.peerHb State.posB
  rw [hp, hc]

theorem bridleContention_held {k : Nat} (hk : s.red.bothSince = some k) (hb : s.mod.bridle = true) (hp : s.pairMode = true) :
    ∃ t, exec .bridleContention s = .next t ∧ t.cfg = s.cfg ∧ t.red.bothSince = none ∧ t.mod.bridle = !s.contentionLets ∧
      (s.contentionLets = true → t.red.reason = 12) := by
  have hrun : ∃ w, exec .bridleContention s = .next (if s.contentionLets then (State.letGo w 12).redSettle else w) ∧
      w.cfg = s.cfg ∧ w.mod = s.mod ∧ w.red = { s.red with bothSince := none } := by
    have h := Besides.redRec { s.clockTo (k + 20000) with red.bothSince := none } 4 [3, 1]
    have hred := h.red
    refine ⟨State.redRec { s.clockTo (k + 20000) with red.bothSince := none } 4 [3, 1], ?_, h.cfg, h.mod, hred⟩
    · change execBridleContention s = _
      unfold execBridleContention
      rw [hk]
      dsimp only
      rw [if_pos (by simp [hb, hp])]
      have hl : (State.redRec { s.clockTo (k + 20000) with red.bothSince := none } 4 [3, 1]).contentionLets = s.contentionLets :=
        contentionLets_congr (by rw [hred]; rfl) (by rw [hred]; rfl)
      rw [← hl]
      rfl
  obtain ⟨w, hrun, hcfg, hmod, hred⟩ := hrun
  refine ⟨_, hrun, ?_⟩
  cases hl : s.contentionLets with
  | false => 
    rw [if_neg (by simp), hmod, hred]
    exact ⟨hcfg, rfl, hb, fun h => absurd h (by simp)⟩
  | true =>
    rw [if_pos rfl]
    have hwb : w.mod.bridle = true := by rw [hmod, hb]
    obtain ⟨st, at_, hput⟩ := letGo_put hwb 12
    have hpair : (w.letGo 12).pairMode = true := by
      unfold State.pairMode at hp ⊢
      rw [hput.red, hred]
      exact hp
    obtain ⟨hfree, hreason⟩ := redSettle_free hpair (by rw [hput.mod])
    obtain ⟨-, -, -, -, -, -, -, hboth, -⟩ := settled_keeps (redSettle_red (w.letGo 12))
    rw [redSettle_cfg, hput.cfg, hfree, hreason, hboth, hput.red, hred]
    exact ⟨hcfg, rfl, rfl, fun _ => rfl⟩

end Machine
end Sys2Proof

/-! PROOFS. The Bridle arbiter (O55): the lines, releases, handovers and the pair's commands (R458 to R483). -/

namespace Sys2Proof
namespace Machine

variable {s t u v : State} {p : Path} {e : Exec}

theorem bridleContention_spec {k : Nat} (hk : s.red.bothSince = some k) (hb : s.mod.bridle = true) (hp : s.pairMode = true) :
    ∃ t, exec .bridleContention s = .next t ∧ t.cfg = s.cfg ∧ t.red.bothSince = none ∧
    (s.red.peer = none → t.mod.bridle = !s.posB ∧ (s.posB = true → t.red.reason = 12)) ∧
    (∀ b w, s.red.peer = some (b, w) → hbFlag b 0 ≠ s.posB → t.mod.bridle = !s.posB) ∧
    (∀ b w, s.red.peer = some (b, w) → hbFlag b 0 = s.posB →
      t.mod.bridle = !decide (4294967296 * rdBe32 b 4 + rdBe32 b 8 < Config.serial.toNat)) := by
  obtain ⟨t, hrun, hcfg, hboth, hbr, hreason⟩ := bridleContention_held hk hb hp
  refine ⟨t, hrun, hcfg, hboth, fun hn => ?_, fun b w hs hne => ?_, fun b w hs heq => ?_⟩
  · have hl : s.contentionLets = s.posB := by rw [State.contentionLets, State.peerHb, hn]; rfl
    rw [hl] at hbr hreason
    exact ⟨hbr, hreason⟩
  · have hl : s.contentionLets = s.posB := by
      rw [State.contentionLets, State.peerHb, hs]
      exact if_neg (by simpa using hne)
    rw [hbr, hl]
  · have hl : s.contentionLets = decide (4294967296 * rdBe32 b 4 + rdBe32 b 8 < Config.serial.toNat) := by
      rw [State.contentionLets, State.peerHb, hs]
      exact if_pos (by simpa using heq)
    rw [hbr, hl]

/-! ## The lines (R458 to R463) -/

theorem bridleLineChange_off {line : Nat} {x : Bool} (h : Domain.safe ∉ s.power.on) : exec (.bridleLineChange line x) s = .next s :=
  congrArg Host.Outcome.next (if_pos (by simpa using h))

theorem bridleLineChange_on {line : Nat} {x : Bool} (h : Domain.safe ∈ s.power.on) : exec (.bridleLineChange line x) s = .next (
    if line ≤ 1 then (s.brdIn line x).redSettle
    else if (decide (line = 2) && s.red.hbw != x) = true then
      (if s.red.hbwQuiet then State.redRec { s with red := { s.red with hbw := x, hbwAt := s.now, hbwQuiet := false } } 4 [2, 0]
        else { s with red := { s.red with hbw := x, hbwAt := s.now, hbwQuiet := false } }).redSettle
    else s) :=
  congrArg Host.Outcome.next (if_neg (by simpa using h))

theorem bridleLineChange_hbw {x : Bool} (h : Domain.safe ∈ s.power.on) (hx : s.red.hbw ≠ x) :
    ∃ t, exec (.bridleLineChange 2 x) s = .next t ∧ t.red.hbw = x ∧ t.red.hbwAt = s.now ∧ t.red.hbwQuiet = false ∧ t.cfg = s.cfg := by
  have hc : (decide (2 = 2) && s.red.hbw != x) = true := by simpa using hx
  refine ⟨_, (bridleLineChange_on h).trans (congrArg _ ((if_neg (by decide)).trans (if_pos hc))), ?_⟩
  have hw : ∃ w : State, (if s.red.hbwQuiet then State.redRec { s with red := { s.red with hbw := x, hbwAt := s.now, hbwQuiet := false } } 4 [2, 0]
      else { s with red := { s.red with hbw := x, hbwAt := s.now, hbwQuiet := false } }) = w ∧
      w.red = { s.red with hbw := x, hbwAt := s.now, hbwQuiet := false } ∧ w.cfg = s.cfg := by
    refine ⟨_, rfl, ?_⟩
    split
    · have hr := Besides.redRec { s with red := { s.red with hbw := x, hbwAt := s.now, hbwQuiet := false } } 4 [2, 0]
      exact ⟨hr.red, hr.cfg⟩
    · exact ⟨rfl, rfl⟩
  obtain ⟨w, hw, hred, hcfg⟩ := hw
  rw [hw]
  obtain ⟨-, -, -, -, -, -, -, -, -, h1, h2, h3⟩ := settled_keeps (redSettle_red w)
  rw [h1, h2, h3, redSettle_cfg, hred]
  exact ⟨rfl, rfl, rfl, hcfg⟩

theorem bridleLineChange_other {line : Nat} {x : Bool} (h : Domain.safe ∈ s.power.on) (hx : (line = 2 ∧ s.red.hbw = x) ∨ 2 < line) :
    exec (.bridleLineChange line x) s = .next s := by
  refine (bridleLineChange_on h).trans (congrArg _ ((if_neg (by omega)).trans (if_neg ?_)))
  rcases hx with ⟨-, h2⟩ | h2
  · simp [h2]
  · have : line ≠ 2 := by omega
    simp [this]

/-- The state in which a line asserts. -/
theorem brdIn_asserts (h : s.red.in1 = false) : s.brdIn 0 true = State.claimMet { s with red := { s.red with
    in1 := true, freeSince := none, bothSince := if s.red.in2 then some s.now else none, discSince := s.now } } := by
  unfold State.brdIn
  dsimp only
  rw [if_pos rfl, h]
  simp

theorem brdIn_assert (k : Nat) (h : s.red.in1 = false) : (s.brdIn 0 true).red.in1 = true ∧ (s.brdIn 0 true).red.in2 = s.red.in2 ∧
    (s.brdIn 0 true).red.freeSince = none ∧
    (s.red.claim = some (k, false) → (s.brdIn 0 true).red.claim = none ∧ (s.brdIn 0 true).red.out1 = false ∧ (s.brdIn 0 true).red.again = true) ∧
    (s.red.claim = some (k, true) → (s.brdIn 0 true).red.claim = some (k, true) ∧ (s.brdIn 0 true).red.out1 = s.red.out1) := by
  rw [brdIn_asserts h]
  unfold State.claimMet
  dsimp only
  cases hc : s.red.claim with
  | none => exact ⟨rfl, rfl, rfl, fun h => absurd h (by simp), fun h => absurd h (by simp)⟩
  | some c =>
    obtain ⟨j, o⟩ := c
    cases o with
    | false => exact ⟨rfl, rfl, rfl, fun _ => ⟨rfl, rfl, rfl⟩, fun h => absurd h (by simp)⟩
    | true => exact ⟨rfl, rfl, rfl, fun h => absurd h (by simp), fun h => ⟨h, rfl⟩⟩

/-- The state in which the last line is released. -/
theorem brdIn_releases (h1 : s.red.in1 = true) (h2 : s.red.in2 = false) : s.brdIn 0 false = State.roundWait { s with red := { s.red with
    in1 := false, freeSince := some s.now, bothSince := none, discSince := s.now } } := by
  unfold State.brdIn
  dsimp only
  rw [if_pos rfl, h1, h2]
  simp

theorem brdIn_release (h1 : s.red.in1 = true) (h2 : s.red.in2 = false) : (s.brdIn 0 false).red.freeSince = some s.now ∧
    (s.brdIn 0 false).linesReleased = true ∧ (s.red.again = false → (s.brdIn 0 false).red.wait = 0) ∧
    (s.red.again = true → s.recent = none → ∃ r, r < 16 ∧ (s.brdIn 0 false).red.wait = 20000 * (1 + r)) := by
  rw [brdIn_releases h1 h2]
  unfold State.roundWait
  split
  next hc =>
    refine ⟨rfl, ?_, fun h => ?_, fun _ _ => ⟨_, Nat.mod_lt _ (by decide), rfl⟩⟩
    · unfold State.linesReleased
      simpa [State.draw] using h2
    · rw [Bool.and_eq_true] at hc
      exact absurd (hc.1.symm.trans h) (by decide)
  next hc =>
    refine ⟨rfl, ?_, fun _ => rfl, fun ha hr => absurd ?_ hc⟩
    · unfold State.linesReleased
      simpa using h2
    · rw [Bool.and_eq_true]
      refine ⟨ha, ?_⟩
      rw [Option.isNone_iff_eq_none]
      exact hr

theorem hbwQuiet_due (h : Domain.safe ∈ s.power.on) (hq : s.red.hbwQuiet = false) :
    ∃ t, exec .hbwQuiet s = .next t ∧ t.red.hbwQuiet = true ∧ t.red.hbw = s.red.hbw ∧ t.cfg = s.cfg := by
  have hrun : ∃ due, exec .hbwQuiet s = .next (State.redSettle (State.redRec { s.clockTo due with red.hbwQuiet := true } 4 [2, 1])) :=
    ⟨_, congrArg Host.Outcome.next (if_neg (by simpa [hq] using h))⟩
  obtain ⟨due, hrun⟩ := hrun
  have hw := Besides.redRec { s.clockTo due with red.hbwQuiet := true } 4 [2, 1]
  obtain ⟨-, -, -, -, -, -, -, -, -, hhbw, -, hquiet⟩ := settled_keeps (redSettle_red (State.redRec { s.clockTo due with red.hbwQuiet := true } 4 [2, 1]))
  refine ⟨_, hrun, hquiet.trans (by rw [hw.red]), hhbw.trans (by rw [hw.red]; rfl), (redSettle_cfg _).trans hw.cfg⟩

theorem hbwQuiet_not (h : Domain.safe ∉ s.power.on ∨ s.red.hbwQuiet = true) : exec .hbwQuiet s = .next s := by
  refine congrArg Host.Outcome.next (if_pos ?_)
  rcases h with h | h <;> simp [h]

theorem brdDisc_due {x : Bool} (h : Domain.safe ∈ s.power.on) (hd : s.red.brdDisc ≠ x) (hx : (s.red.in1 != s.red.in2) = x) :
    ∃ t, exec (.brdDisc x) s = .next t ∧ t.red.brdDisc = x ∧ t.red.in1 = s.red.in1 ∧ t.red.in2 = s.red.in2 ∧ t.cfg = s.cfg := by
  have hrun : ∃ due, exec (.brdDisc x) s = .next (State.redSettle (State.redRec { s.clockTo due with red.brdDisc := x } 4
      ([1] ++ leBytes 1 (b2n x)))) :=
    ⟨_, congrArg Host.Outcome.next (if_neg (by simpa [hd, hx] using h))⟩
  obtain ⟨due, hrun⟩ := hrun
  have hw := Besides.redRec { s.clockTo due with red.brdDisc := x } 4 ([1] ++ leBytes 1 (b2n x))
  obtain ⟨-, -, -, -, -, hin1, hin2, -, hdisc, -⟩ :=
    settled_keeps (redSettle_red (State.redRec { s.clockTo due with red.brdDisc := x } 4 ([1] ++ leBytes 1 (b2n x))))
  exact ⟨_, hrun, hdisc.trans (by rw [hw.red]), hin1.trans (by rw [hw.red]; rfl), hin2.trans (by rw [hw.red]; rfl),
    (redSettle_cfg _).trans hw.cfg⟩

theorem brdDisc_not {x : Bool} (h : s.red.brdDisc = x ∨ (s.red.in1 != s.red.in2) ≠ x) : exec (.brdDisc x) s = .next s := by
  refine congrArg Host.Outcome.next (if_pos ?_)
  rcases h with h | h
  · simp [h]
  · rw [bne_iff_ne.2 h, Bool.or_true, Bool.true_or]

/-! ## Releases (R461, R466, R469) -/

theorem bridleRelease_now {r : Nat} (h : (1 ≤ r ∧ r ≤ 6) ∨ r = 12) : exec (.bridleRelease r) s = .next (s.letGo r) := by
  refine congrArg Host.Outcome.next (if_pos ?_)
  rw [if_pos (by simp; omega)]
  simp
  omega

theorem bridleRelease_yield {r : Nat} (h7 : 7 ≤ r) (h10 : r ≤ 10) : exec (.bridleRelease r) s =
    .next (if s.pairMode && s.yieldOn r && s.peerReady then s.letGo r else s) := by
  have hnot : (decide (r ≤ 6) || decide (r = 12)) = false := by simp; omega
  refine congrArg Host.Outcome.next ?_
  simp only [hnot, h10, Bool.false_eq_true, if_false, if_true]

theorem bridleRelease_handover (s : State) : exec (.bridleRelease 11) s = .next (if s.red.handover.isSome then s.letGo 11 else s) := by
  cases h : s.red.handover.isSome <;> refine congrArg Host.Outcome.next ?_ <;> simp [h]

theorem hbGenFail_pair (hp : s.pairMode = true) : 
    ∃ t, exec .hbGenFail s = .next t ∧ t.red.genFail = true ∧ t.mod.bridle = false ∧ t.cfg = s.cfg := by
  have hrun : ∃ due, exec .hbGenFail s = .next (State.redSettle { s.clockTo due with red.genFail := true }) :=
    ⟨_, congrArg Host.Outcome.next (if_pos hp)⟩
  obtain ⟨due, hrun⟩ := hrun
  obtain ⟨hcfg, -, hgen, -⟩ := redSettle_mode1 (s := { s.clockTo due with red.genFail := true }) hp
  exact ⟨_, hrun, (settled_keeps (redSettle_red { s.clockTo due with red.genFail := true })).2.2.1, (hgen rfl).1, hcfg⟩

theorem portsDown_all (h : ∀ i, i < 4 → (s.port i).up = false) : exec .portsDown s =
    .next (State.redSettle { s with red.portsDown := true }) := by
  refine congrArg Host.Outcome.next (if_neg ?_)
  simpa using h

theorem portsDown_not {i : Nat} (hi : i < 4) (h : (s.port i).up = true) : exec .portsDown s = .next s :=
  congrArg Host.Outcome.next (if_pos (List.any_eq_true.2 ⟨i, List.mem_range.2 hi, h⟩))

theorem presInChange_new {x : Bool} (h : s.power.cable = x) : ∃ t, exec (.presInChange x) s = .next t ∧ t.power.cable = (!x) ∧ t.cfg = s.cfg := by
  have hw := Besides.redRec { s with power.cable := !x } 4 ([4] ++ leBytes 1 (b2n x))
  refine ⟨_, congrArg Host.Outcome.next (if_neg (by simp [h])), ?_, (redSettle_cfg _).trans hw.cfg⟩
  rw [redSettle_power, hw.power]

/-! ## Takeback and handover (R480, R481) -/

theorem handoverRec_active (s : State) (code sec c : Nat) : (s.handoverRec code sec).active c = s.active c := by
  unfold State.active State.handoverRec State.redRec
  rw [raise_diag, firnEv_diag]

theorem handoverRelease_due (hd : s.handoverDue = true) (hp : s.pairMode = true) :
    ∃ t, exec .handoverRelease s = .next t ∧ t.mod.bridle = false ∧ t.red.reason = 11 ∧ t.cfg = s.cfg := by
  have hrun : ∃ due, exec .handoverRelease s = .next (s.clockTo due).handoverGo := ⟨_, congrArg Host.Outcome.next (if_pos hd)⟩
  obtain ⟨due, hrun⟩ := hrun
  have hb : (s.clockTo due).mod.bridle = true := by
    unfold State.handoverDue at hd
    rw [Bool.and_eq_true] at hd
    exact hd.1
  obtain ⟨st, at_, hput⟩ := letGo_put hb 11
  have hpair : ((s.clockTo due).letGo 11).pairMode = true := by
    unfold State.pairMode at hp ⊢
    rw [hput.red]
    exact hp
  obtain ⟨hfree, hreason⟩ := redSettle_free hpair (by rw [hput.mod])
  exact ⟨_, hrun, hfree, hreason.trans (by rw [hput.red]; rfl), (redSettle_cfg _).trans hput.cfg⟩

theorem handoverAbort_due {w : Nat} (h : s.red.released = some w) (hp : s.pairMode = true) : ∃ t, exec .handoverAbort s = .next t ∧
    t.red.released = none ∧ t.red.handover = none ∧ t.red.takeback = false ∧ (s.mod.bridle = false → t.mod.bridle = false) := by
  have hrun : ∃ due, exec .handoverAbort s = .next (if (s.clockTo due).recentIs (fun b => hbFlag b 2) then (s.clockTo due).handoverEnd (some 3)
      else ((s.clockTo due).handoverEnd (some 4)).redSettle) := by
    refine ⟨w + 1000000, ?_⟩
    change execHandoverAbort s = _
    simp only [execHandoverAbort, h]
  obtain ⟨due, hrun⟩ := hrun
  refine ⟨_, hrun, ?_⟩
  split
  · have hput := handoverEnd_put (s.clockTo due) (some 3)
    rw [hput.red, hput.mod]
    exact ⟨rfl, rfl, rfl, id⟩
  · have hput := handoverEnd_put (s.clockTo due) (some 4)
    generalize (s.clockTo due).handoverEnd (some 4) = w at *
    have hpair : w.pairMode = true := by
      unfold State.pairMode at hp ⊢
      rw [hput.red]
      exact hp
    obtain ⟨k, r, b, hset, -, hend, -⟩ := pairSettle_put w
    have hr : r.ended = r := hend (by rw [hput.red]; rfl)
    rw [redSettle_pair hpair, hset.red, hset.mod, ← hr]
    refine ⟨rfl, rfl, rfl, fun hb => ?_⟩
    change (w.mod.bridle && w.stays) = false
    rw [hput.mod]
    change (s.mod.bridle && w.stays) = false
    rw [hb, Bool.false_and]

theorem handoverAbort_none (h : s.red.released = none) : exec .handoverAbort s = .next s := by
  change execHandoverAbort s = _
  simp only [execHandoverAbort, h]

theorem takebackRequest_due {w : Nat} (h : s.red.readySince = some w) (hp : s.pairMode = true) (hr : s.revert = true) (hh : s.home = true)
    (hm : s.mod.role = 1) (hy : s.red.ready = true) (ht : s.red.takeback = false) (ha : s.active 6 = false) :
    ∃ t, exec .takebackRequest s = .next t ∧ t.red.takeback = true ∧ t.active 7 = true ∧ t.mod = s.mod ∧ t.cfg = s.cfg := by
  have hrun : ∃ due, exec .takebackRequest s = .next ((State.begin { s.clockTo due with red.takeback := true } 7 none).handoverRec 1 0) := by
    refine ⟨max w s.red.roleAt + s.redHoldoff, ?_⟩
    change execTakebackRequest s = _
    unfold execTakebackRequest
    rw [h]
    exact congrArg Host.Outcome.next (if_pos (by simp [hp, hr, hh, hm, hy, ht, ha]))
  obtain ⟨due, hrun⟩ := hrun
  have hw := Besides.handoverRec (State.begin { s.clockTo due with red.takeback := true } 7 none) 1 0
  exact ⟨_, hrun, by rw [hw.red]; rfl, (handoverRec_active ..).trans (begin_active ..), hw.mod, hw.cfg⟩

theorem takebackRequest_not (h : s.red.readySince = none ∨ s.revert = false ∨ s.home = false ∨ s.mod.role ≠ 1 ∨ s.red.ready = false) :
    exec .takebackRequest s = .next s := by
  change execTakebackRequest s = _
  unfold execTakebackRequest
  cases hs : s.red.readySince with
  | none => rfl
  | some w =>
    refine congrArg Host.Outcome.next (if_neg ?_)
    rcases h with h | h | h | h | h
    · rw [h] at hs
      exact absurd hs (by simp)
    all_goals simp [h]

/-! ## The commands (R483) -/

theorem handoverSec_of {n sec : Nat} {byPeer : Bool} (h : s.red.handover = some (n, sec, byPeer)) : s.handoverSec = sec := by
  rw [State.handoverSec, h]
  rfl

theorem schedule_spec (s : State) (byPeer : Bool) (code : Nat) :
    (s.schedule byPeer code).red.handover = some (s.handoverMarks, s.markSec s.handoverMarks, byPeer) ∧
    (s.schedule byPeer code).active 7 = true ∧ (s.schedule byPeer code).mod = s.mod ∧ (s.schedule byPeer code).cfg = s.cfg := by
  unfold State.schedule
  extract_lets n _ v w
  have hw : w.red.handover = some (n, s.markSec n, byPeer) ∧ w.active 7 = true ∧ w.mod = s.mod ∧ w.cfg = s.cfg := by
    dsimp only [w]
    split
    next h => exact ⟨rfl, h, rfl, rfl⟩
    next => exact ⟨rfl, begin_active .., rfl, rfl⟩
  clear_value w
  obtain ⟨hho, hact, hmod, hcfg⟩ := hw
  have hrec := Besides.handoverRec w code w.handoverSec
  rw [hrec.red, hrec.mod, hrec.cfg, handoverRec_active]
  exact ⟨hho, hact, hmod, hcfg⟩

theorem redSwitch_held (ha : Accepted cmdRedSwitch p e s t) (hb : t.mod.bridle = true) : ∃ u,
    exec (.redSwitch p) s = .next (State.complete u p stOK (leBytes 4 (t.markSec t.handoverMarks)) none) ∧
    u.red.handover = some (t.handoverMarks, t.markSec t.handoverMarks, false) ∧ u.active 7 = true ∧ u.mod = t.mod ∧ u.cfg = t.cfg := by
  have hbody : cmdRedSwitch.body p e t = .done (t.schedule false 1) stOK (leBytes 4 (t.schedule false 1).handoverSec) none := if_pos hb
  obtain ⟨hho, hact, hmod, hcfg⟩ := schedule_spec t false 1
  rw [handoverSec_of hho] at hbody
  exact ⟨t.schedule false 1, congrArg Host.Outcome.next (run_done ha hbody), hho, hact, hmod, hcfg⟩

theorem redSwitch_free (ha : Accepted cmdRedSwitch p e s t) (hb : t.mod.bridle = false) : ∃ u,
    exec (.redSwitch p) s = .next (State.complete u p stOK (leBytes 4 (t.markSec t.handoverMarks)) none) ∧
    u.red.takeback = true ∧ u.active 7 = true ∧ u.mod = t.mod ∧ u.cfg = t.cfg := by
  have hbody : cmdRedSwitch.body p e t = .done ((State.begin { t with red.takeback := true } 7 none).handoverRec 1
      (t.markSec t.handoverMarks)) stOK (leBytes 4 (t.markSec t.handoverMarks)) none := if_neg (by simp [hb])
  generalize t.markSec t.handoverMarks = sec at *
  have hw := Besides.handoverRec (State.begin { t with red.takeback := true } 7 none) 1 sec
  exact ⟨_, congrArg Host.Outcome.next (run_done ha hbody), by rw [hw.red]; rfl, (handoverRec_active ..).trans (begin_active ..), hw.mod,
    hw.cfg⟩

/-- Settles O55. -/
theorem bridleArbiter : Obligations.BridleArbiter := by
  refine ⟨fun s r t h ht => letGo_spec h ht, fun s r h => letGo_free h r, fun s o t ht => gain_spec ht,
    fun s f b w h => recentIs_of_peer h, fun s h => redSettle_single h, fun s h => redSettle_mode1 h, claimStart_spec,
    fun s u hu h => bridleClaim_not hu h, fun s u v f k w hu h hf hk hw hv hb => bridleClaim_free hu h hf hk hw hv hb,
    fun s u hu h hf => bridleClaim_busy hu h hf, fun s t o h => bridleClaimComplete_some h, fun s h => bridleClaimComplete_none h,
    fun s h => bridleContention_not h, fun s k hk hb hp => bridleContention_spec hk hb hp,
    fun s line v h => bridleLineChange_off h, fun s line v h hl => (bridleLineChange_on h).trans (congrArg _ (if_pos hl)),
    fun s v h hx => bridleLineChange_hbw h hx, fun s line v h hx => bridleLineChange_other h hx, fun s t h => brdIn_assert t h,
    fun s h1 h2 => brdIn_release h1 h2, fun s h hq => hbwQuiet_due h hq, fun s h => hbwQuiet_not h,
    fun s v h hd hx => brdDisc_due h hd hx, fun s v h => brdDisc_not h, fun s r h => bridleRelease_now h,
    fun s r h7 h10 => bridleRelease_yield h7 h10, bridleRelease_handover, fun s h => congrArg Host.Outcome.next (if_pos (by simpa using h)),
    fun s hp _ => hbGenFail_pair hp, fun s hp => congrArg Host.Outcome.next (if_neg (by simp [hp])), fun s h => portsDown_all h,
    fun s i hi h => portsDown_not hi h, fun s v h _ => presInChange_new h, fun s v h => congrArg Host.Outcome.next (if_pos h),
    fun s hd hp => handoverRelease_due hd hp, fun s hd => congrArg Host.Outcome.next (if_neg (by simp [hd])),
    fun s w h hp => handoverAbort_due h hp, fun s h => handoverAbort_none h,
    fun s w h hp hr hh hm hy ht ha => takebackRequest_due h hp hr hh hm hy ht ha, fun s h => takebackRequest_not h,
    completes_of_body (fun _ _ => rfl) fun _ _ _ => rfl, answers_of_body (fun _ _ => rfl) fun _ _ _ => rfl,
    fun p e s t ha hb => redSwitch_held ha hb, fun p e s t ha hb => redSwitch_free ha hb,
    fun p e s t ha => ⟨_, congrArg Host.Outcome.next (run_done ha rfl), rfl, (settled_keeps (redSettle_red _)).2.1⟩⟩

end Machine
end Sys2Proof

/-! PROOFS. Heartbeats (O56): their bytes, their sending, receipt and windows (R457, R464, R465, R467). -/

namespace Sys2Proof
namespace Machine

variable {s t u : State}

/-! ## The bytes of a heartbeat (R464) -/

/-- The layout of R464. -/
def hbLayout (pid hi lo flags role state reason seq : Nat) (st : Bytes) (dig sec saf tb fm : Nat) : Bytes :=
  [1, 3] ++ be16 pid ++ be32 hi ++ be32 lo ++ leBytes 1 flags ++ leBytes 1 role ++ leBytes 1 state ++ leBytes 1 reason ++ be32 seq ++
    st ++ be32 dig ++ be32 sec ++ be16 saf ++ leBytes 1 tb ++ zeros 3 ++ be16 fm ++ zeros 2

theorem byteAt_of_slice {b : Bytes} {i v : Nat} (h : slice b i 1 = leBytes 1 v) : byteAt b i = v % 256 := by
  rw [← Nat.add_zero i, ← byteAt_slice (n := 1) (by decide), h]
  exact byteAt_leBytes_zero 0 _

@[simp] theorem length_be16 (n : Nat) : (be16 n).length = 2 := by simp [be16]

@[simp] theorem length_be32 (n : Nat) : (be32 n).length = 4 := by simp [be32]

section

variable {pid hi lo flags role state reason seq : Nat} {st : Bytes} {dig sec saf tb fm : Nat}

theorem length_hbLayout (h : st.length = 6) : (hbLayout pid hi lo flags role state reason seq st dig sec saf tb fm).length = 44 := by
  simp [hbLayout, h]

theorem hbLayout_fields {b : Bytes} (hb : b = hbLayout pid hi lo flags role state reason seq st dig sec saf tb fm) (h : st.length = 6) :
    rdBe16 b 2 = pid % 65536 ∧ rdBe32 b 4 = hi % 4294967296 ∧ rdBe32 b 8 = lo % 4294967296 ∧ byteAt b 12 = flags % 256 ∧
    byteAt b 15 = reason % 256 ∧ rdBe32 b 16 = seq % 4294967296 ∧ rdBe32 b 26 = dig % 4294967296 ∧ rdBe16 b 34 = saf % 65536 ∧
    byteAt b 36 = tb % 256 := by
  subst hb
  refine ⟨rdBe16_of_slice ?_, rdBe32_of_slice ?_, rdBe32_of_slice ?_, byteAt_of_slice ?_, byteAt_of_slice ?_, rdBe32_of_slice ?_,
    rdBe32_of_slice ?_, rdBe16_of_slice ?_, byteAt_of_slice ?_⟩
  all_goals simp (disch := simp [h]) only [hbLayout, slice_append_left, slice_append_end]

end

/-- A byte of eight flags. -/
def flagByte (b0 b1 b2 b3 b4 b5 b6 b7 : Bool) : Nat :=
  b2n b0 + 2 * b2n b1 + 4 * b2n b2 + 8 * b2n b3 + 16 * b2n b4 + 32 * b2n b5 + 64 * b2n b6 + 128 * b2n b7

theorem flagByte_bits : ∀ b0 b1 b2 b3 b4 b5 b6 b7 : Bool, flagByte b0 b1 b2 b3 b4 b5 b6 b7 < 256 ∧
    (flagByte b0 b1 b2 b3 b4 b5 b6 b7).testBit 0 = b0 ∧ (flagByte b0 b1 b2 b3 b4 b5 b6 b7).testBit 1 = b1 ∧
    (flagByte b0 b1 b2 b3 b4 b5 b6 b7).testBit 2 = b2 ∧ (flagByte b0 b1 b2 b3 b4 b5 b6 b7).testBit 3 = b3 ∧
    (flagByte b0 b1 b2 b3 b4 b5 b6 b7).testBit 4 = b4 ∧ (flagByte b0 b1 b2 b3 b4 b5 b6 b7).testBit 5 = b5 ∧
    (flagByte b0 b1 b2 b3 b4 b5 b6 b7).testBit 6 = b6 ∧ (flagByte b0 b1 b2 b3 b4 b5 b6 b7).testBit 7 = b7 := by decide

theorem b2n_le (b : Bool) : b2n b ≤ 1 := by cases b <;> decide

theorem pairId_lt (s : State) : s.pairId < 65536 := by
  have h0 : byteAt s.red.cfg 4 < 256 := BitVec.isLt _
  have h1 : byteAt s.red.cfg (4 + 1) < 256 := BitVec.isLt _
  unfold State.pairId le16
  omega

theorem safetyBits_lt (s : State) : s.safetyBits < 65536 := by
  have hb (x : Bool) := b2n_le x
  unfold State.safetyBits
  simp only [List.range_succ, List.range_zero, List.nil_append, List.foldl_append, List.foldl_cons, List.foldl_nil]
  have h := hb s.halter
  have a0 := hb (s.safeOut 0).armed; have a1 := hb (s.safeOut 1).armed; have a2 := hb (s.safeOut 2).armed; have a3 := hb (s.safeOut 3).armed
  have c0 := hb (s.safeOut 0).cond; have c1 := hb (s.safeOut 1).cond; have c2 := hb (s.safeOut 2).cond; have c3 := hb (s.safeOut 3).cond
  omega

theorem timeBits_lt (s : State) : s.timeBits < 256 := by
  have h0 := b2n_le (s.time.servo == .locked)
  have h1 := b2n_le (s.time.servo == .holdover)
  unfold State.timeBits
  omega

/-- The reason a heartbeat carries. -/
def State.hbReason (s : State) (final : Option Nat) : Nat :=
  match final with
  | some c => c
  | none => if s.mod.bridle && final.isNone then s.yields.headD 0 else s.red.reason

theorem heartbeat_eq (s : State) (seq : Nat) (final : Option Nat) : s.heartbeat seq final = hbLayout s.pairId
    (Config.serial.toNat / 4294967296) (Config.serial.toNat % 4294967296)
    (flagByte s.posB s.home (s.mod.bridle && final.isNone) (s.red.fault || final.isSome) s.red.ready s.red.takeback
      (s.red.handover.isSome && (s.mod.bridle && final.isNone)) final.isSome)
    s.mod.role s.mod.state (s.hbReason final) seq (s.stamp 12).wire s.cfgDigest ((s.red.handover.map (·.2.1)).getD 0) s.safetyBits s.timeBits
    s.red.failMask := by
  cases final <;> rfl

theorem heartbeat_spec {seq : Nat} {final : Option Nat} {b : Bytes} (hb : b = s.heartbeat seq final) :
    b.length = 44 ∧ byteAt b 0 = 1 ∧ byteAt b 1 = 3 ∧ rdBe16 b 2 = s.pairId ∧
    (seq < 4294967296 → rdBe32 b 16 = seq) ∧ rdBe32 b 26 = s.cfgDigest ∧ rdBe16 b 34 = s.safetyBits ∧ byteAt b 36 = s.timeBits ∧
    4294967296 * rdBe32 b 4 + rdBe32 b 8 = Config.serial.toNat ∧
    hbFlag b 0 = s.posB ∧ hbFlag b 1 = s.home ∧ hbFlag b 2 = (s.mod.bridle && final.isNone) ∧ hbFlag b 3 = (s.red.fault || final.isSome) ∧
    hbFlag b 4 = s.red.ready ∧ hbFlag b 5 = s.red.takeback ∧ hbFlag b 6 = (s.red.handover.isSome && s.mod.bridle && final.isNone) ∧
    hbFlag b 7 = final.isSome ∧ ∀ c, c < 256 → final = some c → byteAt b 15 = c := by
  rw [heartbeat_eq] at hb
  have hst : (s.stamp 12).wire.length = 6 := by simp [Stamp.wire]
  obtain ⟨h2, h4, h8, h12, h15, h16, h26, h34, h36⟩ := hbLayout_fields hb hst
  obtain ⟨hlt, f0, f1, f2, f3, f4, f5, f6, f7⟩ := flagByte_bits s.posB s.home (s.mod.bridle && final.isNone)
    (s.red.fault || final.isSome) s.red.ready s.red.takeback (s.red.handover.isSome && (s.mod.bridle && final.isNone)) final.isSome
  rw [Nat.mod_eq_of_lt hlt] at h12
  have hserial : Config.serial.toNat < 18446744073709551616 := Config.serial.isLt
  have hdig : s.cfgDigest < 4294967296 := crc32c_lt _
  have hpid := pairId_lt s
  have hsaf := safetyBits_lt s
  have htb := timeBits_lt s
  refine ⟨by rw [hb, length_hbLayout hst], by rw [hb]; rfl, by rw [hb]; rfl, by omega, fun h => by omega, by omega, by omega, by omega,
    by omega, ?_, ?_, ?_, ?_, ?_, ?_, ?_, ?_, fun c hc hf => ?_⟩
  all_goals try rw [hbFlag, h12]
  · exact f0
  · exact f1
  · exact f2
  · exact f3
  · exact f4
  · exact f5
  · exact f6.trans (Bool.and_assoc ..).symm
  · exact f7
  · rw [h15, hf]
    exact Nat.mod_eq_of_lt hc

/-! ## Sending (R464, R467) -/

/-- A path after a heartbeat has left. -/
def HbPath.sent (x : HbPath) (now : Nat) (b : Bytes) : HbPath := { x with seq := (x.seq + 1) % 4294967296, sentAt := now, last := some b }

theorem hbSend_h1 (s : State) (f : Option Nat) : Sends { s with red := { s.red with
    h1 := s.red.h1.sent s.now (s.heartbeat ((s.red.h1.seq + 1) % 4294967296) f), genFail := false } } (s.hbSend false f) := by
  unfold State.hbSend
  simp only [Bool.false_eq_true, if_false, Bool.not_false, if_true]
  split
  · exact .refl _
  · refine Sends.foldl (fun s i => ?_) _ _
    split
    · exact txCount_sends ..
    · exact .refl _

theorem hbSend_h2 (s : State) (f : Option Nat) : Sends { s with red := { s.red with
    h2 := s.red.h2.sent s.now (s.heartbeat ((s.red.h2.seq + 1) % 4294967296) f), genFail := false } } (s.hbSend true f) := by
  unfold State.hbSend
  simp only [if_true, Bool.not_true, Bool.false_eq_true, if_false]
  split
  · exact .refl _
  · refine Sends.foldl (fun s g => ?_) _ _
    have h : Sends s { s with sw.prpSeq := s.sw.prpSeq.set g.1 ((s.sw.prpSeq.getD g.1 0 + 1) % 65536) } :=
      ⟨_, _, _, _, _, _, _, _, rfl⟩
    exact h.trans (modSend_sends _ _ _ _ _)

theorem hbSend_h1_spec {f : Option Nat} (ht : t = s.hbSend false f) : t.red.h1.seq = (s.red.h1.seq + 1) % 4294967296 ∧
    t.red.h1.last = some (s.heartbeat ((s.red.h1.seq + 1) % 4294967296) f) ∧ t.red.h1.sentAt = s.now ∧ t.red.h2 = s.red.h2 ∧
    t.red.genFail = false ∧ t.mod = s.mod ∧ t.cfg = s.cfg := by
  have h := Besides.of_sends (hbSend_h1 s f)
  rw [ht, h.red, h.mod, h.cfg]
  exact ⟨rfl, rfl, rfl, rfl, rfl, rfl, rfl⟩

theorem hbSend_h2_spec {f : Option Nat} (ht : t = s.hbSend true f) : t.red.h2.seq = (s.red.h2.seq + 1) % 4294967296 ∧
    t.red.h2.last = some (s.heartbeat ((s.red.h2.seq + 1) % 4294967296) f) ∧ t.red.h2.sentAt = s.now ∧ t.red.h1 = s.red.h1 ∧
    t.red.genFail = false ∧ t.mod = s.mod ∧ t.cfg = s.cfg := by
  have h := Besides.of_sends (hbSend_h2 s f)
  rw [ht, h.red, h.mod, h.cfg]
  exact ⟨rfl, rfl, rfl, rfl, rfl, rfl, rfl⟩

theorem heartbeatSend_on (hp : s.pairMode = true) (hn : Domain.neta ∈ s.power.on) :
    exec .heartbeatH1Send s = .next ((s.clockTo (s.red.h1.sentAt + 100000)).hbSend false none) ∧
    exec .heartbeatH2Send s = .next ((s.clockTo (s.red.h2.sentAt + 1000000)).hbSend true none) := by
  have hc : (s.pairMode && s.power.on.contains .neta) = true := by simpa [hp] using hn
  exact ⟨congrArg Host.Outcome.next (if_pos hc), congrArg Host.Outcome.next (if_pos hc)⟩

theorem heartbeatSend_off (h : s.pairMode = false ∨ Domain.neta ∉ s.power.on) :
    exec .heartbeatH1Send s = .next s ∧ exec .heartbeatH2Send s = .next s := by
  have hc : ¬ (s.pairMode && s.power.on.contains .neta) = true := by
    rcases h with h | h <;> simp [h]
  exact ⟨congrArg Host.Outcome.next (if_neg hc), congrArg Host.Outcome.next (if_neg hc)⟩

/-! ## Receipt (R457, R464) -/

theorem hbValid_iff {x : HbPath} {b : Bytes} {q : Nat} (hl : 44 ≤ b.length) (hq : x.peerSeq = some q) :
    s.hbValid x b = true ↔ byteAt b 0 = 1 ∧ byteAt b 1 = 3 ∧ rdBe16 b 2 = s.pairId ∧
      4294967296 * rdBe32 b 4 + rdBe32 b 8 ≠ Config.serial.toNat ∧
      0 < (rdBe32 b 16 + 4294967296 - q) % 4294967296 ∧ (rdBe32 b 16 + 4294967296 - q) % 4294967296 < 2147483648 := by
  unfold State.hbValid
  rw [hq]
  simp only [Bool.and_eq_true, decide_eq_true_eq, beq_iff_eq, bne_iff_ne, hl, true_and, and_assoc]

theorem settled_paths {r r' : RedBlk} (h : r.Settled r') : r'.h1 = r.h1 ∧ r'.h2 = r.h2 ∧ r'.peer = r.peer ∧ r'.pairCfg = r.pairCfg ∧
    r'.h1Missed = r.h1Missed := by
  obtain ⟨_, _, _, _, _, _, _, _, _, _, _, _, _, _, _, _, _, _, _, rfl⟩ := h
  exact ⟨rfl, rfl, rfl, rfl, rfl⟩

/-- What a heartbeat received leaves of the redundancy block, before the conditions are settled: the path, the peer and
PAIR_CFG are the given ones. -/
def HbTaken (r : RedBlk) (h1 h2 : HbPath) (peer : Option (Bytes × Nat)) (bad : Bool) : Prop :=
  r.h1 = h1 ∧ r.h2 = h2 ∧ r.peer = peer ∧ r.pairCfg = bad

theorem schedule_besides (s : State) (byPeer : Bool) (code : Nat) :
    Besides { s with red := { s.red with handover := some (s.handoverMarks, s.markSec s.handoverMarks, byPeer) } } (s.schedule byPeer code) := by
  unfold State.schedule
  extract_lets n _ v w
  have hv : Besides v w := by
    dsimp only [w]
    split
    · exact .refl v
    · exact .begin ..
  exact hv.trans (.handoverRec ..)

/-- What a heartbeat says about a handover leaves the paths, the peer and PAIR_CFG. -/
theorem handoverHb_keeps (s : State) (b : Bytes) : ∃ r, Put s s.mod r s.brio.running (s.handoverHb b) ∧
    HbTaken r s.red.h1 s.red.h2 s.red.peer s.red.pairCfg := by
  have hend (c : Nat) : ∃ r, Put s s.mod r s.brio.running (s.handoverEnd (some c)) ∧ HbTaken r s.red.h1 s.red.h2 s.red.peer s.red.pairCfg :=
    ⟨_, handoverEnd_put s (some c), rfl, rfl, rfl, rfl⟩
  have hsame : ∃ r, Put s s.mod r s.brio.running s ∧ HbTaken r s.red.h1 s.red.h2 s.red.peer s.red.pairCfg :=
    ⟨_, .refl s, rfl, rfl, rfl, rfl⟩
  unfold State.handoverHb
  extract_lets asks
  split
  · split
    · split
      · exact ⟨_, schedule_besides s true 2, rfl, rfl, rfl, rfl⟩
      · exact hsame
    · split
      · exact hend 5
      · exact hsame
  · split
    · split
      · exact hend 3
      · exact hsame
    · split
      · split
        · exact ⟨_, Besides.handoverRec .., rfl, rfl, rfl, rfl⟩
        · exact hsame
      · split
        · exact hsame
        · exact ⟨_, Besides.refl _, rfl, rfl, rfl, rfl⟩

theorem pairCheck_besides (s : State) (b : Bytes) :
    Besides { s with red := { s.red with pairCfg := hbFlag b 0 == s.posB || hbFlag b 1 == s.home } } (s.pairCheck b) := by
  unfold State.pairCheck
  extract_lets bad same was first news _ v
  split
  · exact .redRec ..
  · exact .refl _

/-- What a valid heartbeat does, its path noted. -/
def State.hbTake (s : State) (b : Bytes) : State :=
  let s := (s.pairCheck b).safetyDiff b
  let s := { s with red.peer := some (padTo 44 b, s.now) }
  (s.handoverHb b).redSettle

theorem hbTake_spec (s : State) (b : Bytes) : (s.hbTake b).red.h1 = s.red.h1 ∧ (s.hbTake b).red.h2 = s.red.h2 ∧
    (s.hbTake b).red.peer = some (padTo 44 b, s.now) ∧
    (s.hbTake b).red.pairCfg = (hbFlag b 0 == s.posB || hbFlag b 1 == s.home) ∧ (s.hbTake b).cfg = s.cfg := by
  unfold State.hbTake
  extract_lets v _ w
  have hv := pairCheck_besides s b
  have hw : w.red.h1 = s.red.h1 ∧ w.red.h2 = s.red.h2 ∧ w.red.peer = some (padTo 44 b, s.now) ∧
      w.red.pairCfg = (hbFlag b 0 == s.posB || hbFlag b 1 == s.home) ∧ w.cfg = s.cfg :=
    ⟨(congrArg RedBlk.h1 hv.red :), (congrArg RedBlk.h2 hv.red :), (congrArg (fun n => some (padTo 44 b, n)) hv.now :),
      (congrArg RedBlk.pairCfg hv.red :), (hv.cfg :)⟩
  clear_value w
  obtain ⟨w1, w2, w3, w4, w5⟩ := hw
  obtain ⟨r, hput, r1, r2, r3, r4⟩ := handoverHb_keeps w b
  obtain ⟨s1, s2, s3, s4, -⟩ := settled_paths (redSettle_red (w.handoverHb b))
  rw [s1, s2, s3, s4, hput.red, redSettle_cfg, hput.cfg, r1, r2, r3, r4]
  exact ⟨w1, w2, w3, w4, w5⟩

/-- A path after a valid heartbeat. -/
def HbPath.heard (x : HbPath) (b : Bytes) : HbPath := { x with peerSeq := some (rdBe32 b 16), got := true }

theorem heartbeatReceive_valid {path at_ : Nat} {b : Bytes} {x : HbPath} (hu : u = s.clockTo at_)
    (hx : x = (if path = 2 then u.red.h2 else u.red.h1)) (hp : s.pairMode = true) (hpath : path = 1 ∨ path = 2)
    (hb : u.hbValid x b = true) : ∃ t, exec (.heartbeatReceive path b at_) s = .next t ∧ t.red.peer = some (padTo 44 b, u.now) ∧
      (if path = 2 then t.red.h2 else t.red.h1) = { x with peerSeq := some (rdBe32 b 16), got := true } ∧
      t.red.pairCfg = (hbFlag b 0 == u.posB || hbFlag b 1 == u.home) ∧ t.cfg = s.cfg := by
  have hpu : u.pairMode = true := by rw [hu]; exact hp
  have hcfg : u.cfg = s.cfg := by rw [hu]; rfl
  rcases hpath with rfl | rfl
  · rw [if_neg (by decide)] at hx
    subst hx
    obtain ⟨h1, -, h3, h4, h5⟩ := hbTake_spec { u with red.h1 := u.red.h1.heard b } b
    refine ⟨State.hbTake { u with red.h1 := u.red.h1.heard b } b, ?_, h3, (if_neg (by decide)).trans h1, h4, h5.trans hcfg⟩
    subst hu
    refine congrArg Host.Outcome.next (if_neg (ne_true_of_eq_false ?_))
    rw [hpu, if_neg (by decide), hb]
    rfl
  · rw [if_pos rfl] at hx
    subst hx
    obtain ⟨-, h2, h3, h4, h5⟩ := hbTake_spec { u with red.h2 := u.red.h2.heard b } b
    refine ⟨State.hbTake { u with red.h2 := u.red.h2.heard b } b, ?_, h3, (if_pos rfl).trans h2, h4, h5.trans hcfg⟩
    subst hu
    refine congrArg Host.Outcome.next (if_neg (ne_true_of_eq_false ?_))
    rw [hpu, if_pos (by decide), hb]
    rfl

theorem heartbeatReceive_not {path at_ : Nat} {b : Bytes} {x : HbPath} (hu : u = s.clockTo at_)
    (hx : x = (if path = 2 then u.red.h2 else u.red.h1)) (h : s.pairMode = false ∨ (path ≠ 1 ∧ path ≠ 2) ∨ u.hbValid x b = false) :
    exec (.heartbeatReceive path b at_) s = .next u := by
  have hpu : u.pairMode = s.pairMode := by rw [hu]; rfl
  have hsel : (if (path == 2) = true then u.red.h2 else u.red.h1) = x := by
    rw [hx]
    exact if_congr (by simp) rfl rfl
  subst hu
  refine congrArg Host.Outcome.next (if_pos ?_)
  rw [hsel, hpu]
  rcases h with h | ⟨h1, h2⟩ | h
  · simp [h]
  · simp [h1, h2]
  · simp [h]

/-! ## Windows (R465) -/

/-- A path at the end of its window. -/
def HbPath.judged (x : HbPath) (due : Nat) : HbPath :=
  { x with
    winAt := due, got := false, missed := if x.got then 0 else min 3 (x.missed + 1)
    received := if x.got then min 3 (x.received + 1) else 0
    alive := decide (if x.alive then (if x.got then 0 else min 3 (x.missed + 1)) < 3
      else decide (3 ≤ (if x.got then min 3 (x.received + 1) else 0)) = true) }

theorem judged_alive (x : HbPath) (due : Nat) : (x.alive = true → (x.judged due).alive = (x.got || decide (x.missed < 2))) ∧
    (x.alive = false → (x.judged due).alive = (x.got && decide (2 ≤ x.received))) := by
  refine ⟨fun h => ?_, fun h => ?_⟩
  · simp only [HbPath.judged, h, if_true]
    cases hg : x.got with
    | true => simp
    | false => simp only [Bool.false_eq_true, if_false, Bool.false_or]; exact decide_eq_decide.2 (by omega)
  · simp only [HbPath.judged, h, Bool.false_eq_true, if_false]
    cases hg : x.got with
    | true => simp only [if_true, Bool.true_and, decide_eq_true_eq]; exact decide_eq_decide.2 (by omega)
    | false => simp

/-- What the end of a window does with the path it judged: the count of missed windows, and the record of a change. -/
def State.windowEnd (s : State) (path : Nat) (x x' : HbPath) (alive : Prop) [Decidable alive] : State :=
  let h2 := path == 2
  let s := if h2 then { s with red.h2 := x' } else { s with red.h1 := x' }
  let s := if h2 || x.got then s
    else
      let v := inc32 s.red.h1Missed
      State.redCounted { s with red.h1Missed := v } v 0x0F03 28
  let s := if alive = x.alive then s else s.redRec 3 (leBytes 1 path ++ leBytes 1 (b2n (!alive)))
  s.redSettle

theorem windowEnd_spec {path : Nat} {x x' : HbPath} {alive : Prop} [Decidable alive] (hpath : path = 1 ∨ path = 2)
    (ht : t = s.windowEnd path x x' alive) :
    t.cfg = s.cfg ∧ (if path = 2 then t.red.h2 else t.red.h1) = x' ∧
    (if path = 2 then t.red.h1 else t.red.h2) = (if path = 2 then s.red.h1 else s.red.h2) ∧
    t.red.h1Missed = (if path = 2 ∨ x.got = true then s.red.h1Missed else inc32 s.red.h1Missed) := by
  have hrec (a : State) : Besides a (if alive = x.alive then a else a.redRec 3 (leBytes 1 path ++ leBytes 1 (b2n (!alive)))) := by
    split
    · exact .refl a
    · exact .redRec ..
  have hsettled (a : State) (ha : t = State.redSettle (if alive = x.alive then a else
      a.redRec 3 (leBytes 1 path ++ leBytes 1 (b2n (!alive))))) :
      t.cfg = a.cfg ∧ t.red.h1 = a.red.h1 ∧ t.red.h2 = a.red.h2 ∧ t.red.h1Missed = a.red.h1Missed := by
    obtain ⟨p1, p2, -, -, p5⟩ := settled_paths (redSettle_red (if alive = x.alive then a else
      a.redRec 3 (leBytes 1 path ++ leBytes 1 (b2n (!alive)))))
    rw [ha, redSettle_cfg, p1, p2, p5, (hrec a).red, (hrec a).cfg]
    exact ⟨rfl, rfl, rfl, rfl⟩
  rcases hpath with rfl | rfl
  · cases hg : x.got with
    | true =>
      obtain ⟨h1, h2, h3, h4⟩ := hsettled { s with red.h1 := x' } (ht.trans (congrArg (fun a => State.redSettle (if alive = x.alive then a
        else a.redRec 3 (leBytes 1 1 ++ leBytes 1 (b2n (!alive))))) (if_pos (by rw [hg]; rfl))))
      simp [h1, h2, h3, h4]
    | false =>
      obtain ⟨h1, h2, h3, h4⟩ := hsettled (State.redCounted { s with red.h1 := x', red.h1Missed := inc32 s.red.h1Missed } (inc32 s.red.h1Missed)
        0x0F03 28) (ht.trans (congrArg (fun a => State.redSettle (if alive = x.alive then a
        else a.redRec 3 (leBytes 1 1 ++ leBytes 1 (b2n (!alive))))) (if_neg (by rw [hg]; decide))))
      have hc := Besides.counted { s with red.h1 := x', red.h1Missed := inc32 s.red.h1Missed } (inc32 s.red.h1Missed) 0x0F03 28 0
      rw [State.redCounted, hc.red] at h2 h3 h4
      rw [State.redCounted, hc.cfg] at h1
      simp [h1, h2, h3, h4]
  · obtain ⟨h1, h2, h3, h4⟩ := hsettled { s with red.h2 := x' } ht
    simp [h1, h2, h3, h4]

theorem heartbeatWindow_run {path : Nat} {x : HbPath} (hp : s.pairMode = true) (hn : Domain.neta ∈ s.power.on)
    (hpath : path = 1 ∨ path = 2) (hx : x = (if path = 2 then s.red.h2 else s.red.h1)) :
    ∃ (due : Nat) (alive : Prop) (_ : Decidable alive), exec (.heartbeatWindow path) s =
      .next ((s.clockTo due).windowEnd path x (x.judged (x.winAt + (if path = 2 then 1000000 else 100000))) alive) := by
  have hc : s.power.on.contains .neta = true := by simpa using hn
  refine ⟨x.winAt + (if path = 2 then 1000000 else 100000), if x.alive then (if x.got then 0 else min 3 (x.missed + 1)) < 3
    else decide (3 ≤ (if x.got then min 3 (x.received + 1) else 0)) = true, inferInstance, ?_⟩
  rcases hpath with rfl | rfl
  · rw [if_neg (by decide)] at hx ⊢
    subst hx
    refine congrArg Host.Outcome.next ((if_neg (ne_true_of_eq_false ?_)).trans rfl)
    rw [hp, hc]
    rfl
  · rw [if_pos rfl] at hx ⊢
    subst hx
    refine congrArg Host.Outcome.next ((if_neg (ne_true_of_eq_false ?_)).trans rfl)
    rw [hp, hc]
    rfl

theorem heartbeatWindow_not {path : Nat} (h : s.pairMode = false ∨ Domain.neta ∉ s.power.on ∨ (path ≠ 1 ∧ path ≠ 2)) :
    exec (.heartbeatWindow path) s = .next s := by
  refine congrArg Host.Outcome.next (if_pos ?_)
  rcases h with h | h | ⟨h1, h2⟩ <;> simp_all

end Machine
end Sys2Proof

/-! PROOFS. Farrier's checks and the pair's readings (O56; R477 to R479, R483). -/

namespace Sys2Proof
namespace Machine

variable {s t u : State}

/-! ## Flags as the bits of a number -/

/-- Flags added to `a` from bit `k` up. -/
def flagsOnto (l : List Bool) (k a : Nat) : Nat := (l.zipIdx k).foldl (fun a x => a + b2n x.1 * 2 ^ x.2) a

theorem flagsOnto_lt (l : List Bool) (k a : Nat) (h : a < 2 ^ k) : flagsOnto l k a < 2 ^ (k + l.length) := by
  induction l generalizing k a with
  | nil => exact h
  | cons x l ih =>
    have hx := b2n_le x
    have hmul : b2n x * 2 ^ k ≤ 1 * 2 ^ k := Nat.mul_le_mul_right _ hx
    have h' : a + b2n x * 2 ^ k < 2 ^ (k + 1) := by rw [pow_succ]; omega
    have := ih (k + 1) _ h'
    rw [List.length_cons, Nat.add_comm l.length, ← Nat.add_assoc]
    exact this

theorem flagsOnto_testBit (l : List Bool) (k a : Nat) (h : a < 2 ^ k) (i : Nat) :
    (flagsOnto l k a).testBit i = if i < k then a.testBit i else l.getD (i - k) false := by
  induction l generalizing k a with
  | nil =>
    split
    · rfl
    · exact Nat.testBit_lt_two_pow (lt_of_lt_of_le h (Nat.pow_le_pow_right (by decide) (by omega)))
  | cons x l ih =>
    have hx := b2n_le x
    have hmul : b2n x * 2 ^ k ≤ 1 * 2 ^ k := Nat.mul_le_mul_right _ hx
    have h' : a + b2n x * 2 ^ k < 2 ^ (k + 1) := by rw [pow_succ]; omega
    have hbit : (a + b2n x * 2 ^ k).testBit i = if i < k then a.testBit i else (b2n x).testBit (i - k) := by
      rw [Nat.add_comm, Nat.mul_comm]
      exact Nat.testBit_two_pow_mul_add _ h i
    refine (ih (k + 1) _ h').trans ?_
    rw [hbit]
    rcases lt_trichotomy i k with hi | rfl | hi
    · rw [if_pos (by omega), if_pos hi, if_pos hi]
    · rw [if_pos (by omega), if_neg (by omega), if_neg (by omega), Nat.sub_self]
      cases x <;> rfl
    · obtain ⟨j, rfl⟩ := Nat.exists_eq_add_of_lt hi
      rw [if_neg (by omega), if_neg (by omega)]
      have h1 : k + j + 1 - (k + 1) = j := by omega
      have h2 : k + j + 1 - k = j + 1 := by omega
      rw [h1, h2, List.getD_cons_succ]

/-! ## The checks (R477) -/

theorem failChecks_spec (s : State) {m : Nat} (hm : m = s.failChecks) : m < 4096 ∧ m.testBit 0 = !s.red.h1.alive ∧
    m.testBit 1 = !s.red.h2.alive ∧ (s.mod.bridle = true → m.testBit 2 = false) ∧
    (s.red.mismatch = none → m.testBit 3 = false) ∧ m.testBit 5 = s.red.pairCfg ∧ m.testBit 6 = (!s.power.cable || s.red.brdDisc || s.red.hbwQuiet) ∧
    (s.mod.state ≠ 2 → m.testBit 7 = true) ∧ m.testBit 9 = decide (s.healthDeficit < s.streamDeficit) ∧ m.testBit 11 = s.active 6 ∧
    ∀ b w, s.red.peer = some (b, w) → m.testBit 4 = (rdBe32 b 26 != s.cfgDigest) ∧ m.testBit 10 = (byteAt b 36 != s.timeBits) := by
  unfold State.failChecks at hm
  extract_lets r within peer fails at hm
  have hm' : m = flagsOnto fails 0 0 := hm
  have hbit (i : Nat) : m.testBit i = fails.getD i false := by
    rw [hm', flagsOnto_testBit _ _ _ (by decide), if_neg (Nat.not_lt_zero _), Nat.sub_zero]
  have hlt : flagsOnto fails 0 0 < 2 ^ (0 + 12) := flagsOnto_lt fails 0 0 (by decide)
  refine ⟨?_, hbit 0, hbit 1, fun h => (hbit 2).trans ?_, fun h => (hbit 3).trans ?_, hbit 5, hbit 6, fun h => (hbit 7).trans ?_, hbit 9,
    hbit 11, fun b w h => ⟨(hbit 4).trans ?_, (hbit 10).trans ?_⟩⟩
  · rw [hm']
    clear_value fails
    exact hlt
  · show (!s.mod.bridle && _) = false
    rw [h]
    rfl
  · show within (s.red.mismatch.map (·.2.2.2)) _ = false
    rw [h]
    rfl
  · show (s.mod.state != 2 || _ || _) = true
    simp [h]
  · show (!peer (fun b => rdBe32 b 26 == s.cfgDigest)) = _
    simp only [peer, State.peerHb, h, Option.map_some]
    rfl
  · show (!peer (fun b => byteAt b 36 == s.timeBits)) = _
    simp only [peer, State.peerHb, h, Option.map_some]
    rfl

theorem failChecks_deep (h : s.active 6 = true) : s.failChecks ≠ 0 := by
  obtain ⟨-, -, -, -, -, -, -, -, -, h11, -⟩ := failChecks_spec s rfl
  intro h0
  rw [h0, h] at h11
  exact absurd h11 (by decide)

/-! ## Farrier's verdict -/

theorem finish_active_other (s : State) {c x : Nat} (h : x ≠ c) : (s.finish c).active x = s.active x := by
  have hx : ∀ l : List Activity, (l.filter (·.code != c)).any (·.code == x) = l.any (·.code == x) := by
    intro l
    rw [List.any_filter]
    refine congrArg (fun f => l.any f) (funext fun a => ?_)
    by_cases ha : a.code = x
    · simp [ha, h]
    · simp [ha]
  simp [State.active, State.finish, hx]

theorem handoverEnd_active (s : State) (c : Option Nat) {x : Nat} (h : x ≠ 7) : (s.handoverEnd c).active x = s.active x := by
  unfold State.handoverEnd
  split
  · rfl
  · cases c with
    | none => exact finish_active_other _ h
    | some c => exact (handoverRec_active ..).trans (finish_active_other _ h)

theorem readyTo_spec (s : State) (v : Bool) : (s.readyTo v).red.ready = v ∧ (s.readyTo v).red.failMask = s.red.failMask ∧
    (s.readyTo v).red.cleanSince = s.red.cleanSince ∧ (s.red.ready ≠ v → (s.readyTo v).red.readySince = if v then some s.now else none) ∧
    ∀ x, x ≠ 7 → (s.readyTo v).active x = s.active x := by
  unfold State.readyTo
  split
  next h => exact ⟨h, rfl, rfl, fun h' => absurd h h', fun _ _ => rfl⟩
  next h =>
    extract_lets _ w y
    have hy : y.red = { s.red with ready := v, readySince := if v then some s.now else none } := (Besides.redRec ..).red
    have hact (x : Nat) : y.active x = s.active x := by simp [State.active, y, w, State.redRec]
    clear_value y
    split
    · refine ⟨?_, ?_, ?_, fun _ => ?_, fun x hx => (handoverEnd_active _ _ hx).trans (hact x)⟩
      all_goals
        rw [(handoverEnd_put y (some 5)).red, hy]
        rfl
    · rw [hy]
      exact ⟨rfl, rfl, rfl, fun _ => rfl, fun x _ => hact x⟩

/-- Farrier's verdict written down (R477). -/
def State.checked (s : State) : State :=
  { s with red := { s.red with
    failMask := s.failChecks, cleanSince := if s.failChecks = 0 then some (s.red.cleanSince.getD s.now) else none } }

theorem farrier_pair (h : s.pairMode = true) : s.farrier = if s.failChecks = 0 then s.checked else s.checked.readyTo false :=
  if_neg (by simp [h])

theorem farrier_clean (h : s.pairMode = true) (h0 : s.failChecks = 0) : s.farrier.red.failMask = s.failChecks ∧
    s.farrier.red.ready = s.red.ready ∧ s.farrier.red.cleanSince = some (s.red.cleanSince.getD s.now) := by
  rw [farrier_pair h, if_pos h0]
  exact ⟨rfl, rfl, if_pos h0⟩

theorem farrier_failing (h : s.pairMode = true) (h0 : s.failChecks ≠ 0) : s.farrier.red.failMask = s.failChecks ∧
    s.farrier.red.ready = false ∧ s.farrier.red.cleanSince = none := by
  rw [farrier_pair h, if_neg h0]
  obtain ⟨h1, h2, h3, -⟩ := readyTo_spec s.checked false
  exact ⟨h2, h1, h3.trans (if_neg h0)⟩

theorem farrier_mod (s : State) : s.farrier.mod = s.mod := by
  obtain ⟨_, -, h⟩ := farrier_put s
  exact h.mod

theorem farrier_cfg (s : State) : s.farrier.cfg = s.cfg := by
  obtain ⟨_, -, h⟩ := farrier_put s
  exact h.cfg

theorem farrier_pairMode (s : State) : s.farrier.pairMode = s.pairMode := by
  obtain ⟨r, ⟨q, _, _, _, _, hq, rfl⟩, h⟩ := farrier_put s
  unfold State.pairMode
  rw [h.red]
  rcases hq with rfl | rfl <;> rfl

theorem farrier_active (s : State) {x : Nat} (hx : x ≠ 7) : s.farrier.active x = s.active x := by
  cases hp : s.pairMode with
  | false =>
    have : s.farrier = s := if_pos (by simp [hp])
    rw [this]
  | true =>
    rw [farrier_pair hp]
    split
    · rfl
    · obtain ⟨-, -, -, -, h⟩ := readyTo_spec s.checked false
      exact (h x hx).trans rfl

theorem farrier_spec (h : s.pairMode = true) : s.farrier.red.failMask = s.failChecks ∧
    (s.failChecks ≠ 0 → s.farrier.red.ready = false ∧ s.farrier.red.cleanSince = none) ∧
    (s.failChecks = 0 → s.farrier.red.ready = s.red.ready ∧ s.farrier.red.cleanSince = some (s.red.cleanSince.getD s.now)) ∧
    s.farrier.mod = s.mod ∧ s.farrier.cfg = s.cfg := by
  refine ⟨?_, fun h0 => (farrier_failing h h0).2, fun h0 => (farrier_clean h h0).2, farrier_mod s, farrier_cfg s⟩
  by_cases h0 : s.failChecks = 0
  · exact (farrier_clean h h0).1
  · exact (farrier_failing h h0).1

theorem farrier_ready_of_clean (h : s.pairMode = true) (hc : s.farrier.red.cleanSince.isSome = true) :
    s.farrier.red.ready = s.red.ready := by
  by_cases h0 : s.failChecks = 0
  · exact (farrier_clean h h0).2.1
  · rw [(farrier_failing h h0).2.2] at hc
    cases hc

theorem farrierOnward_keeps (s : State) : s.farrierOnward.mod = s.mod ∧ s.farrierOnward.cfg = s.cfg ∧
    s.farrierOnward.pairMode = s.pairMode := by
  have h1 : s.farrier.mod = s.mod ∧ s.farrier.cfg = s.cfg ∧ s.farrier.pairMode = s.pairMode :=
    ⟨farrier_mod s, farrier_cfg s, farrier_pairMode s⟩
  unfold State.farrierOnward
  extract_lets a b
  split
  · exact h1
  · split
    · exact ⟨(farrier_mod _).trans h1.1, (farrier_cfg _).trans h1.2.1, (farrier_pairMode _).trans h1.2.2⟩
    · exact h1

theorem farrierReady_takes {v : State} {x due : Nat} (hdue : due = x + 1000000000) (hp : s.pairMode = true) (hu : u = s.farrierOnward) (hc : u.red.cleanSince = some x)
    (hr : u.red.ready = false) (hv : v = (u.clockTo due).farrier) (hvc : v.red.cleanSince.isSome = true) :
    exec .farrierReady s = .next (v.readyTo true) ∧ v.red.ready = false ∧ v.mod = s.mod ∧ v.cfg = s.cfg := by
  obtain ⟨k1, k2, k3⟩ := farrierOnward_keeps s
  rw [← hu] at k1 k2 k3
  refine ⟨?_, ?_, ?_, ?_⟩
  · change execFarrierReady s = _
    unfold execFarrierReady
    simp only [← hu, hc, k3, hp, hr, ← hdue, ← hv, hvc, Bool.not_true, Bool.or_self, Bool.false_eq_true, if_false, if_true]
  · have hup : (u.clockTo due).pairMode = true := k3.trans hp
    rw [hv] at hvc ⊢
    exact (farrier_ready_of_clean hup hvc).trans hr
  · rw [hv, farrier_mod, clockTo_mod, k1]
  · rw [hv, farrier_cfg, clockTo_cfg, k2]

theorem farrierReady_waits (hu : u = s.farrierOnward) (h : u.red.cleanSince = none ∨ u.red.ready = true) :
    exec .farrierReady s = .next u := by
  change execFarrierReady s = _
  unfold execFarrierReady
  simp only [← hu]
  rcases h with h | h
  · simp only [h]
  · cases hc : u.red.cleanSince with
    | none => rfl
    | some x => simp only [h, Bool.or_true, if_true]

/-! ## The readings and the deep test (R479, R483) -/

theorem length_redStatusBytes (s : State) : s.redStatusBytes.length = 32 := by
  unfold State.redStatusBytes
  extract_lets r asked
  cases s.peerHb <;> simp [bitsByte, FirnEv.length_stamp_bytes]

theorem length_flatMap_le4 (l : List Nat) : (l.flatMap (leBytes 4)).length = 4 * l.length := by
  induction l with
  | nil => rfl
  | cons x l ih => rw [List.flatMap_cons, List.length_append, ih, length_leBytes, List.length_cons]; omega

theorem length_partDigests (s : State) : s.partDigests.length = 8 := by simp [State.partDigests]

theorem length_redHealthBytes (s : State) : s.redHealthBytes.length = 80 := by
  unfold State.redHealthBytes
  extract_lets r secs
  cases r.mismatch <;> simp only [List.length_append, length_leBytes, length_zeros, length_flatMap_le4, length_partDigests]

theorem redStatus_run {p : Path} {e : Exec} (h : Accepted cmdRedStatus p e s t) :
    exec (.redStatus p) s = .next (State.complete (if byteAt e.req.params 0 = 1 then
      { t with red := { t.red with changes := 0, images := 0, misses := 0, h1Missed := 0 } } else t) p stOK [] (some t.redStatusBytes)) :=
  congrArg Host.Outcome.next (run_done h rfl)

theorem redHealth_run {p : Path} {e : Exec} (h : Accepted cmdRedHealth p e s t) :
    exec (.redHealth p) s = .next (t.farrier.complete p stOK [] (some t.farrier.redHealthBytes)) :=
  congrArg Host.Outcome.next (run_done h rfl)

theorem setProg_keeps (s : State) (p : Path) (w : List Nat) : (s.setProg p w).red = s.red ∧ (s.setProg p w).diag = s.diag ∧
    (s.setProg p w).cfg = s.cfg := by
  unfold State.setProg
  cases s.execOf p with
  | none => exact ⟨rfl, rfl, rfl⟩
  | some e => simp

theorem redDeepTest_run {p : Path} {e : Exec} (h : Accepted cmdRedDeepTest p e s t) (h1 : byteAt e.req.params 0 = 1) :
    ∃ w, exec (.redDeepTest p) s = .next (State.goesOnAt (((t.begin 6 (some p) t.now t.now).setProg p w).farrier) p) := by
  refine ⟨_, congrArg Host.Outcome.next (run_wait h (if_neg ?_))⟩
  rw [h1]
  decide

theorem redDeepTest_starts {p : Path} {w : List Nat} (hu : u = ((t.begin 6 (some p) t.now t.now).setProg p w).farrier) :
    u.active 6 = true ∧ (t.pairMode = true → u.red.ready = false) ∧ u.cfg = t.cfg := by
  obtain ⟨k1, k2, k3⟩ := setProg_keeps (t.begin 6 (some p) t.now t.now) p w
  have hact : ((t.begin 6 (some p) t.now t.now).setProg p w).active 6 = true := by
    have : ((t.begin 6 (some p) t.now t.now).setProg p w).active 6 = (t.begin 6 (some p) t.now t.now).active 6 := by
      unfold State.active
      rw [k2]
    rw [this]
    exact begin_active_range ..
  subst hu
  refine ⟨(farrier_active _ (by decide)).trans hact, fun hp => (farrier_failing ?_ (failChecks_deep hact)).2.1, (farrier_cfg _).trans k3⟩
  unfold State.pairMode
  rw [k1]
  exact hp

theorem redDeepTest_stop : Ends .redDeepTest cmdRedDeepTest (fun _ e _ => byteAt e.req.params 0 = 0) stOK (fun _ _ t => t.deepStop stABORTED)
    (fun _ _ t => (t.stamp 17).bytes) noXp :=
  ends_of_body (fun _ _ => rfl) (fun _ _ _ h => if_pos h)

end Machine
end Sys2Proof

/-! PROOFS. Mirror images and the phasor check, and the settling of O56 (R473 to R478). -/

namespace Sys2Proof
namespace Machine

variable {s t u : State}

/-! ## A mirror image received (R474) -/

theorem mirrorImageReceive_keeps {link at_ : Nat} {i : MirrorImage} (hu : u = s.clockTo at_) (hp : u.pairMode = true)
    (hb : u.mod.bridle = false) (hl : link ≤ 1) (hc : i.crcOk = true) (h1 : u.red.image = none) (h2 : u.red.applied = none) :
    exec (.mirrorImageReceive link i at_) s = .next { u with red := { u.red with image := some i, parts := i.digests } } := by
  subst hu
  refine congrArg Host.Outcome.next (if_pos ?_)
  rw [hp, hb, h1, h2, hc, decide_eq_true hl]
  rfl

theorem mirrorImageReceive_refuses {link at_ : Nat} {i : MirrorImage} (hu : u = s.clockTo at_)
    (h : u.pairMode = false ∨ u.mod.bridle = true ∨ i.crcOk = false ∨ u.red.applied = some (i.sec, i.scan)) :
    exec (.mirrorImageReceive link i at_) s = .next u := by
  subst hu
  refine congrArg Host.Outcome.next (if_neg ?_)
  rcases h with h | h | h | h
  · rw [h]
    simp
  · rw [h]
    simp
  · rw [h]
    simp
  · rw [h]
    simp

/-! ## A mirror image applied (R474, R475) -/

/-- `t` is `s` but for what the publications, guard elements and recorder instances take from an image. -/
def MirrorTaken (s t : State) : Prop := ∃ g v n, Besides { s with grd := g, sv := v, red.elementSkip := n } t

namespace MirrorTaken

theorem refl (s : State) : MirrorTaken s s := ⟨_, _, _, Besides.refl s⟩

theorem trans (a : MirrorTaken s t) (b : MirrorTaken t u) : MirrorTaken s u := by
  obtain ⟨_, _, _, _, _, _, _, _, _, _, _, _, _, rfl⟩ := a
  obtain ⟨g, v, n, _, _, _, _, _, _, _, _, _, _, rfl⟩ := b
  exact ⟨g, v, n, _, _, _, _, _, _, _, _, _, _, rfl⟩

theorem pub (s : State) (off : Int) (m : MirrorPub) : MirrorTaken s (s.mirrorPub off m) :=
  ⟨s.grd, s.sv, s.red.elementSkip, Besides.of_sends (setPub_sends ..)⟩

theorem el (s : State) (m : MirrorEl) : MirrorTaken s (s.mirrorEl m) := by
  have hskip (n : Nat) : MirrorTaken s (State.redCounted { s with red.elementSkip := n } n 0x0F04 20) := ⟨_, _, _, Besides.counted ..⟩
  unfold State.mirrorEl
  cases s.indexOf m.sec m.n with
  | none => exact hskip _
  | some g =>
    by_cases h : (s.grdEl m.idx).next ≤ g + 1
    · simp only [h, if_true]
      exact ⟨_, _, _, Besides.refl _⟩
    · simp only [h, if_false]
      exact hskip _

theorem arm (s : State) (i state : Nat) : MirrorTaken s (s.mirrorArm i state) := by
  unfold State.mirrorArm
  extract_lets armed own
  split
  · exact .refl s
  · split
    · exact .refl s
    · exact ⟨_, _, _, Besides.refl _⟩

theorem foldl {α : Type} {f : State → α → State} (hf : ∀ s a, MirrorTaken s (f s a)) (l : List α) (s : State) : MirrorTaken s (l.foldl f s) :=
  foldl_keeps (MirrorTaken s) f (fun t a h => h.trans (hf t a)) l s (.refl s)

variable (h : MirrorTaken s t)

include h

theorem logic : t.logic = s.logic := by
  obtain ⟨_, _, _, h⟩ := h
  exact (h.logic :)

theorem mod : t.mod = s.mod := by
  obtain ⟨_, _, _, h⟩ := h
  exact (h.mod :)

theorem cfg : t.cfg = s.cfg := by
  obtain ⟨_, _, _, h⟩ := h
  exact (h.cfg :)

theorem red : ∃ n, t.red = { s.red with elementSkip := n } := by
  obtain ⟨_, _, n, h⟩ := h
  exact ⟨n, h.red⟩

end MirrorTaken

theorem mirrorTake_spec {i : MirrorImage} {start : Nat} (ht : t = s.mirrorTake i start) :
    t.logic.img.m = BitVec.ofNat 32768 i.m ∧ t.logic.img.q = BitVec.ofNat 8192 i.q ∧
    t.logic.img.y = BitVec.ofNat 256 i.y ∧ t.logic.img.f = i.f ∧ t.logic.img.t.map (·.1) = i.t.map (·.idx) ∧
    t.logic.img.c.map (·.1) = i.c.map (·.idx) ∧ t.mod = s.mod ∧ t.cfg = s.cfg ∧
    ∃ n, t.red = { s.red with elementSkip := n, image := none, applied := some (i.sec, i.scan), images := inc32 s.red.images
                              health := i.health, parts := i.digests } := by
  unfold State.mirrorTake at ht
  extract_lets dtb off tm cn l _ a b c d n at ht
  have hd : MirrorTaken a d := ((MirrorTaken.foldl (fun s m => .pub s off m) _ _).trans (.foldl .el _ _)).trans
    (.foldl (fun s (r : (Nat × Nat) × Nat) => .arm s r.2 r.1.1) _ _)
  have hlogic : t.logic = a.logic := by
    rw [ht]
    exact (Besides.logic (Besides.counted ..)).trans hd.logic
  have hmod : t.mod = a.mod := by
    rw [ht]
    exact (Besides.mod (Besides.counted ..)).trans hd.mod
  have hcfg : t.cfg = a.cfg := by
    rw [ht]
    exact (Besides.cfg (Besides.counted ..)).trans hd.cfg
  obtain ⟨k, hred⟩ := hd.red
  have hn : n = inc32 s.red.images := by
    show inc32 d.red.images = _
    rw [hred]
  rw [hlogic, hmod, hcfg]
  refine ⟨rfl, rfl, rfl, rfl, ?_, ?_, rfl, rfl, k, ?_⟩
  · exact List.map_map.trans rfl
  · exact List.map_map.trans rfl
  · rw [ht]
    refine (Besides.red (Besides.counted ..)).trans ?_
    show { d.red with
      image := none, applied := some (i.sec, i.scan), images := n, health := i.health, parts := i.digests } = _
    rw [hred, hn]

/-! ## Each scan start on the standby (R474, R476) -/

theorem mirrorLostTo_red (s : State) (v : Bool) : (s.mirrorLostTo v).red = { s.red with mirrorLost := v } ∧ (s.mirrorLostTo v).logic = s.logic := by
  unfold State.mirrorLostTo
  split
  next h => exact ⟨by rw [← h], rfl⟩
  · exact ⟨(Besides.redRec ..).red, (Besides.redRec ..).logic⟩

theorem mirrorApply_not {start : Nat} (h : s.mod.role ≠ 1 ∨ s.mod.bridle = true) : s.mirrorApply start = s := by
  refine if_pos ?_
  rcases h with h | h <;> simp [h]

/-- A scan start that an image applies at. -/
def State.imageTaken (s : State) (i : MirrorImage) (start : Nat) : State :=
  let s := s.mirrorTake i start
  let ok := min 3 (s.red.okRun + 1)
  let s := { s with red := { s.red with okRun := ok, missRun := 0 } }
  if ok = 3 then s.mirrorLostTo false else s

/-- A scan start that no image came for. -/
def State.imageMissed (s : State) : State :=
  let n := inc32 s.red.misses
  let s := State.redCounted { s with red.misses := n } n 0x0F03 24
  let miss := min 3 (s.red.missRun + 1)
  let s := { s with red := { s.red with missRun := miss, okRun := 0, missAt := some s.now } }
  if miss = 3 then s.mirrorLostTo true else s

theorem mirrorApply_eq {start : Nat} (hp : s.pairMode = true) (hr : s.mod.role = 1) (hb : s.mod.bridle = false) :
    s.mirrorApply start = match s.red.image with | some i => s.imageTaken i start | none => s.imageMissed :=
  if_neg (by simp [hp, hr, hb])

theorem imageMissed_spec (ht : t = s.imageMissed) : t.red.misses = inc32 s.red.misses ∧ t.logic = s.logic ∧
    (s.red.missRun = 2 → t.red.mirrorLost = true) ∧ (s.red.missRun < 2 → t.red.mirrorLost = s.red.mirrorLost) := by
  unfold State.imageMissed at ht
  extract_lets n _ a miss _ b at ht
  have har : a.red = { s.red with misses := n } := (Besides.counted ..).red
  have hal : a.logic = s.logic := (Besides.counted ..).logic
  have hm : miss = min 3 (s.red.missRun + 1) := by
    show min 3 (a.red.missRun + 1) = _
    rw [har]
  have hb : b.red = { s.red with misses := n, missRun := miss, okRun := 0, missAt := some a.now } := by
    show { a.red with missRun := miss, okRun := 0, missAt := some a.now } = _
    rw [har]
  have hbl : b.logic = s.logic := hal
  clear_value b
  split at ht
  next h3 =>
    obtain ⟨l1, l2⟩ := mirrorLostTo_red b true
    rw [ht, l1, l2, hb]
    exact ⟨rfl, hbl, fun _ => rfl, fun h => absurd h3 (by omega)⟩
  next h3 =>
    rw [ht, hb]
    exact ⟨rfl, hbl, fun h => absurd (by omega) h3, fun _ => rfl⟩

theorem imageTaken_spec {i : MirrorImage} {start : Nat} (ht : t = s.imageTaken i start) : t.red.misses = s.red.misses ∧
    (2 ≤ s.red.okRun → t.red.mirrorLost = false) ∧ (s.red.okRun < 2 → t.red.mirrorLost = s.red.mirrorLost) := by
  unfold State.imageTaken at ht
  extract_lets a ok _ b at ht
  obtain ⟨-, -, -, -, -, -, -, -, n, har⟩ := mirrorTake_spec (rfl : a = s.mirrorTake i start)
  have hm : ok = min 3 (s.red.okRun + 1) := by
    show min 3 (a.red.okRun + 1) = _
    rw [har]
  have hb : b.red.misses = s.red.misses ∧ b.red.mirrorLost = s.red.mirrorLost := by
    show a.red.misses = _ ∧ a.red.mirrorLost = _
    rw [har]
    exact ⟨rfl, rfl⟩
  obtain ⟨hb1, hb2⟩ := hb
  clear_value b
  split at ht
  next h3 =>
    obtain ⟨l1, -⟩ := mirrorLostTo_red b false
    rw [ht, l1]
    exact ⟨hb1, fun _ => rfl, fun h => absurd h3 (by omega)⟩
  next h3 =>
    rw [ht]
    exact ⟨hb1, fun h => absurd (by omega) h3, fun _ => hb2⟩

theorem mirrorApply_spec {start : Nat} (ht : t = s.mirrorApply start) : (s.mod.role ≠ 1 ∨ s.mod.bridle = true → t = s) ∧
    (s.pairMode = true → s.mod.role = 1 → s.mod.bridle = false →
      (s.red.image = none → t.red.misses = inc32 s.red.misses ∧ t.logic = s.logic ∧ (s.red.missRun = 2 → t.red.mirrorLost = true) ∧
        (s.red.missRun < 2 → t.red.mirrorLost = s.red.mirrorLost)) ∧
      (s.red.image ≠ none → t.red.misses = s.red.misses ∧ (2 ≤ s.red.okRun → t.red.mirrorLost = false) ∧
        (s.red.okRun < 2 → t.red.mirrorLost = s.red.mirrorLost))) := by
  refine ⟨fun h => ht.trans (mirrorApply_not h), fun hp hr hb => ?_⟩
  rw [mirrorApply_eq hp hr hb] at ht
  refine ⟨fun hi => ?_, fun hi => ?_⟩
  · rw [hi] at ht
    exact imageMissed_spec ht
  · obtain ⟨i, hi⟩ := Option.ne_none_iff_exists'.1 hi
    rw [hi] at ht
    exact imageTaken_spec ht

/-! ## The phasor check (R478) -/

/-- A channel that is not compared. -/
def State.compareSkip (s : State) : State :=
  let n := inc32 s.red.skipped
  State.redCounted { s with red.skipped := n } n 0x0F04 16

theorem compareSkip_red (s : State) : s.compareSkip.red = { s.red with skipped := inc32 s.red.skipped } := (Besides.counted ..).red

/-- A channel that is compared, but for the count of comparisons. -/
def State.compareEnd (s : State) (g : PhasorGroup) (v : GroupVal) (x : Item) : State :=
  if x.re = v.re ∧ x.im = v.im then s
  else
    let m := inc32 s.red.mismatches
    let s := State.redCounted { s with red.mismatches := m } m 0x0F04 12
    let s := { s with red := { s.red with
      mismatch := some (v.chan, g.sec, g.n, s.now)
      misTimes := s.now :: s.red.misTimes.filter (fun t => decide (s.now < t + 1000000000)) } }
    let quiet := match s.red.misFirn with | some t => decide (s.now < t + 1000000000) | none => false
    if quiet then s
    else
      let s := s.redRec 7 (leBytes 2 v.chan ++ zeros 2 ++ leBytes 4 s.red.misTimes.length)
      { s with red.misFirn := some s.now }

theorem compareEnd_spec {g : PhasorGroup} {v : GroupVal} {x : Item} (ht : t = s.compareEnd g v x) :
    t.red.compared = s.red.compared ∧ t.red.skipped = s.red.skipped ∧
    t.red.mismatches = (if x.re = v.re ∧ x.im = v.im then s.red.mismatches else inc32 s.red.mismatches) := by
  unfold State.compareEnd at ht
  split at ht
  next h =>
    rw [ht, if_pos h]
    exact ⟨rfl, rfl, rfl⟩
  next h =>
    rw [if_neg h]
    extract_lets m _ a _ b quiet c _ at ht
    have ha : a.red = { s.red with mismatches := m } := (Besides.counted ..).red
    have hb : b.red.compared = s.red.compared ∧ b.red.skipped = s.red.skipped ∧ b.red.mismatches = m := by
      show a.red.compared = _ ∧ a.red.skipped = _ ∧ a.red.mismatches = _
      rw [ha]
      exact ⟨rfl, rfl, rfl⟩
    have hc : c.red = b.red := (Besides.redRec ..).red
    clear_value c b
    split at ht
    · rw [ht]
      exact hb
    · rw [ht]
      show c.red.compared = _ ∧ c.red.skipped = _ ∧ c.red.mismatches = _
      rw [hc]
      exact hb

/-- The flags R478 asks of a value for it to be compared. -/
def cleanVal (a p : Nat) : Bool := (a == 0 || a == afHOLDOVER) && p == 0

theorem compareOne_none {g : PhasorGroup} {v : GroupVal} : s.compareOne g none v = s.compareSkip := rfl

theorem compareOne_some {g : PhasorGroup} {v : GroupVal} {k i y : Nat} {x : Item} (hx : s.chanItem none v.chan 0 k = some x)
    (hs : s.chanStream v.chan = some (i, y)) : s.compareOne g (some k) v =
      if !((s.alnOf i).basis == 0) || !cleanVal v.aflags v.pflags || !cleanVal x.aflags x.pflags then s.compareSkip
      else (State.redCounted { s with red.compared := inc32 s.red.compared } (inc32 s.red.compared) 0x0F04 8).compareEnd g v x := by
  unfold State.compareOne
  simp only [Option.bind_some, hx, hs]
  rfl

theorem compareOne_spec {g : PhasorGroup} {at_ : Option Nat} {v : GroupVal} (ht : t = s.compareOne g at_ v) :
    (at_ = none → t.red.skipped = inc32 s.red.skipped ∧ t.red.compared = s.red.compared ∧ t.red.mismatches = s.red.mismatches) ∧
    ∀ k x i y, at_ = some k → s.chanItem none v.chan 0 k = some x → s.chanStream v.chan = some (i, y) →
      ((s.alnOf i).basis ≠ 0 ∨ v.pflags ≠ 0 ∨ x.pflags ≠ 0 → t.red.skipped = inc32 s.red.skipped ∧ t.red.compared = s.red.compared) ∧
      ((s.alnOf i).basis = 0 → v.aflags = 0 → x.aflags = 0 → v.pflags = 0 → x.pflags = 0 → t.red.compared = inc32 s.red.compared ∧ t.red.skipped = s.red.skipped ∧
        t.red.mismatches = (if x.re = v.re ∧ x.im = v.im then s.red.mismatches else inc32 s.red.mismatches)) := by
  refine ⟨fun h => ?_, fun k x i y h hx hs => ⟨fun h' => ?_, fun hb ha ha' hp hp' => ?_⟩⟩
  · subst h
    rw [ht, compareOne_none, compareSkip_red]
    exact ⟨rfl, rfl, rfl⟩
  · subst h
    rw [compareOne_some hx hs, if_pos ?_] at ht
    · rw [ht, compareSkip_red]
      exact ⟨rfl, rfl⟩
    · rcases h' with h' | h' | h' <;> simp [cleanVal, h']
  · subst h
    rw [compareOne_some hx hs, if_neg (by simp [cleanVal, hb, ha, ha', hp, hp'])] at ht
    obtain ⟨h1, h2, h3⟩ := compareEnd_spec ht
    have hc := (Besides.counted { s with red.compared := inc32 s.red.compared } (inc32 s.red.compared) 0x0F04 8 0).red
    rw [State.redCounted, hc] at h1 h2 h3
    exact ⟨h1, h2, h3⟩

theorem phasorGroupReceive_not {g : PhasorGroup} {at_ : Nat} (hu : u = s.clockTo at_) (h : u.pairMode = false ∨ u.mod.bridle = true) :
    exec (.phasorGroupReceive g at_) s = .next u := by
  subst hu
  refine congrArg Host.Outcome.next (if_neg ?_)
  rcases h with h | h
  · rw [h]
    simp
  · rw [h]
    simp

theorem phasorGroupReceive_none {g : PhasorGroup} {at_ : Nat} (hu : u = s.clockTo at_) (hp : u.pairMode = true) (hb : u.mod.bridle = false)
    (hv : g.vals = []) : exec (.phasorGroupReceive g at_) s = .next u.farrier := by
  subst hu
  refine congrArg Host.Outcome.next ((if_pos (by rw [hp, hb]; rfl)).trans ?_)
  rw [hv]
  rfl

theorem phasorGroupReceive_one {g : PhasorGroup} {at_ k : Nat} {v : GroupVal} {c : PhProfile × Nat × Nat} (hu : u = s.clockTo at_)
    (hp : u.pairMode = true) (hb : u.mod.bridle = false) (hv : g.vals = [v]) (hg : v.chan / 256 = g.group)
    (hk : u.indexOf g.sec g.n = some k) (hc : u.chanMap v.chan k = some c) :
    exec (.phasorGroupReceive g at_) s = .next (u.compareOne g (u.indexOf g.sec g.n) v).farrier := by
  subst hu
  refine congrArg Host.Outcome.next ((if_pos (by rw [hp, hb]; rfl)).trans ?_)
  rw [hv, hk]
  simp only [hc, hg, decide_true, Option.isSome_some, Bool.and_true, List.filter_cons_of_pos, List.filter_nil, List.foldl_cons, List.foldl_nil]

/-- Settles O56: heartbeats by their layout and the paths, Farrier by its bits, the mirror and the phasor check by what each step leaves
of the redundancy block. -/
theorem heartbeatsAndMirror : Obligations.HeartbeatsAndMirror := by
  unfold Obligations.HeartbeatsAndMirror
  refine ⟨fun s seq final b => heartbeat_spec, fun s f t => hbSend_h1_spec, fun s f t => hbSend_h2_spec, fun s => heartbeatSend_on,
    fun s => heartbeatSend_off, fun s x b q hl hq _ _ => hbValid_iff hl hq,
    fun s path b at_ u x hu hx => ⟨heartbeatReceive_not hu hx, heartbeatReceive_valid hu hx⟩, ?_, fun s path => heartbeatWindow_not,
    fun s m => failChecks_spec s, fun s => farrier_spec, ?_, fun s u => farrierReady_waits,
    fun s link i at_ u => mirrorImageReceive_keeps, fun s link i at_ u => mirrorImageReceive_refuses, ?_,
    fun s start t => mirrorApply_spec, fun s g at_ v t => compareOne_spec, fun s g at_ u => phasorGroupReceive_not,
    fun s g at_ u => phasorGroupReceive_none, fun s g at_ u v c k => phasorGroupReceive_one, ?_,
    fun p e s t h => ⟨redHealth_run h, length_redHealthBytes _⟩, ?_, redDeepTest_stop⟩
  · intro s path x hp hn hpath hx
    obtain ⟨due, alive, _, hrun⟩ := heartbeatWindow_run hp hn hpath hx
    obtain ⟨hcfg, hy, hother, hmissed⟩ := windowEnd_spec (s := s.clockTo due) (alive := alive) hpath rfl
    obtain ⟨ha, hd⟩ := judged_alive x (x.winAt + (if path = 2 then 1000000 else 100000))
    exact ⟨_, _, hrun, hy.symm, rfl, rfl, rfl, rfl, hcfg, ha, hd, hother, hmissed⟩
  · intro s u v x hp hu hc hr hv hvc
    obtain ⟨hrun, hr', hm, hcf⟩ := farrierReady_takes rfl hp hu hc hr hv hvc
    obtain ⟨h1, -, -, h2, -⟩ := readyTo_spec v true
    obtain ⟨_, -, hput⟩ := readyTo_put v true
    exact ⟨_, hrun, h1, h2 (by rw [hr']; decide), hput.mod.trans hm, hput.cfg.trans hcf⟩
  · intro s i start t ht
    obtain ⟨h1, h2, h3, h4, h5, h6, h7, h8, n, hr⟩ := mirrorTake_spec ht
    refine ⟨h1, h2, h3, h4, h5, h6, ?_, ?_, ?_, ?_, h7, h8⟩
    all_goals rw [hr]
  · intro p e s t h
    refine ⟨_, redStatus_run h, length_redStatusBytes t, fun h0 => if_neg (c := byteAt e.req.params 0 = 1) ?_, fun h1 => if_pos h1⟩
    rw [h0]
    decide
  · intro p e s t h h1
    obtain ⟨w, hrun⟩ := redDeepTest_run h h1
    exact ⟨_, hrun, redDeepTest_starts rfl⟩

end Machine
end Sys2Proof

/-! PROOFS. Error injection and self-tests (O57; R484 to R491). -/

namespace Sys2Proof
namespace Machine

variable {s t u : State} {p : Path} {e : Exec}

/-! ## The table of detectors (R485) -/

theorem injRow_code {c : Nat} {x : InjRow} (h : injRow c = some x) : x.code = c := by
  have := List.find?_some h
  simpa using this

theorem injRows_codes : ∀ x ∈ injRows0 ++ injRows1 ++ injRows2, x.code ≠ 0 ∧ x.code ≠ 0x11 ∧ x.code ≤ 0x22 := by decide

theorem injRow_none {c : Nat} (h : c = 0 ∨ c = 0x11 ∨ 0x22 < c) : injRow c = none := by
  refine List.find?_eq_none.2 fun x hx => ?_
  obtain ⟨h0, h1, h2⟩ := injRows_codes x hx
  simp only [beq_iff_eq]
  omega

/-! ## Arming (R484, R485, R487, R495) -/

/-- No other activity stops an accepted command. -/
theorem accepted_busy {c : Cmd} (h : Accepted c p e s t) : c.busy t p e.req = 0 := by
  obtain ⟨_, hk⟩ := h
  unfold State.checks at hk
  split at hk
  · simp at hk
  · extract_lets alone a u at hk
    split at hk
    · simp [stTAMPER] at hk
    · split at hk
      · simp [stAUTH] at hk
      · split at hk
        · simp [stBAD_PARAM] at hk
        · split at hk
          · simp [stSTATE] at hk
          · split at hk
            next hst => exact absurd (congrArg Prod.fst hk) hst
            next =>
              split at hk
              · simp [stBUSY] at hk
              · obtain ⟨h0, rfl⟩ := Prod.mk.injEq .. ▸ hk
                exact h0

/-- What DIAG_INJECT arms for a row. -/
def InjRow.armed (x : InjRow) (t : State) (p : Path) (r : Req) : Injection where
  code := x.code
  obj := x.obj r
  sub := x.sub r
  force := injForce r
  remaining := if x.span = 0 || x.code == 0x12 then 1 else injCount r
  value := if x.code == 0x12 then injCount r else injValue r
  armed := t.stamp 17
  lastApplied := {}
  until_ := if x.span = 2 then some (t.now + 1000000 * injCount r) else none
  path := p

section

variable {x : InjRow}

theorem diagInject_row (h : Accepted cmdDiagInject p e s t) (hc : injCancel e.req = false) :
    ∃ x, injRow (injCode e.req) = some x ∧ x.fits e.req = true := by
  have hp : cmdDiagInject.param t p e.req = true := (accepted_judged h).1
  simp only [cmdDiagInject, hc, Bool.false_eq_true, if_false, Bool.and_eq_true] at hp
  obtain ⟨-, hp⟩ := hp
  cases hx : injRow (injCode e.req) with
  | none => simp [hx] at hp
  | some x => exact ⟨x, rfl, by simpa [hx] using hp⟩

theorem fits_obj {r : Req} (h : x.fits r = true) : x.obj r < x.objects := by
  simp only [InjRow.fits, Bool.and_eq_true, decide_eq_true_eq] at h
  exact h.1.1.1.1

theorem diagInject_arms (h : Accepted cmdDiagInject p e s t) (hc : injCancel e.req = false) (hx : injRow (injCode e.req) = some x) :
    exec (.diagInject p) s = .next (State.complete { t with diag.inj := t.diag.inj ++ [x.armed t p e.req] } p stOK (t.stamp 17).bytes none) := by
  refine congrArg Host.Outcome.next (run_done h ?_)
  simp only [cmdDiagInject, hc, hx, Bool.false_eq_true, if_false]
  rfl

theorem diagInject_state (h : Accepted cmdDiagInject p e s t) (hc : injCancel e.req = false) (hx : injRow (injCode e.req) = some x) :
    (injForce e.req = false → x.force = false ∧ (x.plant = true → t.mod.bridle = false)) ∧ (x.code = 0x1E → t.mod.bridle = false) := by
  have hs : cmdDiagInject.state t p e.req = 0 := (accepted_judged h).2
  simp only [cmdDiagInject, hc, hx, Bool.false_eq_true, if_false, ite_eq_right_iff] at hs
  have hno := mt hs (by decide)
  simp only [Bool.or_eq_true, Bool.and_eq_true, Bool.not_eq_true', InjRow.needsForce, not_or, not_and, beq_iff_eq, Bool.not_eq_true] at hno
  obtain ⟨⟨h1, h2⟩, h3⟩ := hno
  refine ⟨fun hf => ⟨?_, fun hp => ?_⟩, h3⟩
  · by_contra hforce
    simp [hf, Bool.eq_true_of_not_eq_false hforce] at h2
  · by_contra hbr
    simp [hf, hp, Bool.eq_true_of_not_eq_false hbr] at h1

theorem diagInject_alone (h : Accepted cmdDiagInject p e s t) (hc : injCancel e.req = false) (hx : injRow (injCode e.req) = some x) :
    ∀ j, j ∈ t.diag.inj → j.code = x.code → j.obj ≠ x.obj e.req := by
  have hb : cmdDiagInject.busy t p e.req = 0 := accepted_busy h
  simp only [cmdDiagInject, hc, hx, Bool.false_eq_true, if_false, ite_eq_right_iff] at hb
  have hno := mt hb (by decide)
  intro j hj hcode hobj
  refine hno ?_
  rw [Bool.or_eq_true, List.any_eq_true]
  exact .inr ⟨j, hj, by simp [hcode, hobj]⟩

theorem diagInject_spec (h : Accepted cmdDiagInject p e s t) (hc : injCancel e.req = false) :
    ∃ (x : InjRow) (i : Injection), injRow (injCode e.req) = some x ∧
    exec (.diagInject p) s = .next (State.complete { t with diag.inj := t.diag.inj ++ [i] } p stOK (t.stamp 17).bytes none) ∧
    i.code = injCode e.req ∧ i.obj = x.obj e.req ∧ i.obj < x.objects ∧ i.sub = x.sub e.req ∧ i.force = injForce e.req ∧ i.armed = t.stamp 17 ∧
    (x.span = 1 → x.code ≠ 0x12 → i.remaining = injCount e.req) ∧ (x.span = 2 → i.until_ = some (t.now + 1000000 * injCount e.req)) ∧
    (∀ j, j ∈ t.diag.inj → j.code = i.code → j.obj ≠ i.obj) ∧ (injForce e.req = false → x.force = false ∧ (x.plant = true → t.mod.bridle = false)) ∧
    (i.code = 0x1E → t.mod.bridle = false) := by
  obtain ⟨x, hx, hfits⟩ := diagInject_row h hc
  obtain ⟨hf, hb⟩ := diagInject_state h hc hx
  refine ⟨x, x.armed t p e.req, hx, diagInject_arms h hc hx, injRow_code hx, rfl, fits_obj hfits, rfl, rfl, rfl, fun h1 h12 => ?_,
    fun h2 => if_pos h2, diagInject_alone h hc hx, hf, hb⟩
  exact if_neg (by simp [h1, h12])

end

/-- The injections a cancel disarms. -/
def injGone (r : Req) (i : Injection) : Bool :=
  injCode r == 255 || (i.code == injCode r && match injRow (injCode r) with | some x => i.obj == x.obj r | none => false)

theorem diagInject_cancels (h : Accepted cmdDiagInject p e s t) (hc : injCancel e.req = true) : ∃ (l : List Injection),
    exec (.diagInject p) s = .next (State.complete { t with diag.inj := l } p stOK (t.stamp 17).bytes none) ∧
    (injCode e.req = 255 → l = []) ∧ (∀ i, i ∈ l → i ∈ t.diag.inj) ∧
    (∀ i, i ∈ t.diag.inj → injCode e.req ≠ 255 → i.code ≠ injCode e.req → i ∈ l) := by
  refine ⟨t.diag.inj.filter (fun i => !injGone e.req i), congrArg Host.Outcome.next (run_done h (if_pos hc)), fun h255 => ?_,
    fun i hi => (List.mem_filter.1 hi).1, fun i hi h255 hcode => List.mem_filter.2 ⟨hi, ?_⟩⟩
  · exact List.filter_eq_nil_iff.2 fun i _ => by simp [injGone, h255]
  · simp [injGone, h255, hcode]

/-! ## Acting (R484, R486) -/

theorem injection_some {c o b : Nat} {i : Injection} (h : s.injection c o b = some i) : i.code = c ∧ i.obj = o ∧ i.sub = b := by
  have := List.find?_some h
  simpa [and_assoc] using this

theorem inject_some {c o b : Nat} {i : Injection} (h : s.injection c o b = some i) : (s.inject c o b).1 = true ∧
    (s.inject c o b).2.diag = s.diag.putInj { i.used s.now with lastApplied := s.stamp 17 } := by
  unfold State.inject
  rw [h]
  refine ⟨rfl, ?_⟩
  show (State.firnEv ..).diag.putInj _ = _
  rw [firnEv_diag]

section

variable {l : List Injection} {i j : Injection} {c o b : Nat}

theorem find_map_same (hi : i.code = c ∧ i.obj = o ∧ i.sub = b) (hj : l.find? (fun i => i.code == c && i.obj == o && i.sub == b) = some j) :
    (l.map (fun j => if j.code == i.code && j.obj == i.obj && j.sub == i.sub then i else j)).find?
      (fun i => i.code == c && i.obj == o && i.sub == b) = some i := by
  obtain ⟨rfl, rfl, rfl⟩ := hi
  induction l with
  | nil => cases hj
  | cons a l ih =>
    rw [List.map_cons, List.find?_cons]
    cases ha : (a.code == i.code && a.obj == i.obj && a.sub == i.sub) with
    | true => simp
    | false =>
      rw [List.find?_cons, ha] at hj
      simp only [ha, Bool.false_eq_true, if_false]
      exact ih hj

theorem find_map_other {d q r : Nat} (hd : d ≠ i.code) :
    (l.map (fun j => if j.code == i.code && j.obj == i.obj && j.sub == i.sub then i else j)).find?
      (fun i => i.code == d && i.obj == q && i.sub == r) = l.find? (fun i => i.code == d && i.obj == q && i.sub == r) := by
  induction l with
  | nil => rfl
  | cons a l ih =>
    rw [List.map_cons, List.find?_cons, List.find?_cons, ih]
    cases ha : (a.code == i.code && a.obj == i.obj && a.sub == i.sub) with
    | true =>
      have hac : a.code = i.code := by
        simp only [Bool.and_eq_true, beq_iff_eq] at ha
        exact ha.1.1
      have hid : (i.code == d) = false := by simpa using hd.symm
      simp [hac, hid]
    | false => rfl

theorem find_filter_same (hi : i.code = c ∧ i.obj = o ∧ i.sub = b) :
    (l.filter (fun j => !(j.code == i.code && j.obj == i.obj && j.sub == i.sub))).find? (fun i => i.code == c && i.obj == o && i.sub == b) = none := by
  obtain ⟨rfl, rfl, rfl⟩ := hi
  refine List.find?_eq_none.2 fun j hj => ?_
  have hno := (List.mem_filter.1 hj).2
  rw [Bool.not_eq_true'] at hno
  exact ne_true_of_eq_false hno

theorem find_filter_other {d q r : Nat} (hd : d ≠ i.code) :
    (l.filter (fun j => !(j.code == i.code && j.obj == i.obj && j.sub == i.sub))).find? (fun i => i.code == d && i.obj == q && i.sub == r) =
      l.find? (fun i => i.code == d && i.obj == q && i.sub == r) := by
  rw [List.find?_filter]
  refine congrArg (fun f => l.find? f) (funext fun j => ?_)
  by_cases hj : j.code = d
  · have : (j.code == i.code) = false := by simpa [hj] using hd
    simp only [this, Bool.false_and, Bool.not_false, true_and, Bool.decide_eq_true]
  · simp [hj]

end

theorem inject_spec {c o b : Nat} {i : Injection} (h : s.injection c o b = some i) : (s.inject c o b).1 = true ∧
    (s.inject c o b).2.cfg = s.cfg ∧ (s.inject c o b).2.mod = s.mod ∧
    (i.lasting = true ∨ 2 ≤ i.remaining → (s.inject c o b).2.injection c o b = some { i.used s.now with lastApplied := s.stamp 17 }) ∧
    (i.lasting = false → i.remaining ≤ 1 → (s.inject c o b).2.injection c o b = none) ∧
    (∀ d q r, d ≠ c → (s.inject c o b).2.injection d q r = s.injection d q r) := by
  obtain ⟨h1, h2⟩ := inject_some h
  obtain ⟨hc, ho, hb⟩ := injection_some h
  have hkey : ({ i.used s.now with lastApplied := s.stamp 17 } : Injection).code = c ∧ ({ i.used s.now with lastApplied := s.stamp 17 } : Injection).obj = o ∧
      ({ i.used s.now with lastApplied := s.stamp 17 } : Injection).sub = b := ⟨hc, ho, hb⟩
  have hlast : ({ i.used s.now with lastApplied := s.stamp 17 } : Injection).lasting = i.lasting := rfl
  have hrem : i.lasting = false → ({ i.used s.now with lastApplied := s.stamp 17 } : Injection).remaining = i.remaining - 1 := fun hl => if_neg (by simp [hl])
  generalize ({ i.used s.now with lastApplied := s.stamp 17 } : Injection) = k at h2 hkey hlast hrem
  refine ⟨h1, inject_cfg .., inject_mod .., fun hgo => ?_, fun hl hr => ?_, fun d q r hd => ?_⟩
  · have hstays : (decide (k.remaining = 0) && !k.lasting) = false := by
      rw [hlast]
      cases hl : i.lasting with
      | true => simp
      | false =>
        have := hgo.resolve_left (by simp [hl])
        rw [hrem hl]
        simp only [Bool.not_false, Bool.and_true, decide_eq_false_iff_not]
        omega
    unfold State.injection at h ⊢
    rw [h2, DiagBlk.putInj]
    simp only [hstays, Bool.false_eq_true, if_false]
    exact find_map_same hkey h
  · have hgone : (decide (k.remaining = 0) && !k.lasting) = true := by
      rw [hlast, hl, hrem hl]
      simp only [Bool.not_false, Bool.and_true, decide_eq_true_eq]
      omega
    unfold State.injection
    rw [h2, DiagBlk.putInj]
    simp only [hgone, if_true]
    exact find_filter_same hkey
  · have hd' : d ≠ k.code := by rw [hkey.1]; exact hd
    unfold State.injection
    rw [h2, DiagBlk.putInj]
    cases (decide (k.remaining = 0) && !k.lasting) with
    | true => exact find_filter_other hd'
    | false => exact find_map_other hd'

theorem length_injectionBytes (i : Injection) (now : Nat) : (i.bytes now).length = 16 := by
  simp [Injection.bytes, FirnEv.length_stamp_bytes]

/-! ## Their own rows (R484 to R486) -/

theorem injection_absent {n : Nat} (h : s.diag.inj[n]? = none) : exec (.injectionApplied n) s = .next s ∧ exec (.injectionExpiry n) s = .next s := by
  have ha : execInjectionApplied n s = .next s := by
    unfold execInjectionApplied
    rw [h]
  have he : execInjectionExpiry n s = .next s := by
    unfold execInjectionExpiry
    rw [h]
  exact ⟨ha, he⟩

/-- What an injection does where no other row is its injection point. -/
def State.injectionActs (s : State) (i : Injection) : State :=
  let t := (s.inject i.code i.obj i.sub).2
  if i.code = 0x03 then t.linkDown i.obj 1
  else if i.code = 0x04 then t.sfpTxFault i.obj
  else if i.code = 0x12 then if i.value = 2 then t.draw.2.sramUe i.sub t.draw.1 else t.draw.2.sramCe i.sub t.draw.1
  else if i.code = 0x18 then t.fv24Fall
  else if i.code = 0x1A then t.healthFail
  else if injLasting.contains i.code then t
  else s

theorem injectionApplied_run {n : Nat} {i : Injection} (h : s.diag.inj[n]? = some i) :
    exec (.injectionApplied n) s = .next (s.injectionActs i) := by
  change execInjectionApplied n s = _
  unfold execInjectionApplied
  rw [h]
  rfl

theorem injectionApplied_spec {n : Nat} {i : Injection} (h : s.diag.inj[n]? = some i) (ht : t = (s.inject i.code i.obj i.sub).2) :
    (i.code ∈ injLasting → exec (.injectionApplied n) s = .next t) ∧
    (i.code = 0x03 → exec (.injectionApplied n) s = .next (t.linkDown i.obj 1)) ∧ (i.code = 0x04 → exec (.injectionApplied n) s = .next (t.sfpTxFault i.obj)) ∧
    (i.code = 0x12 → exec (.injectionApplied n) s = .next (if i.value = 2 then t.draw.2.sramUe i.sub t.draw.1 else t.draw.2.sramCe i.sub t.draw.1)) ∧
    (i.code = 0x18 → exec (.injectionApplied n) s = .next t.fv24Fall) ∧ (i.code = 0x1A → exec (.injectionApplied n) s = .next t.healthFail) ∧
    (i.code ∉ injLasting → i.code ∉ [0x03, 0x04, 0x12, 0x18, 0x1A] → exec (.injectionApplied n) s = .next s) := by
  have hlasting : ∀ c ∈ injLasting, c ≠ 0x03 ∧ c ≠ 0x04 ∧ c ≠ 0x12 ∧ c ≠ 0x18 ∧ c ≠ 0x1A := by decide
  rw [injectionApplied_run h]
  unfold State.injectionActs
  rw [← ht]
  refine ⟨fun hl => ?_, fun hc => ?_, fun hc => ?_, fun hc => ?_, fun hc => ?_, fun hc => ?_, fun hl hc => ?_⟩
  · obtain ⟨h3, h4, h12, h18, h1a⟩ := hlasting _ hl
    simp only [h3, h4, h12, h18, h1a, if_false, List.contains_iff_mem.2 hl, if_true]
  · simp only [hc, if_true]
  · simp [hc]
  · simp [hc]
  · simp [hc]
  · simp [hc]
  · simp only [List.mem_cons, List.not_mem_nil, or_false, not_or] at hc
    obtain ⟨h3, h4, h12, h18, h1a⟩ := hc
    have hno : injLasting.contains i.code = false := by simpa using hl
    simp only [h3, h4, h12, h18, h1a, if_false, hno, Bool.false_eq_true]

theorem injectionExpiry_spec {n : Nat} {i : Injection} (h : s.diag.inj[n]? = some i) :
    (i.until_ = none → exec (.injectionExpiry n) s = .next s) ∧
    ∀ w, i.until_ = some w → exec (.injectionExpiry n) s = .next { s.clockTo w with diag.inj := s.diag.inj.eraseIdx n } := by
  refine ⟨fun hn => ?_, fun w hw => ?_⟩
  · change execInjectionExpiry n s = _
    unfold execInjectionExpiry
    simp only [h, hn]
  · change execInjectionExpiry n s = _
    unfold execInjectionExpiry
    simp only [h, hw]

/-! ## Self-tests and activities (R488 to R491) -/

theorem diagBist_begins : Begins .diagBist cmdDiagBist (fun p e t => State.setProg (if byteAt e.req.params 0 = 4 then
      t.begin 2 (some p) (le64 e.req.params 8) (le64 e.req.params 8 + le64 e.req.params 16) else t.begin 13 (some p) (byteAt e.req.params 0) (byteAt e.req.params 0))
    p [t.now + bistTime (byteAt e.req.params 0) (le64 e.req.params 16)]) := by
  intro p e s t h
  refine congrArg Host.Outcome.next (run_wait h ?_)
  have hnow : ∀ c : Prop, ∀ [Decidable c] (a b : State), a.now = t.now → b.now = t.now → (if c then a else b).now = t.now := by
    intro c _ a b ha hb
    split
    · exact ha
    · exact hb
  show CmdResult.wait (State.setProg _ p [State.now _ + _]) = _
  rw [hnow]
  · rfl
  · rfl

theorem entropyFail_set (s : State) : s.entropyFail.sec.entropyFail = true := (Recorded.settled ..).entropyFail

/-- What a test of index `k` ends with, its two values drawn. -/
def State.bistRecorded (s : State) (k lo hi : Nat) (deep : Bool) : State :=
  let b := s.draw.2.draw
  let s' := if k = 4 then b.2.marchZero lo hi deep else b.2
  s'.firnEv 0x1108 ([BitVec.ofNat 8 k, BitVec.ofNat 8 (b2n (s.draw.1 % 2 == 1)), 0, 0] ++ leBytes 4 (b.1 % 4294967296))

theorem bistEnd_eq (s : State) (k lo hi : Nat) (deep : Bool) : s.bistEnd k lo hi deep =
    ((s.draw.1 % 2 == 1, s.draw.2.draw.1 % 4294967296),
      if (s.draw.1 % 2 == 1) && k = 1 && !(s.bistRecorded k lo hi deep).sec.entropyFail then (s.bistRecorded k lo hi deep).entropyFail
      else if (s.draw.1 % 2 == 1) && k = 5 then (s.bistRecorded k lo hi deep).halterCause 3 else s.bistRecorded k lo hi deep) := rfl

theorem bistRecorded_keeps {k : Nat} (hk : k ≠ 4) (lo hi : Nat) (deep : Bool) : (s.bistRecorded k lo hi deep).mem = s.mem ∧
    (s.bistRecorded k lo hi deep).safe = s.safe ∧ (s.bistRecorded k lo hi deep).sec = s.sec := by
  unfold State.bistRecorded
  simp only [hk, if_false, firnEv_mem, firnEv_safe, firnEv_sec]
  exact ⟨rfl, rfl, rfl⟩

theorem bistEnd_spec {k lo hi : Nat} {d : Bool} {r : (Bool × Nat) × State} (hr : r = s.bistEnd k lo hi d) :
    (k = 2 ∨ k = 3 → r.2.mem = s.mem ∧ r.2.safe = s.safe ∧ r.2.sec = s.sec) ∧
    (k = 1 → r.1.1 = true → r.2.sec.entropyFail = true) ∧ (k = 1 → r.1.1 = false → r.2.sec = s.sec ∧ r.2.mem = s.mem) ∧
    (k = 5 → r.1.1 = true → r.2.halter = true ∧ r.2.safe.causes.getLsbD 3 = true) ∧ (k = 5 → r.1.1 = false → r.2.safe = s.safe) ∧
    r.1.2 < 4294967296 := by
  rw [bistEnd_eq] at hr
  have hkeep : k ≠ 4 → (s.bistRecorded k lo hi d).mem = s.mem ∧ (s.bistRecorded k lo hi d).safe = s.safe ∧
    (s.bistRecorded k lo hi d).sec = s.sec := fun hk => bistRecorded_keeps hk lo hi d
  have hlt : s.draw.2.draw.1 % 4294967296 < 4294967296 := Nat.mod_lt _ (by decide)
  generalize s.bistRecorded k lo hi d = w at hr hkeep
  generalize (s.draw.1 % 2 == 1) = fail at hr
  generalize s.draw.2.draw.1 % 4294967296 = detail at hr hlt
  subst hr
  refine ⟨fun hk => ?_, fun hk hf => ?_, fun hk hf => ?_, fun hk hf => ?_, fun hk hf => ?_, hlt⟩
  · have h1 : k ≠ 1 := by omega
    have h5 : k ≠ 5 := by omega
    simpa [h1, h5] using hkeep (by omega)
  · have hf : fail = true := hf
    subst hf hk
    cases hw : w.sec.entropyFail with
    | true => simp [hw]
    | false => simp [entropyFail_set]
  · have hf : fail = false := hf
    subst hf
    obtain ⟨hm, -, hs⟩ := hkeep (by omega)
    exact ⟨hs, hm⟩
  · have hf : fail = true := hf
    subst hf hk
    exact ⟨halter_halterCause w (by decide), halterCause_bit w (by decide)⟩
  · have hf : fail = false := hf
    subst hf
    exact (hkeep (by omega)).2.1

theorem bistSweep_early (h : s.waiting 0x1112 = some (p, e)) (h' : s.waiting 0x0F07 = none) (hn : s.now < e.prog.getD 0 0) : s.bistSweep = s := by
  unfold State.bistSweep
  simp only [h, hn, if_true, h']

theorem activities_none (h : s.diag.inj = []) : s.activities = s.diag.acts := by
  simp [State.activities, h]

theorem activities_injecting {i : Injection} {l : List Injection} (h : s.diag.inj = i :: l) :
    s.activities = s.diag.acts ++ [{ code := 10, path := some i.path, start := i.armed }] := by
  simp [State.activities, h]

end Machine
end Sys2Proof

/-! PROOFS. Firmware images (R492 to R495) and the settling of O57. -/

namespace Sys2Proof
namespace Machine

variable {s t u : State} {p : Path} {e : Exec} {n len : Nat}

/-! ## Image slots (R433) -/

theorem image_setImage_same (s : State) (n : Nat) (i : Image) : (s.setImage n i).image n = i := by
  unfold State.image State.setImage
  split <;> rfl

theorem image_setImage_other (s : State) (h : n < 2) (i : Image) : (s.setImage n i).image (1 - n) = s.image (1 - n) := by
  have hn : n = 0 ∨ n = 1 := by omega
  rcases hn with rfl | rfl
  · rfl
  · rfl

theorem setImage_keeps (s : State) (n : Nat) (i : Image) : (s.setImage n i).flash.preferred = s.flash.preferred ∧
    (s.setImage n i).flash.trial = s.flash.trial ∧ (s.setImage n i).cfg = s.cfg := by
  unfold State.setImage
  split <;> exact ⟨rfl, rfl, rfl⟩

theorem image_of_flash (h : u.flash = s.flash) (n : Nat) : u.image n = s.image n := by
  unfold State.image
  rw [h]

theorem fwRecord_keeps (s : State) (what slot svn : Nat) : (s.fwRecord what slot svn).flash = s.flash ∧
    (s.fwRecord what slot svn).diag = s.diag ∧ (s.fwRecord what slot svn).cfg = s.cfg :=
  ⟨firnEv_flash .., firnEv_diag .., firnEv_cfg ..⟩

theorem fwRecord_active (s : State) (what slot svn c : Nat) : (s.fwRecord what slot svn).active c = s.active c := by
  unfold State.active
  rw [(fwRecord_keeps ..).2.1]

theorem checkSlot_some {i : Image} (h : t.checkSlot n len = some i) : i.valid = true ∧ i.svn ≤ 64 ∧ t.flash.rollback ≤ i.svn := by
  unfold State.checkSlot at h
  extract_lets im at h
  split at h
  · split at h
    next hok =>
      simp only [Bool.and_eq_true, decide_eq_true_eq] at hok
      obtain ⟨⟨⟨hsvn, -⟩, hroll⟩, -⟩ := hok
      cases h
      exact ⟨rfl, hsvn, hroll⟩
    next => cases h
  · cases h

/-! ## FW_INSTALL (R492) -/

/-- The slot being written, emptied, and the installation noted. -/
def State.installBegun (t : State) (p : Path) (n len : Nat) : State :=
  (State.begin { t.setImage n { content := (t.image n).content.del 0 } with diag.install := some (n, len) } 8 (some p)).fwRecord 1 n 0

theorem fwInstall_begin (h : Accepted cmdFwInstall p e s t) (h0 : byteAt e.req.params 0 = 0) :
    exec (.fwInstall p) s = .next (State.complete (t.installBegun p (t.installSlot e.req) (le32 e.req.params 4)) p stOK [] none) := by
  refine congrArg Host.Outcome.next (run_done h ?_)
  simp only [cmdFwInstall, h0]
  rfl

theorem installBegun_spec (hu : u = t.installBegun p n len) : (u.image n).valid = false ∧ (u.image n).content = (t.image n).content.del 0 ∧
    (n < 2 → u.image (1 - n) = t.image (1 - n)) ∧ u.flash.preferred = t.flash.preferred ∧
    u.flash.trial = t.flash.trial ∧ u.diag.install = some (n, len) ∧ u.active 8 = true ∧ u.cfg = t.cfg := by
  obtain ⟨hflash, hdiag, hcfg⟩ := fwRecord_keeps (State.begin { t.setImage n { content := (t.image n).content.del 0 } with
    diag.install := some (n, len) } 8 (some p)) 1 n 0
  have hact := fwRecord_active (State.begin { t.setImage n { content := (t.image n).content.del 0 } with
    diag.install := some (n, len) } 8 (some p)) 1 n 0 8
  obtain ⟨k1, k2, k3⟩ := setImage_keeps t n { content := (t.image n).content.del 0 }
  have himage (m : Nat) : u.image m = (t.setImage n { content := (t.image n).content.del 0 }).image m := by
    rw [hu]
    exact (image_of_flash hflash m).trans (image_of_flash rfl m)
  rw [himage, himage, image_setImage_same]
  refine ⟨rfl, rfl, fun hn => image_setImage_other t hn _, ?_, ?_, ?_, ?_, ?_⟩
  · rw [hu]
    exact (congrArg FlashBlk.preferred hflash).trans k1
  · rw [hu]
    exact (congrArg FlashBlk.trial hflash).trans k2
  · rw [hu]
    exact congrArg DiagBlk.install hdiag
  · rw [hu]
    exact hact.trans (begin_active ..)
  · rw [hu]
    exact hcfg.trans k3

theorem fwInstall_data (h : Accepted cmdFwInstall p e s t) (h1 : byteAt e.req.params 0 = 1) (hi : t.diag.install = some (n, len)) :
    exec (.fwInstall p) s = .next (State.complete
      (t.setImage n { t.image n with content := writeChunk (t.image n).content (le32 e.req.params 4) e.req.region }) p stOK [] none) := by
  refine congrArg Host.Outcome.next (run_done h ?_)
  simp only [cmdFwInstall, h1, hi]

/-- An installation is over. -/
def State.installOver (t : State) (what n svn : Nat) : State := (State.finish { t with diag.install := none } 8).fwRecord what n svn

theorem installOver_spec (what svn : Nat) (hu : u = t.installOver what n svn) : u.diag.install = none ∧ u.active 8 = false ∧ u.flash = t.flash := by
  obtain ⟨hflash, hdiag, -⟩ := fwRecord_keeps (State.finish { t with diag.install := none } 8) what n svn
  subst hu
  exact ⟨congrArg DiagBlk.install hdiag, (fwRecord_active ..).trans (finish_active _ (by decide)), hflash⟩

theorem fwInstall_end (h : Accepted cmdFwInstall p e s t) (h2 : byteAt e.req.params 0 = 2) (hi : t.diag.install = some (n, len)) :
    (t.checkSlot n len = none → exec (.fwInstall p) s = .next (State.complete t p stBAD_PARAM [] none)) ∧
    ∀ i, t.checkSlot n len = some i → exec (.fwInstall p) s = .next (State.complete ((t.setImage n i).installOver 2 n i.svn) p stOK
      (leBytes 1 i.svn ++ leBytes 1 i.keyIdx ++ [0, 0] ++ leBytes 4 i.build) none) := by
  refine ⟨fun hc => congrArg Host.Outcome.next (run_done h ?_), fun i hc => congrArg Host.Outcome.next (run_done h ?_)⟩
  · simp only [cmdFwInstall, h2, hi, hc]
  · simp only [cmdFwInstall, h2, hi, hc]
    rfl

theorem fwInstall_abort (h : Accepted cmdFwInstall p e s t) (h3 : byteAt e.req.params 0 = 3) (hi : t.diag.install = some (n, len)) :
    exec (.fwInstall p) s = .next (State.complete (t.installOver 3 n 0) p stOK [] none) := by
  refine congrArg Host.Outcome.next (run_done h ?_)
  simp only [cmdFwInstall, h3, hi]
  rfl

/-! ## FW_SELECT (R493) -/

theorem activateSlot_valid (h : t.activateSlot = some n) : (t.image n).valid = true := by
  unfold State.activateSlot at h
  extract_lets base at h
  split at h
  next hv =>
    rw [← Option.some.inj h]
    exact hv
  next =>
    split at h
    next hv =>
      rw [← Option.some.inj h]
      exact hv.2
    next => cases h

theorem fwSelect_activate (h : Accepted cmdFwSelect p e s t) (h0 : byteAt e.req.params 0 = 0) :
    ∃ n, t.activateSlot = some n ∧ exec (.fwSelect p) s = .next (State.complete
      (State.fwRecord { t with flash.preferred := n, flash.trial := true } 4 n (t.image n).svn) p stOK (leBytes 1 n ++ [1]) none) := by
  have hst : cmdFwSelect.state t p e.req = 0 := (accepted_judged h).2
  simp only [cmdFwSelect, ite_eq_right_iff] at hst
  have hno := mt hst (by decide)
  cases hn : t.activateSlot with
  | none => exact absurd (.inl ⟨h0, by simp [hn]⟩) hno
  | some n =>
    refine ⟨n, rfl, congrArg Host.Outcome.next (run_done h ?_)⟩
    simp only [cmdFwSelect, h0, hn, if_true]
    rfl

theorem fwSelect_confirm (h : Accepted cmdFwSelect p e s t) (h1 : byteAt e.req.params 0 = 1) :
    exec (.fwSelect p) s = .next (State.complete (State.fwRecord { t with flash.trial := false } 5 t.flash.preferred
      (t.image t.flash.preferred).svn) p stOK (leBytes 1 t.flash.preferred ++ [0]) none) := by
  refine congrArg Host.Outcome.next (run_done h ?_)
  simp only [cmdFwSelect, h1]
  rfl

/-! ## The settling -/

/-- Settles O57: each command by what its body does once accepted, an injection by what it leaves of the list, a test by its index. -/
theorem diagnosticsAndFirmware : Obligations.DiagnosticsAndFirmware := by
  unfold Obligations.DiagnosticsAndFirmware
  refine ⟨fun c => injRow_none, fun c x => injRow_code, fun p e s t => diagInject_spec, fun p e s t => diagInject_cancels,
    fun s c o b => inject_of_none, fun s c o b i => inject_spec, answers_of_body (fun _ _ => rfl) (fun _ _ _ => rfl), length_injectionBytes,
    diagBist_begins, fun s k lo hi d r => bistEnd_spec, fun s p e => bistSweep_early, answers_of_body (fun _ _ => rfl) (fun _ _ _ => rfl),
    fun s => activities_none, fun s i l => activities_injecting, fun s n => injection_absent, fun s n i t => injectionApplied_spec,
    fun s n i => injectionExpiry_spec, ?_, fun p e s t n len => fwInstall_data, ?_, ?_, ?_, ?_,
    answers_of_body (fun _ _ => rfl) (fun _ _ _ => rfl)⟩
  · intro p e s t n h h0 hn
    subst hn
    exact ⟨_, fwInstall_begin h h0, installBegun_spec rfl⟩
  · intro p e s t n len h h2 hi
    obtain ⟨hbad, hok⟩ := fwInstall_end h h2 hi
    refine ⟨hbad, fun i hc => ?_⟩
    obtain ⟨hinst, hact, hflash⟩ := installOver_spec (t := t.setImage n i) (n := n) 2 i.svn rfl
    obtain ⟨hv, hsvn, hroll⟩ := checkSlot_some hc
    exact ⟨_, hok i hc, (image_of_flash hflash n).trans (image_setImage_same ..), hv, hsvn, hroll, hinst, hact,
      (congrArg FlashBlk.preferred hflash).trans (setImage_keeps t n i).1⟩
  · intro p e s t x h h3 hi
    exact ⟨_, fwInstall_abort h h3 hi, installOver_spec 3 0 rfl⟩
  · intro p e s t h h0
    obtain ⟨n, hn, hrun⟩ := fwSelect_activate h h0
    obtain ⟨hflash, -, hcfg⟩ := fwRecord_keeps { t with flash.preferred := n, flash.trial := true } 4 n (t.image n).svn
    exact ⟨_, n, hn, activateSlot_valid hn, hrun, hflash, hcfg⟩
  · intro p e s t h h1
    obtain ⟨hflash, -, hcfg⟩ := fwRecord_keeps { t with flash.trial := false } 5 t.flash.preferred (t.image t.flash.preferred).svn
    exact ⟨_, fwSelect_confirm h h1, hflash, hcfg⟩

end Machine
end Sys2Proof
